-- ==== Sys2Proof/Word.lean ====
section
/-!
DEFINITION. Words of the TZ9216: 32 data bits with a 3-bit residue (R4), bytes and flow IDs (their arithmetic is in Machine/Bits.lean),
and the operand types of the commands (Syntax.lean): coordinates (R5), injected upsets, packets (R381), flits (R410), frames (R564).
-/
namespace Sys2Proof

/-- A word's 32 data bits (R4). -/
abbrev Word := BitVec 32

/-- A byte of a memory. -/
abbrev Byte := BitVec 8

/-- A word with its residue: data in bits 31–0, residue in bits 34–32 (R4). -/
abbrev TWord := BitVec 35

/-- A 24-bit flow ID (R2). -/
abbrev Flow := BitVec 24

/-- A tile T0–T3 (R5). -/
abbrev TileId := Fin 4

/-- A logical grove t.x.y (R5). -/
structure GroveId where
  t : Fin 4
  x : Fin 12
  y : Fin 12
  deriving DecidableEq, Repr

/-- What the checks of a memory find on an access: nothing, a correctable error of the row or block read, an uncorrectable one (R286, R310), with
the syndrome of the codeword, or for GDDR7 the corrected byte; or an upset of the sum of a fetch-add (R282), as a mask. -/
inductive Ecc where
  | ok
  | ce (syn : BitVec 8)
  | ue (syn : BitVec 8)
  | adder (mask : BitVec 32)
  | bytes (errs : List (Fin 68 × BitVec 8))
  deriving DecidableEq, Repr

/-- An access to a memory: read, write, fetch-add, swap (R281). -/
inductive MemOp where
  | read | write | fadd | swap
  deriving DecidableEq, Repr

/-- A packet as Puhan-X carries it: header, payload, poison mask and CRC, with the port on which it arrives or leaves (R381–R385). -/
structure Packet where
  port : Nat
  hdr : BitVec 128
  payload : List Word := []
  mask : List Word := []
  crc : Word := 0#32
  deriving DecidableEq, Repr

/-- A 256-byte flit (R410–R412): the stream's 4-byte units, the residue sideband of Puhan-D, and the control field with bit 0 at byte 245. -/
structure Flit where
  stream : List Word
  side : BitVec 168 := 0#168
  ctl : BitVec 88
  deriving DecidableEq, Repr

/-- A lookout frame as the debugger sends it (R564): the size bit, the 48-bit operand, the data of a write; `hok` and `dok` say that the
parities hold, and `fast` that the result of a read arrives before ack (R566). -/
structure DbgFrame where
  wide : Bool := false
  operand : BitVec 48 := 0#48
  data : BitVec 64 := 0#64
  hok : Bool := true
  dok : Bool := true
  fast : Bool := false
  deriving DecidableEq, Repr

/-- A physical upset met by one cell operation, as masks XORed onto the values the cell and its checker see; all zero is none.
`opA`, `opB`, `opC`: operand words as received; `res`: the result data; `diff`: the difference of a Res+Dup operation; `acc`: the
accumulator as read; `addr`: the address sum; `fieldMask`: the cell field; `par`: the stored flag parity; `rail`: the valid rails of an
input disagree (R80); `carry`: the cy or zr rails disagree (R67); `dup`: the difference of the duplicate unit's result, whose decision
disagrees when it is not zero (R59); `ecc`: what the scratchpad code finds on the row read; `slotEcc`: what the slot store's code finds on
the words of the cell's field (R154). -/
structure CellUpset where
  opA : BitVec 35 := 0#35
  opB : BitVec 35 := 0#35
  opC : BitVec 35 := 0#35
  res : BitVec 32 := 0#32
  diff : BitVec 32 := 0#32
  acc : BitVec 64 := 0#64
  addr : BitVec 32 := 0#32
  fieldMask : BitVec 128 := 0#128
  par : BitVec 4 := 0#4
  rail : Bool := false
  carry : Bool := false
  dup : BitVec 32 := 0#32
  ecc : Ecc := .ok
  slotEcc : Ecc := .ok
  deriving DecidableEq, Repr

/-- A physical upset met by the issue of one sequencer instruction: on the instruction word, what the slot store's code
finds on it (`slotEcc`, R119, R154), on the
register values read, on the ALU result, and the valid rails or residue of a pushed word. -/
structure SeqUpset where
  instrMask : BitVec 32 := 0#32
  slotEcc : Ecc := .ok
  opA : BitVec 35 := 0#35
  opB : BitVec 35 := 0#35
  res : BitVec 32 := 0#32
  dup : Bool := false
  ecc : Ecc := .ok
  deriving DecidableEq, Repr

/-- A configuration request of the host that changes state of the PCI functions (R501–R505): a base address register (0–2 of function 0,
3 of the first VF), NumVFs, the MSI-X enable and mask of a function, the masks of its vectors, or a request that reads or changes nothing. -/
inductive CfgReq where
  | bar (i a : Nat)
  | numVf (n : Nat)
  | msix (fn : Nat) (en mask : Bool)
  | entryMask (v : Nat)
  | other (x : Nat)
  deriving DecidableEq, Repr

/-- How a ring read of host memory completes (R514): with data, with status UR or CA, or with a poisoned TLP. -/
inductive RingRead where
  | ok | ur | ca | poisoned
  deriving DecidableEq, Repr

/-- Who makes an access to the address map (R37): the management core, the debug unit, a grove, a virtual link of a Puhan-X port (FAB_VL
index), or the host through a mailbox channel. -/
inductive Master where
  | core
  | debug
  | grove (t g : Nat)
  | link (n : Nat)
  | host (k : Nat)
  deriving DecidableEq, Repr

/-- What run control acts on (R569, R573, R584): a grove, every grove of a tile, the management core. -/
inductive HaltTarget where
  | grove (t g : Nat)
  | tile (t : Nat)
  | core
  deriving DecidableEq, Repr

/-- An outstanding request that a timer ends (R398): a grove's MRD, an entry of the remote-request table, the debug unit's read. -/
inductive ReqRef where
  | mrd (t g tag : Nat)
  | remote (ep tag : Nat)
  | debug
  deriving DecidableEq, Repr

/-- Who accesses a tile-memory block (R280), with the codes of R301. -/
inductive TmbReq where
  | queue | context | network
  deriving DecidableEq, Repr

/-- One access that waits at a tile-memory block: its requester, the offset, operation, width and words, and the outcome of the row's code (R280). -/
structure TmbAcc where
  who : TmbReq
  off : BitVec 26
  op : MemOp
  wide : Bool
  lo : TWord
  hi : TWord
  ecc : Ecc
  deriving DecidableEq, Repr

/-- What an access meets at its tile-memory block: the outcome of its row's code, and the accesses of other requesters that wait there (R280, R286). -/
structure TmbFound where
  ecc : Ecc
  others : List TmbAcc
  deriving DecidableEq, Repr

/-- What a port-B access moves: 4 bytes or 8, and its byte enables (R276). -/
structure BeatShape where
  wide : Bool
  be : BitVec 8
  deriving DecidableEq, Repr

/-- An acquisition that ends: its grove, and the accumulator whose frame has the given outcome (R166, R286). -/
structure AcqEnd where
  g : GroveId
  i : Fin 32
  ecc : Ecc
  deriving DecidableEq, Repr

/-- What a fetch for a read port finds: the outcome of its row, and a word of the fetch that fails its parity (R242, R255). -/
structure FetchFound where
  ecc : Ecc
  hit : Option (Fin 16)
  deriving DecidableEq, Repr

/-- What a refill finds: the row of its block with the given outcome (R246, R286). -/
structure RefillFound where
  row : Fin 8
  ecc : Ecc
  deriving DecidableEq, Repr

/-- What a refresh acts on: a channel, its bank, and whether the device reports that it is hot (R302). -/
structure RefreshUnit where
  i : Fin 8
  bank : Fin 16
  hot : Bool
  deriving DecidableEq, Repr

/-- A bank of a scratchpad, a block of a tile memory. -/
inductive MemUnit where
  | bank (t g b : Nat)
  | block (t b : Nat)
  deriving DecidableEq, Repr

/-- One end of a link as the commands name it (R410): a port, or a direction pair of a module, direction 0 from the lower die. -/
inductive LinkRef where
  | port (p : Fin 8)
  | d2d (m : Fin 12) (dir : Fin 2)
  deriving DecidableEq, Repr

end Sys2Proof
end

