-- ==== Sys2Proof/Syntax.lean ====
section
/-!
DEFINITION. The commands of the TZ9216: one constructor for each row of spec/opcode_table.json, in the table's order, with the operands that the
row's rules name. A physical happening carries what the silicon finds (an upset, an outcome of a code, a test result) as an operand.
-/
namespace Sys2Proof

/-- The commands, by the rows of the table. -/
inductive Instr where
  /-- CELL_NOP (R51). -/
  | cellNop (g : GroveId) (n : Fin 16) (u : CellUpset)
  /-- CELL_ADD (R51). -/
  | cellAdd (g : GroveId) (n : Fin 16) (u : CellUpset)
  /-- CELL_SUB (R51). -/
  | cellSub (g : GroveId) (n : Fin 16) (u : CellUpset)
  /-- CELL_NEG (R51). -/
  | cellNeg (g : GroveId) (n : Fin 16) (u : CellUpset)
  /-- CELL_ABS (R53). -/
  | cellAbs (g : GroveId) (n : Fin 16) (u : CellUpset)
  /-- CELL_ABSD (R51). -/
  | cellAbsd (g : GroveId) (n : Fin 16) (u : CellUpset)
  /-- CELL_MIN (R51). -/
  | cellMin (g : GroveId) (n : Fin 16) (u : CellUpset)
  /-- CELL_MAX (R51). -/
  | cellMax (g : GroveId) (n : Fin 16) (u : CellUpset)
  /-- CELL_CMPEQ (R51). -/
  | cellCmpeq (g : GroveId) (n : Fin 16) (u : CellUpset)
  /-- CELL_CMPLT (R51). -/
  | cellCmplt (g : GroveId) (n : Fin 16) (u : CellUpset)
  /-- CELL_CMPLE (R51). -/
  | cellCmple (g : GroveId) (n : Fin 16) (u : CellUpset)
  /-- CELL_MOV (R51). -/
  | cellMov (g : GroveId) (n : Fin 16) (u : CellUpset)
  /-- CELL_MUL (R51). -/
  | cellMul (g : GroveId) (n : Fin 16) (u : CellUpset)
  /-- CELL_MULH (R51). -/
  | cellMulh (g : GroveId) (n : Fin 16) (u : CellUpset)
  /-- CELL_MADD (R53). -/
  | cellMadd (g : GroveId) (n : Fin 16) (u : CellUpset)
  /-- CELL_MAC (R51). -/
  | cellMac (g : GroveId) (n : Fin 16) (u : CellUpset)
  /-- CELL_MSU (R51). -/
  | cellMsu (g : GroveId) (n : Fin 16) (u : CellUpset)
  /-- CELL_ACCADD (R51). -/
  | cellAccadd (g : GroveId) (n : Fin 16) (u : CellUpset)
  /-- CELL_ACCLD (R51). -/
  | cellAccld (g : GroveId) (n : Fin 16) (u : CellUpset)
  /-- CELL_ACCCLR (R51). -/
  | cellAccclr (g : GroveId) (n : Fin 16) (u : CellUpset)
  /-- CELL_ACCRS (R55). -/
  | cellAccrs (g : GroveId) (n : Fin 16) (u : CellUpset)
  /-- CELL_AND (R51). -/
  | cellAnd (g : GroveId) (n : Fin 16) (u : CellUpset)
  /-- CELL_OR (R51). -/
  | cellOr (g : GroveId) (n : Fin 16) (u : CellUpset)
  /-- CELL_XOR (R51). -/
  | cellXor (g : GroveId) (n : Fin 16) (u : CellUpset)
  /-- CELL_ANDN (R51). -/
  | cellAndn (g : GroveId) (n : Fin 16) (u : CellUpset)
  /-- CELL_NOT (R51). -/
  | cellNot (g : GroveId) (n : Fin 16) (u : CellUpset)
  /-- CELL_SEL (R51). -/
  | cellSel (g : GroveId) (n : Fin 16) (u : CellUpset)
  /-- CELL_SHL (R54). -/
  | cellShl (g : GroveId) (n : Fin 16) (u : CellUpset)
  /-- CELL_SHR (R54). -/
  | cellShr (g : GroveId) (n : Fin 16) (u : CellUpset)
  /-- CELL_SRA (R54). -/
  | cellSra (g : GroveId) (n : Fin 16) (u : CellUpset)
  /-- CELL_ROL (R54). -/
  | cellRol (g : GroveId) (n : Fin 16) (u : CellUpset)
  /-- CELL_SHUF (R54). -/
  | cellShuf (g : GroveId) (n : Fin 16) (u : CellUpset)
  /-- CELL_CLZ (R51). -/
  | cellClz (g : GroveId) (n : Fin 16) (u : CellUpset)
  /-- CELL_POPC (R51). -/
  | cellPopc (g : GroveId) (n : Fin 16) (u : CellUpset)
  /-- CELL_BREV (R51). -/
  | cellBrev (g : GroveId) (n : Fin 16) (u : CellUpset)
  /-- CELL_LD (R275). -/
  | cellLd (g : GroveId) (n : Fin 16) (u : CellUpset)
  /-- CELL_ST (R275). -/
  | cellSt (g : GroveId) (n : Fin 16) (u : CellUpset)
  /-- CELL_FADD (R281). -/
  | cellFadd (g : GroveId) (n : Fin 16) (u : CellUpset)
  /-- CELL_SWAP (R281). -/
  | cellSwap (g : GroveId) (n : Fin 16) (u : CellUpset)
  /-- CELL_GETF (R51). -/
  | cellGetf (g : GroveId) (n : Fin 16) (u : CellUpset)
  /-- CELL_PUTF (R56). -/
  | cellPutf (g : GroveId) (n : Fin 16) (u : CellUpset)
  /-- ACC_ACQUISITION_END (R166). -/
  | accAcquisitionEnd (g : AcqEnd)
  /-- SEQ_NOP (R121). -/
  | seqNop (g : GroveId) (u : SeqUpset)
  /-- SEQ_ADD (R121). -/
  | seqAdd (g : GroveId) (u : SeqUpset)
  /-- SEQ_SUB (R121). -/
  | seqSub (g : GroveId) (u : SeqUpset)
  /-- SEQ_AND (R121). -/
  | seqAnd (g : GroveId) (u : SeqUpset)
  /-- SEQ_OR (R121). -/
  | seqOr (g : GroveId) (u : SeqUpset)
  /-- SEQ_XOR (R121). -/
  | seqXor (g : GroveId) (u : SeqUpset)
  /-- SEQ_SLT (R121). -/
  | seqSlt (g : GroveId) (u : SeqUpset)
  /-- SEQ_SLTU (R121). -/
  | seqSltu (g : GroveId) (u : SeqUpset)
  /-- SEQ_ADDI (R121). -/
  | seqAddi (g : GroveId) (u : SeqUpset)
  /-- SEQ_ANDI (R121). -/
  | seqAndi (g : GroveId) (u : SeqUpset)
  /-- SEQ_ORI (R121). -/
  | seqOri (g : GroveId) (u : SeqUpset)
  /-- SEQ_SHLI (R121). -/
  | seqShli (g : GroveId) (u : SeqUpset)
  /-- SEQ_SHRI (R121). -/
  | seqShri (g : GroveId) (u : SeqUpset)
  /-- SEQ_SRAI (R121). -/
  | seqSrai (g : GroveId) (u : SeqUpset)
  /-- SEQ_BR (R121). -/
  | seqBr (g : GroveId) (u : SeqUpset)
  /-- SEQ_BC (R122). -/
  | seqBc (g : GroveId) (u : SeqUpset)
  /-- SEQ_BZ (R121). -/
  | seqBz (g : GroveId) (u : SeqUpset)
  /-- SEQ_BNZ (R121). -/
  | seqBnz (g : GroveId) (u : SeqUpset)
  /-- SEQ_LOOP (R125). -/
  | seqLoop (g : GroveId) (u : SeqUpset)
  /-- SEQ_LOOPR (R125). -/
  | seqLoopr (g : GroveId) (u : SeqUpset)
  /-- SEQ_CALL (R135). -/
  | seqCall (g : GroveId) (u : SeqUpset)
  /-- SEQ_RET (R135). -/
  | seqRet (g : GroveId) (u : SeqUpset)
  /-- SEQ_END (R132). -/
  | seqEnd (g : GroveId) (u : SeqUpset)
  /-- SEQ_WAITC (R121). -/
  | seqWaitc (g : GroveId) (u : SeqUpset)
  /-- SEQ_WAITN (R121). -/
  | seqWaitn (g : GroveId) (u : SeqUpset)
  /-- SEQ_SUSP (R130). -/
  | seqSusp (g : GroveId) (u : SeqUpset)
  /-- SEQ_BRK (R131). -/
  | seqBrk (g : GroveId) (u : SeqUpset)
  /-- SEQ_STEP (R121). -/
  | seqStep (g : GroveId) (u : SeqUpset)
  /-- SEQ_STEPR (R121). -/
  | seqStepr (g : GroveId) (u : SeqUpset)
  /-- SEQ_SQO (R121). -/
  | seqSqo (g : GroveId) (u : SeqUpset)
  /-- SEQ_GETC (R121). -/
  | seqGetc (g : GroveId) (u : SeqUpset)
  /-- SEQ_GETO (R121). -/
  | seqGeto (g : GroveId) (u : SeqUpset)
  /-- SEQ_SETK (R121). -/
  | seqSetk (g : GroveId) (u : SeqUpset)
  /-- SEQ_QBIND (R121). -/
  | seqQbind (g : GroveId) (u : SeqUpset)
  /-- SEQ_QSOI (R127). -/
  | seqQsoi (g : GroveId) (u : SeqUpset)
  /-- SEQ_QEOI (R127). -/
  | seqQeoi (g : GroveId) (u : SeqUpset)
  /-- SEQ_QREAD (R126). -/
  | seqQread (g : GroveId) (u : SeqUpset)
  /-- SEQ_QREADR (R126). -/
  | seqQreadr (g : GroveId) (u : SeqUpset)
  /-- SEQ_QSEEK (R126). -/
  | seqQseek (g : GroveId) (u : SeqUpset)
  /-- SEQ_SLD (R128). -/
  | seqSld (g : GroveId) (u : SeqUpset)
  /-- SEQ_SST (R128). -/
  | seqSst (g : GroveId) (u : SeqUpset)
  /-- SEQ_MRD (R128). -/
  | seqMrd (g : GroveId) (u : SeqUpset)
  /-- SEQ_MWR (R128). -/
  | seqMwr (g : GroveId) (u : SeqUpset)
  /-- SEQ_SIG (R128). -/
  | seqSig (g : GroveId) (u : SeqUpset)
  /-- MRD_COMPLETION (R124). -/
  | mrdCompletion (g : GroveId) (tag : Fin 64) (ecc : Ecc)
  /-- BUDGET_EXPIRY (R140). -/
  | budgetExpiry (g : GroveId)
  /-- WINDOW_SPILL (R136). -/
  | windowSpill (g : GroveId) (ue : Bool)
  /-- WINDOW_REFILL (R136). -/
  | windowRefill (g : GroveId) (ecc : Ecc)
  /-- MWR_ERROR_COMPLETION (R129). -/
  | mwrErrorCompletion (g : GroveId)
  /-- QR_FETCH_ARRIVAL (R242). -/
  | qrFetchArrival (g : GroveId) (u : Fin 2) (n : Nat) (found : FetchFound)
  /-- QW_PUSH (R127). -/
  | qwPush (g : GroveId) (p : Fin 2) (up : BitVec 35) (rail : Bool)
  /-- QW_WORD_ACCEPTED (R247). -/
  | qwWordAccepted (g : GroveId) (p : Fin 2)
  /-- TASK_END (R132). -/
  | taskEnd (g : GroveId)
  /-- TASK_COMMIT (R29). -/
  | taskCommit (g : GroveId)
  /-- TASK_ABORT (R334). -/
  | taskAbort (g : GroveId)
  /-- PLACEHOLDER_DELIVERY (R340). -/
  | placeholderDelivery (t : TileId) (n : Fin 4096)
  /-- SEQ_CELL_MAP_WRITE (R75). -/
  | seqCellMapWrite (m : Master) (g : GroveId) (v : BitVec 64)
  /-- SELECT_LATCH_FAULT (R98). -/
  | selectLatchFault (g : GroveId) (k : Fin 86) (up : BitVec 64)
  /-- CANOPY_LATCH_FAULT (R100). -/
  | canopyLatchFault (t : TileId) (ch : Fin 64) (up : BitVec 288)
  /-- CFG_CNP_SRC_WRITE (R111). -/
  | cfgCnpSrcWrite (m : Master) (t : TileId) (ch : Fin 64) (v : BitVec 64)
  /-- CFG_CNP_LOCK_WRITE (R112). -/
  | cfgCnpLockWrite (m : Master) (t : TileId)
  /-- BANK_WRITE (R163). -/
  | bankWrite (m : Master) (g : GroveId) (b : Fin 8) (i : Fin 64) (v : BitVec 64)
  /-- ACC_FORCED_SAVE_REQ (R168). -/
  | accForcedSaveReq (m : Master) (g : GroveId)
  /-- ACC_FORCED_SAVE (R168). -/
  | accForcedSave (g : GroveId)
  /-- NOTICE_INTAKE (R181). -/
  | noticeIntake (t : TileId)
  /-- SCH_POST (R182). -/
  | schPost (m : Master) (t : TileId) (tpl : BitVec 8) (delay : BitVec 24)
  /-- TICK (R194). -/
  | tick (t : TileId)
  /-- DELAY_EXPIRY (R195). -/
  | delayExpiry (t : TileId)
  /-- DUE_TASK_READY (R195). -/
  | dueTaskReady (t : TileId)
  /-- FLOW_CHAIN_ADVANCE (R190). -/
  | flowChainAdvance (t : TileId) (f : Flow)
  /-- LOCK_OVERFLOW_DRAIN (R191). -/
  | lockOverflowDrain (t : TileId)
  /-- FLOW_ENTRY_FREE (R188). -/
  | flowEntryFree (t : TileId) (f : Flow)
  /-- DISPATCH_DECISION (R197). -/
  | dispatchDecision (t : TileId)
  /-- GANG_RESERVATION (R200). -/
  | gangReservation (g : GroveId)
  /-- GANG_START (R200). -/
  | gangStart (t : TileId)
  /-- PAGE_IN_COMPLETE (R159). -/
  | pageInComplete (g : GroveId) (ue : Bool)
  /-- SWITCH_CYCLE (R156). -/
  | switchCycle (g : GroveId)
  /-- RESUMPTION (R201). -/
  | resumption (g : GroveId)
  /-- CANCEL_DESCRIPTOR (R202). -/
  | cancelDescriptor (m : Master) (t : TileId) (n : Fin 4096)
  /-- CANCEL_FLOW (R202). -/
  | cancelFlow (m : Master) (t : TileId) (f : Flow)
  /-- CANCEL_TEMPLATE (R202). -/
  | cancelTemplate (m : Master) (t : TileId) (tpl : BitVec 8)
  /-- CANCEL_WALK (R203). -/
  | cancelWalk (t : TileId)
  /-- XLOCK_REQUEST (R192). -/
  | xlockRequest (t : TileId)
  /-- XLOCK_GRANT (R192). -/
  | xlockGrant (t : TileId)
  /-- XLOCK_ERROR (R193). -/
  | xlockError (t : TileId)
  /-- XLOCK_REANNOUNCE (R193). -/
  | xlockReannounce (t : TileId)
  /-- SCH_TICK_WRITE (R194). -/
  | schTickWrite (m : Master) (t : TileId) (v : BitVec 64)
  /-- HISTOGRAM_CLEAR (R206). -/
  | histogramClear (m : Master) (t : TileId) (v : BitVec 64)
  /-- LOAD_WINDOW_END (R207). -/
  | loadWindowEnd (t : TileId)
  /-- EVENT_HUB_ARRIVAL (R223). -/
  | eventHubArrival (e : Fin 5120)
  /-- EVT_SRC_WRITE (R221). -/
  | evtSrcWrite (m : Master) (e : Fin 5120) (v : BitVec 64)
  /-- EVT_FWQ_READ (R224). -/
  | evtFwqRead (m : Master)
  /-- FWQ_HOLDOFF_EXPIRY (R224). -/
  | fwqHoldoffExpiry
  /-- VECTOR_HOLDOFF_EXPIRY (R225). -/
  | vectorHoldoffExpiry (v : Fin 2048)
  /-- COUNTER_RC_READ (R18). -/
  | counterRcRead (m : Master) (a : BitVec 48) (wide : Bool)
  /-- REGISTER_WRITE (R8). -/
  | registerWrite (m : Master) (a : BitVec 48) (wide : Bool) (v : BitVec 64)
  /-- QUEUE_SPILL (R245). -/
  | queueSpill (q : Fin 16384) (bad : Option (Fin 64))
  /-- QUEUE_REFILL_LAND (R246). -/
  | queueRefillLand (q : Fin 16384) (found : RefillFound)
  /-- QUE_POP_READ (R249). -/
  | quePopRead (m : Master) (q : Fin 16384) (ue : Bool)
  /-- QUEUE_FLUSH (R257). -/
  | queueFlush (m : Master) (q : Fin 16384)
  /-- FLUSH_BLOCK_RETURN (R257). -/
  | flushBlockReturn (q : Fin 16384)
  /-- QUEUE_CLOSE (R251). -/
  | queueClose (m : Master) (q : Fin 16384)
  /-- QUEUE_REOPEN (R251). -/
  | queueReopen (m : Master) (q : Fin 16384)
  /-- QUE_CFG_WRITE (R259). -/
  | queCfgWrite (m : Master) (q : Fin 16384) (v : BitVec 64)
  /-- QUEUE_STALL_LIMIT (R248). -/
  | queueStallLimit (q : Fin 16384)
  /-- PORT_B_ACCESS (R276). -/
  | portBAccess (m : Master) (g : GroveId) (o : BitVec 18) (op : MemOp) (b : BeatShape) (lo : TWord) (hi : TWord) (ecc : Ecc)
  /-- PORT_B_REPEAT (R277). -/
  | portBRepeat (g : GroveId) (ecc : Ecc)
  /-- TMB_ACCESS (R280). -/
  | tmbAccess (m : Master) (t : TileId) (o : BitVec 26) (who : TmbReq) (op : MemOp) (wide : Bool) (lo : TWord) (hi : TWord) (found : TmbFound)
  /-- ECC_WRITEBACK (R286). -/
  | eccWriteback (u : MemUnit)
  /-- SPM_SCRUB_ROW (R287). -/
  | spmScrubRow (g : GroveId) (ecc : Ecc)
  /-- TMB_SCRUB_ROW (R287). -/
  | tmbScrubRow (t : TileId) (ecc : Ecc)
  /-- GD7_SCRUB_BLOCK (R318). -/
  | gd7ScrubBlock (t : TileId) (ecc : Ecc)
  /-- SPM_PWR_WRITE (R289). -/
  | spmPwrWrite (m : Master) (g : GroveId) (v : BitVec 64)
  /-- TMB_PWR_WRITE (R299). -/
  | tmbPwrWrite (m : Master) (t : TileId) (i : Fin 2) (v : BitVec 64)
  /-- MEM_RETENTION_ENTRY (R288). -/
  | memRetentionEntry (u : MemUnit)
  /-- MEM_POWER_TRANSITION_DONE (R288). -/
  | memPowerTransitionDone (u : MemUnit)
  /-- GD7_BRINGUP_DONE (R315). -/
  | gd7BringupDone (t : TileId) (i : Fin 8) (ok : Bool) (density : Fin 4) (temp : Fin 128)
  /-- GD7_TRAIN_START (R316). -/
  | gd7TrainStart (m : Master) (t : TileId) (v : BitVec 64)
  /-- GD7_RETRAIN_PERIOD (R316). -/
  | gd7RetrainPeriod (t : TileId) (i : Fin 8)
  /-- GD7_RETRAIN_DONE (R316). -/
  | gd7RetrainDone (t : TileId) (i : Fin 8) (ok : Bool)
  /-- GD7_TRANSFER_DONE (R312). -/
  | gd7TransferDone (o : BitVec 40) (crc : Nat) (ode : Nat) (ecc : Ecc)
  /-- GD7_POWER_DOWN (R317). -/
  | gd7PowerDown (t : TileId) (i : Fin 8)
  /-- GD7_REFRESH (R317). -/
  | gd7Refresh (t : TileId) (u : RefreshUnit)
  /-- SWAP_DIRECT (R361). -/
  | swapDirect (m : Master) (t : TileId) (x : Fin 12) (y : Fin 12)
  /-- SWAP_SHIFT (R365). -/
  | swapShift (m : Master) (t : TileId) (f : Fin 13) (y : Fin 12)
  /-- SWAP_ABORT (R366). -/
  | swapAbort (m : Master)
  /-- SWAP_PREPARE_DONE (R361). -/
  | swapPrepareDone (ok : Bool)
  /-- SWAP_DRAIN_DONE (R361). -/
  | swapDrainDone
  /-- SWAP_COPY_DONE (R361). -/
  | swapCopyDone
  /-- SPR_ROW_CTL_GO (R367). -/
  | sprRowCtlGo (m : Master) (v : BitVec 64)
  /-- ROW_SPARE_COPY (R367). -/
  | rowSpareCopy (ecc : Ecc)
  /-- SPR_GMAP_WRITE (R374). -/
  | sprGmapWrite (m : Master) (n : Fin 48) (v : BitVec 64)
  /-- AGE_SAMPLE (R357). -/
  | ageSample (n : Fin 624) (slow : BitVec 16)
  /-- PUHAN_QWR (R392). -/
  | puhanQwr (p : Packet) (ue : Bool)
  /-- PUHAN_MWR (R395). -/
  | puhanMwr (p : Packet) (ecc : Ecc)
  /-- PUHAN_NTC (R394). -/
  | puhanNtc (p : Packet)
  /-- PUHAN_MRD (R395). -/
  | puhanMrd (p : Packet) (ecc : Ecc)
  /-- PUHAN_FADD (R395). -/
  | puhanFadd (p : Packet) (ecc : Ecc)
  /-- PUHAN_SWAP (R395). -/
  | puhanSwap (p : Packet) (ecc : Ecc)
  /-- PUHAN_QRD (R393). -/
  | puhanQrd (p : Packet)
  /-- PUHAN_CPL (R380). -/
  | puhanCpl (p : Packet)
  /-- PUHAN_QCQ (R390). -/
  | puhanQcq (p : Packet)
  /-- PUHAN_QCG (R607). -/
  | puhanQcg (p : Packet)
  /-- PUHAN_MSG (R396). -/
  | puhanMsg (p : Packet)
  /-- PUHAN_EVT (R223). -/
  | puhanEvt (e : Fin 5120)
  /-- PUHAN_LCK (R192). -/
  | puhanLck (t : TileId) (op : Fin 4)
  /-- QUEUE_CREDIT_GRANT (R390). -/
  | queueCreditGrant (q : Fin 16384)
  /-- STREAM_RECLAIM (R391). -/
  | streamReclaim (q : Fin 16384) (i : Fin 8)
  /-- ASSEMBLY_IDLE_LIMIT (R402). -/
  | assemblyIdleLimit (q : Fin 16384) (i : Fin 264)
  /-- REQUEST_TIMEOUT (R398). -/
  | requestTimeout (r : ReqRef)
  /-- VCOUNT_DECAY (R403). -/
  | vcountDecay (n : Fin 2048)
  /-- QUARANTINE_CLEAR (R403). -/
  | quarantineClear (m : Master) (n : Fin 2048)
  /-- DRAIN_SEND (R607). -/
  | drainSend (q : Fin 16384)
  /-- DRAIN_CREDIT_RETRY (R607). -/
  | drainCreditRetry (q : Fin 16384)
  /-- TRANSIT_FORWARD (R401). -/
  | transitForward (p : Packet)
  /-- FLIT_TRANSMIT (R413). -/
  | flitTransmit (k : LinkRef) (pkts : List (List TWord))
  /-- DATA_FLIT_RX (R414). -/
  | dataFlitRx (k : LinkRef) (fec : Fin 3) (f : Flit)
  /-- NAK_RX (R415). -/
  | nakRx (k : LinkRef) (f : Flit)
  /-- INIT_RX (R417). -/
  | initRx (k : LinkRef) (f : Flit)
  /-- IDLE_FLIT_RX (R414). -/
  | idleFlitRx (k : LinkRef) (f : Flit)
  /-- REPLAY_TIMEOUT (R415). -/
  | replayTimeout (k : LinkRef)
  /-- RETRAIN_COMPLETE (R415). -/
  | retrainComplete (k : LinkRef) (f0 : List Nat) (f1 : List Nat)
  /-- LOSS_OF_SIGNAL (R425). -/
  | lossOfSignal (p : Fin 8) (lanes : Fin 9)
  /-- PORT_TRAINED (R422). -/
  | portTrained (k : LinkRef)
  /-- LANE_MARGIN_SAMPLE (R424). -/
  | laneMarginSample (port : Bool) (n : Nat) (ser : Nat) (m0 : BitVec 16) (m1 : BitVec 16)
  /-- LNK_RETRAIN_REQ (R431). -/
  | lnkRetrainReq (m : Master) (p : Fin 8)
  /-- LNK_DOWN_REQ (R431). -/
  | lnkDownReq (m : Master) (p : Fin 8)
  /-- LNK_FAILOVER_REQ (R431). -/
  | lnkFailoverReq (m : Master) (p : Fin 8) (lane : Fin 8) (rx : Bool)
  /-- LNK_ENABLE (R431). -/
  | lnkEnable (m : Master) (p : Fin 8) (en : Bool)
  /-- D2D_RETRAIN_REQ (R431). -/
  | d2dRetrainReq (m : Master) (k : Fin 12)
  /-- D2D_REPAIR_REQ (R431). -/
  | d2dRepairReq (m : Master) (k : Fin 12) (lane : Fin 128) (dir : Bool)
  /-- FI_SHOT (R428). -/
  | fiShot (m : Master) (k : LinkRef)
  /-- DISCOVERY_START (R444). -/
  | discoveryStart
  /-- SCAN_SILENT_TIMEOUT (R444). -/
  | scanSilentTimeout
  /-- MSG_PROBE (R441). -/
  | msgProbe
  /-- MSG_IDENT (R441). -/
  | msgIdent
  /-- MSG_SCAN (R441). -/
  | msgScan
  /-- MSG_SCAN_RPT (R441). -/
  | msgScanRpt
  /-- MSG_ASSIGN (R442). -/
  | msgAssign
  /-- MSG_ACK (R441). -/
  | msgAck
  /-- MSG_ROUTES (R441). -/
  | msgRoutes
  /-- MSG_RELAY (R440). -/
  | msgRelay
  /-- MSG_COMMIT (R442). -/
  | msgCommit
  /-- MSG_ANNOUNCE (R448). -/
  | msgAnnounce
  /-- MSG_JOIN_REQ (R448). -/
  | msgJoinReq
  /-- MSG_FW_DATA (R450). -/
  | msgFwData
  /-- MSG_PERS_DATA (R450). -/
  | msgPersData
  /-- MSG_TIME (R452). -/
  | msgTime
  /-- MSG_REPORT (R449). -/
  | msgReport
  /-- TIME_SYNC_PERIOD (R452). -/
  | timeSyncPeriod
  /-- FW_DATA_RESEND (R453). -/
  | fwDataResend
  /-- TBS_ADJ_WRITE (R455). -/
  | tbsAdjWrite (m : Master) (v : BitVec 64)
  /-- CFG_RX_TIMEOUT (R468). -/
  | cfgRxTimeout
  /-- BOOT_DEADLINE (R470). -/
  | bootDeadline
  /-- TILE_RELEASE (R474). -/
  | tileRelease (t : TileId)
  /-- ICP_REPLACE (R481). -/
  | icpReplace (t : TileId)
  /-- ICP_READ (R482). -/
  | icpRead (t : TileId)
  /-- ICP_SLOTCHK (R482). -/
  | icpSlotchk (t : TileId) (ecc : Ecc) (flip : Option (Fin 4096))
  /-- ICP_RESTORE (R482). -/
  | icpRestore (t : TileId)
  /-- GENERATION_ADVANCE (R481). -/
  | generationAdvance (t : TileId)
  /-- RANGER_UNIT (R484). -/
  | rangerUnit (t : TileId) (ecc : Ecc) (flip : Option (Fin 4096))
  /-- RANGER_HELD_FETCH (R484). -/
  | rangerHeldFetch (t : TileId)
  /-- RANGER_REWRITE (R485). -/
  | rangerRewrite (t : TileId)
  /-- RANGER_VOTE_UPSET (R487). -/
  | rangerVoteUpset (t : TileId) (reg : Fin 2) (copy : Fin 3) (agree : Bool)
  /-- RANGER_RESTART (R488). -/
  | rangerRestart (m : Master) (t : TileId) (pass : Bool)
  /-- MBX_CMD_DB_WRITE (R504). -/
  | mbxCmdDbWrite (fn : Fin 32) (pg : Fin 256) (v : BitVec 64)
  /-- MBX_RSP_DB_WRITE (R502). -/
  | mbxRspDbWrite (fn : Fin 32) (pg : Fin 256) (v : BitVec 64)
  /-- COMMAND_FETCH (R504). -/
  | commandFetch (k : Fin 256) (pkt : List Byte) (rd : RingRead)
  /-- RESPONSE_WRITE (R505). -/
  | responseWrite (k : Fin 256)
  /-- COMMAND_TIMEOUT (R507). -/
  | commandTimeout (k : Fin 256) (i : Nat)
  /-- MBX_CTL_CLR (R514). -/
  | mbxCtlClr (fn : Fin 32) (pg : Fin 256)
  /-- MBX_RING_BASE_WRITE (R520). -/
  | mbxRingBaseWrite (fn : Fin 32) (pg : Fin 256) (rsp : Bool) (v : BitVec 64)
  /-- MBX_NOP (R510). -/
  | mbxNop (k : Fin 256)
  /-- IDENTIFY (R510). -/
  | identify (k : Fin 256)
  /-- CHAN_CONFIG (R511). -/
  | chanConfig (k : Fin 256)
  /-- SET_DEADLINE (R511). -/
  | setDeadline (k : Fin 256)
  /-- DEVICE_RESET (R510). -/
  | deviceReset (k : Fin 256)
  /-- FW_BEGIN (R532). -/
  | fwBegin (k : Fin 256)
  /-- FW_DATA (R511). -/
  | fwData (k : Fin 256)
  /-- FW_END (R532). -/
  | fwEnd (k : Fin 256)
  /-- PERS_BEGIN (R468). -/
  | persBegin (k : Fin 256)
  /-- PERS_DATA (R469). -/
  | persData (k : Fin 256)
  /-- PERS_END (R469). -/
  | persEnd (k : Fin 256)
  /-- PERS_COMMIT (R472). -/
  | persCommit (k : Fin 256)
  /-- PERS_ABORT (R510). -/
  | persAbort (k : Fin 256)
  /-- PERS_STATUS (R510). -/
  | persStatus (k : Fin 256)
  /-- SYS_PLAN (R445). -/
  | sysPlan (k : Fin 256)
  /-- SYS_TOPOLOGY (R510). -/
  | sysTopology (k : Fin 256)
  /-- QUEUE_WRITE (R511). -/
  | queueWrite (k : Fin 256)
  /-- QUEUE_READ (R511). -/
  | queueRead (k : Fin 256)
  /-- QUEUE_CTL (R510). -/
  | queueCtl (k : Fin 256)
  /-- QUEUE_STATUS (R510). -/
  | queueStatus (k : Fin 256)
  /-- TASK_POST (R510). -/
  | taskPost (k : Fin 256)
  /-- TASK_CANCEL (R510). -/
  | taskCancel (k : Fin 256)
  /-- EVENT_PENDING (R511). -/
  | eventPending (k : Fin 256)
  /-- EVENT_CLEAR (R511). -/
  | eventClear (k : Fin 256)
  /-- COUNTER_READ (R510). -/
  | counterRead (k : Fin 256)
  /-- MEM_READ (R511). -/
  | memRead (k : Fin 256)
  /-- MEM_WRITE (R511). -/
  | memWrite (k : Fin 256)
  /-- RLOG_GET (R511). -/
  | rlogGet (k : Fin 256)
  /-- RLOG_PUT (R511). -/
  | rlogPut (k : Fin 256)
  /-- ATTEST (R536). -/
  | attest (k : Fin 256)
  /-- ATTEST_READ (R510). -/
  | attestRead (k : Fin 256)
  /-- KEY_PROVISION (R539). -/
  | keyProvision (k : Fin 256)
  /-- LIFECYCLE_SET (R539). -/
  | lifecycleSet (k : Fin 256)
  /-- SIGNING_DONE (R536). -/
  | signingDone
  /-- OTP_BURN_DONE (R527). -/
  | otpBurnDone (ok : Bool)
  /-- SEC_EXTEND (R534). -/
  | secExtend (m : Master) (r : Fin 8)
  /-- ROM_BOOT (R530). -/
  | romBoot
  /-- PCI_FLR (R509). -/
  | pciFlr (fn : Fin 32)
  /-- HOT_RESET (R509). -/
  | hotReset
  /-- PCI_LINK_CHANGE (R517). -/
  | pciLinkChange (up : Bool) (flit : Bool) (rate : Fin 8) (width : Fin 32)
  /-- MSIX_UNMASK (R516). -/
  | msixUnmask (v : Fin 2048)
  /-- POR (R555). -/
  | por
  /-- WARM_RESET (R555). -/
  | warmReset (cause : Fin 3)
  /-- RAIL_FAULT (R546). -/
  | railFault (r : Fin 8) (brown : Bool)
  /-- XIN_DETECT (R551). -/
  | xinDetect
  /-- HUB_RESET (R555). -/
  | hubReset (m : Master)
  /-- INTERNAL_RESET (R555). -/
  | internalReset (m : Master)
  /-- TILE_RESET (R555). -/
  | tileReset (m : Master) (t : TileId)
  /-- RST_GROVE (R555). -/
  | rstGrove (m : Master) (g : GroveId)
  /-- AVS_UPDATE (R547). -/
  | avsUpdate (answered : Bool) (need : Nat)
  /-- PLL_UNLOCK (R553). -/
  | pllUnlock (n : Fin 12)
  /-- TILE_PLL_OFF_ENTRY (R549). -/
  | tilePllOffEntry (t : TileId)
  /-- TILE_WAKE_DONE (R550). -/
  | tileWakeDone (t : TileId)
  /-- PWR_WAKE (R550). -/
  | pwrWake (m : Master) (t : TileId) (g : Option GroveId)
  /-- CLK_TILE_WRITE (R552). -/
  | clkTileWrite (m : Master) (t : TileId) (v : BitVec 64)
  /-- GROVE_RETENTION_ENTRY (R548). -/
  | groveRetentionEntry (g : GroveId)
  /-- WDG_FW_SVC (R557). -/
  | wdgFwSvc (m : Master) (v : BitVec 64)
  /-- WDG_DEV_SVC (R557). -/
  | wdgDevSvc (m : Master) (v : BitVec 64)
  /-- WDG_CTL_WRITE (R557). -/
  | wdgCtlWrite (m : Master) (dev : Bool) (v : BitVec 64)
  /-- WDG_FW_WARN (R557). -/
  | wdgFwWarn
  /-- WDG_DEV_WARN (R557). -/
  | wdgDevWarn
  /-- WDG_FW_EXPIRY (R557). -/
  | wdgFwExpiry
  /-- WDG_DEV_EXPIRY (R557). -/
  | wdgDevExpiry
  /-- LINE_RESET (R563). -/
  | lineReset
  /-- RD (R566). -/
  | rd (f : DbgFrame) (ecc : Ecc)
  /-- RDQ (R567). -/
  | rdq (f : DbgFrame) (ecc : Ecc)
  /-- WR (R566). -/
  | wr (f : DbgFrame) (ecc : Ecc)
  /-- RDI (R565). -/
  | rdi (f : DbgFrame) (ecc : Ecc)
  /-- RDQI (R565). -/
  | rdqi (f : DbgFrame) (ecc : Ecc)
  /-- WRI (R565). -/
  | wri (f : DbgFrame) (ecc : Ecc)
  /-- PRD (R582). -/
  | prd (f : DbgFrame) (ecc : Ecc)
  /-- PWR (R582). -/
  | pwr (f : DbgFrame) (ecc : Ecc)
  /-- DEBUG_READ_COMPLETE (R566). -/
  | debugReadComplete (ecc : Ecc)
  /-- DBG_PORT_ABORT (R566). -/
  | dbgPortAbort
  /-- DBG_PORT_CLR (R582). -/
  | dbgPortClr
  /-- DBG_HALT_REQUEST (R569). -/
  | dbgHaltRequest (m : Master) (x : HaltTarget)
  /-- HALT_TAKES_EFFECT (R569). -/
  | haltTakesEffect (x : HaltTarget)
  /-- DBG_RELEASE (R569). -/
  | dbgRelease (m : Master) (x : HaltTarget)
  /-- DBG_STEP (R571). -/
  | dbgStep (m : Master) (x : HaltTarget) (instr : Bool) (n : BitVec 16)
  /-- STEP_COUNT_DONE (R571). -/
  | stepCountDone (x : HaltTarget)
  /-- UIO_OUT_WRITE (R592). -/
  | uioOutWrite (m : Master) (v : BitVec 64)
  /-- UIO_OUT_SET (R592). -/
  | uioOutSet (m : Master) (v : BitVec 64)
  /-- UIO_OUT_CLR (R592). -/
  | uioOutClr (m : Master) (v : BitVec 64)
  /-- UIO_OE_WRITE (R592). -/
  | uioOeWrite (m : Master) (v : BitVec 64)
  /-- UIO_TRIG_AT_WRITE (R594). -/
  | uioTrigAtWrite (m : Master) (k : Fin 8) (v : BitVec 64)
  /-- TRIG_OUT_PULSE_START (R594). -/
  | trigOutPulseStart (k : Fin 8)
  /-- PULSE_END (R594). -/
  | pulseEnd (n : Fin 48)
  /-- TB_OUT_PULSE (R595). -/
  | tbOutPulse (n : Fin 48)
  /-- TRIG_IN_EDGE (R593). -/
  | trigInEdge (k : Fin 16) (rising : Bool)
  /-- PPS_IN_EDGE (R596). -/
  | ppsInEdge (rising : Bool)
  /-- PPS_HOLDOVER (R596). -/
  | ppsHoldover
  /-- DELAY_LINE_CALIBRATION (R588). -/
  | delayLineCalibration
  /-- PLL_RELOCK (R553). -/
  | pllRelock (n : Fin 12) (late : Bool)
  /-- RAIL_IN_RANGE (R546). -/
  | railInRange (r : Fin 8)
  /-- GPIO_PIN_EDGE (R589). -/
  | gpioPinEdge (n : Fin 48) (level : Bool)
  /-- CONFIGURATION_REQUEST (R511). -/
  | configurationRequest (q : CfgReq)
  /-- RESERVED_FRAME (R565). -/
  | reservedFrame (op : BitVec 4) (f : DbgFrame)
  /-- RESERVED_TYPE_PACKET (R381). -/
  | reservedTypePacket (p : Packet)
  /-- TIME_BASE_SLEW_END (R455). -/
  | timeBaseSlewEnd
  deriving DecidableEq, Repr

end Sys2Proof
end

