-- ==== Sys2Proof/Decode.lean ====
section
/-!
DEFINITION. The decoder of the opcode table. Every row of spec/opcode_table.json is a command that comes from outside the block and has no bits, so
no word spells a command. The encodings the spec does give (cell fields, sequencer words, packets, flits, frames, mailbox packets) are operands or
data of commands, and are read where the commands' rules read them.
-/
namespace Sys2Proof

/-- The command that a word spells by the table's bits: none, for every width and word. -/
def decodeTableWord (_nbits _w : Nat) : Option Instr := none

end Sys2Proof
end

