-- ==== Sys2Proof/Config.lean ====
section
/-!
DEFINITION. What the spec leaves open as a value: free constants with no body, so that nothing can be proved of a particular value.
-/
namespace Sys2Proof.Config

/-- The undefined word a port-A read returns in a collision (R278): a fresh value for each use, by the model's counter `fresh`. -/
opaque freeWord : Nat → BitVec 32

/-- OTP bytes that Atgasa wrote at manufacture (R525): UID, stepping and manufacturing data, vendor root key hash, identity seed, repairs. -/
opaque otpByte : Nat → BitVec 8

/-- Whether an SLH-DSA signature verifies (R523, FIPS 205): parameter set (0: 128s), context string, public key, pre-hash, signature. -/
opaque slhVerify : Nat → Nat → List (BitVec 8) → BitVec 256 → List (BitVec 8) → Bool

/-- A byte of the attestation signature over a pre-hash (R523, R536, FIPS 205). -/
opaque slhSignByte : BitVec 256 → Nat → BitVec 8

/-- A byte of the identity public key (R535): the key generation of FIPS 205 over the identity seed. -/
opaque idKeyByte : Nat → BitVec 8

/-- A byte of the vendor public key, for personalities, whose format (R457) has no place for it. -/
opaque vendorKeyByte : Nat → BitVec 8

/-- How many bytes of an OTP burn a reset found written (R527), by the model's counter `fresh`. -/
opaque burnStop : Nat → Nat

/-- The address of the management core's next instruction (R584), by the number of times it has run. -/
opaque corePc : Nat → BitVec 32

/-- A register of the management core (R573), by the number of times it has run and the register's number. -/
opaque coreReg : Nat → Nat → BitVec 64

/-- The level of a pin that nothing drives and no pull holds (R589, R590), by its number. -/
opaque floatLevel : Nat → Bool

/-- The error status that AER shows for a ring read that completes with an error (R229, R514), whose layout the spec does not give. -/
opaque aerStatus : RingRead → BitVec 32

/-- The cause that firmware gives in the repair log for a repair of a kind at a location (R370): firmware's own knowledge. -/
opaque repairCause : Nat → Nat → Nat

end Sys2Proof.Config
end

