-- ==== Sys2Proof/Machine/Bits.lean ====
section
/-!
DEFINITION. Bit fields, residues modulo 7 (R4, R58, R59), sign extension and serial comparison (R15).
-/
namespace Sys2Proof

/-- The residue of a natural number, its value modulo 7 in 3 bits (R58). -/
def resOf (n : Nat) : BitVec 3 := BitVec.ofNat 3 (n % 7)

/-- A word with the residue generated from its data (R58). -/
def tword (w : Word) : TWord := resOf w.toNat ++ w

/-- The data bits of a word. -/
def TWord.data (t : TWord) : Word := t.extractLsb' 0 32

/-- The residue a word carries. -/
def TWord.res (t : TWord) : BitVec 3 := t.extractLsb' 32 3

/-- A poisoned word: residue 0b111 with the data as they are (R58, R63). -/
def poisoned (w : Word) : TWord := (7#3) ++ w

/-- A carried residue of 0b111 marks poison (R58). -/
def TWord.isPoison (t : TWord) : Bool := t.res == 7#3

/-- The operand check of R58: a carried residue that differs from the data's and is not the poison mark. -/
def TWord.bad (t : TWord) : Bool := !t.isPoison && t.res != resOf t.data.toNat

/-- A result word: poisoned when any operand was, else with a generated residue (R63). -/
def twordP (p : Bool) (w : Word) : TWord := if p then poisoned w else tword w

/-- `w` bits of a 64-bit register from bit `lo`, as a number. -/
def fld (v : BitVec 64) (lo w : Nat) : Nat := (v.extractLsb' lo w).toNat

/-- The register `v` with `w` bits from bit `lo` replaced by `x`. -/
def setFld (v : BitVec 64) (lo w x : Nat) : BitVec 64 :=
  let m : BitVec 64 := (BitVec.ofNat 64 (2 ^ w - 1)) <<< lo
  (v &&& ~~~m) ||| ((BitVec.ofNat 64 (x % 2 ^ w)) <<< lo)

/-- The value of a Boolean as a bit. -/
def b2n (b : Bool) : Nat := if b then 1 else 0

/-- Sign extension of a `w`-bit number to an integer. -/
def toInt (w n : Nat) : Int := if 2 * (n % 2 ^ w) < 2 ^ w then ((n % 2 ^ w : Nat) : Int) else ((n % 2 ^ w : Nat) : Int) - (2 ^ w : Nat)

/-- The low `w` bits of an integer. -/
def wrapInt (w : Nat) (i : Int) : Nat := (i % ((2 ^ w : Nat) : Int)).toNat

/-- `a` is later than `b` in serial arithmetic of width `n` (R15). -/
def serialLater (n a b : Nat) : Bool :=
  let d := (a + 2 ^ n - b % 2 ^ n) % 2 ^ n
  decide (1 ≤ d) && decide (d ≤ 2 ^ (n - 1) - 1)

/-- Logical right shift helper on numbers: bits `lo` up to `lo + w - 1` of `n`. -/
def bitsOf (n lo w : Nat) : Nat := (n / 2 ^ lo) % 2 ^ w

/-- Bit `i` of `n`. -/
def bitOf (n i : Nat) : Bool := (n / 2 ^ i) % 2 == 1

end Sys2Proof
end

