-- ==== Sys2Proof/Machine/Regs.lean ====
section
/-!
DEFINITION. The memory-mapped registers of the device: every register block's offsets and field tables, as the register tables of
the spec give them (R6–R10, and the rule named beside each register).
-/
namespace Sys2Proof.Machine

/-- Field access types (R8). -/
inductive Acc where
  | rw | ro | w1c | w1s | rc | wo | rwl
  deriving DecidableEq, Repr

/-- The narrowest reset that restores a field (R10); `never` is the table's dash. -/
inductive Scope where
  | por | warm | hub | tile | grove | never
  deriving DecidableEq, Repr

/-- Where a register block lies (R33). -/
inductive RLoc where
  | grove | tile | hub
  deriving DecidableEq, Repr

/-- One field of a register: its bits, access, reset scope, reset value, and the written values that are not ignored. -/
structure RField where
  lo : Nat
  wd : Nat
  acc : Acc
  scope : Scope
  rst : Nat := 0
  mn : Nat := 0
  mx : Nat := 18446744073709551615
  bad : List Nat := []
  deriving DecidableEq, Repr

/-- A field that accepts every written value and resets to 0. -/
def field (lo wd : Nat) (acc : Acc) (scope : Scope) : RField := { lo := lo, wd := wd, acc := acc, scope := scope }

/-- A field with a stated reset value. -/
def fieldR (lo wd : Nat) (acc : Acc) (scope : Scope) (rst : Nat) : RField :=
  { lo := lo, wd := wd, acc := acc, scope := scope, rst := rst }

/-- A field whose written values outside `mn`–`mx` are ignored. -/
def fieldM (lo wd : Nat) (acc : Acc) (scope : Scope) (rst mn mx : Nat) : RField :=
  { lo := lo, wd := wd, acc := acc, scope := scope, rst := rst, mn := mn, mx := mx }

/-- A field with named written values that are ignored. -/
def fieldX (lo wd : Nat) (acc : Acc) (scope : Scope) (rst : Nat) (bad : List Nat) : RField :=
  { lo := lo, wd := wd, acc := acc, scope := scope, rst := rst, bad := bad }

/-- The registers, one name for each register or array of registers. -/
inductive Reg where
  | seqCellMap | seqCellChkCnt | seqCellLast | seqRouteCnt | seqRouteLast | seqStatus | seqWinCtl | seqTrapCnt
  | seqTrapLast | seqSpillCnt | seqMwrErrCnt | seqMwrLast | seqMwrAddr | seqSlot | seqBankMap | seqAccCtl
  | evtSrcG | spmPwr | spmScrub | spmCeCnt | spmUeCnt | spmCollideCnt | spmPoisonCnt | spmEccLast
  | schCtl | schTick | schNow | schPost | schCancel | schCancelLast | schFree | schLoadCtl
  | schHistCtl | schIntegCtl | schDepth | schXrange | schHist | schDispatchCnt | schDroppedReadyCnt | schCancelCnt
  | schPostLostCnt | schLockOvfCnt | schAbortCnt | schReplayCnt | schPhCnt | schErrRange | schErrDflt | schErrTgt
  | schTpl | schGrove | schLock | queCfg | queTgt | queSpill | queStatus | queCtl
  | quePop | queLevel | quePool | queGd7 | queStallLimit | quePoolFree | queStallMap | queFullMap
  | quePoisonCnt | queFlushDrop | queRefusedCnt | queGladeCnt | queCvFailCnt | queGd7SpillCnt | ctxBackBase | ctxSaveBase
  | ctxPageCtl | ctxHitCnt | ctxMissCnt | ctxFaultLast | cfgStatus | cfgIcpCtl | cfgIcpCmd | cfgIcpCnt
  | cfgIcpRejCnt | cfgIcpStat | cfgCnpSrc | cfgCnpLock | cfgCnpUpsetCnt | rgrCtl | rgrStat | rgrLast
  | rgrRewriteCnt | rgrCeCnt | rgrGoldErrCnt | rgrEss | rgrGoldCnp | tmbCtl | tmbPwr | tmbPwrSt
  | tmbScrub | tmbCeCnt | tmbUeCnt | tmbPoisonCnt | tmbEccLast | gd7Ctl | gd7TrainCtl | gd7Scrub
  | gd7ChStat | gd7CeCnt | gd7UeCnt | gd7CrcCnt | gd7OdeCnt | gd7RetrainCnt | gd7EccLast | evtSrcT
  | evtCntSelT | evtCntT | evtSrcH | evtPendSum | evtFwq | evtFwqCtl | evtVec | evtCntSelH
  | evtCntH | sprSwapCtl | sprSwapStat | sprRowCtl | sprAgeThr | sprSwapCnt | sprGmap | sprAge
  | fabCtl | fabViolLimit | fabViolLast | fabViolHdr | fabViolCnt | fabUnmappedCnt | fabCrcCnt | fabLateCnt
  | fabTimeoutCnt | fabTransitCnt | fabMsgDropCnt | fabEp | fabVl | lnkCtl | lnkStat | lnkFi
  | lnkFiPat | lnkReplayCnt | lnkCrcCnt | lnkFecCeCnt | lnkFecUeCnt | lnkRetrainCnt | lnkFiCnt | lnkLane
  | lnkTiming | d2dCtl | d2dStat | d2dFi | d2dFiPat | d2dReplayCnt | d2dCrcCnt | d2dRetrainCnt
  | d2dFiCnt | d2dLane | tbsSyncCtl | tbsAdj | tbsTxTs | tbsRxTs | tbsNow | tbsPpsCtl
  | tbsPpsTs | tbsPpsErr | mbxHdr | mbxCmdBase | mbxRspBase | mbxCtl | mbxCmdDb | mbxRspDb
  | mbxStat | mbxCmdCnt | mbxErrCnt | mbxTimeoutCnt | pciLinkStat | pciMsixDropCnt | secStatus | secAttCnt
  | secExtCtl | secExtData | secMeas | rstCtl | rstGrove | rstCause | rstTileCnt | rstCfgJrnl
  | pwrRailStat | pwrAvs | pwrWake | pwrTile | clkStat | clkTile | wdgFwCtl | wdgFwSvc
  | wdgDevCtl | wdgDevSvc | wdgStat | dbgLevel | dbgCtl | dbgWdgFreeze | dbgHaltCmd | dbgCoreStat
  | dbgHalted | dbgCmp | dbgCmpAddr | dbgCmpAmask | dbgCmpData | dbgCoreReg | prbSel | uioIn
  | uioOut | uioOutSet | uioOutClr | uioOe | uioCfg | uioTrigAt | uioTrigTs
  deriving DecidableEq, Repr

/-- Where a register's block lies, its first offset, how many of it there are and their stride. -/
structure RInfo where
  loc : RLoc
  off : Nat
  cnt : Nat
  stride : Nat
  deriving DecidableEq, Repr

/-- Places of the registers (the address tables of each chapter, R33). -/
def Reg.info : Reg → RInfo
  | .seqCellMap => ⟨.grove, 0xE000, 1, 0x8⟩ -- SEQ_CELL_MAP, R77
  | .seqCellChkCnt => ⟨.grove, 0xE008, 1, 0x8⟩ -- SEQ_CELL_CHK_CNT, R78
  | .seqCellLast => ⟨.grove, 0xE010, 1, 0x8⟩ -- SEQ_CELL_LAST, R79
  | .seqRouteCnt => ⟨.grove, 0xE100, 1, 0x8⟩ -- SEQ_ROUTE_CNT, R108
  | .seqRouteLast => ⟨.grove, 0xE108, 1, 0x8⟩ -- SEQ_ROUTE_LAST, R109
  | .seqStatus => ⟨.grove, 0xE200, 1, 0x8⟩ -- SEQ_STATUS, R143
  | .seqWinCtl => ⟨.grove, 0xE208, 1, 0x8⟩ -- SEQ_WIN_CTL, R144
  | .seqTrapCnt => ⟨.grove, 0xE210, 1, 0x8⟩ -- SEQ_TRAP_CNT, R145
  | .seqTrapLast => ⟨.grove, 0xE218, 1, 0x8⟩ -- SEQ_TRAP_LAST, R146
  | .seqSpillCnt => ⟨.grove, 0xE220, 1, 0x8⟩ -- SEQ_SPILL_CNT, R145
  | .seqMwrErrCnt => ⟨.grove, 0xE228, 1, 0x8⟩ -- SEQ_MWR_ERR_CNT, R145
  | .seqMwrLast => ⟨.grove, 0xE230, 1, 0x8⟩ -- SEQ_MWR_LAST, R147
  | .seqMwrAddr => ⟨.grove, 0xE238, 1, 0x8⟩ -- SEQ_MWR_ADDR, R147
  | .seqSlot => ⟨.grove, 0xE300, 8, 0x8⟩ -- SEQ_SLOT_n, R171
  | .seqBankMap => ⟨.grove, 0xE340, 1, 0x8⟩ -- SEQ_BANK_MAP, R172
  | .seqAccCtl => ⟨.grove, 0xE348, 1, 0x8⟩ -- SEQ_ACC_CTL, R173
  | .evtSrcG => ⟨.grove, 0xE400, 8, 0x8⟩ -- EVT_SRC_k, R232
  | .spmPwr => ⟨.grove, 0xE500, 1, 0x8⟩ -- SPM_PWR, R293
  | .spmScrub => ⟨.grove, 0xE508, 1, 0x8⟩ -- SPM_SCRUB, R294
  | .spmCeCnt => ⟨.grove, 0xE510, 1, 0x8⟩ -- SPM_CE_CNT, R295
  | .spmUeCnt => ⟨.grove, 0xE518, 1, 0x8⟩ -- SPM_UE_CNT, R295
  | .spmCollideCnt => ⟨.grove, 0xE520, 1, 0x8⟩ -- SPM_COLLIDE_CNT, R295
  | .spmPoisonCnt => ⟨.grove, 0xE528, 1, 0x8⟩ -- SPM_POISON_CNT, R295
  | .spmEccLast => ⟨.grove, 0xE530, 1, 0x8⟩ -- SPM_ECC_LAST, R296
  | .schCtl => ⟨.tile, 0x0, 1, 0x8⟩ -- SCH_CTL, R209
  | .schTick => ⟨.tile, 0x8, 1, 0x8⟩ -- SCH_TICK, R210
  | .schNow => ⟨.tile, 0x10, 1, 0x8⟩ -- SCH_NOW, R210
  | .schPost => ⟨.tile, 0x18, 1, 0x8⟩ -- SCH_POST, R210
  | .schCancel => ⟨.tile, 0x20, 1, 0x8⟩ -- SCH_CANCEL, R212
  | .schCancelLast => ⟨.tile, 0x28, 1, 0x8⟩ -- SCH_CANCEL_LAST, R212
  | .schFree => ⟨.tile, 0x30, 1, 0x8⟩ -- SCH_FREE, R213
  | .schLoadCtl => ⟨.tile, 0x38, 1, 0x8⟩ -- SCH_LOAD_CTL, R216
  | .schHistCtl => ⟨.tile, 0x40, 1, 0x8⟩ -- SCH_HIST_CTL, R215
  | .schIntegCtl => ⟨.tile, 0x48, 1, 0x8⟩ -- SCH_INTEG_CTL, R351
  | .schDepth => ⟨.tile, 0x80, 8, 0x8⟩ -- SCH_DEPTH_p, R213
  | .schXrange => ⟨.tile, 0x100, 8, 0x8⟩ -- SCH_XRANGE_n, R214
  | .schHist => ⟨.tile, 0x200, 64, 0x8⟩ -- SCH_HIST_n, R215
  | .schDispatchCnt => ⟨.tile, 0x400, 1, 0x8⟩ -- SCH_DISPATCH_CNT, R218
  | .schDroppedReadyCnt => ⟨.tile, 0x408, 1, 0x8⟩ -- SCH_DROPPED_READY_CNT, R218
  | .schCancelCnt => ⟨.tile, 0x410, 1, 0x8⟩ -- SCH_CANCEL_CNT, R218
  | .schPostLostCnt => ⟨.tile, 0x418, 1, 0x8⟩ -- SCH_POST_LOST_CNT, R218
  | .schLockOvfCnt => ⟨.tile, 0x420, 1, 0x8⟩ -- SCH_LOCK_OVF_CNT, R218
  | .schAbortCnt => ⟨.tile, 0x428, 1, 0x8⟩ -- SCH_ABORT_CNT, R354
  | .schReplayCnt => ⟨.tile, 0x430, 1, 0x8⟩ -- SCH_REPLAY_CNT, R354
  | .schPhCnt => ⟨.tile, 0x438, 1, 0x8⟩ -- SCH_PH_CNT, R354
  | .schErrRange => ⟨.tile, 0x600, 16, 0x8⟩ -- SCH_ERR_RANGE_n, R352
  | .schErrDflt => ⟨.tile, 0x680, 1, 0x8⟩ -- SCH_ERR_DFLT, R353
  | .schErrTgt => ⟨.tile, 0x700, 16, 0x8⟩ -- SCH_ERR_TGT_n, R353
  | .schTpl => ⟨.tile, 0x1000, 256, 0x8⟩ -- SCH_TPL_n, R211
  | .schGrove => ⟨.tile, 0x2000, 188, 0x8⟩ -- SCH_GROVE_n, R216
  | .schLock => ⟨.tile, 0x200000, 65536, 0x8⟩ -- SCH_LOCK_n, R217
  | .queCfg => ⟨.tile, 0x1000000, 4096, 0x40⟩ -- QUE_CFG_l, R265
  | .queTgt => ⟨.tile, 0x1000008, 4096, 0x40⟩ -- QUE_TGT_l, R266
  | .queSpill => ⟨.tile, 0x1000010, 4096, 0x40⟩ -- QUE_SPILL_l, R267
  | .queStatus => ⟨.tile, 0x1000018, 4096, 0x40⟩ -- QUE_STATUS_l, R268
  | .queCtl => ⟨.tile, 0x1000020, 4096, 0x40⟩ -- QUE_CTL_l, R269
  | .quePop => ⟨.tile, 0x1000028, 4096, 0x40⟩ -- QUE_POP_l, R269
  | .queLevel => ⟨.tile, 0x1000030, 4096, 0x40⟩ -- QUE_LEVEL_l, R268
  | .quePool => ⟨.tile, 0x1040000, 1, 0x8⟩ -- QUE_POOL, R270
  | .queGd7 => ⟨.tile, 0x1040008, 1, 0x8⟩ -- QUE_GD7, R270
  | .queStallLimit => ⟨.tile, 0x1040010, 1, 0x8⟩ -- QUE_STALL_LIMIT, R270
  | .quePoolFree => ⟨.tile, 0x1040018, 1, 0x8⟩ -- QUE_POOL_FREE, R271
  | .queStallMap => ⟨.tile, 0x1040100, 64, 0x8⟩ -- QUE_STALL_MAP_m, R271
  | .queFullMap => ⟨.tile, 0x1040300, 64, 0x8⟩ -- QUE_FULL_MAP_m, R271
  | .quePoisonCnt => ⟨.tile, 0x1040800, 1, 0x8⟩ -- QUE_POISON_CNT, R272
  | .queFlushDrop => ⟨.tile, 0x1040808, 1, 0x8⟩ -- QUE_FLUSH_DROP, R272
  | .queRefusedCnt => ⟨.tile, 0x1040810, 1, 0x8⟩ -- QUE_REFUSED_CNT, R272
  | .queGladeCnt => ⟨.tile, 0x1040818, 1, 0x8⟩ -- QUE_GLADE_CNT, R272
  | .queCvFailCnt => ⟨.tile, 0x1040820, 1, 0x8⟩ -- QUE_CV_FAIL_CNT, R272
  | .queGd7SpillCnt => ⟨.tile, 0x1040828, 1, 0x8⟩ -- QUE_GD7_SPILL_CNT, R272
  | .ctxBackBase => ⟨.tile, 0x2000000, 1, 0x8⟩ -- CTX_BACK_BASE, R175
  | .ctxSaveBase => ⟨.tile, 0x2000008, 1, 0x8⟩ -- CTX_SAVE_BASE, R176
  | .ctxPageCtl => ⟨.tile, 0x2000010, 1, 0x8⟩ -- CTX_PAGE_CTL, R177
  | .ctxHitCnt => ⟨.tile, 0x2000018, 1, 0x8⟩ -- CTX_HIT_CNT, R178
  | .ctxMissCnt => ⟨.tile, 0x2000020, 1, 0x8⟩ -- CTX_MISS_CNT, R178
  | .ctxFaultLast => ⟨.tile, 0x2000028, 1, 0x8⟩ -- CTX_FAULT_LAST, R179
  | .cfgStatus => ⟨.tile, 0x3000000, 1, 0x8⟩ -- CFG_STATUS, R490
  | .cfgIcpCtl => ⟨.tile, 0x3000008, 1, 0x8⟩ -- CFG_ICP_CTL, R491
  | .cfgIcpCmd => ⟨.tile, 0x3000010, 1, 0x8⟩ -- CFG_ICP_CMD, R491
  | .cfgIcpCnt => ⟨.tile, 0x3000018, 1, 0x8⟩ -- CFG_ICP_CNT, R496
  | .cfgIcpRejCnt => ⟨.tile, 0x3000020, 1, 0x8⟩ -- CFG_ICP_REJ_CNT, R496
  | .cfgIcpStat => ⟨.tile, 0x3000100, 64, 0x8⟩ -- CFG_ICP_STAT_s, R492
  | .cfgCnpSrc => ⟨.tile, 0x3400000, 64, 0x8⟩ -- CFG_CNP_SRC_n, R111
  | .cfgCnpLock => ⟨.tile, 0x3400200, 1, 0x8⟩ -- CFG_CNP_LOCK, R112
  | .cfgCnpUpsetCnt => ⟨.tile, 0x3400208, 1, 0x8⟩ -- CFG_CNP_UPSET_CNT, R113
  | .rgrCtl => ⟨.tile, 0x4000000, 1, 0x8⟩ -- RGR_CTL, R493
  | .rgrStat => ⟨.tile, 0x4000008, 1, 0x8⟩ -- RGR_STAT, R494
  | .rgrLast => ⟨.tile, 0x4000010, 1, 0x8⟩ -- RGR_LAST, R495
  | .rgrRewriteCnt => ⟨.tile, 0x4000018, 1, 0x8⟩ -- RGR_REWRITE_CNT, R496
  | .rgrCeCnt => ⟨.tile, 0x4000020, 1, 0x8⟩ -- RGR_CE_CNT, R496
  | .rgrGoldErrCnt => ⟨.tile, 0x4000028, 1, 0x8⟩ -- RGR_GOLD_ERR_CNT, R496
  | .rgrEss => ⟨.tile, 0x4000100, 64, 0x8⟩ -- RGR_ESS_n, R489
  | .rgrGoldCnp => ⟨.tile, 0x4000400, 64, 0x8⟩ -- RGR_GOLD_CNP_n, R489
  | .tmbCtl => ⟨.tile, 0x5000000, 1, 0x8⟩ -- TMB_CTL, R298
  | .tmbPwr => ⟨.tile, 0x5000008, 2, 0x8⟩ -- TMB_PWR_i, R299
  | .tmbPwrSt => ⟨.tile, 0x5000018, 2, 0x8⟩ -- TMB_PWR_ST_i, R299
  | .tmbScrub => ⟨.tile, 0x5000028, 1, 0x8⟩ -- TMB_SCRUB, R294
  | .tmbCeCnt => ⟨.tile, 0x5000030, 1, 0x8⟩ -- TMB_CE_CNT, R300
  | .tmbUeCnt => ⟨.tile, 0x5000038, 1, 0x8⟩ -- TMB_UE_CNT, R300
  | .tmbPoisonCnt => ⟨.tile, 0x5000040, 1, 0x8⟩ -- TMB_POISON_CNT, R300
  | .tmbEccLast => ⟨.tile, 0x5000048, 1, 0x8⟩ -- TMB_ECC_LAST, R301
  | .gd7Ctl => ⟨.tile, 0x6000000, 1, 0x8⟩ -- GD7_CTL, R321
  | .gd7TrainCtl => ⟨.tile, 0x6000008, 1, 0x8⟩ -- GD7_TRAIN_CTL, R321
  | .gd7Scrub => ⟨.tile, 0x6000010, 1, 0x8⟩ -- GD7_SCRUB, R294
  | .gd7ChStat => ⟨.tile, 0x6000040, 8, 0x8⟩ -- GD7_CH_STAT_i, R322
  | .gd7CeCnt => ⟨.tile, 0x6000100, 1, 0x8⟩ -- GD7_CE_CNT, R323
  | .gd7UeCnt => ⟨.tile, 0x6000108, 1, 0x8⟩ -- GD7_UE_CNT, R323
  | .gd7CrcCnt => ⟨.tile, 0x6000110, 1, 0x8⟩ -- GD7_CRC_CNT, R323
  | .gd7OdeCnt => ⟨.tile, 0x6000118, 1, 0x8⟩ -- GD7_ODE_CNT, R323
  | .gd7RetrainCnt => ⟨.tile, 0x6000120, 1, 0x8⟩ -- GD7_RETRAIN_CNT, R323
  | .gd7EccLast => ⟨.tile, 0x6000128, 1, 0x8⟩ -- GD7_ECC_LAST, R324
  | .evtSrcT => ⟨.tile, 0x7000000, 64, 0x8⟩ -- EVT_SRC_j, R232
  | .evtCntSelT => ⟨.tile, 0x7000400, 16, 0x8⟩ -- EVT_CNT_SEL_n, R233
  | .evtCntT => ⟨.tile, 0x7000480, 16, 0x8⟩ -- EVT_CNT_n, R233
  | .evtSrcH => ⟨.hub, 0x3800000, 256, 0x8⟩ -- EVT_SRC_j, R232
  | .evtPendSum => ⟨.hub, 0x3801000, 80, 0x8⟩ -- EVT_PEND_SUM_m, R233
  | .evtFwq => ⟨.hub, 0x3801400, 1, 0x8⟩ -- EVT_FWQ, R233
  | .evtFwqCtl => ⟨.hub, 0x3801408, 1, 0x8⟩ -- EVT_FWQ_CTL, R233
  | .evtVec => ⟨.hub, 0x3802000, 2048, 0x8⟩ -- EVT_VEC_v, R233
  | .evtCntSelH => ⟨.hub, 0x3806000, 16, 0x8⟩ -- EVT_CNT_SEL_n, R233
  | .evtCntH => ⟨.hub, 0x3806080, 16, 0x8⟩ -- EVT_CNT_n, R233
  | .sprSwapCtl => ⟨.hub, 0x3C00000, 1, 0x8⟩ -- SPR_SWAP_CTL, R373
  | .sprSwapStat => ⟨.hub, 0x3C00008, 1, 0x8⟩ -- SPR_SWAP_STAT, R373
  | .sprRowCtl => ⟨.hub, 0x3C00010, 1, 0x8⟩ -- SPR_ROW_CTL, R376
  | .sprAgeThr => ⟨.hub, 0x3C00018, 1, 0x8⟩ -- SPR_AGE_THR, R376
  | .sprSwapCnt => ⟨.hub, 0x3C00020, 1, 0x8⟩ -- SPR_SWAP_CNT, R377
  | .sprGmap => ⟨.hub, 0x3C00100, 48, 0x8⟩ -- SPR_GMAP_n, R374
  | .sprAge => ⟨.hub, 0x3C01000, 624, 0x8⟩ -- SPR_AGE_n, R376
  | .fabCtl => ⟨.hub, 0x2000000, 1, 0x8⟩ -- FAB_CTL, R405
  | .fabViolLimit => ⟨.hub, 0x2000008, 1, 0x8⟩ -- FAB_VIOL_LIMIT, R406
  | .fabViolLast => ⟨.hub, 0x2000010, 1, 0x8⟩ -- FAB_VIOL_LAST, R406
  | .fabViolHdr => ⟨.hub, 0x2000018, 2, 0x8⟩ -- FAB_VIOL_HDR_n, R406
  | .fabViolCnt => ⟨.hub, 0x2000100, 1, 0x8⟩ -- FAB_VIOL_CNT, R409
  | .fabUnmappedCnt => ⟨.hub, 0x2000108, 1, 0x8⟩ -- FAB_UNMAPPED_CNT, R409
  | .fabCrcCnt => ⟨.hub, 0x2000110, 1, 0x8⟩ -- FAB_CRC_CNT, R409
  | .fabLateCnt => ⟨.hub, 0x2000118, 1, 0x8⟩ -- FAB_LATE_CNT, R409
  | .fabTimeoutCnt => ⟨.hub, 0x2000120, 1, 0x8⟩ -- FAB_TIMEOUT_CNT, R409
  | .fabTransitCnt => ⟨.hub, 0x2000128, 1, 0x8⟩ -- FAB_TRANSIT_CNT, R409
  | .fabMsgDropCnt => ⟨.hub, 0x2000130, 1, 0x8⟩ -- FAB_MSG_DROP_CNT, R409
  | .fabEp => ⟨.hub, 0x2008000, 4096, 0x8⟩ -- FAB_EP_n, R407
  | .fabVl => ⟨.hub, 0x2010000, 2048, 0x8⟩ -- FAB_VL_n, R408
  | .lnkCtl => ⟨.hub, 0x2400000, 8, 0x100⟩ -- LNK_CTL_p, R431
  | .lnkStat => ⟨.hub, 0x2400008, 8, 0x100⟩ -- LNK_STAT_p, R432
  | .lnkFi => ⟨.hub, 0x2400010, 8, 0x100⟩ -- LNK_FI_p, R433
  | .lnkFiPat => ⟨.hub, 0x2400018, 8, 0x100⟩ -- LNK_FI_PAT_p, R433
  | .lnkReplayCnt => ⟨.hub, 0x2400040, 8, 0x100⟩ -- LNK_REPLAY_CNT_p, R435
  | .lnkCrcCnt => ⟨.hub, 0x2400048, 8, 0x100⟩ -- LNK_CRC_CNT_p, R435
  | .lnkFecCeCnt => ⟨.hub, 0x2400050, 8, 0x100⟩ -- LNK_FEC_CE_CNT_p, R435
  | .lnkFecUeCnt => ⟨.hub, 0x2400058, 8, 0x100⟩ -- LNK_FEC_UE_CNT_p, R435
  | .lnkRetrainCnt => ⟨.hub, 0x2400060, 8, 0x100⟩ -- LNK_RETRAIN_CNT_p, R435
  | .lnkFiCnt => ⟨.hub, 0x2400068, 8, 0x100⟩ -- LNK_FI_CNT_p, R435
  | .lnkLane => ⟨.hub, 0x2401000, 40, 0x8⟩ -- LNK_LANE_n, R434
  | .lnkTiming => ⟨.hub, 0x2402000, 1, 0x8⟩ -- LNK_TIMING, R434
  | .d2dCtl => ⟨.hub, 0x2600000, 12, 0x100⟩ -- D2D_CTL_m, R431
  | .d2dStat => ⟨.hub, 0x2600008, 12, 0x100⟩ -- D2D_STAT_m, R432
  | .d2dFi => ⟨.hub, 0x2600010, 12, 0x100⟩ -- D2D_FI_m, R433
  | .d2dFiPat => ⟨.hub, 0x2600018, 12, 0x100⟩ -- D2D_FI_PAT_m, R433
  | .d2dReplayCnt => ⟨.hub, 0x2600040, 12, 0x100⟩ -- D2D_REPLAY_CNT_m, R435
  | .d2dCrcCnt => ⟨.hub, 0x2600048, 12, 0x100⟩ -- D2D_CRC_CNT_m, R435
  | .d2dRetrainCnt => ⟨.hub, 0x2600050, 12, 0x100⟩ -- D2D_RETRAIN_CNT_m, R435
  | .d2dFiCnt => ⟨.hub, 0x2600058, 12, 0x100⟩ -- D2D_FI_CNT_m, R435
  | .d2dLane => ⟨.hub, 0x2602000, 816, 0x8⟩ -- D2D_LANE_n, R434
  | .tbsSyncCtl => ⟨.hub, 0x3400000, 1, 0x8⟩ -- TBS_SYNC_CTL, R455
  | .tbsAdj => ⟨.hub, 0x3400008, 1, 0x8⟩ -- TBS_ADJ, R455
  | .tbsTxTs => ⟨.hub, 0x3400100, 8, 0x10⟩ -- TBS_TX_TS_p, R456
  | .tbsRxTs => ⟨.hub, 0x3400108, 8, 0x10⟩ -- TBS_RX_TS_p, R456
  | .tbsNow => ⟨.hub, 0x3400200, 1, 0x8⟩ -- TBS_NOW, R562
  | .tbsPpsCtl => ⟨.hub, 0x3400300, 1, 0x8⟩ -- TBS_PPS_CTL, R600
  | .tbsPpsTs => ⟨.hub, 0x3400308, 1, 0x8⟩ -- TBS_PPS_TS, R600
  | .tbsPpsErr => ⟨.hub, 0x3400310, 1, 0x8⟩ -- TBS_PPS_ERR, R600
  | .mbxHdr => ⟨.hub, 0x1000000, 256, 0x1000⟩ -- MBX_HDR, R519
  | .mbxCmdBase => ⟨.hub, 0x1000008, 256, 0x1000⟩ -- MBX_CMD_BASE, R520
  | .mbxRspBase => ⟨.hub, 0x1000010, 256, 0x1000⟩ -- MBX_RSP_BASE, R520
  | .mbxCtl => ⟨.hub, 0x1000018, 256, 0x1000⟩ -- MBX_CTL, R519
  | .mbxCmdDb => ⟨.hub, 0x1000020, 256, 0x1000⟩ -- MBX_CMD_DB, R520
  | .mbxRspDb => ⟨.hub, 0x1000028, 256, 0x1000⟩ -- MBX_RSP_DB, R520
  | .mbxStat => ⟨.hub, 0x1000030, 256, 0x1000⟩ -- MBX_STAT, R520
  | .mbxCmdCnt => ⟨.hub, 0x1100000, 1, 0x8⟩ -- MBX_CMD_CNT, R522
  | .mbxErrCnt => ⟨.hub, 0x1100008, 1, 0x8⟩ -- MBX_ERR_CNT, R522
  | .mbxTimeoutCnt => ⟨.hub, 0x1100010, 1, 0x8⟩ -- MBX_TIMEOUT_CNT, R522
  | .pciLinkStat => ⟨.hub, 0x1400000, 1, 0x8⟩ -- PCI_LINK_STAT, R521
  | .pciMsixDropCnt => ⟨.hub, 0x1400008, 1, 0x8⟩ -- PCI_MSIX_DROP_CNT, R522
  | .secStatus => ⟨.hub, 0x2800000, 1, 0x8⟩ -- SEC_STATUS, R543
  | .secAttCnt => ⟨.hub, 0x2800008, 1, 0x8⟩ -- SEC_ATT_CNT, R543
  | .secExtCtl => ⟨.hub, 0x2800010, 1, 0x8⟩ -- SEC_EXT_CTL, R543
  | .secExtData => ⟨.hub, 0x2800020, 4, 0x8⟩ -- SEC_EXT_DATA_n, R534
  | .secMeas => ⟨.hub, 0x2800100, 32, 0x8⟩ -- SEC_MEAS_n, R534
  | .rstCtl => ⟨.hub, 0x2C00000, 1, 0x8⟩ -- RST_CTL, R561
  | .rstGrove => ⟨.hub, 0x2C00008, 1, 0x8⟩ -- RST_GROVE, R561
  | .rstCause => ⟨.hub, 0x2C00010, 1, 0x8⟩ -- RST_CAUSE, R561
  | .rstTileCnt => ⟨.hub, 0x2C00018, 1, 0x8⟩ -- RST_TILE_CNT, R561
  | .rstCfgJrnl => ⟨.hub, 0x2C00800, 1, 0x8⟩ -- RST_CFG_JRNL, R497
  | .pwrRailStat => ⟨.hub, 0x3000000, 1, 0x8⟩ -- PWR_RAIL_STAT, R561
  | .pwrAvs => ⟨.hub, 0x3000008, 1, 0x8⟩ -- PWR_AVS, R561
  | .pwrWake => ⟨.hub, 0x3000010, 1, 0x8⟩ -- PWR_WAKE, R561
  | .pwrTile => ⟨.hub, 0x3000100, 4, 0x8⟩ -- PWR_TILE_t, R561
  | .clkStat => ⟨.hub, 0x3100000, 1, 0x8⟩ -- CLK_STAT, R562
  | .clkTile => ⟨.hub, 0x3100100, 4, 0x8⟩ -- CLK_TILE_t, R562
  | .wdgFwCtl => ⟨.hub, 0x3200000, 1, 0x8⟩ -- WDG_FW_CTL, R562
  | .wdgFwSvc => ⟨.hub, 0x3200008, 1, 0x8⟩ -- WDG_FW_SVC, R562
  | .wdgDevCtl => ⟨.hub, 0x3200010, 1, 0x8⟩ -- WDG_DEV_CTL, R562
  | .wdgDevSvc => ⟨.hub, 0x3200018, 1, 0x8⟩ -- WDG_DEV_SVC, R562
  | .wdgStat => ⟨.hub, 0x3200020, 1, 0x8⟩ -- WDG_STAT, R562
  | .dbgLevel => ⟨.hub, 0x3A00000, 1, 0x8⟩ -- DBG_LEVEL, R584
  | .dbgCtl => ⟨.hub, 0x3A00008, 1, 0x8⟩ -- DBG_CTL, R584
  | .dbgWdgFreeze => ⟨.hub, 0x3A00010, 1, 0x8⟩ -- DBG_WDG_FREEZE, R584
  | .dbgHaltCmd => ⟨.hub, 0x3A00018, 1, 0x8⟩ -- DBG_HALT_CMD, R584
  | .dbgCoreStat => ⟨.hub, 0x3A00020, 1, 0x8⟩ -- DBG_CORE_STAT, R584
  | .dbgHalted => ⟨.hub, 0x3A00100, 12, 0x8⟩ -- DBG_HALTED_n, R584
  | .dbgCmp => ⟨.hub, 0x3A00200, 8, 0x20⟩ -- DBG_CMP_n, R585
  | .dbgCmpAddr => ⟨.hub, 0x3A00208, 8, 0x20⟩ -- DBG_CMP_ADDR_n, R585
  | .dbgCmpAmask => ⟨.hub, 0x3A00210, 8, 0x20⟩ -- DBG_CMP_AMASK_n, R585
  | .dbgCmpData => ⟨.hub, 0x3A00218, 8, 0x20⟩ -- DBG_CMP_DATA_n, R585
  | .dbgCoreReg => ⟨.hub, 0x3A00400, 32, 0x8⟩ -- DBG_CORE_REG_n, R584
  | .prbSel => ⟨.hub, 0x3B00000, 16, 0x8⟩ -- PRB_SEL_n, R586
  | .uioIn => ⟨.hub, 0x3E00000, 1, 0x8⟩ -- UIO_IN, R600
  | .uioOut => ⟨.hub, 0x3E00008, 1, 0x8⟩ -- UIO_OUT, R600
  | .uioOutSet => ⟨.hub, 0x3E00010, 1, 0x8⟩ -- UIO_OUT_SET, R600
  | .uioOutClr => ⟨.hub, 0x3E00018, 1, 0x8⟩ -- UIO_OUT_CLR, R600
  | .uioOe => ⟨.hub, 0x3E00020, 1, 0x8⟩ -- UIO_OE, R600
  | .uioCfg => ⟨.hub, 0x3E00100, 48, 0x8⟩ -- UIO_CFG_n, R600
  | .uioTrigAt => ⟨.hub, 0x3E00200, 8, 0x8⟩ -- UIO_TRIG_AT_k, R600
  | .uioTrigTs => ⟨.hub, 0x3E00300, 8, 0x8⟩ -- UIO_TRIG_TS_k, R600

/-- Every register. -/
def Reg.all : List Reg :=
  List.flatten [
    [.seqCellMap, .seqCellChkCnt, .seqCellLast, .seqRouteCnt, .seqRouteLast, .seqStatus, .seqWinCtl, .seqTrapCnt, .seqTrapLast, .seqSpillCnt, .seqMwrErrCnt, .seqMwrLast],
    [.seqMwrAddr, .seqSlot, .seqBankMap, .seqAccCtl, .evtSrcG, .spmPwr, .spmScrub, .spmCeCnt, .spmUeCnt, .spmCollideCnt, .spmPoisonCnt, .spmEccLast],
    [.schCtl, .schTick, .schNow, .schPost, .schCancel, .schCancelLast, .schFree, .schLoadCtl, .schHistCtl, .schIntegCtl, .schDepth, .schXrange],
    [.schHist, .schDispatchCnt, .schDroppedReadyCnt, .schCancelCnt, .schPostLostCnt, .schLockOvfCnt, .schAbortCnt, .schReplayCnt, .schPhCnt, .schErrRange, .schErrDflt, .schErrTgt],
    [.schTpl, .schGrove, .schLock, .queCfg, .queTgt, .queSpill, .queStatus, .queCtl, .quePop, .queLevel, .quePool, .queGd7],
    [.queStallLimit, .quePoolFree, .queStallMap, .queFullMap, .quePoisonCnt, .queFlushDrop, .queRefusedCnt, .queGladeCnt, .queCvFailCnt, .queGd7SpillCnt, .ctxBackBase, .ctxSaveBase],
    [.ctxPageCtl, .ctxHitCnt, .ctxMissCnt, .ctxFaultLast, .cfgStatus, .cfgIcpCtl, .cfgIcpCmd, .cfgIcpCnt, .cfgIcpRejCnt, .cfgIcpStat, .cfgCnpSrc, .cfgCnpLock],
    [.cfgCnpUpsetCnt, .rgrCtl, .rgrStat, .rgrLast, .rgrRewriteCnt, .rgrCeCnt, .rgrGoldErrCnt, .rgrEss, .rgrGoldCnp, .tmbCtl, .tmbPwr, .tmbPwrSt],
    [.tmbScrub, .tmbCeCnt, .tmbUeCnt, .tmbPoisonCnt, .tmbEccLast, .gd7Ctl, .gd7TrainCtl, .gd7Scrub, .gd7ChStat, .gd7CeCnt, .gd7UeCnt, .gd7CrcCnt],
    [.gd7OdeCnt, .gd7RetrainCnt, .gd7EccLast, .evtSrcT, .evtCntSelT, .evtCntT, .evtSrcH, .evtPendSum, .evtFwq, .evtFwqCtl, .evtVec, .evtCntSelH],
    [.evtCntH, .sprSwapCtl, .sprSwapStat, .sprRowCtl, .sprAgeThr, .sprSwapCnt, .sprGmap, .sprAge, .fabCtl, .fabViolLimit, .fabViolLast, .fabViolHdr],
    [.fabViolCnt, .fabUnmappedCnt, .fabCrcCnt, .fabLateCnt, .fabTimeoutCnt, .fabTransitCnt, .fabMsgDropCnt, .fabEp, .fabVl, .lnkCtl, .lnkStat, .lnkFi],
    [.lnkFiPat, .lnkReplayCnt, .lnkCrcCnt, .lnkFecCeCnt, .lnkFecUeCnt, .lnkRetrainCnt, .lnkFiCnt, .lnkLane, .lnkTiming, .d2dCtl, .d2dStat, .d2dFi],
    [.d2dFiPat, .d2dReplayCnt, .d2dCrcCnt, .d2dRetrainCnt, .d2dFiCnt, .d2dLane, .tbsSyncCtl, .tbsAdj, .tbsTxTs, .tbsRxTs, .tbsNow, .tbsPpsCtl],
    [.tbsPpsTs, .tbsPpsErr, .mbxHdr, .mbxCmdBase, .mbxRspBase, .mbxCtl, .mbxCmdDb, .mbxRspDb, .mbxStat, .mbxCmdCnt, .mbxErrCnt, .mbxTimeoutCnt],
    [.pciLinkStat, .pciMsixDropCnt, .secStatus, .secAttCnt, .secExtCtl, .secExtData, .secMeas, .rstCtl, .rstGrove, .rstCause, .rstTileCnt, .rstCfgJrnl],
    [.pwrRailStat, .pwrAvs, .pwrWake, .pwrTile, .clkStat, .clkTile, .wdgFwCtl, .wdgFwSvc, .wdgDevCtl, .wdgDevSvc, .wdgStat, .dbgLevel],
    [.dbgCtl, .dbgWdgFreeze, .dbgHaltCmd, .dbgCoreStat, .dbgHalted, .dbgCmp, .dbgCmpAddr, .dbgCmpAmask, .dbgCmpData, .dbgCoreReg, .prbSel, .uioIn],
    [.uioOut, .uioOutSet, .uioOutClr, .uioOe, .uioCfg, .uioTrigAt, .uioTrigTs]]

/-- The lock of a register's RWL fields: the register and the bit that hold it (R8). -/
def Reg.lock : Reg → Option (Reg × Nat)
  | .ctxBackBase => some (.ctxBackBase, 0)
  | .ctxSaveBase => some (.ctxSaveBase, 0)
  | .cfgIcpCtl => some (.cfgIcpCtl, 0)
  | .tmbCtl => some (.tmbCtl, 0)
  | .quePool => some (.quePool, 0)
  | .queGd7 => some (.queGd7, 0)
  | .schXrange => some (.schCtl, 16)
  | .cfgCnpSrc => some (.cfgCnpLock, 0)
  | .fabCtl => some (.fabCtl, 63)
  | .wdgFwCtl => some (.wdgFwCtl, 63)
  | .wdgDevCtl => some (.wdgDevCtl, 63)
  | .dbgLevel => some (.dbgLevel, 63)
  | _ => none

/-- The fields of each register (its field table). -/
def Reg.fields : Reg → List RField
  | .seqCellMap => [fieldX 12 3 .rw .warm 7 [5, 6], fieldX 8 3 .rw .warm 7 [5, 6], fieldX 4 3 .rw .warm 7 [5, 6],
      fieldX 0 3 .rw .warm 7 [5, 6]]
  | .seqCellChkCnt => [field 48 1 .w1c .grove, field 0 48 .rc .grove]
  | .seqCellLast => [field 63 1 .w1c .grove, field 60 3 .ro .grove, field 57 3 .ro .grove, field 50 7 .ro .grove, field 48 2 .ro .grove,
      field 43 5 .ro .grove, field 39 4 .ro .grove, field 36 3 .ro .grove, field 33 3 .ro .grove, field 0 32 .ro .grove]
  | .seqRouteCnt => [field 48 1 .w1c .grove, field 0 48 .rc .grove]
  | .seqRouteLast => [field 63 1 .w1c .grove, field 60 3 .ro .grove, field 58 2 .ro .grove, field 51 7 .ro .grove, field 45 6 .ro .grove,
      field 38 7 .ro .grove]
  | .seqStatus => [field 33 31 .ro .grove, field 25 8 .ro .grove, field 19 6 .ro .grove, field 10 9 .ro .grove, field 5 5 .ro .grove,
      field 2 3 .ro .grove, field 0 2 .ro .grove]
  | .seqWinCtl => [fieldR 3 1 .rw .grove 1, fieldM 0 3 .rw .grove 1 1 4]
  | .seqTrapCnt => [field 48 1 .w1c .grove, field 0 48 .rc .grove]
  | .seqTrapLast => [field 63 1 .w1c .grove, field 60 3 .ro .grove, field 56 4 .ro .grove, field 51 5 .ro .grove, field 42 9 .ro .grove,
      field 26 16 .ro .grove, field 0 26 .ro .grove]
  | .seqSpillCnt => [field 48 1 .w1c .grove, field 0 48 .rc .grove]
  | .seqMwrErrCnt => [field 48 1 .w1c .grove, field 0 48 .rc .grove]
  | .seqMwrLast => [field 63 1 .w1c .grove, field 62 1 .ro .grove, field 56 4 .ro .grove, field 50 6 .ro .grove, field 16 16 .ro .grove]
  | .seqMwrAddr => [field 2 46 .ro .grove]
  | .seqSlot => [field 63 1 .ro .grove, field 62 1 .ro .grove, field 59 3 .ro .grove, field 58 1 .ro .grove, field 57 1 .ro .grove,
      field 54 3 .ro .grove, field 40 8 .ro .grove, field 16 16 .ro .grove, field 0 16 .ro .grove]
  | .seqBankMap => [field 0 40 .ro .grove]
  | .seqAccCtl => [field 1 1 .ro .grove, field 0 1 .wo .grove]
  | .evtSrcG => [field 63 1 .w1c .grove, field 62 1 .w1c .grove, field 61 1 .ro .grove, field 60 1 .rw .tile, field 59 1 .rw .tile,
      field 48 11 .rw .tile, field 47 1 .rw .tile, field 46 1 .rw .tile, field 44 2 .rw .tile, field 36 8 .rw .tile,
      field 0 32 .ro .grove]
  | .spmPwr => [fieldM 35 5 .rw .grove 16 8 24, field 33 1 .rw .grove, field 32 1 .ro .grove, field 16 16 .ro .grove,
      field 0 16 .rw .grove]
  | .spmScrub => [field 32 16 .ro .grove, fieldR 16 1 .rw .grove 1, fieldM 0 16 .rw .grove 256 16 65535]
  | .spmCeCnt => [field 48 1 .w1c .grove, field 0 48 .rc .grove]
  | .spmUeCnt => [field 48 1 .w1c .grove, field 0 48 .rc .grove]
  | .spmCollideCnt => [field 48 1 .w1c .grove, field 0 48 .rc .grove]
  | .spmPoisonCnt => [field 48 1 .w1c .grove, field 0 48 .rc .grove]
  | .spmEccLast => [field 63 1 .w1c .grove, field 62 1 .ro .grove, field 60 2 .ro .grove, field 53 3 .ro .grove, field 42 11 .ro .grove,
      field 34 8 .ro .grove]
  | .schCtl => [field 16 1 .w1s .tile, fieldR 8 8 .rw .tile 64, field 0 1 .rw .tile]
  | .schTick => [fieldM 0 20 .rw .tile 1000 20 1000000]
  | .schNow => [field 0 32 .ro .tile]
  | .schPost => [field 24 8 .wo .tile, field 0 24 .wo .tile]
  | .schCancel => [field 62 2 .wo .tile, field 0 24 .wo .tile]
  | .schCancelLast => [field 63 1 .ro .tile, field 61 2 .ro .tile, field 0 13 .ro .tile]
  | .schFree => [field 48 13 .ro .tile, field 32 13 .ro .tile, field 16 13 .ro .tile, fieldR 0 13 .ro .tile 4096]
  | .schLoadCtl => [fieldM 0 5 .rw .tile 20 10 24]
  | .schHistCtl => [field 8 8 .w1c .tile, field 0 8 .wo .tile]
  | .schIntegCtl => [field 0 1 .rw .tile]
  | .schDepth => [field 16 13 .ro .tile, field 0 13 .ro .tile]
  | .schXrange => [field 63 1 .rwl .tile, field 24 24 .rwl .tile, field 0 24 .rwl .tile]
  | .schHist => [field 32 32 .ro .tile, field 0 32 .ro .tile]
  | .schDispatchCnt => [field 48 1 .w1c .tile, field 0 48 .rc .tile]
  | .schDroppedReadyCnt => [field 48 1 .w1c .tile, field 0 48 .rc .tile]
  | .schCancelCnt => [field 48 1 .w1c .tile, field 0 48 .rc .tile]
  | .schPostLostCnt => [field 48 1 .w1c .tile, field 0 48 .rc .tile]
  | .schLockOvfCnt => [field 48 1 .w1c .tile, field 0 48 .rc .tile]
  | .schAbortCnt => [field 48 1 .w1c .tile, field 0 48 .rc .tile]
  | .schReplayCnt => [field 48 1 .w1c .tile, field 0 48 .rc .tile]
  | .schPhCnt => [field 48 1 .w1c .tile, field 0 48 .rc .tile]
  | .schErrRange => [field 63 1 .rw .tile, field 24 24 .rw .tile, field 0 24 .rw .tile]
  | .schErrDflt => [field 28 1 .rw .tile, field 16 12 .rw .tile, field 0 12 .rw .tile]
  | .schErrTgt => [field 28 1 .rw .tile, field 16 12 .rw .tile, field 0 12 .rw .tile]
  | .schTpl => [field 63 1 .rw .tile, field 60 3 .rw .tile, field 59 1 .rw .tile, field 54 5 .rw .tile, field 40 14 .rw .tile,
      field 24 16 .rw .tile, field 0 24 .rw .tile]
  | .schGrove => [field 63 1 .rw .tile, field 62 1 .w1c .tile, field 61 1 .ro .tile, field 60 1 .ro .tile, field 58 2 .ro .tile,
      field 16 16 .ro .tile, field 0 16 .ro .tile]
  | .schLock => [field 63 1 .ro .tile, field 62 1 .ro .tile, field 61 1 .ro .tile, field 60 1 .ro .tile, field 48 12 .ro .tile,
      field 36 12 .ro .tile, field 0 24 .ro .tile]
  | .queCfg => [field 63 1 .rw .tile, field 61 2 .rw .tile, field 53 8 .rw .tile, field 51 2 .rw .tile, field 50 1 .rw .tile,
      field 49 1 .rw .tile, field 48 1 .rw .tile, field 47 1 .rw .tile, field 46 1 .rw .tile, field 24 17 .rw .tile,
      field 0 24 .rw .tile]
  | .queTgt => [field 48 16 .rw .tile, field 43 5 .rw .tile, field 40 3 .rw .tile, field 38 2 .rw .tile, field 35 3 .rw .tile,
      field 27 8 .rw .tile, field 26 1 .rw .tile, field 14 12 .rw .tile, field 0 14 .rw .tile]
  | .queSpill => [field 28 22 .rw .tile, field 8 18 .rw .tile]
  | .queStatus => [field 63 1 .ro .tile, field 62 1 .ro .tile, field 61 1 .ro .tile, field 60 1 .ro .tile, field 59 1 .ro .tile,
      fieldR 58 1 .ro .tile 1, field 42 16 .ro .tile, field 25 17 .ro .tile]
  | .queCtl => [field 16 16 .ro .tile, field 2 1 .wo .tile, field 1 1 .wo .tile, field 0 1 .wo .tile]
  | .quePop => [field 40 24 .rc .tile, field 39 1 .rc .tile, field 38 1 .rc .tile, field 37 1 .rc .tile, field 35 2 .rc .tile,
      field 32 3 .rc .tile, field 0 32 .rc .tile]
  | .queLevel => [field 32 27 .ro .tile, field 0 27 .ro .tile]
  | .quePool => [fieldM 32 9 .rwl .tile 0 0 256, field 16 9 .rwl .tile, field 0 1 .w1s .tile]
  | .queGd7 => [fieldM 36 14 .rwl .tile 0 0 8192, field 8 28 .rwl .tile, field 0 1 .w1s .tile]
  | .queStallLimit => [fieldM 0 20 .rw .tile 100 1 1000000]
  | .quePoolFree => [fieldR 47 17 .ro .tile 65536, field 19 28 .ro .tile, field 0 19 .ro .tile]
  | .queStallMap => [field 0 64 .ro .tile]
  | .queFullMap => [field 0 64 .ro .tile]
  | .quePoisonCnt => [field 48 1 .w1c .tile, field 0 48 .rc .tile]
  | .queFlushDrop => [field 48 1 .w1c .tile, field 0 48 .rc .tile]
  | .queRefusedCnt => [field 48 1 .w1c .tile, field 0 48 .rc .tile]
  | .queGladeCnt => [field 48 1 .w1c .tile, field 0 48 .rc .tile]
  | .queCvFailCnt => [field 48 1 .w1c .tile, field 0 48 .rc .tile]
  | .queGd7SpillCnt => [field 48 1 .w1c .tile, field 0 48 .rc .tile]
  | .ctxBackBase => [field 25 23 .rwl .tile, field 0 1 .w1s .tile]
  | .ctxSaveBase => [field 12 13 .rwl .tile, field 0 1 .w1s .tile]
  | .ctxPageCtl => [fieldM 8 8 .rw .tile 32 1 144, fieldR 1 1 .rw .tile 1, fieldR 0 1 .rw .tile 1]
  | .ctxHitCnt => [field 48 1 .w1c .tile, field 0 48 .rc .tile]
  | .ctxMissCnt => [field 48 1 .w1c .tile, field 0 48 .rc .tile]
  | .ctxFaultLast => [field 63 1 .w1c .tile, field 60 3 .ro .tile, field 59 1 .ro .tile, field 58 1 .ro .tile, field 50 8 .ro .tile,
      field 47 3 .ro .tile, field 0 16 .ro .tile]
  | .cfgStatus => [field 61 3 .ro .tile, field 32 16 .ro .tile, field 0 32 .ro .tile]
  | .cfgIcpCtl => [field 12 13 .rwl .tile, field 1 1 .rw .tile, field 0 1 .w1s .tile]
  | .cfgIcpCmd => [field 0 32 .wo .tile]
  | .cfgIcpCnt => [field 48 1 .w1c .tile, field 0 48 .rc .tile]
  | .cfgIcpRejCnt => [field 48 1 .w1c .tile, field 0 48 .rc .tile]
  | .cfgIcpStat => [field 61 3 .ro .tile, field 59 2 .ro .tile, field 32 16 .ro .tile, field 16 16 .ro .tile, field 0 16 .ro .tile]
  | .cfgCnpSrc => [field 63 1 .rwl .tile, field 62 1 .w1c .tile, field 16 8 .rwl .tile, field 8 8 .rwl .tile, field 0 1 .rwl .tile]
  | .cfgCnpLock => [field 0 1 .w1s .tile]
  | .cfgCnpUpsetCnt => [field 48 1 .w1c .tile, field 0 48 .rc .tile]
  | .rgrCtl => [field 63 1 .wo .tile, field 16 1 .rw .tile, fieldM 0 16 .rw .tile 1024 16 65535]
  | .rgrStat => [field 62 2 .ro .tile, field 60 2 .ro .tile, field 32 16 .ro .tile, field 13 3 .ro .tile, field 0 13 .ro .tile]
  | .rgrLast => [field 63 1 .w1c .tile, field 60 3 .ro .tile, field 59 1 .ro .tile, field 51 8 .ro .tile, field 48 3 .ro .tile,
      field 42 6 .ro .tile, field 30 12 .ro .tile, field 0 16 .ro .tile]
  | .rgrRewriteCnt => [field 48 1 .w1c .tile, field 0 48 .rc .tile]
  | .rgrCeCnt => [field 48 1 .w1c .tile, field 0 48 .rc .tile]
  | .rgrGoldErrCnt => [field 48 1 .w1c .tile, field 0 48 .rc .tile]
  | .rgrEss => [field 0 64 .ro .tile]
  | .rgrGoldCnp => [field 0 64 .ro .tile]
  | .tmbCtl => [fieldM 9 5 .rw .tile 16 8 24, field 8 1 .rw .tile, field 1 1 .rwl .tile, field 0 1 .w1s .tile]
  | .tmbPwr => [field 0 64 .rw .tile]
  | .tmbPwrSt => [field 0 64 .ro .tile]
  | .tmbScrub => [field 32 16 .ro .tile, fieldR 16 1 .rw .tile 1, fieldM 0 16 .rw .tile 16 16 65535]
  | .tmbCeCnt => [field 48 1 .w1c .tile, field 0 48 .rc .tile]
  | .tmbUeCnt => [field 48 1 .w1c .tile, field 0 48 .rc .tile]
  | .tmbPoisonCnt => [field 48 1 .w1c .tile, field 0 48 .rc .tile]
  | .tmbEccLast => [field 63 1 .w1c .tile, field 62 1 .ro .tile, field 60 2 .ro .tile, field 54 6 .ro .tile, field 38 16 .ro .tile,
      field 30 8 .ro .tile]
  | .gd7Ctl => [fieldM 10 5 .rw .tile 12 8 20, fieldR 9 1 .rw .tile 1, fieldR 8 1 .rw .tile 1, fieldM 0 6 .rw .tile 28 28 36]
  | .gd7TrainCtl => [fieldR 24 8 .rw .tile 16, fieldR 16 8 .rw .tile 10, field 0 8 .wo .tile]
  | .gd7Scrub => [field 32 16 .ro .tile, fieldR 16 1 .rw .tile 1, fieldM 0 16 .rw .tile 1024 16 65535]
  | .gd7ChStat => [field 61 3 .ro .tile, field 59 2 .ro .tile, field 52 7 .ro .tile, field 32 10 .ro .tile]
  | .gd7CeCnt => [field 48 1 .w1c .tile, field 0 48 .rc .tile]
  | .gd7UeCnt => [field 48 1 .w1c .tile, field 0 48 .rc .tile]
  | .gd7CrcCnt => [field 48 1 .w1c .tile, field 0 48 .rc .tile]
  | .gd7OdeCnt => [field 48 1 .w1c .tile, field 0 48 .rc .tile]
  | .gd7RetrainCnt => [field 48 1 .w1c .tile, field 0 48 .rc .tile]
  | .gd7EccLast => [field 63 1 .w1c .tile, field 62 1 .ro .tile, field 60 2 .ro .tile, field 57 3 .ro .tile, field 37 20 .ro .tile,
      field 33 4 .ro .tile, field 26 7 .ro .tile]
  | .evtSrcT => [field 63 1 .w1c .tile, field 62 1 .w1c .tile, field 61 1 .ro .tile, field 60 1 .rw .tile, field 59 1 .rw .tile,
      field 48 11 .rw .tile, field 47 1 .rw .tile, field 46 1 .rw .tile, field 44 2 .rw .tile, field 36 8 .rw .tile,
      field 0 32 .ro .tile]
  | .evtCntSelT => [field 63 1 .rw .tile, field 0 13 .rw .tile]
  | .evtCntT => [field 48 1 .w1c .tile, field 0 48 .rc .tile]
  | .evtSrcH => [field 63 1 .w1c .hub, field 62 1 .w1c .hub, field 61 1 .ro .hub, field 60 1 .rw .hub, field 59 1 .rw .hub,
      field 48 11 .rw .hub, field 47 1 .rw .hub, field 46 1 .rw .hub, field 44 2 .rw .hub, field 36 8 .rw .hub,
      field 0 32 .ro .hub]
  | .evtPendSum => [field 0 64 .ro .hub]
  | .evtFwq => [field 63 1 .rc .hub, field 32 13 .rc .hub, field 0 32 .rc .hub]
  | .evtFwqCtl => [field 32 9 .ro .hub, field 16 16 .rw .hub, fieldM 8 8 .rw .hub 1 1 255]
  | .evtVec => [field 16 16 .rw .hub, fieldM 8 8 .rw .hub 1 1 255, field 0 8 .ro .hub]
  | .evtCntSelH => [field 63 1 .rw .hub, field 0 13 .rw .hub]
  | .evtCntH => [field 48 1 .w1c .hub, field 0 48 .rc .hub]
  | .sprSwapCtl => [field 63 1 .wo .hub, field 62 1 .wo .hub, field 18 2 .wo .hub, field 16 2 .wo .hub, field 8 4 .wo .hub, field 0 4 .wo .hub]
  | .sprSwapStat => [field 63 1 .ro .hub, field 60 3 .ro .hub, field 56 4 .ro .hub]
  | .sprRowCtl => [field 63 1 .wo .hub, field 62 1 .ro .hub, field 58 4 .ro .hub, field 56 2 .rw .hub, field 54 2 .rw .hub,
      field 46 8 .rw .hub, field 40 6 .rw .hub, field 0 16 .rw .hub]
  | .sprAgeThr => [fieldR 0 16 .rw .hub 400]
  | .sprSwapCnt => [field 48 1 .w1c .hub, field 0 48 .rc .hub]
  | .sprGmap => [fieldR 8 4 .rw .warm 15, field 4 2 .rw .warm, field 0 4 .rw .warm]
  | .sprAge => [field 63 1 .w1c .warm, field 0 16 .ro .warm]
  | .fabCtl => [field 63 1 .w1s .warm, field 40 1 .rwl .warm, field 32 6 .rwl .warm, fieldM 0 20 .rw .hub 1000 1 1000000]
  | .fabViolLimit => [fieldR 16 16 .rw .hub 100, fieldM 0 8 .rw .hub 16 1 255]
  | .fabViolLast => [field 63 1 .w1c .hub, field 59 4 .ro .hub, field 55 4 .ro .hub, field 47 8 .ro .hub, field 35 12 .ro .hub]
  | .fabViolHdr => [field 0 64 .ro .hub]
  | .fabViolCnt => [field 48 1 .w1c .hub, field 0 48 .rc .hub]
  | .fabUnmappedCnt => [field 48 1 .w1c .hub, field 0 48 .rc .hub]
  | .fabCrcCnt => [field 48 1 .w1c .hub, field 0 48 .rc .hub]
  | .fabLateCnt => [field 48 1 .w1c .hub, field 0 48 .rc .hub]
  | .fabTimeoutCnt => [field 48 1 .w1c .hub, field 0 48 .rc .hub]
  | .fabTransitCnt => [field 48 1 .w1c .hub, field 0 48 .rc .hub]
  | .fabMsgDropCnt => [field 48 1 .w1c .hub, field 0 48 .rc .hub]
  | .fabEp => [field 63 1 .rw .warm, field 8 3 .rw .warm, field 0 8 .rw .warm]
  | .fabVl => [field 63 1 .rw .warm, field 62 1 .w1c .warm, field 54 8 .ro .warm, field 40 8 .rw .warm, field 28 12 .rw .warm,
      field 7 1 .rw .warm, field 0 7 .rw .warm]
  | .lnkCtl => [field 63 1 .rw .warm, field 62 1 .wo .hub, field 61 1 .wo .hub, field 60 1 .wo .hub, field 57 3 .rw .hub,
      field 56 1 .rw .hub, field 55 1 .rw .warm, fieldR 54 1 .rw .warm 1]
  | .lnkStat => [field 61 3 .ro .hub, field 58 3 .ro .hub, field 55 3 .ro .hub, field 54 1 .ro .hub, field 53 1 .ro .hub,
      field 41 12 .ro .hub, field 30 11 .ro .hub]
  | .lnkFi => [field 63 1 .rw .hub, field 62 1 .wo .hub, field 61 1 .rw .hub, field 59 2 .rw .hub, field 56 3 .rw .hub,
      field 51 4 .rw .hub, field 31 20 .rw .hub, field 22 9 .rw .hub]
  | .lnkFiPat => [field 0 32 .rw .hub]
  | .lnkReplayCnt => [field 48 1 .w1c .hub, field 0 48 .rc .hub]
  | .lnkCrcCnt => [field 48 1 .w1c .hub, field 0 48 .rc .hub]
  | .lnkFecCeCnt => [field 48 1 .w1c .hub, field 0 48 .rc .hub]
  | .lnkFecUeCnt => [field 48 1 .w1c .hub, field 0 48 .rc .hub]
  | .lnkRetrainCnt => [field 48 1 .w1c .hub, field 0 48 .rc .hub]
  | .lnkFiCnt => [field 48 1 .w1c .hub, field 0 48 .rc .hub]
  | .lnkLane => [field 63 1 .w1c .hub, field 32 16 .ro .hub, field 0 32 .ro .hub]
  | .lnkTiming => [fieldM 48 16 .rw .hub 400 10 65535, fieldM 32 16 .rw .hub 200 50 65535, fieldR 16 16 .rw .hub 64, fieldR 0 16 .rw .hub 100]
  | .d2dCtl => [field 63 1 .wo .hub, field 62 1 .wo .hub, field 55 7 .rw .hub, field 54 1 .rw .hub]
  | .d2dStat => [field 61 3 .ro .hub, field 57 4 .ro .hub, field 53 4 .ro .hub, field 16 16 .ro .hub, field 0 16 .ro .hub]
  | .d2dFi => [field 63 1 .rw .hub, field 62 1 .wo .hub, field 61 1 .rw .hub, field 59 2 .rw .hub, field 56 3 .rw .hub,
      field 55 1 .rw .hub, field 51 4 .rw .hub, field 31 20 .rw .hub, field 22 9 .rw .hub]
  | .d2dFiPat => [field 0 32 .rw .hub]
  | .d2dReplayCnt => [field 48 1 .w1c .hub, field 0 48 .rc .hub]
  | .d2dCrcCnt => [field 48 1 .w1c .hub, field 0 48 .rc .hub]
  | .d2dRetrainCnt => [field 48 1 .w1c .hub, field 0 48 .rc .hub]
  | .d2dFiCnt => [field 48 1 .w1c .hub, field 0 48 .rc .hub]
  | .d2dLane => [field 63 1 .w1c .hub, field 32 16 .ro .hub, field 16 16 .ro .hub, field 0 16 .ro .hub]
  | .tbsSyncCtl => [field 0 8 .rw .hub]
  | .tbsAdj => [field 63 1 .wo .hub, field 62 1 .ro .hub, field 0 32 .wo .hub]
  | .tbsTxTs => [field 63 1 .w1c .hub, field 48 8 .ro .hub, field 0 48 .ro .hub]
  | .tbsRxTs => [field 63 1 .w1c .hub, field 48 8 .ro .hub, field 0 48 .ro .hub]
  | .tbsNow => [field 0 64 .ro .por]
  | .tbsPpsCtl => [field 63 1 .rw .hub, field 62 1 .ro .hub]
  | .tbsPpsTs => [field 63 1 .w1c .hub, field 0 48 .ro .hub]
  | .tbsPpsErr => [field 0 32 .ro .hub]
  | .mbxHdr => [field 60 4 .ro .warm, field 56 4 .ro .warm, field 48 8 .ro .warm, field 40 8 .ro .warm, field 35 5 .ro .warm,
      fieldR 34 1 .ro .warm 1, field 0 8 .ro .warm]
  | .mbxCmdBase => [field 12 52 .rw .warm, fieldM 0 4 .rw .warm 4 4 14]
  | .mbxRspBase => [field 12 52 .rw .warm, fieldM 0 4 .rw .warm 4 4 14]
  | .mbxCtl => [field 63 1 .rw .warm, field 62 1 .wo .warm, field 0 11 .rw .warm]
  | .mbxCmdDb => [field 0 32 .wo .warm]
  | .mbxRspDb => [field 0 32 .wo .warm]
  | .mbxStat => [field 32 32 .ro .warm, field 0 32 .ro .warm]
  | .mbxCmdCnt => [field 48 1 .w1c .warm, field 0 48 .rc .warm]
  | .mbxErrCnt => [field 48 1 .w1c .warm, field 0 48 .rc .warm]
  | .mbxTimeoutCnt => [field 48 1 .w1c .warm, field 0 48 .rc .warm]
  | .pciLinkStat => [field 63 1 .ro .warm, field 62 1 .ro .warm, field 59 3 .ro .warm, field 54 5 .ro .warm, field 48 6 .ro .warm]
  | .pciMsixDropCnt => [field 48 1 .w1c .warm, field 0 48 .rc .warm]
  | .secStatus => [field 60 4 .ro .hub, field 56 4 .ro .hub, field 48 8 .ro .hub, field 40 8 .ro .hub, field 39 1 .ro .hub,
      field 36 3 .ro .hub, field 35 1 .ro .hub]
  | .secAttCnt => [field 0 32 .ro .por]
  | .secExtCtl => [field 63 1 .wo .hub, field 0 3 .wo .hub]
  | .secExtData => [field 0 64 .wo .hub]
  | .secMeas => [field 0 64 .ro .hub]
  | .rstCtl => [field 63 1 .wo .warm, field 62 1 .wo .warm, field 0 4 .wo .warm]
  | .rstGrove => [field 63 1 .wo .warm, field 62 1 .ro .warm, field 8 2 .wo .warm, field 0 8 .wo .warm]
  | .rstCause => [field 48 16 .ro .por, field 0 11 .w1c .por]
  | .rstTileCnt => [field 0 64 .ro .por]
  | .rstCfgJrnl => [field 61 3 .rw .por, field 60 1 .rw .por, field 32 16 .rw .por, field 0 32 .rw .por]
  | .pwrRailStat => [field 0 9 .ro .warm]
  | .pwrAvs => [field 63 1 .rw .warm, field 62 1 .ro .warm, fieldM 32 16 .rw .warm 800 650 800, fieldM 16 16 .rw .warm 650 650 800,
      field 0 16 .ro .warm]
  | .pwrWake => [field 63 1 .wo .warm, field 8 2 .wo .warm, field 0 8 .wo .warm]
  | .pwrTile => [field 63 1 .rw .warm, field 58 2 .ro .warm, fieldX 8 5 .rw .warm 0 [1, 2, 3, 4, 5, 6, 7, 8, 9, 31],
      fieldM 0 5 .rw .warm 10 4 20]
  | .clkStat => [field 63 1 .ro .por, field 0 12 .ro .warm]
  | .clkTile => [field 63 1 .ro .warm, fieldM 0 6 .rw .warm 60 20 60]
  | .wdgFwCtl => [field 63 1 .w1s .warm, fieldR 32 16 .rwl .warm 250, fieldM 0 16 .rwl .warm 1000 100 60000]
  | .wdgFwSvc => [field 0 16 .wo .warm]
  | .wdgDevCtl => [field 63 1 .w1s .warm, fieldR 32 16 .rwl .warm 10, fieldM 0 16 .rwl .warm 10 2 600]
  | .wdgDevSvc => [field 0 16 .wo .warm]
  | .wdgStat => [field 63 1 .ro .warm, field 32 16 .ro .warm, field 0 32 .ro .warm]
  | .dbgLevel => [field 63 1 .w1s .warm, fieldM 0 2 .rwl .warm 0 0 2]
  | .dbgCtl => [field 1 1 .rw .warm, field 0 1 .rw .warm]
  | .dbgWdgFreeze => [field 0 1 .rw .warm]
  | .dbgHaltCmd => [field 62 2 .wo .warm, field 60 2 .wo .warm, field 59 1 .wo .warm, field 32 16 .wo .warm, field 8 2 .wo .warm,
      field 0 8 .wo .warm]
  | .dbgCoreStat => [field 63 1 .ro .warm, field 62 1 .ro .warm, field 0 32 .ro .warm]
  | .dbgHalted => [field 0 64 .ro .warm]
  | .dbgCmp => [field 63 1 .rw .warm, field 62 1 .w1c .warm, field 59 3 .rw .warm, field 57 2 .rw .warm, field 56 1 .rw .warm,
      field 52 4 .rw .warm, field 32 16 .rw .warm, field 31 1 .rw .warm, field 16 3 .rw .warm, field 8 8 .rw .warm]
  | .dbgCmpAddr => [field 0 48 .rw .warm]
  | .dbgCmpAmask => [field 0 48 .rw .warm]
  | .dbgCmpData => [field 32 32 .rw .warm, field 0 32 .rw .warm]
  | .dbgCoreReg => [field 0 64 .rw .warm]
  | .prbSel => [field 63 1 .rw .warm, field 62 1 .rw .warm, field 59 3 .rw .warm, field 18 2 .rw .warm, field 10 8 .rw .warm,
      field 0 8 .rw .warm]
  | .uioIn => [field 0 48 .ro .warm]
  | .uioOut => [field 0 48 .rw .warm]
  | .uioOutSet => [field 0 48 .wo .warm]
  | .uioOutClr => [field 0 48 .wo .warm]
  | .uioOe => [field 0 48 .rw .warm]
  | .uioCfg => [field 0 64 .ro .warm]
  | .uioTrigAt => [field 63 1 .rw .warm, field 62 1 .w1c .warm, field 0 48 .rw .warm]
  | .uioTrigTs => [field 63 1 .w1c .warm, field 0 48 .ro .warm]

end Sys2Proof.Machine
end

