-- ==== Sys2Proof/Machine/ArrayTypes.lean ====
section
/-!
DEFINITION. The state of a grove and of a tile as plain data: cells (R41), slots and banks (R154, R160), the sequencer's running task
(R116), queues (R235–R238), descriptors and flow locks (R185, R188).
-/
namespace Sys2Proof.Machine

/-- Sparse data by number: pairs with strictly rising keys; an absent key stands for the reset value of the thing kept. -/
abbrev KMap (α : Type) := List (Nat × α)

/-- One accumulator: 64 bits, the residue of its pattern, the owner tag and the owner-valid bit (R41, R64). -/
structure Accu where
  val : BitVec 64 := 0#64
  res : BitVec 3 := 0#3
  tag : Nat := 0
  ownerValid : Bool := false
  deriving DecidableEq, Repr

/-- One logical cell (R41, R42); `outValid` is the valid qualifier of its OUT source in this cycle (R85). -/
structure Cell where
  out : TWord := 0#35
  outValid : Bool := false
  flags : BitVec 16 := 0#16
  par : BitVec 4 := 0#4
  acc0 : Accu := {}
  acc1 : Accu := {}
  deriving DecidableEq, Repr

/-- What a write to an accumulator does when it takes effect (R49, R51). -/
inductive AccOp where
  | add (s : BitVec 64) (poison : Bool)
  | sub (s : BitVec 64) (poison : Bool)
  | load (v : BitVec 64) (poison : Bool)
  | clear
  deriving DecidableEq, Repr

/-- Port-A accesses of a scratchpad: from cells (LD, ST, FADD, SWAP) and from the sequencer (SLD, SST) (R274). -/
inductive MemKind where
  | ld | st | fadd | swap | sld | sst
  deriving DecidableEq, Repr

/-- A failure found by a cell's checker, as SEQ_CELL_LAST captures it (R79). -/
structure Verdict where
  cell : Nat
  cls : Nat
  opcode : Nat
  lane : Nat
  expected : Nat
  observed : Nat
  data : Word
  deriving DecidableEq, Repr

/-- What happens when a fired operation's cycle comes: OUT under a lane mask with flags and write-back, an accumulator write, a
scratchpad access, the landing of an SLD word, or a register k written by SETK. -/
inductive Flight where
  | out (w : TWord) (mask : BitVec 32) (wb : Option Nat) (fl flMask : BitVec 16)
  | acc (sel : Bool) (op : AccOp) (sgn flagEn : Bool) (bad : BitVec 64)
  | mem (k : MemKind) (addr : Nat) (data : TWord) (ecc : Ecc) (wb : Option Nat)
  | reg (d : Nat) (w : TWord)
  | setk (k : Nat) (w : TWord)
  | nothing
  deriving DecidableEq, Repr

/-- A fired operation still in a pipeline: the cell, the cycle in which it takes effect, the failure its checker will report, and for an SLD the
depth of the window it writes (0 when that window was released). -/
structure InFlight where
  cell : Nat
  due : Nat
  eff : Flight
  bad : Option Verdict := none
  opcode : Nat := 0
  lane : Nat := 0
  depth : Nat := 0
  deriving DecidableEq, Repr

/-- A register window of a task: w0–w7 and the return index (R134–R136). -/
structure Window where
  slot : Nat
  depth : Nat
  regs : KMap TWord := []
  ret : Nat := 0
  deriving DecidableEq, Repr

/-- A loop level: the body from `first` to `last`, and the passes left (R125). -/
structure LoopLvl where
  first : Nat
  last : Nat
  left : Nat
  deriving DecidableEq, Repr

/-- Where a word of a queue lies: head, tail, a block of the pool or of the GDDR7 region (R235). -/
inductive Level where
  | head | tail | pool (b : Nat) | gd7 (b : Nat)
  deriving DecidableEq, Repr

/-- A word kept by a queue, with its level; `bad` says that the bits that stand in its register no longer fit the parity bit stored with them
(R235, R255). -/
structure QWord where
  w : TWord
  lvl : Level
  bad : Bool := false
  deriving DecidableEq, Repr

/-- A queue read port: position, words still to deliver, the word carried in this cycle with its valid rail, and the fetch buffer as
pairs of word index and word (R126, R242). -/
structure QRPort where
  pos : Nat := 0
  left : Nat := 0
  out : TWord := 0#35
  valid : Bool := false
  buf : List (Nat × QWord) := []
  deriving DecidableEq, Repr

/-- A queue write port: bound queue and output flow, the open assembly, words pushed since QSOI, and a word held under back-pressure
(R127, R247). -/
structure QWPort where
  queue : Option Nat := none
  flow : Flow := 0#24
  openAsm : Option Nat := none
  pushed : Nat := 0
  held : Option TWord := none
  lastPush : Option Nat := none
  deriving DecidableEq, Repr

/-- A check-value unit: the running CRC, whether it has seen every word since its reset, and the mismatch indication (R260–R263). -/
structure CVUnit where
  crc : BitVec 32 := 0xFFFFFFFF#32
  next : Nat := 0
  valid : Bool := true
  mismatch : Bool := false
  deriving DecidableEq, Repr

/-- An outstanding MRD: depth of the window and register it writes (depth 0 when that window was released), its instruction's index, address and
tag (R124, R128, R146). -/
structure MrdOut where
  depth : Nat
  dest : Nat
  pc : Nat
  addr : Nat
  tag : Nat
  deriving DecidableEq, Repr

/-- The last failure of an attempt: the code of R341, the check class, and whether the slot is to be HELD (R155). -/
structure FailInfo where
  code : Nat
  cls : Nat := 0
  held : Bool := false
  deriving DecidableEq, Repr

/-- The task a grove runs or holds suspended: the sequencer state of R116 and the task's identity. `late` holds words that arrived for a register of
a spilled window, as depth, register, word, until its refill (R124). -/
structure Run where
  slot : Nat
  desc : Nat
  member : Nat := 0
  gang : Option Nat := none
  ctx : Nat := 0
  pc : Nat := 0
  sq : TWord := 0#35
  loops : List LoopLvl := []
  depth : Nat := 1
  qr0 : QRPort := {}
  qr1 : QRPort := {}
  qw0 : QWPort := {}
  qw1 : QWPort := {}
  store : List (Nat × TWord) := []
  sig : Option Nat := none
  budget : Nat := 0
  mrds : List MrdOut := []
  poisonSeen : Bool := false
  started : Bool := false
  ended : Bool := false
  fail : Option FailInfo := none
  cv0 : CVUnit := {}
  cv1 : CVUnit := {}
  doubled : Bool := false
  hasItem : Bool := false
  queue : Nat := 0
  itemSeq : Nat := 0
  ilen : Nat := 0
  flow : Flow := 0#24
  strobe : Nat := 0
  stall : Nat := 0
  wait : Nat := 0
  sqNext : Option TWord := none
  endAt : Nat := 0
  done : Bool := false
  touched : Bool := false
  closed : List (Nat × Nat) := []
  suspAt : Nat := 0
  late : List (Nat × Nat × TWord) := []
  deriving DecidableEq, Repr

/-- Slot states with the codes of R154. -/
inductive SlotState where
  | empty | loading | ready | running | suspended | held
  deriving DecidableEq, Repr

/-- One configuration slot: state, the stale flag, the 512-byte image (byte k at bits 8k), recency, frame_valid (R154, R165). -/
structure Slot where
  state : SlotState := .empty
  stale : Bool := false
  img : BitVec 4096 := 0#4096
  recency : Nat := 0
  frameValid : Bool := false
  deriving DecidableEq, Repr

/-- Allocation of a register bank: its owning slot and its role, committed or working (R161, R172). -/
structure BankAlloc where
  committed : Bool
  slot : Nat
  deriving DecidableEq, Repr

/-- A page-in in progress in a grove (R158, R159). -/
structure PageIn where
  slot : Nat
  ctx : Nat
  desc : Option Nat
  fromBack : Bool := false
  second : Bool := false
  deriving DecidableEq, Repr

/-- A port-B access that met BUSY_B and waits for its repeat (R277); `src` is the node of its master (R379). -/
structure PortB where
  op : MemOp
  addr : Nat
  wide : Bool
  lo : TWord
  hi : TWord
  tries : Nat
  src : Nat := 0
  be : Nat := 255
  deriving DecidableEq, Repr

/-- Power states of a memory bank or block (R288): in `transition` it ramps up from off, in `waking` it leaves retention, contents kept. -/
inductive MemPwr where
  | on | retention | off | transition | waking
  deriving DecidableEq, Repr

/-- Power of a grove (R548). -/
inductive GrovePwr where
  | awake | gated | retention
  deriving DecidableEq, Repr

/-- One logical grove. Run control (R569–R572): `halted`, `haltReq` a halt that waits for an operation done as one unit, `step` the mode (true:
instructions) and count left of a step, `resumed` until the first issue after a release, `landHeld` completions held while halted: tag, status, word. `landNow`: a result has become visible in
this cycle, and its verdict is still to come (R61); `stretched`: this cycle goes on with a cycle in which the slot stalled, and its words have been seen (R85). `acted`: it has
run or awaited a switch since it was last clock-gated (R548). `deferA`: port-A accesses that a bank has still to serve, one bank access a stall cycle (R50);
`bFirst`: the bank that port B takes ahead of port A in the next cycle (R277); `portBAt`: the cycle in which port B was last used (R276); `spmWoken`: banks
that an access woke from a requested retention (R288). -/
structure Grove where
  cycle : Nat := 0
  cells : KMap Cell := []
  banks : KMap TWord := []
  alloc : KMap BankAlloc := []
  slots : KMap Slot := []
  latches : BitVec 1024 := 0#1024
  latchChk : KMap Bool := []
  edgeIn : KMap (TWord × Bool) := []
  run : Option Run := none
  susp : List Run := []
  windows : List Window := []
  inflight : List InFlight := []
  verdicts : List (Nat × Verdict) := []
  kOld : KMap TWord := []
  fired : KMap Bool := []
  issued : Bool := false
  landNow : Bool := false
  stretched : Bool := false
  accA : List (Nat × Bool × Nat) := []
  deferA : List (List InFlight) := []
  bFirst : Option Nat := none
  portBAt : Option Nat := none
  spmWoken : List Nat := []
  portB : List PortB := []
  acqWait : Option (Nat × Nat × CellUpset) := none
  forcedSave : Bool := false
  pagein : Option PageIn := none
  lastSig : Nat := 0
  mwrLog : List (Nat × Nat × Nat) := []
  mwrTag : Nat := 0
  mrdTag : Nat := 0
  spmPwr : KMap MemPwr := []
  spmWb : KMap Nat := []
  spmPos : Nat := 0
  pwr : GrovePwr := .gated
  acted : Bool := false
  halted : Bool := false
  haltReq : Bool := false
  step : Option (Bool × Nat) := none
  resumed : Bool := false
  landHeld : List (Nat × Nat × TWord) := []
  busyCnt : Nat := 0
  dispCnt : Nat := 0
  deriving DecidableEq, Repr

/-- Who writes an assembly: a grove's write port, or a stream of the hub. -/
inductive Producer where
  | grove (g : Nat) (port : Nat)
  | stream (src : Nat) (queue : Nat) (sid : Nat)
  | host (chan : Nat)
  | sched
  deriving DecidableEq, Repr

/-- An item being assembled (R237). -/
structure Assembly where
  id : Nat
  prod : Producer
  flow : Flow
  words : List QWord := []
  vb : Nat := 0
  closed : Bool := false
  deriving DecidableEq, Repr

/-- A joined item (R236). `gone` marks an item that has left while its storage waits for the front (R243); `claimed`, `popped` and
`sent` count what its consumers took; `fresh` holds in the cycle in which it joined, when its words do not count in depth yet (R252). -/
structure Item where
  seq : Nat
  flow : Flow
  words : List QWord
  vb : Nat
  gone : Bool := false
  claimed : Bool := false
  popped : Nat := 0
  sending : Bool := false
  waitAck : Bool := false
  fresh : Bool := false
  deriving DecidableEq, Repr

/-- An assembly slot's stream (R390, R391): source endpoint and tag bits 2–0, balance in words; not live once its slot was freed. -/
structure StreamSlot where
  src : Nat
  sid : Nat
  bal : Nat := 0
  live : Bool := true
  deriving DecidableEq, Repr

/-- A credit request that waits for its grant (R390): source, stream, blocks requested, tag, and the port and virtual link of its arrival. -/
structure CreditReq where
  src : Nat
  sid : Nat
  blocks : Nat
  tag : Nat
  port : Nat
  vlink : Nat
  deriving DecidableEq, Repr

/-- A read of several words of a pop-mode queue that waits for a refill (R249, R393, R511): whose it is, a command of a mailbox channel (`host`) or
a packet (`who` is then 8·src + port), its tag, and the words it has popped so far. -/
structure PopPart where
  host : Bool
  who : Nat
  tag : Nat
  words : List (BitVec 64) := []
  deriving DecidableEq, Repr

/-- A refill or spill waiting to land is not kept: blocks move in one command. One queue (R235–R238). `tooLong` holds the producers whose item the queue
ended at its longest (R239), `flushWait` a flush that waits for the one before it (R257), `found` the words found bad that are still to be counted
(R255), `wasFull`, `wasDepth` and `oweEmpty` what the queue was at the end of its last cycle and whether its QUE_EMPTY was put off (R253). -/
structure Queue where
  items : List Item := []
  asms : List Assembly := []
  seq : Nat := 0
  nextAsm : Nat := 1
  closed : Bool := false
  err : Bool := false
  stall : Bool := false
  waiting : List Producer := []
  busy : Bool := false
  freeing : List Level := []
  dropping : List Producer := []
  silent : List Producer := []
  lost : List Producer := []
  refusing : List Producer := []
  streams : KMap StreamSlot := []
  epochs : KMap Nat := []
  creditQ : List CreditReq := []
  popWait : Nat := 0
  part : Option PopPart := none
  reserved : Nat := 0
  tooLong : List Producer := []
  flushWait : Bool := false
  found : Nat := 0
  wasFull : Bool := false
  wasDepth : Nat := 0
  oweEmpty : Bool := false
  deriving DecidableEq, Repr

/-- Task states with the codes of R186. -/
inductive DState where
  | free | delayed | ready | placed | running | suspended | resumable | flowwait
  deriving DecidableEq, Repr

/-- A task descriptor (R185), with its order of entry into READY (`ord`), and the marks of a cancel (R202), of a due timer (R195), of a
place in the lock overflow FIFO (R191) of a poison cycle still owed, `replay` of one that has aborted
and enters READY again (R187), `pull` the pull queue its template named when the post was taken (R182, R211). -/
structure Desc where
  state : DState := .free
  prio : Nat := 0
  attempt : Nat := 0
  grow : Bool := false
  post : Bool := false
  itemV : Bool := false
  gang : Option Nat := none
  entry : Nat := 0
  ctx : Nat := 0
  itemSeq : Nat := 0
  queue : Nat := 0
  flow : Flow := 0#24
  grove : Option Nat := none
  slot : Nat := 0
  avoid : Option Nat := none
  tpl : Nat := 0
  deadline : Nat := 0
  rstamp : Nat := 0
  ord : Nat := 0
  marked : Bool := false
  due : Bool := false
  inFifo : Bool := false
  lastFail : FailInfo := { code := 0 }
  suspectG : Option Nat := none
  poisonDue : Option Nat := none
  counted : Bool := false
  replay : Bool := false
  pull : Option Nat := none
  deriving DecidableEq, Repr

/-- A flow-lock entry (R188); `asked`: a request for the grant is on its way. -/
structure LockE where
  flow : Flow
  holder : Option Nat := none
  xspan : Bool := false
  xgrant : Bool := false
  asked : Bool := false
  deriving DecidableEq, Repr

/-- A notice waiting for the scheduler (R181). -/
structure Notice where
  queue : Nat
  seq : Nat
  flow : Flow
  deriving DecidableEq, Repr

/-- A gang placement of the personality (R94, R467). -/
structure Gang where
  firebreak : Nat
  primary : List (Nat × Nat)
  alternate : List (Nat × Nat) := []
  parked : Bool := false
  deriving DecidableEq, Repr

/-- What a grove is reserved for (R199, R200). -/
inductive Rsv where
  | replay (d : Nat)
  | gang (d : Nat)
  deriving DecidableEq, Repr

/-- A row of a tile's context table (R606): defined or not, its firebreak, and the sides on which its image uses edge lanes, as edge_use gives
them (R104, R105). -/
structure CtxInfo where
  defined : Bool
  firebreak : Nat
  edge : Nat := 0
  deriving DecidableEq, Repr

/-- An image held in the tile context cache, with its order of page-in (R152, R153). -/
structure CacheE where
  img : BitVec 4096
  ord : Nat
  deriving DecidableEq, Repr

/-- GDDR7 channel states with the codes of R322. -/
inductive ChState where
  | untrained | training | zerofill | ready | retraining | selfRefresh | down
  deriving DecidableEq, Repr

/-- A GDDR7 channel (R303, R316, R322). -/
structure Chan where
  state : ChState := .untrained
  density : Nat := 3
  temp : Nat := 0
  outst : Nat := 0
  crcInPeriod : Nat := 0
  pdown : Bool := false
  refreshed : KMap Nat := []
  checks : List (Nat × Bool) := []
  deriving DecidableEq, Repr

/-- A staging entry or command of the internal configuration port (R480, R491). -/
structure IcpCmd where
  cmd : Nat
  master : Nat
  deriving DecidableEq, Repr

/-- One tile; `haltReq` is a halt of all its groves that has been asked for (R569), `cnpUp` the upset bits of the canopy source latches (R100),
`pageWait` page-ins that wait, as grove, context, descriptor (R158), `cancelQ` writes to SCH_CANCEL that wait for the walk (R202). -/
structure Tile where
  cycle : Nat := 0
  descs : KMap Desc := []
  ord : Nat := 1
  locks : KMap LockE := []
  notices : List Notice := []
  noDescEpisode : Bool := false
  releaseQ : List Flow := []
  gangs : KMap Gang := []
  ctxTab : KMap CtxInfo := []
  gens : KMap Nat := []
  cache : KMap CacheE := []
  pageOrd : Nat := 1
  pageWait : List (Nat × Nat × Nat) := []
  cancelQ : List (BitVec 64) := []
  rsv : KMap Rsv := []
  groveFb : KMap Nat := []
  queues : KMap Queue := []
  cnp : KMap (List (TWord × Bool)) := []
  cnpOff : List Nat := []
  cnpUp : KMap (BitVec 288) := []
  xreq : List (Flow × Bool) := []
  chans : KMap Chan := []
  tmbPwr : KMap MemPwr := []
  tmbWb : KMap Nat := []
  tmbWoken : List Nat := []
  tmbLast : KMap Nat := []
  tmbPos : Nat := 0
  gd7Pos : Nat := 0
  loadCycles : Nat := 0
  rgrPos : Nat := 0
  rgrFault : Bool := false
  rgrHeld : List (Nat × Nat) := []
  rgrTried : List (Nat × Nat) := []
  rgrFetched : List (Nat × Nat) := []
  icpQ : List IcpCmd := []
  pllOff : Bool := false
  waking : Bool := false
  haltReq : Bool := false
  deriving DecidableEq, Repr

end Sys2Proof.Machine
end

