-- ==== Sys2Proof/Machine/HubTypes.lean ====
section
/-!
DEFINITION. The state of the hub and of what crosses the device's edges, as plain data.
-/
namespace Sys2Proof.Machine

/-- A change of pend on its way to the hub: event number, the new value of pend, the info word and the route bits of EVT_SRC (R222, R223). -/
structure EvFlight where
  num : Nat
  pend : Bool
  info : BitVec 32
  route : BitVec 64
  deriving DecidableEq, Repr

/-- A post on its way to a scheduler's intake: template, delay, and the event source that made it, if one did (R182, R222). -/
structure PostReq where
  tpl : Nat
  delay : Nat
  src : Option Nat := none
  auto : Bool := false
  deriving DecidableEq, Repr

/-- Event delivery: changes in flight, posts by tile, the firmware queue, its interrupt, MSI-X enables and pending bits, messages sent. -/
structure EvtState where
  flight : List EvFlight := []
  posts : KMap (List PostReq) := []
  fwq : List (Nat × BitVec 32) := []
  fwqLost : Bool := false
  irq : Bool := false
  msixEn : KMap Bool := []
  fnMask : KMap Bool := []
  vfEn : KMap Bool := []
  msixMask : KMap Bool := []
  msixPba : KMap Bool := []
  msixSent : List (Nat × Nat) := []
  deriving DecidableEq, Repr

/-- A grove substitution in progress (R361, R365): phase 1 prepare, 2 drain, 3 copy; excl as it was before the swap. -/
structure SwapSt where
  phase : Nat
  shift : Bool
  tile : Nat
  col : Nat
  row : Nat
  excl : Bool
  deriving DecidableEq, Repr

/-- A row or entry spare being brought in (R367), with the kinds of SPR_ROW_CTL. -/
structure RowJob where
  kind : Nat
  tile : Nat
  grove : Nat
  part : Nat
  row : Nat
  deriving DecidableEq, Repr

/-- A flow's entry in the inter-tile forwarder (R192): the holding tile, and the tiles that wait in order of arrival. -/
structure XEntry where
  flow : Flow
  holder : Option Nat := none
  queue : List Nat := []
  deriving DecidableEq, Repr

/-- The sending side of a drain-mode queue (R607): balance in words, the grant's epoch, an outstanding QCQ, words of the front item sent,
whether a QCG with status CLOSED or PERM holds it, and whether it has ever sent words. -/
structure Drain where
  used : Bool := false
  bal : Nat := 0
  epoch : Nat := 0
  asked : Bool := false
  sent : Nat := 0
  held : Bool := false
  deriving DecidableEq, Repr

/-- Who gets the completion of a request that left the device (R380): a grove's MRD or MWR, the debug unit's read or write (`wr`), the
management core, a mailbox channel, or nobody after an abort. -/
inductive Requester where
  | mrd (t g tag : Nat)
  | mwr (t g tag : Nat)
  | debug (wr : Bool)
  | core
  | host (k : Nat)
  | nobody
  deriving DecidableEq, Repr

/-- An entry of the remote-request table (R380, R398): destination endpoint and tag on the wire, its requester and the words requested;
`late` marks a tag that timed out, `posted` a write that is answered only when it fails; `since` is the time of the issue or of the timeout. -/
structure RemReq where
  ep : Nat
  tag : Nat
  who : Requester
  words : Nat
  late : Bool := false
  posted : Bool := false
  since : Nat := 0
  deriving DecidableEq, Repr

/-- A message of the management core's queue (R394, R396): source, class, payload, the port and virtual link of its arrival; a notice has
class 256; `ret` is the path of ports on which a relayed message is answered (R440). -/
structure MsgIn where
  src : Nat
  cls : Nat
  payload : List Word
  port : Nat
  vlink : Nat
  ret : Option (List Nat) := none
  deriving DecidableEq, Repr

/-! ### Links -/

/-- States of a link's end, with the codes of LNK_STAT_p (R432). -/
inductive LState where
  | disabled | training | active | retraining | failover | down
  deriving DecidableEq, Repr

/-- A unit of a stream, with the drain whose item ends with it (R411, R425). -/
abbrev TxUnit := TWord × Option Nat

/-- A data flit kept for replay (R413): its sequence number, its units, and the time of its first transmission. -/
structure SentFlit where
  seq : Nat
  units : List TxUnit
  born : Nat
  deriving DecidableEq, Repr

/-- A pending reorder (R428): what is withheld, and how many further units complete the window. -/
structure Hold (α : Type) where
  need : Nat
  got : List α
  deriving DecidableEq, Repr

/-- One end of a link: of a port, or of a direction pair of a module (R410–R428). `phys` says that lanes have locked, so that INIT flits
pass; `moving` are the lane substitutions in progress (receive direction or direction 1, lane) and `fo` those asked for before the next training. -/
structure LinkEnd where
  st : LState := .training
  phys : Bool := false
  resume : Bool := false
  sawInit : Bool := false
  peerSeen : Bool := false
  sentSeen : Bool := false
  txNext : Nat := 0
  replay : List SentFlit := []
  resend : List SentFlit := []
  rxLast : Nat := 4095
  nakSent : Bool := false
  nakDue : Bool := false
  replays : Nat := 0
  txBuf : List TxUnit := []
  wait : List (List TWord) := []
  rxBuf : List TWord := []
  rxq : List Packet := []
  rxUnits : List (List TWord) := []
  hdrC : KMap Nat := []
  datC : KMap Nat := []
  lastH : KMap Nat := []
  lastD : KMap Nat := []
  retH : KMap Nat := []
  retD : KMap Nat := []
  cvc : Nat := 0
  vlLast : KMap Nat := []
  peerSpare : Bool := false
  peerEp : Option Nat := none
  peerRole : Option Bool := none
  txFail : Option Nat := none
  rxFail : Option Nat := none
  gfail : KMap Nat := []
  fo : List (Bool × Nat) := []
  moving : List (Bool × Nat) := []
  lastOk : Option Nat := none
  again : Bool := false
  fiCnt : Nat := 0
  fiShot : Bool := false
  fiFlits : Option (Hold Flit) := none
  fiPkts : Option (Hold (List TxUnit)) := none
  sent : List Flit := []
  deriving DecidableEq, Repr

/-! ### Start-up of a multi-device system -/

/-- A device as root firmware records it (R441–R449): UID, ID, the parent's ID and port, the path of ports from d0, its arrival port; the state codes are
those of SYS_TOPOLOGY: 0 committed, 1 absent, 2 silent port, 3 refused, 4 unrouted partner; 5 not yet committed, 6 of an earlier discovery. -/
structure DevRec where
  uid : Nat
  id : Option Nat := none
  parent : Nat := 255
  pport : Nat := 255
  path : List Nat := []
  arrival : Nat := 255
  state : Nat := 5
  needsFw : Bool := false
  ep : Nat := 0
  deriving DecidableEq, Repr

/-- A report of one scanned port (R441, SCAN_RPT). -/
structure ScanRpt where
  by_ : Nat
  port : Nat
  peer : Nat
  uid : Nat
  idv : Option Nat := none
  root : Bool := false
  needsFw : Bool := false
  deriving DecidableEq, Repr

/-- Root discovery in progress (R444): devices whose scan or probes are outstanding (ID, port; port 8 for a whole scan), the reports of this level. -/
structure Disc where
  waiting : List (Nat × Nat)
  reports : List ScanRpt := []
  deriving DecidableEq, Repr

/-- A member's scan (R441): the return path of its SCAN, its arrival port, and the ports that have not answered. -/
structure ScanJob where
  ret : List Nat
  ports : List Nat
  deriving DecidableEq, Repr

/-- A transfer of firmware or of a personality to a member (R450): its class, the bytes kept for sending again with the offset of the first,
the next offset, the offsets not acknowledged, the whole length, a refusal, and the mailbox channel that began it. -/
structure Xfer where
  cls : Nat
  data : List Byte
  base : Nat := 0
  next : Nat := 0
  unacked : List Nat := []
  total : Nat
  failed : Bool := false
  chan : Option Nat := none
  deriving DecidableEq, Repr

/-! ### Personalities -/

/-- A firebreak of the committed personality (R461). -/
structure FbInfo where
  icp : Bool
  reg : Bool
  icpTgt : BitVec 256
  icpStage : BitVec 64
  ranges : List (Nat × Nat)
  deriving DecidableEq, Repr

/-- A load in progress or staged (R468, R469); `chan` is the mailbox channel, none on a member that loads from PERS_DATA messages. -/
structure Load where
  kind : Nat
  length : Nat
  auto : Bool
  chan : Option Nat
  got : Nat := 0
  staged : Bool := false
  digest : BitVec 256 := 0#256
  deriving DecidableEq, Repr

/-- A generation advance on its way to a tile (R481): the context, its new generation, firebreak and definition, and the tile and staging entry
whose status reports the REPLACE. -/
structure Advance where
  tile : Nat
  ctx : Nat
  gen : Nat
  firebreak : Nat
  edge : Nat
  defined : Bool
  rep : Nat × Nat
  deriving DecidableEq, Repr

/-- A tile's journal record (R471). -/
structure TileRec where
  state : Nat := 0
  epoch : Nat := 0
  digest : BitVec 256 := 0#256
  undo : Nat := 0
  deriving DecidableEq, Repr

/-! ### Mailboxes -/

/-- A response that has been decided (R503). -/
structure MbxResp where
  status : Nat
  data : List Byte := []
  result : List Byte := []
  deriving DecidableEq, Repr

/-- A fetched command (R503): `resp` once its outcome is known, `begun` while it waits for a later happening to finish it, `cut` when a reset left it unanswered. -/
structure MbxCmd where
  opcode : Nat
  unord : Bool
  rslots : Nat
  tag : Nat
  param : List Byte
  data : List Byte
  resp : Option MbxResp := none
  begun : Bool := false
  cut : Bool := false
  deriving DecidableEq, Repr

/-- A mailbox channel beside its registers: producer and consumer counts, commands fetched and not answered, the queue of an open item, the last report. -/
structure MbxChan where
  prod : Nat := 0
  rspCons : Nat := 0
  cmds : List MbxCmd := []
  items : List Nat := []
  report : Option (List Byte) := none
  deriving DecidableEq, Repr

/-- A firmware delivery (R532): its channel, mode, length and the bytes received. -/
structure FwLoad where
  chan : Nat
  mode : Nat
  length : Nat
  got : List Byte := []
  deriving DecidableEq, Repr

/-! ### Security -/

/-- An OTP burn in progress (R527): the bytes to burn, group bytes last, and the mailbox command it answers. -/
structure Burn where
  cells : List (Nat × Nat)
  chan : Option Nat := none
  deriving DecidableEq, Repr

/-- An attestation signing in progress (R536): the channel and the signed part. -/
structure Signing where
  chan : Nat
  body : List Byte
  deriving DecidableEq, Repr

/-! ### The lookout port -/

/-- An access of the debug unit (R566). -/
structure DbgAcc where
  quiet : Bool
  incr : Bool
  wide : Bool
  addr : Nat
  deriving DecidableEq, Repr

/-- The lookout port and the debug unit (R563–R566, R582): the pending read, its held result, aborted reads that still complete, a write in
flight, the sticky state, the auto address; `lost` while a parity failure waits for a line reset; `out` the acks given with the data of reads. -/
structure DbgPort where
  pend : Option DbgAcc := none
  result : Option (Nat × BitVec 64) := none
  drop : List DbgAcc := []
  wr : Option (Nat × Bool × BitVec 64) := none
  perr : Bool := false
  werr : Bool := false
  cause : Nat := 0
  status : Nat := 0
  auto : Nat := 0
  lost : Bool := false
  out : List (Nat × BitVec 64) := []
  deriving DecidableEq, Repr

/-- The management core's run control (R573): halted, caught at ROM entry, a halt asked for, instructions left of a step; `runs` counts its
releases, and `regs` holds the registers written while it is halted. -/
structure Core where
  halted : Bool := false
  caught : Bool := false
  haltReq : Bool := false
  stepLeft : Nat := 0
  runs : Nat := 0
  regs : KMap (BitVec 64) := []
  deriving DecidableEq, Repr

/-- The hub. `mwrErr` holds error completions of groves' writes on their way (tile, grove, tag, status), `mwrOut` buffered writes that still
wait (tile, grove, tag, address, word), `hostIn` what a remote MEM_READ has brought by channel, `trigLate` triggers armed with a past time, `probes` the
samples for which a probe output still drives 1. -/
structure Hub where
  time : BitVec 64 := 0#64
  tick3 : Nat := 0
  slew : Int := 0
  reads : List (Nat × Nat × BitVec 64) := []
  sinkNotices : List Notice := []
  swap : Option SwapSt := none
  rowJob : Option RowJob := none
  rowUsed : KMap Nat := []
  xlocks : List XEntry := []
  xfifo : List (Nat × Flow) := []
  xgrants : List (Nat × Flow) := []
  xreann : List Nat := []
  rxSeq : KMap Nat := []
  txSeq : KMap Nat := []
  resync : KMap (List Nat) := []
  xtx : KMap (List Packet) := []
  drains : KMap Drain := []
  remote : List RemReq := []
  msgQ : List MsgIn := []
  links : KMap LinkEnd := []
  epoch : Nat := 0
  rootUid : Nat := 0
  parentPort : Option Nat := none
  plan : List (Nat × Nat) := []
  recs : List DevRec := []
  edges : List (Nat × Nat × Nat × Nat) := []
  partners : List (Nat × Nat × Nat) := []
  disc : Option Disc := none
  joins : List ScanRpt := []
  scan : Option ScanJob := none
  conflicts : List Nat := []
  portsUp : Nat := 0
  xfers : KMap Xfer := []
  fwIn : Option (List Byte) := none
  timeSeq : Nat := 0
  load : Option Load := none
  lastCode : Nat := 0
  lastOff : Nat := 0
  bare : Bool := false
  deadline : Nat := 30
  deadlineOn : Bool := false
  digest : BitVec 256 := 0#256
  tileRecs : KMap TileRec := []
  undo : List (Nat × Nat × BitVec 4096) := []
  held : List Nat := []
  firebreaks : KMap FbInfo := []
  mbxState : Nat := 0
  chans : KMap MbxChan := []
  hostWr : List (Nat × List Byte) := []
  bars : KMap Nat := []
  fwLoad : Option FwLoad := none
  fwRam : List Byte := []
  fwDigest : Option (BitVec 256) := none
  fwVersion : Nat := 0
  fwRunning : Bool := false
  bootSlot : Nat := 0
  flash : Option (KMap Byte) := none
  rlog : KMap (KMap Byte) := []
  rlogDue : List (Nat × Nat × Nat) := []
  rlogDone : Bool := false
  rlogSkipped : List Nat := []
  otp : KMap Nat := []
  burn : Option Burn := none
  signing : Option Signing := none
  idKey : Bool := false
  afterHub : Bool := false
  warmHeld : List Nat := []
  railLow : List Nat := []
  avsMiss : Nat := 0
  wdgFw : Nat := 0
  wdgDev : Nat := 0
  wdgWarned : Bool × Bool := (false, false)
  dbg : DbgPort := {}
  core : Core := {}
  padIn : KMap Bool := []
  pulses : List Nat := []
  uioOn : Bool := false
  uioDue : Bool := false
  advances : List Advance := []
  calibrations : Nat := 0
  mwrErr : List (Nat × Nat × Nat × Nat) := []
  mwrOut : List (Nat × Nat × Nat × Nat × TWord) := []
  hostIn : KMap (Nat × List TWord) := []
  trigLate : List Nat := []
  probes : KMap Nat := []
  deriving DecidableEq, Repr

/-- What a comparator can observe (R577): its kind, the tile (4 the hub), the grove of the access, whether it writes, the address and the data,
and the grove that asked. -/
structure Obs where
  kind : Nat
  die : Nat
  g : Nat := 0
  wr : Bool := false
  addr : Nat := 0
  data : Word := 0#32
  who : Option (Nat × Nat) := none
  deriving DecidableEq, Repr

/-- The whole device but its memory contents. `hits` are the comparators that matched in the last command. -/
structure Chip where
  regs : KMap (BitVec 64) := []
  groves : KMap Grove := []
  tiles : KMap Tile := []
  evt : EvtState := {}
  hub : Hub := {}
  gdPoison : KMap Bool := []
  fresh : Nat := 0
  obs : List Obs := []
  hits : List Nat := []
  deriving DecidableEq, Repr

end Sys2Proof.Machine
end

