-- ==== Sys2Proof/Machine/Store.lean ====
section
/-!
DEFINITION. Sparse stores: maps by number with rising keys, and the byte memory of the device in its canonical form.
-/
namespace Sys2Proof.Machine

variable {α : Type}

/-- The value kept under a key. -/
def kfind? : KMap α → Nat → Option α
  | [], _ => none
  | (a, v) :: r, k => if a = k then some v else kfind? r k

/-- The value kept under a key, or the default. -/
def kget (d : α) (m : KMap α) (k : Nat) : α := (kfind? m k).getD d

/-- Keep a value under a key. -/
def kset : KMap α → Nat → α → KMap α
  | [], k, v => [(k, v)]
  | (a, w) :: r, k, v => if k < a then (k, v) :: (a, w) :: r else if a = k then (k, v) :: r else (a, w) :: kset r k v

/-- Forget a key. -/
def kdel : KMap α → Nat → KMap α
  | [], _ => []
  | (a, w) :: r, k => if k < a then (a, w) :: r else if a = k then r else (a, w) :: kdel r k

/-- Change the value under a key. -/
def kmod (d : α) (m : KMap α) (k : Nat) (f : α → α) : KMap α := kset m k (f (kget d m k))

/-- Whether a key is kept. -/
def khas (m : KMap α) (k : Nat) : Bool := (kfind? m k).isSome

/-- Keys strictly rising, each above a bound. -/
def krise : Nat → KMap α → Bool
  | _, [] => true
  | lo, (a, _) :: r => decide (lo ≤ a) && krise (a + 1) r

/-- The device's byte memory: scratchpads, tile memories and the GDDR7 window, by device-local address (R33). -/
abbrev Mem := List Host.Cell

/-- An address that nothing has written reads as 0: POR and WARM zero every row and block (R291, R315). -/
def Mem.unlisted : Byte := 0#8

/-- One byte. -/
def Mem.read (m : Mem) (a : Nat) : Byte := kget Mem.unlisted m a

/-- Store one byte, keeping the canonical form: the value an unlisted address reads as is not listed. -/
def Mem.write (m : Mem) (a : Nat) (b : Byte) : Mem := if b = Mem.unlisted then kdel m a else kset m a b

/-- The canonical form: addresses strictly rising, no entry equal to what an unlisted address reads as. -/
def Mem.wf (m : Mem) : Bool := krise 0 m && m.all (fun c => c.2 != Mem.unlisted)

/-- Drop every byte in `[lo, lo + n)`: it reads as zero again. -/
def Mem.zero (m : Mem) (lo n : Nat) : Mem := m.filter (fun c => !(decide (lo ≤ c.1) && decide (c.1 < lo + n)))

/-- The little-endian value of `n` bytes from address `a` (R4). -/
def Mem.load (m : Mem) (a : Nat) : Nat → Nat
  | 0 => 0
  | n + 1 => (m.read a).toNat + 256 * Mem.load m (a + 1) n

/-- Store the low `n` bytes of `v` at `a`, least significant first (R4). -/
def Mem.store (m : Mem) (a : Nat) : Nat → Nat → Mem
  | 0, _ => m
  | n + 1, v => Mem.store (m.write a (BitVec.ofNat 8 v)) (a + 1) n (v / 256)

end Sys2Proof.Machine
end

