-- ==== Sys2Proof/Machine/Ops.lean ====
section
/-!
DEFINITION. Named operations over the device: register access by name, events (R221–R226), statistics counters (R14, R18), groves and
tiles by number, memory words with their poison (R284, R285, R309), and the address map (R33).
-/
namespace Sys2Proof.Machine

/-- The device: its byte memories and everything else. -/
structure Dev where
  mem : Mem := []
  chip : Chip := {}
  deriving DecidableEq, Repr

/-! ### Coordinates and addresses -/

/-- The grove index g = y × 16 + x (R33). -/
def gidx (x y : Nat) : Nat := y * 16 + x

/-- A populated grove index (R33). -/
def gpop (g : Nat) : Bool := decide (g % 16 ≤ 11) && decide (g / 16 ≤ 11)

/-- The number n = y × 12 + x of a grove index (R165, R219). -/
def gnum (g : Nat) : Nat := (g / 16) * 12 + g % 16

/-- The grove index of a grove number. -/
def gofnum (n : Nat) : Nat := (n / 12) * 16 + n % 12

/-- The key of grove g of tile t. -/
def gkey (t g : Nat) : Nat := t * 256 + g

/-- The place of a register block (R33). -/
inductive Site where
  | hub
  | tile (t : Nat)
  | grove (t g : Nat)
  deriving DecidableEq, Repr

/-- The base address of a register block (R33). -/
def Site.base : Site → Nat
  | .hub => 0
  | .tile t => 0x10000000 + t * 0x10000000
  | .grove t g => 0x18000000 + t * 0x10000000 + g * 0x10000

/-- The device-local address of a grove's scratchpad (R33). -/
def spBase (t g : Nat) : Nat := 0x1000000000 + t * 0x100000000 + g * 0x40000

/-- The device-local address of a tile memory (R33). -/
def tmBase (t : Nat) : Nat := 0x2000000000 + t * 0x100000000

/-- The base of the GDDR7 window (R34). -/
def gdBase : Nat := 0x10000000000

/-! ### Registers by name -/

/-- R599 places UIO_CFG_32–39 at the addresses of UIO_TRIG_AT_0–7. The record of these pins has no address of its own: the address reads and writes
UIO_TRIG_AT_k. DESIGN CHOICE: the rule does not say which of the two answers there. -/
def Reg.covered (r : Reg) (i : Nat) : Bool :=
  match r with
  | .uioCfg => decide (32 ≤ i) && decide (i < 40)
  | _ => false

/-- Where the covered records are kept: no address of the map. -/
def coveredBase : Nat := 0x4000000

/-- The device-local address of an instance of a register. -/
def Reg.addr (r : Reg) (s : Site) (i : Nat) : Nat :=
  if r.covered i then coveredBase + 8 * i else s.base + r.info.off + i * r.info.stride

/-- The value of a register after the widest reset, from its field table. -/
def Reg.rst (r : Reg) : BitVec 64 := r.fields.foldl (fun v f => setFld v f.lo f.wd f.rst) 0#64

/-- The stored value of a register. -/
def Chip.reg (c : Chip) (r : Reg) (s : Site) (i : Nat := 0) : BitVec 64 := kget r.rst c.regs (r.addr s i)

/-- Store a register's value. -/
def Chip.setReg (c : Chip) (r : Reg) (s : Site) (i : Nat) (v : BitVec 64) : Chip := { c with regs := kset c.regs (r.addr s i) v }

/-- A field of a register. -/
def Chip.rf (c : Chip) (r : Reg) (s : Site) (i lo w : Nat) : Nat := fld (c.reg r s i) lo w

/-- Store a field of a register. -/
def Chip.setRf (c : Chip) (r : Reg) (s : Site) (i lo w x : Nat) : Chip := c.setReg r s i (setFld (c.reg r s i) lo w x)

/-- A single bit of a register. -/
def Chip.rbit (c : Chip) (r : Reg) (s : Site) (i lo : Nat) : Bool := c.rf r s i lo 1 == 1

/-! ### Groves and tiles -/

/-- Grove g of tile t. -/
def Chip.grove (c : Chip) (t g : Nat) : Grove := kget {} c.groves (gkey t g)

/-- Replace a grove. -/
def Chip.setGrove (c : Chip) (t g : Nat) (v : Grove) : Chip := { c with groves := kset c.groves (gkey t g) v }

/-- Change a grove. -/
def Chip.modGrove (c : Chip) (t g : Nat) (f : Grove → Grove) : Chip := c.setGrove t g (f (c.grove t g))

/-- Tile t. -/
def Chip.tile (c : Chip) (t : Nat) : Tile := kget {} c.tiles t

/-- Replace a tile. -/
def Chip.setTile (c : Chip) (t : Nat) (v : Tile) : Chip := { c with tiles := kset c.tiles t v }

/-- Change a tile. -/
def Chip.modTile (c : Chip) (t : Nat) (f : Tile → Tile) : Chip := c.setTile t (f (c.tile t))

/-- Change the hub. -/
def Chip.modHub (c : Chip) (f : Hub → Hub) : Chip := { c with hub := f c.hub }

/-- Change the rest of the device, leaving the byte memories. -/
def Dev.on (d : Dev) (f : Chip → Chip) : Dev := { d with chip := f d.chip }

/-! ### Event sources -/

/-- An event source (R219, R229). -/
inductive EvSrc where
  | grove (t g k : Nat)
  | tile (t j : Nat)
  | hub (j : Nat)
  deriving DecidableEq, Repr

/-- The number of an event source (R219). -/
def EvSrc.num : EvSrc → Nat
  | .grove t g k => (144 * t + gnum g) * 8 + k
  | .tile t j => 4608 + 64 * t + j
  | .hub j => 4864 + j

/-- The event source of a number (R219). -/
def EvSrc.ofNum (n : Nat) : EvSrc :=
  if n < 4608 then .grove (n / 1152) (gofnum (n / 8 % 144)) (n % 8)
  else if n < 4864 then .tile ((n - 4608) / 64) ((n - 4608) % 64)
  else .hub (n - 4864)

/-- The register of an event source: name, place and index (R231). -/
def EvSrc.reg : EvSrc → Reg × Site × Nat
  | .grove t g k => (.evtSrcG, .grove t g, k)
  | .tile t j => (.evtSrcT, .tile t, j)
  | .hub j => (.evtSrcH, .hub, j)

/-- The stored EVT_SRC of a source. -/
def Chip.ev (c : Chip) (e : EvSrc) : BitVec 64 := c.reg e.reg.1 e.reg.2.1 e.reg.2.2

/-- Store the EVT_SRC of a source. -/
def Chip.setEv (c : Chip) (e : EvSrc) (v : BitVec 64) : Chip := c.setReg e.reg.1 e.reg.2.1 e.reg.2.2 v

/-- The function that owns an MSI-X vector: 0 the PF, n VF n (R515). -/
def vecFn (v : Nat) : Nat := if v < 1056 then 0 else (v - 1056) / 32 + 1

/-- Raise a saturating counter by `n`: the new register value and whether its sticky bit changed from 0 to 1 (R14). -/
def cntAdd (v : BitVec 64) (n : Nat) : BitVec 64 × Bool :=
  let old := fld v 0 48
  let mx := 2 ^ 48 - 1
  let new := min (old + n) mx
  let hit := decide (old < mx) && decide (new = mx)
  let v' := setFld v 0 48 new
  if hit && fld v 48 1 == 0 then (setFld v' 48 1 1, true) else (v', false)

/-- An MSI-X message that falls due on a vector (R516): sent, held in the PBA, or dropped; `true` when dropped. -/
def msixDue (c : Chip) (v : Nat) : Chip × Bool :=
  let e := c.evt
  let fn := vecFn v
  if !(kget false e.msixEn fn) || (decide (0 < fn) && !(kget false e.vfEn fn)) then (c, true)
  else if kget true e.msixMask v || kget false e.fnMask fn then
    ({ c with evt := { e with msixPba := kset e.msixPba v true } }, false)
  else ({ c with evt := { e with msixSent := e.msixSent ++ [(v, fn)] } }, false)

/-- One delivery to an MSI-X vector (R225): the count rises, and a message falls due when it reaches thresh or the holdoff is 0. -/
def vecDeliver (c : Chip) (v : Nat) : Chip × Bool :=
  let r := c.reg .evtVec .hub v
  let n := min 255 (fld r 0 8 + 1)
  if decide (fld r 8 8 ≤ n) || fld r 16 16 == 0 then msixDue (c.setReg .evtVec .hub v (setFld r 0 8 0)) v
  else (c.setReg .evtVec .hub v (setFld r 0 8 n), false)

/-- Delivery of a source's change to 1 at the hub (R222–R224): the pending summary, the firmware queue with its interrupt, the vector.
The two Booleans say that EVT_LOST is to be raised and that a message was dropped. -/
def hubDeliver (num : Nat) (info : BitVec 32) (route : BitVec 64) (c : Chip) : Chip × Bool × Bool :=
  let c := c.setRf .evtPendSum .hub (num / 64) (num % 64) 1 1
  let (c, lost) :=
    if fld route 60 1 == 1 then
      if 256 ≤ c.evt.fwq.length then
        ({ c with evt := { c.evt with fwqLost := true } }, !c.evt.fwqLost)
      else
        let q := c.evt.fwq ++ [(num, info)]
        let ctl := c.reg .evtFwqCtl .hub
        let irq := c.evt.irq || decide (fld ctl 8 8 ≤ q.length) || fld ctl 16 16 == 0
        ({ c with evt := { c.evt with fwq := q, irq := irq } }, false)
    else (c, false)
  if fld route 59 1 == 1 then
    let (c, dr) := vecDeliver c (fld route 48 11)
    (c, lost, dr)
  else (c, lost, false)

/-- Make a post to a scheduler's intake (R182, R222). -/
def Chip.addPost (c : Chip) (t : Nat) (p : PostReq) : Chip :=
  { c with evt := { c.evt with posts := kmod [] c.evt.posts t (fun l => l ++ [p]) } }

/-- The sch destination of a source's change to 1 (R222). -/
def schDeliver (e : EvSrc) (v : BitVec 64) (c : Chip) : Chip :=
  if fld v 47 1 == 1 then
    let t := match e with
      | .grove t _ _ => t
      | .tile t _ => t
      | .hub _ => fld v 44 2
    c.addPost t { tpl := fld v 36 8, delay := 0, src := some e.num, auto := fld v 46 1 == 1 }
  else c

/-- Raise a counter, saying whether its overflow event is due. -/
def bumpRaw (c : Chip) (r : Reg) (s : Site) (i n : Nat) : Chip × Bool :=
  let p := cntAdd (c.reg r s i) n
  (c.setReg r s i p.1, p.2)

/-- A raise still to be made: the source and its info word. -/
abbrev RaiseReq := EvSrc × BitVec 32

/-- The selectable counters `0 … k-1` that count a raise (R227), and the overflow events that follow. -/
def countRaise (sel cnt : Reg) (s : Site) (ovf : EvSrc) (num : Nat) : Nat → Chip → Chip × List RaiseReq
  | 0, c => (c, [])
  | k + 1, c =>
    let p := countRaise sel cnt s ovf num k c
    let sv := p.1.reg sel s k
    if fld sv 63 1 == 1 && fld sv 0 13 == num then
      let q := bumpRaw p.1 cnt s k 1
      (q.1, if q.2 then p.2 ++ [(ovf, BitVec.ofNat 32 (Reg.addr cnt s k))] else p.2)
    else p

/-- The delivery of a source's change of pend to 1, where it is made at once: hub sources at the hub, the others on their way (R223). -/
def announce (e : EvSrc) (info : BitVec 32) (v : BitVec 64) (c : Chip) : Chip × List RaiseReq :=
  match e with
  | .hub _ =>
    let p := hubDeliver e.num info v c
    let l1 : List RaiseReq := if p.2.1 then [(.hub 37, 0#32)] else []
    if p.2.2 then
      let q := bumpRaw p.1 .pciMsixDropCnt .hub 0 1
      (q.1, if q.2 then l1 ++ [(.hub 38, BitVec.ofNat 32 (Reg.addr .pciMsixDropCnt .hub 0))] else l1)
    else (p.1, l1)
  | _ => ({ c with evt := { c.evt with flight := c.evt.flight ++ [⟨e.num, true, info, v⟩] } }, [])

/-- One raise of a source (R221, R222): pend, lost and info, its deliveries, and the raises that follow from it. -/
def raiseOne (e : EvSrc) (info : BitVec 32) (c : Chip) : Chip × List RaiseReq :=
  let v := c.ev e
  let p : Chip × List RaiseReq :=
    if fld v 63 1 == 1 then (c.setEv e (setFld v 62 1 1), [])
    else announce e info v (schDeliver e v (c.setEv e (setFld (setFld v 63 1 1) 0 32 info.toNat)))
  let q := match e with
    | .hub _ => countRaise .evtCntSelH .evtCntH .hub (.hub 38) e.num 16 p.1
    | .tile t _ => countRaise .evtCntSelT .evtCntT (.tile t) (.tile t 30) e.num 16 p.1
    | .grove t _ _ => countRaise .evtCntSelT .evtCntT (.tile t) (.tile t 30) e.num 16 p.1
  (q.1, p.2 ++ q.2)

/-- A list of raises with all that follow from them; each follow-on needs a sticky bit that is still 0, so few are ever left. -/
def raiseAll : Nat → List RaiseReq → Chip → Chip
  | _, [], c => c
  | 0, _, c => c
  | n + 1, (e, i) :: r, c =>
    let p := raiseOne e i c
    raiseAll n (r ++ p.2) p.1

/-- A logical grove that is retired (R364): the map of its row names its column. -/
def Chip.retired (c : Chip) (t g : Nat) : Bool := c.rf .sprGmap .hub (12 * t + g / 16) 8 4 == g % 16

/-- A logical grove whose contents a running swap copies to its spare (R361, R363): of a shift, those from column F on that are not served directly. -/
def Chip.copying (c : Chip) (t g : Nat) : Bool :=
  match c.hub.swap with
  | some s => s.phase == 3 && s.tile == t && (if s.shift
      then g / 16 == s.row && decide (s.col ≤ g % 16) && !(c.rf .sprGmap .hub (12 * t + s.row) 4 2 == 1 && g % 16 == s.col)
      else g == gidx s.col s.row)
  | none => false

/-- A source that is never raised: one of a retired grove (R364). -/
def EvSrc.silent (e : EvSrc) (c : Chip) : Bool :=
  match e with
  | .grove t g _ => c.retired t g
  | _ => false

/-- Raise an event source with an info word. -/
def raise (e : EvSrc) (info : Nat) (c : Chip) : Chip := if e.silent c then c else raiseAll 64 [(e, BitVec.ofNat 32 info)] c

/-- A field repair is made; firmware appends it to the repair log (R369): its kind, cause and location. -/
def Chip.logRepair (c : Chip) (kind cause loc : Nat) : Chip := c.modHub (fun h => { h with rlogDue := h.rlogDue ++ [(kind, cause, loc)] })

/-- The counter-overflow event of a counter: the block's (R78, R108, R113, R145, R178, R218, R272, R295, R300, R323, R354, R377, R409,
R435, R496, R522). -/
def Reg.ovfEv (r : Reg) (s : Site) : EvSrc :=
  match s with
  | .grove t g =>
    match r with
    | .spmCeCnt | .spmUeCnt | .spmCollideCnt | .spmPoisonCnt => .tile t 24
    | _ => .grove t g 4
  | .tile t =>
    match r with
    | .schDispatchCnt | .schDroppedReadyCnt | .schCancelCnt | .schPostLostCnt | .schLockOvfCnt | .schAbortCnt | .schReplayCnt
    | .schPhCnt => .tile t 8
    | .ctxHitCnt | .ctxMissCnt => .tile t 10
    | .cfgCnpUpsetCnt | .cfgIcpCnt | .cfgIcpRejCnt | .rgrRewriteCnt | .rgrCeCnt | .rgrGoldErrCnt => .tile t 14
    | .quePoisonCnt | .queFlushDrop | .queRefusedCnt | .queGladeCnt | .queCvFailCnt | .queGd7SpillCnt => .tile t 22
    | .tmbCeCnt | .tmbUeCnt | .tmbPoisonCnt => .tile t 26
    | .gd7CeCnt | .gd7UeCnt | .gd7CrcCnt | .gd7OdeCnt | .gd7RetrainCnt => .tile t 29
    | _ => .tile t 30
  | .hub =>
    match r with
    | .fabViolCnt | .fabUnmappedCnt | .fabCrcCnt | .fabLateCnt | .fabTimeoutCnt | .fabTransitCnt | .fabMsgDropCnt => .hub 9
    | .lnkReplayCnt | .lnkCrcCnt | .lnkFecCeCnt | .lnkFecUeCnt | .lnkRetrainCnt | .lnkFiCnt => .hub 13
    | .d2dReplayCnt | .d2dCrcCnt | .d2dRetrainCnt | .d2dFiCnt => .hub 16
    | _ => .hub 38

/-- Count `n` occurrences in a statistics counter (R14), raising its block's overflow event when the sticky bit changes. -/
def Chip.bump (c : Chip) (r : Reg) (s : Site) (i : Nat := 0) (n : Nat := 1) : Chip :=
  let p := bumpRaw c r s i n
  if p.2 then raise (r.ovfEv s) (r.addr s i) p.1 else p.1

/-- The condition of a level source (R221): it is raised when it begins to hold, and in each later cycle (`tick`) in which it still holds. -/
def levelAt (tick : Bool) (e : EvSrc) (cond : Bool) (info : Nat) (c : Chip) : Chip :=
  let held := fld (c.ev e) 61 1 == 1
  let c := c.setEv e (setFld (c.ev e) 61 1 (b2n cond))
  if cond && (tick || !held) then raise e info c else c

/-- The condition of a level source as a command leaves it. -/
def setLevel (e : EvSrc) (cond : Bool) (info : Nat) (c : Chip) : Chip := levelAt false e cond info c

/-- A capture register is written only while its valid bit (bit 63) is 0. -/
def Chip.capture (c : Chip) (r : Reg) (s : Site) (i : Nat) (v : BitVec 64) : Chip :=
  if c.rbit r s i 63 then c else c.setReg r s i (setFld v 63 1 1)

/-- Build a register value from (lo, width, value) triples. -/
def mkReg (l : List (Nat × Nat × Nat)) : BitVec 64 := l.foldl (fun v f => setFld v f.1 f.2.1 f.2.2) 0#64

/-- Some comparator is enabled (R577). -/
def Chip.armed (c : Chip) : Bool := (List.range 8).any (fun n => c.rbit .dbgCmp .hub n 63)

/-- Note what the comparators can see in this command (R577). -/
def Chip.see (c : Chip) (o : Obs) : Chip := if c.armed then { c with obs := c.obs ++ [o] } else c

/-- The bank of a scratchpad address (R273). -/
def spBank (a : Nat) : Nat := a / 8 % 8

/-- The row of a scratchpad address within its bank (R273). -/
def spRow (a : Nat) : Nat := a / 64 % 2048

/-! ### Tile-memory blocks and their power (R279, R288) -/

/-- The block of a tile-memory offset (R279). -/
def Chip.tmBlock (c : Chip) (t a : Nat) : Nat := if c.rbit .tmbCtl (.tile t) 0 1 then a / 2 ^ 19 % 64 else a / 64 % 64

/-- The row of a tile-memory offset within its block (R279). -/
def Chip.tmRow (c : Chip) (t a : Nat) : Nat :=
  if c.rbit .tmbCtl (.tile t) 0 1 then a / 8 % 65536 else (a / 4096 % 8192) * 8 + a / 8 % 8

/-- The tile-memory offset of a row of a block (R279). -/
def Chip.tmOffset (c : Chip) (t b r : Nat) : Nat :=
  if c.rbit .tmbCtl (.tile t) 0 1 then b * 2 ^ 19 + r * 8 else (r / 8) * 4096 + b * 64 + (r % 8) * 8

/-- The power state of the block of a tile-memory offset. -/
def Chip.tmPwr (c : Chip) (t a : Nat) : MemPwr := kget .on (c.tile t).tmbPwr (c.tmBlock t a)

/-- An access wakes a block from retention (R288, R290); it returns there under the automatic rule only. -/
def Chip.tmWake (c : Chip) (t a : Nat) : Chip :=
  if c.tmPwr t a = .retention then c.modTile t (fun ti => { ti with tmbPwr := kset ti.tmbPwr (c.tmBlock t a) .on, tmbWoken := (ti.tmbWoken.filter (fun b => b != c.tmBlock t a)) ++ [c.tmBlock t a] }) else c

/-- A memory that is off or on its way to off refuses accesses (R290). -/
def MemPwr.dead (p : MemPwr) : Bool := p == .off || p == .transition

/-- A row that is written leaves its write-back entry (R286). -/
def Chip.wbDrop (c : Chip) (a : Nat) : Chip :=
  if 0x1000000000 ≤ a ∧ a < 0x1400000000 then
    let t := (a - 0x1000000000) / 0x100000000
    let g := a % 0x100000000 / 0x40000
    let o := a % 0x40000
    if kfind? (c.grove t g).spmWb (spBank o) = some (spRow o) then c.modGrove t g (fun gr => { gr with spmWb := kdel gr.spmWb (spBank o) }) else c
  else if 0x2000000000 ≤ a ∧ a < 0x2400000000 then
    let t := (a - 0x2000000000) / 0x100000000
    let o := a % 0x100000000
    if kfind? (c.tile t).tmbWb (c.tmBlock t o) = some (c.tmRow t o) then c.modTile t (fun ti => { ti with tmbWb := kdel ti.tmbWb (c.tmBlock t o) }) else c
  else c

/-! ### Memory words -/

/-- The poison encoding of a row (R285). -/
def poisonRow : Nat := 0x9C5E27B1D04A638F

/-- The channel of a GDDR7 window offset: tile and local channel (R303, R305). -/
def gdChan (o : Nat) : Nat × Nat :=
  let b := o / 64
  let c := (b % 32) ^^^ (b / 2 ^ 8 % 32) ^^^ (b / 2 ^ 16 % 32) ^^^ (b / 2 ^ 24 % 32)
  (c / 8, c % 8)

/-- The channel of a GDDR7 address is down (R314). -/
def Chip.gdDown (c : Chip) (o : Nat) : Bool := (kget {} (c.tile (gdChan o).1).chans (gdChan o).2).state == .down

/-- Whether the word at `a` is poisoned: its row holds the poison encoding, its GDDR7 block is written poisoned, or its channel is down
(R285, R309, R314). -/
def Dev.poisonAt (d : Dev) (a : Nat) : Bool :=
  if gdBase ≤ a then kget false d.chip.gdPoison ((a - gdBase) / 64) || d.chip.gdDown (a - gdBase)
  else d.mem.load (a - a % 8) 8 == poisonRow

/-- The aligned word at `a`, poisoned when its row or block is (R285, R310). -/
def Dev.rd32 (d : Dev) (a : Nat) : TWord :=
  let a := a - a % 4
  twordP (d.poisonAt a) (BitVec.ofNat 32 (d.mem.load a 4))

/-- Mark a row or block poisoned. -/
def Dev.poison (d : Dev) (a : Nat) : Dev :=
  if gdBase ≤ a then { d with chip := { d.chip with gdPoison := kset d.chip.gdPoison ((a - gdBase) / 64) true } }
  else { mem := d.mem.store (a - a % 8) 8 poisonRow, chip := d.chip.wbDrop a }

/-- Store `n` bytes of clean data that lie in one row: a row that holds the poison encoding stays poisoned unless all of it is
written (R285); a GDDR7 block keeps its poison (R309). -/
def Dev.wrBytes (d : Dev) (a n v : Nat) : Dev :=
  if gdBase ≤ a then (if d.chip.gdDown (a - gdBase) then d else { d with mem := d.mem.store a n v })
  else if d.mem.load (a - a % 8) 8 == poisonRow && decide (n < 8) then d
  else { mem := d.mem.store a n v, chip := d.chip.wbDrop a }

/-- Write one aligned word (R284, R285). -/
def Dev.wr32 (d : Dev) (a : Nat) (w : TWord) : Dev :=
  let a := a - a % 4
  if TWord.isPoison w then
    if gdBase ≤ a then Dev.poison (d.wrBytes a 4 (TWord.data w).toNat) a else d.poison a
  else d.wrBytes a 4 (TWord.data w).toNat

/-- Write both words of a row; clean words make a row clean (R285). -/
def Dev.wrRow (d : Dev) (a : Nat) (lo hi : TWord) : Dev :=
  let a := a - a % 8
  if TWord.isPoison lo || TWord.isPoison hi then
    if gdBase ≤ a then Dev.poison (d.wrBytes a 8 ((TWord.data lo).toNat + 2 ^ 32 * (TWord.data hi).toNat)) a else d.poison a
  else d.wrBytes a 8 ((TWord.data lo).toNat + 2 ^ 32 * (TWord.data hi).toNat)

/-- Write a run of words from an aligned address, row by row where both words of a row are given. -/
def Dev.wrWords (d : Dev) (a : Nat) : List TWord → Dev
  | [] => d
  | [w] => d.wr32 a w
  | w :: v :: r => if a % 8 = 0 then Dev.wrWords (d.wrRow a w v) (a + 8) r else Dev.wrWords (d.wr32 a w) (a + 4) (v :: r)

/-- Write a whole 64-byte GDDR7 block; 16 clean words make it clean (R309). -/
def Dev.wrBlock (d : Dev) (a : Nat) (ws : List TWord) : Dev :=
  if gdBase ≤ a && d.chip.gdDown (a - gdBase) then d.on (fun c => c.bump .gd7UeCnt (.tile (gdChan (a - gdBase)).1))
  else
    let d := if gdBase ≤ a then { d with chip := { d.chip with gdPoison := kdel d.chip.gdPoison ((a - gdBase) / 64) } } else d
    d.wrWords a ws

/-- A run of words. -/
def Dev.rdWords (d : Dev) (a : Nat) : Nat → List TWord
  | 0 => []
  | n + 1 => d.rd32 a :: Dev.rdWords d (a + 4) n

/-! ### The address map (R33–R35) -/

/-- What an address names. -/
inductive Region where
  | hubReg (off : Nat)
  | tileReg (t off : Nat)
  | groveReg (t g off : Nat)
  | spad (t g off : Nat)
  | tmem (t off : Nat)
  | ctxView (t i off : Nat)
  | gddr (off : Nat)
  | remote (dv off : Nat)
  | unpopulated
  | unmapped
  deriving DecidableEq, Repr

/-- The usable GDDR7 capacity in bytes: 15/16 of the installed one, at the smallest density the controllers have read; full
population while none has been read (R34, R304). -/
def Chip.gdCap (c : Chip) : Nat :=
  let dens := (List.range 4).flatMap (fun t => (List.range 8).map (fun i => (kget {} (c.tile t).chans i).density))
  let known := dens.filter (fun x => x < 3)
  let m := if known.contains 0 then 0 else if known.contains 1 then 1 else 2
  match m with
  | 0 => 15 * 2 ^ 30
  | 1 => 45 * 2 ^ 29
  | _ => 30 * 2 ^ 30

/-- The row of the address map that covers an address (R33, R35). DEDUCED (log 119): a grove index has four bits of x and four of y, so that the places
with x or y above 11 are those of the indices up to 255 that name no grove. -/
def regionOf (cap : Nat) (a : Nat) : Region :=
  if a < 0x4000000 then .hubReg a
  else if 0x10000000 ≤ a ∧ a < 0x50000000 then
    let t := a / 0x10000000 - 1
    let o := a % 0x10000000
    if o < 0x8000000 then .tileReg t o
    else
      let g := (o - 0x8000000) / 0x10000
      if 256 ≤ g then .unmapped else if gpop g then .groveReg t g (o % 0x10000) else .unpopulated
  else if 0x1000000000 ≤ a ∧ a < 0x1400000000 then
    let t := (a - 0x1000000000) / 0x100000000
    let g := a % 0x100000000 / 0x40000
    let o := a % 0x40000
    if 256 ≤ g then .unmapped else if gpop g && decide (o < 0x20000) then .spad t g o else .unpopulated
  else if 0x2000000000 ≤ a ∧ a < 0x2400000000 then
    let o := a % 0x100000000
    if o < 0x2000000 then .tmem ((a - 0x2000000000) / 0x100000000) o else .unmapped
  else if 0x3000000000 ≤ a ∧ a < 0x3400000000 then
    let o := a % 0x100000000
    if o < 0x200000 then .ctxView ((a - 0x3000000000) / 0x100000000) (o / 0x200) (o % 0x200) else .unmapped
  else if gdBase ≤ a ∧ a < gdBase + cap then .gddr (a - gdBase)
  else if 0x800000000000 ≤ a ∧ a < 0x1000000000000 then
    .remote ((a - 0x800000000000) / 0x20000000000) (a % 0x20000000000)
  else .unmapped

end Sys2Proof.Machine
end

