-- ==== Sys2Proof/Machine/Operands.lean ====
section
/-!
DEFINITION. Operand forms: the cell field (R70), the crossbar's tracks (R82–R88), the operands of a cell (R44, R45), the sections of a
context image (R148), the sequencer's register specifiers (R117), header fields of packets (R382).
-/
namespace Sys2Proof

/-! ### Packets -/

/-- `w` bits of a header from bit `lo` (R382). -/
def Packet.f (p : Packet) (lo w : Nat) : Nat := (p.hdr.extractLsb' lo w).toNat
/-- Header type. -/
def Packet.type (p : Packet) : Nat := p.f 0 5
/-- Header vc. -/
def Packet.vc (p : Packet) : Nat := p.f 5 2
/-- Header dst. -/
def Packet.dst (p : Packet) : Nat := p.f 8 12
/-- Header src. -/
def Packet.src (p : Packet) : Nat := p.f 20 12
/-- Header seq. -/
def Packet.seq (p : Packet) : Nat := p.f 32 16
/-- Header vlink. -/
def Packet.vlink (p : Packet) : Nat := p.f 48 8
/-- Header len. -/
def Packet.len (p : Packet) : Nat := p.f 56 7
/-- Header tag. -/
def Packet.tag (p : Packet) : Nat := p.f 64 10
/-- The index of the arrival virtual link's register FAB_VL_n. -/
def Packet.vl (p : Packet) : Nat := 256 * p.port + p.vlink

/-- A link-local message (R439): an MSG with src and dst both 4,095, on virtual link 0. -/
def Packet.isLocal (p : Packet) : Bool := p.type == 0x1A && p.src == 4095 && p.dst == 4095 && p.vlink == 0

end Sys2Proof

namespace Sys2Proof.Machine

/-! ### The context image -/

/-- `w` bits of an image from bit `lo`. -/
def imgBits (img : BitVec 4096) (lo w : Nat) : Nat := (img.extractLsb' lo w).toNat

/-- Header number (R149). -/
def imgNumber (img : BitVec 4096) : Nat := imgBits img 48 16
/-- Header gen (R149). -/
def imgGen (img : BitVec 4096) : Nat := imgBits img 32 16
/-- Header firebreak (R149). -/
def imgFirebreak (img : BitVec 4096) : Nat := imgBits img 24 8
/-- Header version (R149). -/
def imgVersion (img : BitVec 4096) : Nat := imgBits img 16 8
/-- Header cache_pin (R149). -/
def imgCachePin (img : BitVec 4096) : Bool := img.getLsbD 2
/-- Header slot_keep (R149). -/
def imgSlotKeep (img : BitVec 4096) : Bool := img.getLsbD 1
/-- Header kretain (R149). -/
def imgKretain (img : BitVec 4096) : Bool := img.getLsbD 0
/-- The 128-bit field of cell N (R71, R148). -/
def imgCell (img : BitVec 4096) (n : Nat) : BitVec 128 := img.extractLsb' (128 + 128 * n) 128
/-- The routing section (R105, R148). -/
def imgRoute (img : BitVec 4096) : BitVec 1024 := img.extractLsb' 2176 1024
/-- The edge_use byte of the routing section (R105): its place in the image, and its value. -/
def edgeUseAt : Nat := 272 + 0x78
def imgEdge (img : BitVec 4096) : Nat := (img.extractLsb' (8 * edgeUseAt) 8).toNat
/-- The control word of the sequencer section (R114, R115). -/
def imgCtl (img : BitVec 4096) : BitVec 64 := img.extractLsb' 3200 64
/-- Constant Kn (R114). -/
def imgK (img : BitVec 4096) (n : Nat) : Word := img.extractLsb' (3264 + 32 * n) 32
/-- Instruction word i (R114). -/
def imgInstr (img : BitVec 4096) (i : Nat) : Word := img.extractLsb' (3392 + 32 * i) 32
/-- Control word n_instr (R115). -/
def imgN (img : BitVec 4096) : Nat := fld (imgCtl img) 22 5
/-- Control word spill_len (R115). -/
def imgSpillLen (img : BitVec 4096) : Nat := fld (imgCtl img) 48 8
/-- Control word spill_base, a byte address (R115). -/
def imgSpillBase (img : BitVec 4096) : Nat := 8 * fld (imgCtl img) 34 14
/-- Control word spill_grow (R115). -/
def imgSpillGrow (img : BitVec 4096) : Bool := fld (imgCtl img) 33 1 == 1
/-- Control word susp_en (R115). -/
def imgSuspEn (img : BitVec 4096) : Bool := fld (imgCtl img) 32 1 == 1
/-- The cycle budget the control word gives (R115). -/
def imgBudget (img : BitVec 4096) : Nat :=
  let e := fld (imgCtl img) 27 5
  if e = 0 then 2 ^ 20 else 2 ^ e

/-! ### The cell field -/

/-- The fields of a cell field (R70). -/
structure CellField where
  resv : Nat
  laneMask : Nat
  rnd : Nat
  accShift : Nat
  shamtSrc : Bool
  shamt : Nat
  shuf : Nat
  immMode : Nat
  imm : Nat
  fire : Nat
  cond : Nat
  flagEn : Bool
  coutEn : Bool
  cin : Nat
  accSel : Bool
  wbEn : Bool
  wbK : Nat
  srcC : Nat
  srcB : Nat
  srcA : Nat
  sat : Bool
  sgn : Bool
  lane : Nat
  opcode : Nat
  deriving DecidableEq, Repr

/-- Bits of a cell field. -/
def cfBits (v : BitVec 128) (lo w : Nat) : Nat := (v.extractLsb' lo w).toNat

/-- Read a cell field (R70). -/
def cellField (v : BitVec 128) : CellField where
  resv := cfBits v 85 43
  laneMask := cfBits v 81 4
  rnd := cfBits v 79 2
  accShift := cfBits v 73 6
  shamtSrc := v.getLsbD 72
  shamt := cfBits v 67 5
  shuf := cfBits v 55 12
  immMode := cfBits v 53 2
  imm := cfBits v 37 16
  fire := cfBits v 35 2
  cond := cfBits v 31 4
  flagEn := v.getLsbD 30
  coutEn := v.getLsbD 29
  cin := cfBits v 27 2
  accSel := v.getLsbD 26
  wbEn := v.getLsbD 25
  wbK := cfBits v 23 2
  srcC := cfBits v 19 4
  srcB := cfBits v 15 4
  srcA := cfBits v 11 4
  sat := v.getLsbD 10
  sgn := v.getLsbD 9
  lane := cfBits v 7 2
  opcode := cfBits v 0 7

/-- The opcodes of R51 permitted in every lane mode. -/
def opAnyLane (o : Nat) : Bool :=
  decide (o ≤ 0x0B) || (decide (0x10 ≤ o) && decide (o ≤ 0x14)) || (decide (0x20 ≤ o) && decide (o ≤ 0x25)) ||
  (decide (0x28 ≤ o) && decide (o ≤ 0x2B)) || (decide (0x2D ≤ o) && decide (o ≤ 0x2F))

/-- The opcodes of R51 permitted in W32 mode only. -/
def opWOnly (o : Nat) : Bool :=
  (decide (0x15 ≤ o) && decide (o ≤ 0x18)) || o == 0x2C || (decide (0x40 ≤ o) && decide (o ≤ 0x43)) || o == 0x50 || o == 0x51

/-- Encodings that R72 calls reserved: opcode, sources, lane mode, rounding, reserved bits. -/
def CellField.reserved (f : CellField) : Bool :=
  !(opAnyLane f.opcode || opWOnly f.opcode) || decide (0xE ≤ f.srcA) || decide (0xE ≤ f.srcB) || decide (0xE ≤ f.srcC) ||
  f.lane == 3 || f.rnd == 3 || f.resv != 0

/-- The operation is permitted in the lane mode, and lane_mask names only lanes of the mode (R70, R72). -/
def CellField.laneOk (f : CellField) : Bool :=
  (opAnyLane f.opcode || (opWOnly f.opcode && f.lane == 0)) &&
  (match f.lane with
   | 0 => f.laneMask == 0 || f.laneMask == 1
   | 1 => decide (f.laneMask ≤ 3)
   | _ => true)

/-- The latency of an operation in cycles (R51). -/
def opLatency (o : Nat) : Nat :=
  if 0x10 ≤ o ∧ o ≤ 0x17 then 3 else if o = 0x40 then 2 else if o = 0x42 ∨ o = 0x43 then 3 else 1

/-- Whether an operation reads operand a (R51). -/
def opReadsA (o : Nat) : Bool := !(o == 0x00 || o == 0x17 || o == 0x18 || o == 0x50)

/-- Whether an operation reads operand b (R51, R54). -/
def opReadsB (f : CellField) : Bool :=
  let o := f.opcode
  o == 0x01 || o == 0x02 || (decide (0x05 ≤ o) && decide (o ≤ 0x0A)) || (decide (0x10 ≤ o) && decide (o ≤ 0x14)) || o == 0x16 ||
  (decide (0x20 ≤ o) && decide (o ≤ 0x23)) || o == 0x25 || o == 0x2C || (decide (0x41 ≤ o) && decide (o ≤ 0x43)) ||
  ((decide (0x28 ≤ o) && decide (o ≤ 0x2B)) && f.shamtSrc)

/-- Whether an operation reads operand c (R51). -/
def opReadsC (o : Nat) : Bool := o == 0x12 || o == 0x25

/-- Whether a firing operation touches the accumulators (R65). -/
def opTouches (f : CellField) : Bool :=
  (decide (0x13 ≤ f.opcode) && decide (f.opcode ≤ 0x18)) ||
  (opReadsA f.opcode && (f.srcA == 0xB || f.srcA == 0xC)) || (opReadsB f && (f.srcB == 0xB || f.srcB == 0xC)) ||
  (opReadsC f.opcode && (f.srcC == 0xB || f.srcC == 0xC))

/-! ### Tracks -/

/-- The lowest set bit below `n` of a select (R98). -/
def lowBit (v : Nat) : Nat → Option Nat
  | 0 => none
  | n + 1 =>
    match lowBit v n with
    | some i => some i
    | none => if bitOf v n then some n else none

/-- The number of set bits below `n`. -/
def popBits (v : Nat) : Nat → Nat
  | 0 => 0
  | n + 1 => popBits v n + b2n (bitOf v n)

/-- First section bit and width of the select of a track (R105, R106). -/
def trackSel (k : Nat) : Nat × Nat :=
  if k < 64 then (8 * k, 8) else if k < 84 then (512 + 16 * (k - 64), 16) else (832 + 64 * (k - 84), 64)

/-- The active select latch of a track. -/
def Grove.sel (gr : Grove) (k : Nat) : Nat := (gr.latches.extractLsb' (trackSel k).1 (trackSel k).2).toNat

/-- The sources of tracks (R83). -/
inductive TrackSrc where
  | cell (n : Nat)
  | qr (u : Nat)
  | ci (u : Nat)
  | edge (side lane : Nat)
  deriving DecidableEq, Repr

/-- The logical cell at offset (a, b) from cell cN (R86). -/
def cellAt (n a b : Nat) : Nat := 4 * ((n / 4 + a) % 4) + (n % 4 + b) % 4

/-- What bit `i` of the select of input `k` (XA–XD) of cell N connects (R86). -/
def inputSrc (n k i : Nat) : Option TrackSrc :=
  let r := n / 4
  let j := n % 4
  match k, i with
  | 0, 4 => some (.qr 0)
  | 0, 5 => some (.qr 1)
  | 0, 6 => some (.ci 0)
  | 0, 7 => some (.ci 1)
  | 0, i => some (.cell (4 * r + i))
  | 1, 4 => some (.edge 3 r)
  | 1, 5 => some (.edge 1 r)
  | 1, 6 => some (.edge 0 j)
  | 1, 7 => some (.edge 2 j)
  | 1, i => some (.cell (4 * i + j))
  | 2, 0 => some (.cell (cellAt n 1 1))
  | 2, 1 => some (.cell (cellAt n 1 2))
  | 2, 2 => some (.cell (cellAt n 1 3))
  | 2, 3 => some (.cell (cellAt n 2 1))
  | 2, 4 => some (.cell (cellAt n 2 2))
  | 2, 5 => some (.cell (cellAt n 2 3))
  | 2, 6 => some (.cell (cellAt n 3 1))
  | 2, 7 => some (.cell (cellAt n 3 2))
  | 3, 0 => some (.cell (cellAt n 3 3))
  | 3, 1 => some (.qr 0)
  | 3, 2 => some (.qr 1)
  | 3, 3 => some (.ci 0)
  | 3, 4 => some (.ci 1)
  | _, _ => none

/-- A word on a track with its valid qualifier (R80); the idle track (R82). -/
abbrev Track := TWord × Bool

/-- Cell N of a grove. -/
def Grove.cell (gr : Grove) (n : Nat) : Cell := kget {} gr.cells n

/-- A read port of the running task. -/
def Grove.qr (gr : Grove) (u : Nat) : QRPort :=
  match gr.run with
  | some r => if u = 0 then r.qr0 else r.qr1
  | none => {}

/-- The word of a canopy in tap (R88, R92): the last stage of the channel its select names. -/
def ciTrack (ti : Tile) (gr : Grove) (u : Nat) : Track :=
  match lowBit (gr.sel (84 + u)) 64 with
  | some ch => (kget [] ti.cnp ch).getD 5 (0#35, false)
  | none => (0#35, false)

/-- The word of a track source in this cycle (R84, R85). -/
def trackOf (ti : Tile) (gr : Grove) : TrackSrc → Track
  | .cell n => ((gr.cell n).out, (gr.cell n).outValid)
  | .qr u => let p := gr.qr u; if p.valid then (p.out, true) else (0#35, false)
  | .ci u => ciTrack ti gr u
  | .edge s l => kget (0#35, false) gr.edgeIn (4 * s + l)

/-- The word on input XA–XD of a cell: the lowest set select bit drives; with none the track is idle (R82, R98). -/
def inputTrack (ti : Tile) (gr : Grove) (n k : Nat) : Track :=
  match lowBit (gr.sel (4 * n + k)) 8 with
  | some i =>
    match inputSrc n k i with
    | some s => trackOf ti gr s
    | none => (0#35, false)
  | none => (0#35, false)

/-- The word on an output track (QW, CO, edge out), which selects one cell's OUT (R87). -/
def outTrack (gr : Grove) (k : Nat) : Track :=
  match lowBit (gr.sel k) 16 with
  | some i => ((gr.cell i).out, (gr.cell i).outValid)
  | none => (0#35, false)

/-! ### Operands of a cell -/

/-- The immediate expanded under imm_mode (R45). -/
def immWord (f : CellField) : Word :=
  match f.immMode with
  | 0 => BitVec.ofNat 32 (if 2 ^ 15 ≤ f.imm then f.imm + 0xFFFF0000 else f.imm)
  | 1 => BitVec.ofNat 32 f.imm
  | 2 => BitVec.ofNat 32 (f.imm * 2 ^ 16)
  | _ => if f.lane = 2 then BitVec.ofNat 32 ((f.imm % 256) * 0x01010101) else BitVec.ofNat 32 (f.imm * 0x10001)

/-- The working bank of a slot (R161, R162). -/
def Grove.workBank (gr : Grove) (slot : Nat) : Option Nat :=
  (List.range 8).find? (fun b => match kfind? gr.alloc b with
    | some a => a.slot == slot && !a.committed
    | none => false)

/-- The committed bank of a kretain slot (R161). -/
def Grove.commBank (gr : Grove) (slot : Nat) : Option Nat :=
  (List.range 8).find? (fun b => match kfind? gr.alloc b with
    | some a => a.slot == slot && a.committed
    | none => false)

/-- Register k of cell N as it reads in this cycle: the working bank of the running slot (R160, R162), or what it held when the cycle began
(R46). -/
def Grove.kreg (gr : Grove) (n k : Nat) : TWord :=
  match kfind? gr.kOld (4 * n + k), gr.run with
  | some w, _ => w
  | none, some r => match gr.workBank r.slot with
    | some b => kget 0#35 gr.banks (b * 64 + 4 * n + k)
    | none => 0#35
  | none, none => 0#35

/-- The selected accumulator of a cell. -/
def Cell.accu (c : Cell) (sel : Bool) : Accu := if sel then c.acc1 else c.acc0

/-- A half of an accumulator as a word: poisoned when the accumulator is (R44, R66). -/
def Accu.half (a : Accu) (hi : Bool) : TWord :=
  twordP (a.res == 7#3) (if hi then a.val.extractLsb' 32 32 else a.val.extractLsb' 0 32)

/-- An operand word with its valid qualifier; sources other than the crossbar inputs count as valid (R44, R47). -/
def operand (ti : Tile) (gr : Grove) (n : Nat) (f : CellField) (src : Nat) : Track :=
  if src < 4 then inputTrack ti gr n src
  else if src < 8 then (gr.kreg n (src - 4), true)
  else match src with
    | 0x8 => (tword (immWord f), true)
    | 0x9 => (match gr.run with | some r => r.sq | none => 0#35, true)
    | 0xA => ((gr.cell n).out, true)
    | 0xB => (((gr.cell n).accu f.accSel).half false, true)
    | 0xC => (((gr.cell n).accu f.accSel).half true, true)
    | _ => (0#35, true)

/-- The condition bit a cell exports (R57). -/
def condBit (c : Cell) (f : CellField) : Bool := c.flags.getLsbD (4 * (f.cond / 4) + f.cond % 4)

/-! ### The running slot -/

/-- A slot of a grove. -/
def Grove.slot (gr : Grove) (n : Nat) : Slot := kget {} gr.slots n

/-- The image of the running slot. -/
def Grove.runImg (gr : Grove) : BitVec 4096 :=
  match gr.run with
  | some r => (gr.slot r.slot).img
  | none => 0#4096

/-- The window of a task at a depth, when it is in the window file (R134). -/
def Grove.window? (gr : Grove) (slot depth : Nat) : Option Window :=
  gr.windows.find? (fun w => w.slot == slot && w.depth == depth)

/-- The current window of the running task. -/
def Grove.curWin (gr : Grove) : Window :=
  match gr.run with
  | some r => (gr.window? r.slot r.depth).getD { slot := r.slot, depth := r.depth }
  | none => { slot := 0, depth := 1 }

/-- The number of free windows (R137). -/
def Grove.freeWin (gr : Grove) : Nat := 32 - gr.windows.length

/-- The value of a sequencer register specifier (R117). -/
def seqReg (gr : Grove) (s : Nat) : TWord :=
  match gr.run with
  | none => 0#35
  | some r =>
    if s < 8 then kget 0#35 gr.curWin.regs s
    else if s < 12 then tword (imgK gr.runImg (s - 8))
    else match s with
      | 12 => tword (BitVec.ofNat 32 r.ilen)
      | 13 => tword (BitVec.ofNat 32 r.flow.toNat)
      | 14 => tword (BitVec.ofNat 32 r.budget)
      | _ => 0#35

end Sys2Proof.Machine
end

