-- ==== Sys2Proof/Machine/Flags.lean ====
section
/-!
DEFINITION. The cell's datapath and its checker: lane arithmetic (R43, R51–R55), flags (R56), the checks of R58–R61 and their classes
(R605), accumulator writes (R64, R66), and the sequencer's ALU checks (R118).
-/
namespace Sys2Proof.Machine

/-- The lanes of a lane mode: offset and width (R43). -/
def lanesOf : Nat → List (Nat × Nat)
  | 0 => [(0, 32)]
  | 1 => [(0, 16), (16, 16)]
  | 2 => [(0, 8), (8, 8), (16, 8), (24, 8)]
  | _ => []

/-- The result of one lane. `raw` is the unsaturated lane result, `src` the value Z and N describe, `pred` and `obs` the pairs the Res
checks compare. -/
structure LaneRes where
  y : Nat := 0
  raw : Nat := 0
  c : Bool := false
  v : Bool := false
  src : Nat := 0
  checks : List (Nat × Nat) := []
  sel : Bool := false
  deriving DecidableEq, Repr

/-- An integer's value modulo 7. -/
def mod7 (i : Int) : Nat := (i % 7).toNat

/-- The lane operand in the interpretation sgn selects (R52). -/
def laneInt (sgn : Bool) (w n : Nat) : Int := if sgn then toInt w n else ((n % 2 ^ w : Nat) : Int)

/-- The lowest value of a lane's range (R53). -/
def laneMin (sgn : Bool) (w : Nat) : Int := if sgn then -((2 ^ (w - 1) : Nat) : Int) else 0

/-- The highest value of a lane's range (R53). -/
def laneMax (sgn : Bool) (w : Nat) : Int := if sgn then ((2 ^ (w - 1) : Nat) : Int) - 1 else ((2 ^ w : Nat) : Int) - 1

/-- A lane result outside the range (R53). -/
def outside (sgn : Bool) (w : Nat) (i : Int) : Bool := decide (i < laneMin sgn w) || decide (laneMax sgn w < i)

/-- Wrap or saturate an exact lane result (R53). -/
def satLane (sat sgn : Bool) (w : Nat) (i : Int) : Nat :=
  if sat && decide (i < laneMin sgn w) then wrapInt w (laneMin sgn w)
  else if sat && decide (laneMax sgn w < i) then wrapInt w (laneMax sgn w)
  else wrapInt w i

/-- The predicted residue of a lane addition (R59). -/
def predAdd (w a b cin : Nat) (c : Bool) : Nat := mod7 ((a % 7 : Nat) + (b % 7 : Nat) + (cin : Int) - (b2n c * (2 ^ w % 7) : Nat))

/-- The predicted residue of a lane subtraction (R59). -/
def predSub (w a b cin : Nat) (c : Bool) : Nat := mod7 ((a % 7 : Nat) - ((b % 7 : Nat) : Int) - (cin : Int) + (b2n c * (2 ^ w % 7) : Nat))

/-- The residue of a lane operand as sgn selects (R59). -/
def laneRes (sgn : Bool) (w n : Nat) : Int :=
  ((n % 7 : Nat) : Int) - (if sgn && decide (2 ^ w ≤ 2 * n) then ((2 ^ w % 7 : Nat) : Int) else 0)

/-- A lane addition with its carry (R51, R53, R56); `up` is the upset of the lane's result seen by the checker. -/
def laneAdd (sat sgn : Bool) (w a b cin up : Nat) : LaneRes :=
  let s := a + b + cin
  let raw := s % 2 ^ w
  let c := decide (2 ^ w ≤ s)
  let ex := laneInt sgn w a + laneInt sgn w b + (cin : Int)
  { y := satLane sat sgn w ex, raw := raw, c := c, v := outside sgn w ex, src := satLane sat sgn w ex,
    checks := [(predAdd w a b cin c, (raw ^^^ up) % 7)] }

/-- A lane subtraction with its borrow (R51, R53, R56). -/
def laneSub (sat sgn : Bool) (w a b cin up : Nat) : LaneRes :=
  let raw := (a + 2 * 2 ^ w - b - cin) % 2 ^ w
  let c := decide (a < b + cin)
  let ex := laneInt sgn w a - laneInt sgn w b - (cin : Int)
  { y := satLane sat sgn w ex, raw := raw, c := c, v := outside sgn w ex, src := satLane sat sgn w ex,
    checks := [(predSub w a b cin c, (raw ^^^ up) % 7)] }

/-- The product check of a lane (R59): residues of the low and high halves against the product of the operands' residues. -/
def mulCheck (sgn : Bool) (w a b lo hi : Nat) : Nat × Nat :=
  (mod7 (laneRes sgn w a * laneRes sgn w b),
   mod7 (((lo % 7 : Nat) : Int) + ((2 ^ w % 7 : Nat) : Int) * laneRes sgn w hi))

/-- Count of leading zeros of a `w`-bit number (R51). -/
def clzN (n : Nat) : Nat → Nat
  | 0 => 0
  | w + 1 => if bitOf n w then 0 else 1 + clzN n w

/-- The number with its `w` bits in reverse order (R51). -/
def brevN (n : Nat) : Nat → Nat
  | 0 => 0
  | w + 1 => brevN (n / 2) w + b2n (bitOf n 0) * 2 ^ w

/-- One lane of an operation other than those on the accumulators, memory and flags (R51). `up` is the upset of the result seen by
the checker, `dup` the upset of the difference of a Res+Dup operation. -/
def laneOp (f : CellField) (w a b c cin up dup : Nat) : LaneRes :=
  let sgn := f.sgn
  let m : Nat := 2 ^ w
  let amt := (if f.shamtSrc then b else f.shamt) % w
  let diff := laneSub false sgn w a b 0 dup
  let lt := decide (laneInt sgn w a < laneInt sgn w b)
  let plain (y : Nat) : LaneRes := { y := y, raw := y, src := y }
  match f.opcode with
  | 0x01 => laneAdd f.sat sgn w a b cin up
  | 0x02 => laneSub f.sat sgn w a b cin up
  | 0x03 => laneSub f.sat sgn w 0 a 0 up
  | 0x04 =>
    let ex : Int := (toInt w a).natAbs
    let neg := laneSub false sgn w 0 a 0 dup
    { y := satLane f.sat sgn w ex, raw := wrapInt w ex, v := outside sgn w ex, src := satLane f.sat sgn w ex, checks := neg.checks, sel := true }
  | 0x05 =>
    let ex : Int := (laneInt sgn w a - laneInt sgn w b).natAbs
    { y := satLane f.sat sgn w ex, raw := wrapInt w ex, c := diff.c, v := outside sgn w ex, src := satLane f.sat sgn w ex,
      checks := diff.checks, sel := true }
  | 0x06 => let y := if lt then a else b; { y := y, raw := y, c := diff.c, v := diff.v, src := y, checks := diff.checks, sel := true }
  | 0x07 => let y := if lt then b else a; { y := y, raw := y, c := diff.c, v := diff.v, src := y, checks := diff.checks, sel := true }
  | 0x08 => let y := if a = b then m - 1 else 0; { y := y, raw := y, c := diff.c, v := diff.v, src := diff.raw, checks := diff.checks, sel := true }
  | 0x09 => let y := if lt then m - 1 else 0; { y := y, raw := y, c := diff.c, v := diff.v, src := diff.raw, checks := diff.checks, sel := true }
  | 0x0A => let y := if lt || a == b then m - 1 else 0; { y := y, raw := y, c := diff.c, v := diff.v, src := diff.raw, checks := diff.checks, sel := true }
  | 0x0B => { y := a, raw := a, src := a, checks := [(a % 7, (a ^^^ up) % 7)] }
  | 0x10 =>
    let ex := laneInt sgn w a * laneInt sgn w b
    let lo := wrapInt w ex
    let hi := wrapInt w (ex / (m : Int))
    let y := satLane f.sat sgn w ex
    { y := y, raw := lo, v := outside sgn w ex, src := y, checks := [mulCheck sgn w a b (lo ^^^ up) hi] }
  | 0x11 =>
    let ex := laneInt sgn w a * laneInt sgn w b
    let lo := wrapInt w ex
    let hi := wrapInt w (ex / (m : Int))
    { y := hi, raw := hi, src := hi, checks := [mulCheck sgn w a b lo (hi ^^^ up)] }
  | 0x12 =>
    let p := laneInt sgn w a * laneInt sgn w b
    let lo := wrapInt w p
    let hi := wrapInt w (p / (m : Int))
    let ex := p + laneInt sgn w c
    let add := laneAdd false sgn w lo c 0 up
    let y := satLane f.sat sgn w ex
    { y := y, raw := wrapInt w ex, c := add.c, v := outside sgn w ex, src := y, checks := [mulCheck sgn w a b lo hi] ++ add.checks }
  | 0x20 => plain (a &&& b)
  | 0x21 => plain (a ||| b)
  | 0x22 => plain (a ^^^ b)
  | 0x23 => plain (a &&& (m - 1 - b))
  | 0x24 => plain (m - 1 - a)
  | 0x25 => plain ((a &&& c) ||| (b &&& (m - 1 - c)))
  | 0x28 => { plain ((a * 2 ^ amt) % m) with c := decide (0 < amt) && bitOf a (w - amt) }
  | 0x29 => { plain (a / 2 ^ amt) with c := decide (0 < amt) && bitOf a (amt - 1) }
  | 0x2A => { plain (wrapInt w (toInt w a / ((2 ^ amt : Nat) : Int))) with c := decide (0 < amt) && bitOf a (amt - 1) }
  | 0x2B => plain ((a * 2 ^ amt) % m + a / 2 ^ (w - amt))
  | 0x2D => plain (clzN a w)
  | 0x2E => plain (popBits a w)
  | 0x2F => plain (brevN a w)
  | _ => plain 0

/-- The lane of a word. -/
def laneOf (x off w : Nat) : Nat := bitsOf x off w

/-- SHUF: byte k of the result is byte shuf_k of b:a (R54). -/
def shufWord (f : CellField) (a b : Nat) : Nat :=
  (List.range 4).foldl (fun acc k =>
    let s := bitsOf f.shuf (3 * k) 3
    acc + laneOf (if s < 4 then a else b) (8 * (s % 4)) 8 * 2 ^ (8 * k)) 0

/-- All lanes of an operation, lane 0 first; cin enters lane 0 only (R68). -/
def aluLanes (f : CellField) (a b c cin up dup : Nat) : List LaneRes :=
  if f.opcode = 0x2C then [{ y := shufWord f a b, raw := shufWord f a b, src := shufWord f a b }]
  else (lanesOf f.lane).map (fun l =>
    laneOp f l.2 (laneOf a l.1 l.2) (laneOf b l.1 l.2) (laneOf c l.1 l.2) (if l.1 = 0 then cin else 0) (laneOf up l.1 l.2) (laneOf dup l.1 l.2))

/-- The word of a list of lanes. -/
def wordOf (mode : Nat) (ys : List Nat) : Nat := ((lanesOf mode).zip ys).foldl (fun acc p => acc + p.2 * 2 ^ p.1.1) 0

/-- The check class of an operation that writes OUT or an accumulator (R51). -/
inductive ChkClass where
  | none | res | resDup | dup | pass | mem | par | accw
  deriving DecidableEq, Repr

/-- Check classes by opcode (R51). -/
def opClass (o : Nat) : ChkClass :=
  if o = 0x00 ∨ o = 0x17 then .none
  else if o ≤ 0x03 then .res
  else if o ≤ 0x0A then .resDup
  else if o = 0x0B then .pass
  else if 0x10 ≤ o ∧ o ≤ 0x12 then .res
  else if 0x13 ≤ o ∧ o ≤ 0x16 then .accw
  else if 0x40 ≤ o ∧ o ≤ 0x43 then .mem
  else if 0x50 ≤ o then .par
  else .dup

/-- The flag bits an operation writes per lane, as a mask over C, V, Z, N (R51): flags its entry omits are cleared (R56). -/
def opFlags (o : Nat) : Option (Bool × Bool) :=
  if o ≤ 0x03 ∧ 0x01 ≤ o then some (true, true)
  else if o = 0x04 then some (false, true)
  else if 0x05 ≤ o ∧ o ≤ 0x0A then some (true, true)
  else if o = 0x0B then some (false, false)
  else if o = 0x10 then some (false, true)
  else if o = 0x11 then some (false, false)
  else if o = 0x12 then some (true, true)
  else if 0x20 ≤ o ∧ o ≤ 0x25 then some (false, false)
  else if 0x28 ≤ o ∧ o ≤ 0x2A then some (true, false)
  else if 0x2B ≤ o ∧ o ≤ 0x2F then some (false, false)
  else none

/-- The nibble of a lane (R56): C, V, Z, N from bit 0; `zr` is what the chain ANDs into Z. -/
def laneNibble (cv : Bool × Bool) (w : Nat) (l : LaneRes) (zr : Bool) : Nat :=
  b2n (cv.1 && l.c) + 2 * b2n (cv.2 && l.v) + 4 * b2n (decide (l.src = 0) && zr) + 8 * b2n (bitOf l.src (w - 1))

/-- Mask of the bits of the lanes a lane_mask names; a mask of 0 names every lane of the mode (R70). -/
def laneBits (f : CellField) : Nat :=
  ((lanesOf f.lane).zip (List.range 4)).foldl (fun acc p =>
    if f.laneMask = 0 ∨ bitOf f.laneMask p.2 then acc + (2 ^ p.1.2 - 1) * 2 ^ p.1.1 else acc) 0

/-- Mask of the flag bits an update writes: the lanes written, and the nibbles of lanes the mode does not use (R56). -/
def flagMask (f : CellField) : Nat :=
  let n := (lanesOf f.lane).length
  (List.range 4).foldl (fun acc k =>
    if decide (n ≤ k) || f.laneMask == 0 || bitOf f.laneMask k then acc + 15 * 2 ^ (4 * k) else acc) 0

/-- The flag register an update gives (R56). -/
def flagWord (f : CellField) (cv : Bool × Bool) (ls : List LaneRes) (zr : Bool) : Nat :=
  ((ls.zip (lanesOf f.lane)).zip (List.range 4)).foldl (fun acc p =>
    acc + laneNibble cv p.1.2.2 p.1.1 (if p.2 = 0 then zr else true) * 2 ^ (4 * p.2)) 0

/-- Parity bits of the four nibbles (R56). -/
def flagPar (fl : BitVec 16) : BitVec 4 :=
  BitVec.ofNat 4 ((List.range 4).foldl (fun acc k => acc + (popBits (bitsOf fl.toNat (4 * k) 4) 4 % 2) * 2 ^ k) 0)

/-- Fold a word to 8 bits (R59). -/
def fold8 (n : Nat) : Nat := (bitsOf n 0 8) ^^^ (bitsOf n 8 8) ^^^ (bitsOf n 16 8) ^^^ (bitsOf n 24 8)

/-- The first pair of a list that disagrees. -/
def firstBad : List (Nat × Nat) → Option (Nat × Nat)
  | [] => none
  | p :: r => if p.1 = p.2 then firstBad r else some p

/-- Check k of the lanes as one check of the word (R43, R59, R60): the predicted and the observed word residue, weighted sums over the lanes;
a lane that lane_mask leaves out counts with the lane of OUT it keeps. -/
def wordCheck (f : CellField) (ls : List LaneRes) (kept k : Nat) : Nat × Nat :=
  let ps := ((lanesOf f.lane).zip (ls.zip (List.range 4))).map (fun (x : (Nat × Nat) × LaneRes × Nat) =>
    let p : Nat × Nat := if f.laneMask = 0 ∨ bitOf f.laneMask x.2.2 then (x.2.1.checks[k]?).getD (0, 0) else (laneOf kept x.1.1 x.1.2 % 7, laneOf kept x.1.1 x.1.2 % 7)
    (2 ^ x.1.1 * p.1, 2 ^ x.1.1 * p.2))
  ((ps.foldl (fun n p => n + p.1) 0) % 7, (ps.foldl (fun n p => n + p.2) 0) % 7)

/-- The first failing check of an operation's lanes: a multiplication's products lane by lane, every other check on the word (R59). -/
def lanesVerdict (f : CellField) (ls : List LaneRes) (kept : Nat) : Option (Nat × Nat) :=
  let mul := decide (0x10 ≤ f.opcode) && decide (f.opcode ≤ 0x12)
  let n := match ls with | [] => 0 | l :: _ => l.checks.length
  firstBad ((if mul then ls.filterMap (fun l => l.checks.head?) else []) ++
    ((List.range n).filter (fun k => !(mul && k == 0))).map (wordCheck f ls kept))

/-! ### Accumulators -/

/-- The residue of a 64-bit pattern: ρ(low) + 4 ρ(high) (R64). -/
def res64 (v : BitVec 64) : BitVec 3 := BitVec.ofNat 3 ((v.toNat % 2 ^ 32 % 7 + 4 * (v.toNat / 2 ^ 32 % 7)) % 7)

/-- The sum of lane products of MAC and MSU (R51). -/
def dotLanes (f : CellField) (a b : Nat) : Int :=
  (lanesOf f.lane).foldl (fun acc l => acc + laneInt f.sgn l.2 (laneOf a l.1 l.2) * laneInt f.sgn l.2 (laneOf b l.1 l.2)) 0

/-- The accumulator after a write takes effect (R51, R53, R66), its overflow, and the residue its checker predicts (R59). -/
def accWrite (a : Accu) (op : AccOp) (sgn : Bool) : Accu × Bool × Nat :=
  let old := a.val.toNat
  match op with
  | .add s p =>
    let sum := old + s.toNat
    let q := decide (2 ^ 64 ≤ sum)
    let v := if sgn then outside true 64 (toInt 64 old + toInt 64 s.toNat) else q
    let new : BitVec 64 := BitVec.ofNat 64 sum
    let ps := p || a.res == 7#3
    ({ a with val := new, res := if ps then 7#3 else res64 new }, v,
     mod7 ((a.res.toNat : Int) + ((s.toNat % 7 : Nat) : Int) - 2 * (b2n q : Int)))
  | .sub s p =>
    let q := decide (old < s.toNat)
    let v := if sgn then outside true 64 (toInt 64 old - toInt 64 s.toNat) else q
    let new : BitVec 64 := a.val - s
    let ps := p || a.res == 7#3
    ({ a with val := new, res := if ps then 7#3 else res64 new }, v,
     mod7 ((a.res.toNat : Int) - ((s.toNat % 7 : Nat) : Int) + 2 * (b2n q : Int)))
  | .load w p => ({ a with val := w, res := if p then 7#3 else res64 w }, false, w.toNat % 7)
  | .clear => ({ a with val := 0#64, res := 0#3 }, false, 0)

/-- ACCRS: shift, round and saturate (R55); the word and whether it saturated. -/
def accrs (f : CellField) (v : BitVec 64) : Nat × Bool :=
  let x : Int := if f.sgn then toInt 64 v.toNat else (v.toNat : Int)
  let d : Int := ((2 ^ f.accShift : Nat) : Int)
  let q := x / d
  let r := x % d
  let up : Bool := match f.rnd with
    | 1 => decide (d ≤ 2 * r)
    | 2 => decide (d < 2 * r) || (decide (d = 2 * r) && decide (q % 2 = 1))
    | _ => false
  let z := if f.accShift = 0 then x else if up then q + 1 else q
  (satLane true f.sgn 32 z, outside f.sgn 32 z)

end Sys2Proof.Machine
end

