-- ==== Sys2Proof/Machine/Queues.lean ====
section
/-!
DEFINITION. Stream queues: levels and storage (R235–R238, R245–R247), assemblies and joining (R237, R241), pops (R249–R252), closing,
flush (R251, R257), poison (R254–R256), and the check-value words (R260–R263).
-/
namespace Sys2Proof.Machine

/-- Queue q (R234). -/
def Chip.queue (c : Chip) (q : Nat) : Queue := kget {} (c.tile (q / 4096)).queues (q % 4096)

/-- Change queue q. -/
def Chip.modQueue (c : Chip) (q : Nat) (f : Queue → Queue) : Chip :=
  c.modTile (q / 4096) (fun t => { t with queues := kmod {} t.queues (q % 4096) f })

/-- The tile's site of queue q. -/
def qsite (q : Nat) : Site := .tile (q / 4096)

/-- QUE_CFG of queue q. -/
def Chip.qcfg (c : Chip) (q : Nat) : BitVec 64 := c.reg .queCfg (qsite q) (q % 4096)

/-- QUE_TGT of queue q. -/
def Chip.qtgt (c : Chip) (q : Nat) : BitVec 64 := c.reg .queTgt (qsite q) (q % 4096)

/-- The queue accepts items (R265). -/
def Chip.qen (c : Chip) (q : Nat) : Bool := fld (c.qcfg q) 63 1 == 1

/-- The queue's mode (R240). -/
def Chip.qmode (c : Chip) (q : Nat) : Nat := fld (c.qcfg q) 61 2

/-- All words a queue keeps, joined items first (R238). -/
def Queue.words (Q : Queue) : List QWord := Q.items.flatMap (fun i => i.words) ++ Q.asms.flatMap (fun a => a.words)

/-- Words of a list of items. -/
def wordCount (l : List Item) : Nat := l.foldl (fun n i => n + i.words.length) 0

/-- Words of joined items not yet retired or popped (R238); those that joined in this cycle count from the next (R252). -/
def Queue.depth (Q : Queue) : Nat := wordCount (Q.items.filter (fun i => !i.gone && !i.fresh))

/-- The depth as this cycle leaves it (R252). -/
def Queue.depthNext (Q : Queue) : Nat := wordCount (Q.items.filter (fun i => !i.gone))

/-- The front item of a queue that is in depth. -/
def Queue.front? (Q : Queue) : Option Item := Q.items.find? (fun i => !i.gone && !i.fresh)

/-- Words the queue occupies at every level (R238). -/
def Queue.fill (Q : Queue) : Nat := Q.words.length + Q.reserved

/-- Joined items not yet retired or popped (R268). -/
def Queue.nitems (Q : Queue) : Nat := (Q.items.filter (fun i => !i.gone)).length

/-- Words at a level. -/
def Queue.countLvl (Q : Queue) (p : Level → Bool) : Nat := (Q.words.filter (fun w => p w.lvl)).length

/-- The level is the head. -/
def Level.isHead : Level → Bool
  | .head => true
  | _ => false

/-- The level is the tail. -/
def Level.isTail : Level → Bool
  | .tail => true
  | _ => false

/-- The level is a block of the middle. -/
def Level.isMid : Level → Bool
  | .pool _ | .gd7 _ => true
  | _ => false

/-- The word stands bad in its register: its parity or its residue fails, and it is not poison already (R255). -/
def QWord.faulty (x : QWord) : Bool := !x.lvl.isMid && !(TWord.isPoison x.w) && (x.bad || TWord.bad x.w)

/-- A word as any read of it leaves it: a bad one is poisoned, held with fresh parity (R255). -/
def QWord.checked (x : QWord) : QWord := if x.faulty then { x with w := poisoned (TWord.data x.w), bad := false } else { x with bad := false }

/-- Words of a queue that stand bad. -/
def Queue.faults (Q : Queue) : Nat := (Q.words.filter QWord.faulty).length

/-- Count the words that a move or a read has found bad, with one QUE_POISON (R255). -/
def Chip.report (q : Nat) (c : Chip) : Chip :=
  let n := (c.queue q).found
  if n = 0 then c
  else (raise (.tile (q / 4096) 20) q (c.modQueue q (fun Q => { Q with found := 0 }))).bump .quePoisonCnt (qsite q) 0 n

/-- Change a queue, counting the words that the change finds bad (R255). -/
def Chip.shiftQueue (c : Chip) (q : Nat) (f : Queue → Queue) : Chip := (c.modQueue q f).report q

/-- Distinct numbers of a list. -/
def dedup : List Nat → List Nat
  | [] => []
  | a :: r => if (dedup r).contains a then dedup r else a :: dedup r

/-- The pool blocks named by a list of levels (16 words each, R235). -/
def poolBlocks (l : List Level) : List Nat := dedup (l.filterMap (fun x => match x with | .pool n => some (n / 16) | _ => none))

/-- The GDDR7 blocks named by a list of levels. -/
def gd7Blocks (l : List Level) : List Nat := dedup (l.filterMap (fun x => match x with | .gd7 n => some (n / 16) | _ => none))

/-- Levels in use by a queue, blocks still being returned by a flush included (R257). -/
def Queue.levels (Q : Queue) : List Level := Q.words.map (fun w => w.lvl) ++ Q.freeing

/-- Levels in use in a tile. -/
def Tile.levels (t : Tile) : List Level := t.queues.flatMap (fun p => p.2.levels)

/-- Item-table entries in use in a tile: an entry is free again when its item has left (R236). -/
def Tile.itemsUsed (t : Tile) : Nat := t.queues.foldl (fun n p => n + p.2.nitems + p.2.asms.length) 0

/-- The lowest number not in a list, below a bound. -/
def lowFree (used : List Nat) : Nat → Nat → Option Nat
  | 0, _ => none
  | fuel + 1, n => if used.contains n then lowFree used fuel (n + 1) else some n

/-- Blocks of the pool (R270). -/
def Chip.poolSize (c : Chip) (t : Nat) : Nat := 1024 * c.rf .quePool (.tile t) 0 32 9

/-- Blocks of the tile's GDDR7 spill region (R270). -/
def Chip.gd7Size (c : Chip) (t : Nat) : Nat := 16384 * c.rf .queGd7 (.tile t) 0 36 14

/-- A block for a queue: from the pool within its allowance, else from the GDDR7 region (R245). -/
def Chip.takeBlock (c : Chip) (q : Nat) : Option (Nat → Level) :=
  let t := q / 4096
  let Q := c.queue q
  let sp := c.reg .queSpill (qsite q) (q % 4096)
  let usedP := poolBlocks (c.tile t).levels
  let usedG := gd7Blocks (c.tile t).levels
  let pf := if (poolBlocks Q.levels).length < fld sp 8 18 ∧ usedP.length < c.poolSize t then lowFree usedP (usedP.length + 1) 0 else none
  match pf with
  | some b => some (fun i => .pool (16 * b + i))
  | none =>
    let gf := if (gd7Blocks Q.levels).length < fld sp 28 22 ∧ usedG.length < c.gd7Size t then lowFree usedG (usedG.length + 1) 0 else none
    gf.map (fun b => fun i => .gd7 (16 * b + i))

/-- The device-local address of a word in the middle (R235, R270). -/
def Chip.lvlAddr (c : Chip) (t : Nat) : Level → Nat
  | .pool n => tmBase t + 65536 * c.rf .quePool (.tile t) 0 16 9 + 4 * n
  | .gd7 n => 1048576 * c.rf .queGd7 (.tile t) 0 8 28 + 4 * n
  | _ => 0

/-- The queue block finds the tile-memory block of a level off (R290). -/
def Chip.lvlOff (c : Chip) (t : Nat) (l : Level) : Bool :=
  match l with
  | .pool _ => (c.tmPwr t (c.lvlAddr t l - tmBase t)).dead
  | _ => false

/-- A refused access of the queue block: counted, with its event (R290). -/
def Chip.lvlRefuse (c : Chip) (t : Nat) (l : Level) : Chip :=
  if c.lvlOff t l then raise (.tile t 25) (c.tmBlock t (c.lvlAddr t l - tmBase t)) (c.bump .tmbUeCnt (.tile t)) else c

/-- A word as it stands at its level: registers keep the word, the middle is read from memory (R235); from a block that is off it is
poisoned (R290). -/
def Dev.qword (d : Dev) (q : Nat) (w : QWord) : TWord :=
  match w.lvl with
  | .head | .tail => w.w
  | l =>
    let v := d.rd32 (d.chip.lvlAddr (q / 4096) l)
    if d.chip.lvlOff (q / 4096) l then poisoned (TWord.data v) else v

/-- Re-level the first `n` tail words of a list of words to the head, up to the first word of the middle; each is read and checked (R255). -/
def headMove : Nat → List QWord → List QWord × Nat
  | n, [] => ([], n)
  | 0, w => (w, 0)
  | n + 1, w :: r =>
    if w.lvl.isMid then (w :: r, 0)
    else if w.lvl.isTail then let p := headMove n r; ({ w.checked with lvl := .head } :: p.1, p.2)
    else let p := headMove (n + 1) r; (w :: p.1, p.2)

/-- Direct moves from the tail to the head (R245): while no word of the middle stands before the tail word. DEDUCED (log 125): words move toward the head in
queue order, so a word of the middle that comes later does not hold a tail word back. -/
def Queue.settle (Q : Queue) : Queue :=
  let room := 16 - Q.countLvl Level.isHead
  let p := Q.items.foldl (fun (acc : List Item × Nat) i =>
    let m := headMove acc.2 i.words
    (acc.1 ++ [{ i with words := m.1 }], m.2)) ([], room)
  let q := Q.asms.foldl (fun (acc : List Assembly × Nat) a =>
    let m := headMove acc.2 a.words
    (acc.1 ++ [{ a with words := m.1 }], m.2)) ([], p.2)
  let Q' := { Q with items := p.1, asms := q.1 }
  { Q' with found := Q.found + (Q.faults - Q'.faults) }

/-- The queue is full (R247): 16 tail words, none of which can move, and no block to be had. -/
def Chip.qfull (c : Chip) (q : Nat) : Bool :=
  let Q := c.queue q
  decide (16 ≤ Q.countLvl Level.isTail) && Q.settle.countLvl Level.isTail == Q.countLvl Level.isTail && (c.takeBlock q).isNone

/-- Re-level the tail words of a list from block index `i` on, with the moved words. -/
def tailSpill (mk : Nat → Level) : Nat → List QWord → List QWord × List (Nat × TWord) × Nat
  | i, [] => ([], [], i)
  | i, w :: r =>
    if w.lvl.isTail && decide (i < 16) then
      let p := tailSpill mk (i + 1) r
      ({ w with lvl := mk i, bad := false } :: p.1, (i, w.checked.w) :: p.2.1, p.2.2)
    else let p := tailSpill mk i r; (w :: p.1, p.2)

/-- Spill a full tail as one block (R245): false when the tail is short or no block can be had. -/
def Dev.spillTail (d : Dev) (q : Nat) : Dev × Bool :=
  let c := d.chip
  let Q := c.queue q
  if Q.countLvl Level.isTail < 16 then (d, false)
  else
    match c.takeBlock q with
    | none => (d, false)
    | some mkL =>
      let p := Q.items.foldl (fun (acc : List Item × List (Nat × TWord) × Nat) i =>
        let m := tailSpill mkL acc.2.2 i.words
        (acc.1 ++ [{ i with words := m.1 }], acc.2.1 ++ m.2.1, m.2.2)) ([], [], 0)
      let r := Q.asms.foldl (fun (acc : List Assembly × List (Nat × TWord) × Nat) a =>
        let m := tailSpill mkL acc.2.2 a.words
        (acc.1 ++ [{ a with words := m.1 }], acc.2.1 ++ m.2.1, m.2.2)) ([], p.2.1, p.2.2)
      let c := c.shiftQueue q (fun Q => let Q' := { Q with items := p.1, asms := r.1 }; { Q' with found := Q.found + (Q.faults - Q'.faults) })
      let c := match mkL 0 with
        | .gd7 _ => c.bump .queGd7SpillCnt (qsite q)
        | _ => c
      if c.lvlOff (q / 4096) (mkL 0) then ({ d with chip := c.lvlRefuse (q / 4096) (mkL 0) }, true)
      else (({ d with chip := c } : Dev).wrBlock (d.chip.lvlAddr (q / 4096) (mkL 0)) (r.2.1.map (fun x => x.2)), true)

/-- The end of a cycle of a queue (R252, R253): what joined in it counts from now on; QUE_FULL is raised when the cycle made the queue full, QUE_EMPTY
when it took its depth to 0, in the cycle after when both fall due. -/
def queueCycle (q : Nat) (c : Chip) : Chip :=
  let Q := c.queue q
  let cfg := c.qcfg q
  let full := c.qfull q
  let fills := full && !Q.wasFull && fld cfg 48 1 == 1
  let empties := (Q.oweEmpty || (decide (0 < Q.wasDepth) && Q.depthNext == 0)) && fld cfg 47 1 == 1
  let c := c.modQueue q (fun Q => { Q with items := Q.items.map (fun i => { i with fresh := false }), wasFull := full, wasDepth := Q.depthNext, oweEmpty := fills && empties })
  if fills then raise (.tile (q / 4096) 17) q c else if empties then raise (.tile (q / 4096) 18) q c else c

/-- Begin an assembly (R236, R237): `none` while the item table or the queue's assemblies are exhausted. -/
def Chip.openAsm (c : Chip) (q : Nat) (p : Producer) (flow : Flow) : Option (Chip × Nat) :=
  let Q := c.queue q
  if 8 ≤ Q.asms.length ∨ 65536 ≤ (c.tile (q / 4096)).itemsUsed then none
  else
    some (c.modQueue q (fun Q => { Q with asms := Q.asms ++ [{ id := Q.nextAsm, prod := p, flow := flow }], nextAsm := Q.nextAsm + 1 }), Q.nextAsm)

/-- Append a word at a level to an assembly. -/
def Queue.append (Q : Queue) (id : Nat) (w : QWord) : Queue :=
  { Q with asms := Q.asms.map (fun a => if a.id = id then { a with words := a.words ++ [w] } else a) }

/-- Place a word of an assembly (R237, R245, R247): the oldest open assembly fills the tail, later ones fill blocks of the middle.
The Boolean is false when the queue cannot take the word now. A block that a later assembly takes is written whole (R237): nothing of its
former use stays in it. -/
def Dev.placeWord (d : Dev) (q id : Nat) (w : TWord) : Dev × Bool :=
  let Q := d.chip.queue q
  match Q.asms with
  | [] => (d, false)
  | a :: _ =>
    if a.id = id then
      let d := { d with chip := d.chip.shiftQueue q Queue.settle }
      let d := (d.spillTail q).1
      if 16 ≤ (d.chip.queue q).countLvl Level.isTail then (d, false)
      else ({ d with chip := d.chip.shiftQueue q (fun Q => (Q.append id { w := w, lvl := .tail }).settle) }, true)
    else
      match (Q.asms.find? (fun x => x.id == id)) with
      | none => (d, false)
      | some x =>
        let last : Option Level := x.words.getLast?.map (fun y => y.lvl)
        let nxt : Option Level := match last with
          | some (.pool n) => if n % 16 = 15 then none else some (.pool (n + 1))
          | some (.gd7 n) => if n % 16 = 15 then none else some (.gd7 (n + 1))
          | _ => none
        let lvl := match nxt with
          | some l => some l
          | none => (d.chip.takeBlock q).map (fun mkL => mkL 0)
        match lvl with
        | none => (d, false)
        | some l =>
          let addr := d.chip.lvlAddr (q / 4096) l
          let d' : Dev := { d with chip := d.chip.modQueue q (fun Q => Q.append id { w := w, lvl := l }) }
          if d.chip.lvlOff (q / 4096) l then (d'.on (fun c => c.lvlRefuse (q / 4096) l), true)
          else ((if nxt.isNone then d'.wrBlock addr (List.replicate 16 0#35) else d').wr32 addr w, true)

/-- Place a word; comparators of kind 3 see the words written to a queue (R577). -/
def Dev.place (d : Dev) (q id : Nat) (w : TWord) : Dev × Bool :=
  let r := d.placeWord q id w
  if r.2 then (r.1.on (fun c => c.see { kind := 3, die := q / 4096, wr := true, addr := q % 4096, data := TWord.data w, who := match (d.chip.queue q).asms.find? (fun a => a.id == id) with
      | some a => (match a.prod with
        | .grove k _ => some (k / 256, k % 256)
        | _ => none)
      | none => none }), true) else r

/-- Make the last word of an assembly poison. -/
def Queue.poisonLast (Q : Queue) (id : Nat) : Queue :=
  { Q with asms := Q.asms.map (fun a => if a.id = id then
      { a with words := a.words.dropLast ++ (match a.words.getLast? with
          | some w => [{ w with w := poisoned (TWord.data w.w) }]
          | none => []) } else a) }

/-- Join an assembly as the queue's newest item (R237, R241, R244): item_seq, the notice to the scheduler of a task-mode queue, and
QUE_THRESHOLD. -/
def Chip.joinAsm (c : Chip) (q id : Nat) : Chip :=
  let Q := c.queue q
  match Q.asms.find? (fun a => a.id == id) with
  | none => c
  | some a =>
    let it : Item := { seq := Q.seq, flow := a.flow, words := a.words, vb := a.vb, fresh := true }
    let c' := c.shiftQueue q (fun Q =>
      ({ Q with items := Q.items ++ [it], asms := Q.asms.filter (fun x => x.id != id), seq := (Q.seq + 1) % 65536 } : Queue).settle)
    let cfg := c.qcfg q
    let c' := if fld cfg 61 2 == 0 then
        c'.modTile (fld (c.qtgt q) 38 2) (fun t => { t with notices := t.notices ++ [⟨q, Q.seq, a.flow⟩] })
      else if fld cfg 61 2 == 3 && fld (c.qtgt q) 26 1 == 1 then c'.modHub (fun h => { h with sinkNotices := h.sinkNotices ++ [⟨q, Q.seq, a.flow⟩] })
      else c'
    if fld cfg 46 1 == 1 && fld cfg 24 17 != 0 && Q.nitems + 1 == fld cfg 24 17 then raise (.tile (q / 4096) 21) q c' else c'

/-- Discard an assembly (R243, R334). -/
def Chip.dropAsm (c : Chip) (q id : Nat) : Chip :=
  c.shiftQueue q (fun Q => ({ Q with asms := Q.asms.filter (fun x => x.id != id) } : Queue).settle)

/-- The block of the middle a word lies in: of the pool (`true`) or of GDDR7, and its number (R235). -/
def Level.block : Level → Option (Bool × Nat)
  | .pool n => some (true, n / 16)
  | .gd7 n => some (false, n / 16)
  | _ => none

/-- Free the storage of items that have left, from the front of the queue (R243): register words at once, a block once every word in it has left. -/
def Queue.reap (Q : Queue) : Queue :=
  let rest := Q.items.dropWhile (fun i => i.gone)
  let live := (rest.flatMap (fun i => i.words) ++ Q.asms.flatMap (fun a => a.words)).filterMap (fun w => w.lvl.block)
  let shared (w : QWord) : Bool := match w.lvl.block with
    | some b => live.contains b
    | none => false
  let kept := ((Q.items.takeWhile (fun i => i.gone)).map (fun i => { i with words := i.words.filter shared })).filter (fun i => !i.words.isEmpty)
  ({ Q with items := kept ++ rest } : Queue).settle

/-- An item leaves its queue (R243): it leaves depth at once and its storage from the front. -/
def Chip.retire (c : Chip) (q seq : Nat) : Chip :=
  c.shiftQueue q (fun Q => ({ Q with items := Q.items.map (fun i => if i.seq = seq then { i with gone := true } else i) } : Queue).reap)

/-- A joined item by its item_seq. -/
def Queue.item? (Q : Queue) (seq : Nat) : Option Item := Q.items.find? (fun i => i.seq == seq && !i.gone)

/-- The byte length of an item (R239). -/
def Item.ilen (i : Item) : Nat := if i.words.length = 0 then 0 else 4 * (i.words.length - 1) + (if i.vb = 0 then 4 else i.vb)

/-! ### Words from producers other than groves -/

/-- What became of a word a producer presented. -/
inductive PushOut where
  | taken | waits | refused | dropped
  deriving DecidableEq, Repr

/-- A word from the hub is checked at the write port: a residue mismatch is stored poisoned and counted (R254). -/
def Chip.portCheck (c : Chip) (q : Nat) (w : TWord) : Chip × TWord :=
  if TWord.bad w then
    ((raise (.tile (q / 4096) 20) q c).bump .quePoisonCnt (qsite q), poisoned (TWord.data w))
  else (c, w)

/-- The end of an item from a producer that is not a grove task: it joins in that cycle (R237). -/
def Chip.endItem (c : Chip) (q id vb : Nat) : Chip :=
  (c.modQueue q (fun Q => { Q with asms := Q.asms.map (fun a => if a.id = id then { a with vb := vb, closed := true } else a) })).joinAsm q id

/-- A word of the item a producer has open, or the first word of a new one (R24, R237, R239, R251, R257). -/
def Dev.hubPush (d : Dev) (q : Nat) (p : Producer) (w : TWord) (start stop : Bool) (vb : Nat) (flow : Option Flow) : Dev × PushOut :=
  let c := d.chip
  let Q := c.queue q
  let cur := Q.asms.find? (fun a => a.prod == p && !a.closed)
  if Q.err then (d, .waits)
  else if !start && Q.dropping.contains p then
    let c := c.bump .queFlushDrop (qsite q)
    let c := if stop then c.modQueue q (fun Q => { Q with dropping := Q.dropping.filter (fun x => x != p) }) else c
    ({ d with chip := c }, .dropped)
  else if !start && Q.tooLong.contains p then
    let c := c.bump .queRefusedCnt (qsite q)
    ({ d with chip := if stop then c.modQueue q (fun Q => { Q with tooLong := Q.tooLong.filter (fun x => x != p) }) else c }, .dropped)
  else
    match cur with
    | some a =>
      if 16384 ≤ a.words.length then
        let c := ((c.bump .queRefusedCnt (qsite q)).modQueue q (fun Q => Q.poisonLast a.id)).endItem q a.id 0
        ({ d with chip := if stop then c else c.modQueue q (fun Q => { Q with tooLong := Q.tooLong ++ [p] }) }, .dropped)
      else
        let pc := c.portCheck q w
        let r := ({ d with chip := pc.1 } : Dev).place q a.id pc.2
        if r.2 then
          let c := if stop then r.1.chip.endItem q a.id vb else r.1.chip
          ({ r.1 with chip := c }, .taken)
        else (d, .waits)
    | none =>
      if !start then ({ d with chip := c.bump .queRefusedCnt (qsite q) }, .refused)
      else if Q.closed || !(c.qen q) then ({ d with chip := c.bump .queRefusedCnt (qsite q) }, .refused)
      else
        let fl := flow.getD (BitVec.ofNat 24 (fld (c.qcfg q) 0 24))
        let c := c.modQueue q (fun Q => { Q with dropping := Q.dropping.filter (fun x => x != p), tooLong := Q.tooLong.filter (fun x => x != p) })
        match c.openAsm q p fl with
        | none => (d, .waits)
        | some (c, id) =>
          let pc := c.portCheck q w
          let r := ({ d with chip := pc.1 } : Dev).place q id pc.2
          if r.2 then
            let c' := if stop then r.1.chip.endItem q id vb else r.1.chip
            ({ r.1 with chip := c' }, .taken)
          else (d, .waits)

/-- Note a producer that waits on a queue, or that no longer does; stall clears when none waits (R248). -/
def Chip.noteWait (c : Chip) (q : Nat) (p : Producer) (waits : Bool) : Chip :=
  c.modQueue q (fun Q =>
    let l := Q.waiting.filter (fun x => x != p)
    let l := if waits then l ++ [p] else l
    { Q with waiting := l, stall := Q.stall && !l.isEmpty })

/-! ### Popping -/

/-- The glade word as QUE_POP_l shows it (R250). -/
def gladeWord (closed : Bool) : BitVec 64 :=
  mkReg [(39, 1, 0), (38, 1, 1), (37, 1, 1), (32, 3, b2n closed), (0, 32, b2n closed)]

/-- The front word of a pop-mode queue as QUE_POP_l shows it, as a read finds it (R255); `none` when depth is above 0 and the head holds no joined word
(R249). -/
def Queue.popPeek (Q : Queue) : Option (BitVec 64) :=
  match Q.front? with
  | none => some (gladeWord Q.closed)
  | some i =>
    match i.words with
    | [] => some (gladeWord Q.closed)
    | w :: r =>
      if w.lvl.isHead then
        some (mkReg [(40, 24, i.flow.toNat), (39, 1, 1), (38, 1, b2n (i.popped == 0)), (37, 1, b2n r.isEmpty),
          (35, 2, if r.isEmpty then i.vb else 0), (32, 3, (TWord.res w.checked.w).toNat), (0, 32, (TWord.data w.checked.w).toNat)])
      else none

/-- Remove the front word of a pop-mode queue, noting one that was found bad. -/
def Queue.popFront (Q : Queue) : Queue :=
  let rec go : List Item → List Item
    | [] => []
    | i :: r => if i.gone then i :: go r else
      match i.words with
      | [] => r
      | [_] => r
      | _ :: ws => { i with words := ws, popped := i.popped + 1 } :: r
  ({ Q with items := go Q.items, found := Q.found + b2n ((Q.front?.map (fun i => (i.words.head?.map QWord.faulty).getD false)).getD false) } : Queue).settle

/-- A pop (R249, R250): the word as QUE_POP_l shows it and the queue after it; `none` while the pop must wait for a refill. -/
def Dev.pop (d : Dev) (q : Nat) : Option (BitVec 64 × Dev) :=
  let c := d.chip
  let Q := c.queue q
  if c.qmode q != 3 then some (0#64, d)
  else if Q.err then none
  else if Q.depth = 0 then some (gladeWord Q.closed, { d with chip := c.bump .queGladeCnt (qsite q) })
  else
    match Q.popPeek with
    | none => none
    | some v => some (v, { d with chip := c.shiftQueue q Queue.popFront })

/-- The end of a link: port p is end p, and end e of module m, which transmits direction e, is 16 + 2m + e (R418). -/
def Chip.link (c : Chip) (k : Nat) : LinkEnd := kget { st := if k < 16 then .disabled else .training } c.hub.links k

/-- Change the end of a link. -/
def Chip.modLink (c : Chip) (k : Nat) (f : LinkEnd → LinkEnd) : Chip := c.modHub (fun h => { h with links := kset h.links k (f (c.link k)) })

/-- A channel's state beside its registers. -/
def Chip.mbx (c : Chip) (k : Nat) : MbxChan := kget {} c.hub.chans k
/-- Change a channel. -/
def Chip.modMbx (c : Chip) (k : Nat) (f : MbxChan → MbxChan) : Chip := c.modHub (fun h => { h with chans := kset h.chans k (f (c.mbx k)) })

/-- The read of a queue that waits with its words; one whose packet or command no longer waits is void. -/
def Chip.partLive (c : Chip) (q : Nat) : Option PopPart :=
  match (c.queue q).part with
  | none => none
  | some x =>
    if x.host then (if (c.mbx x.who).cmds.any (fun m => m.opcode == 0x41 && m.tag == x.tag && m.resp.isNone && m.begun && !m.cut) then some x else none)
    else if (c.link (x.who % 8)).rxq.any (fun p => p.type == 0x0B && p.src == x.who / 8 && p.tag == x.tag && p.f 74 14 == q) then some x else none

/-- A pop of one word in its turn: behind a read that has begun and behind the pops that wait (R249). -/
def Dev.popNext (d : Dev) (q : Nat) : Option (BitVec 64 × Dev) :=
  if (d.chip.partLive q).isSome || (d.chip.queue q).popWait != 0 then none else d.pop q

/-- Up to `n` pops, to the end word or to the first word still to be refilled. -/
def popSome (q : Nat) : Nat → Dev → List (BitVec 64) × Dev
  | 0, d => ([], d)
  | n + 1, d =>
    match d.pop q with
    | none => ([], d)
    | some (v, d') => if fld v 37 1 = 1 then ([v], d') else (let r := popSome q n d'; (v :: r.1, r.2))

/-! ### Refill -/

/-- Take up to 16 words of one block to the head, reading them from memory (R246); words of other levels stay. -/
def refillWords (d : Dev) (q : Nat) (blk : Option (Bool × Nat)) : Nat → List QWord → List QWord × Nat
  | n, [] => ([], n)
  | 0, l => (l, 0)
  | n + 1, w :: r =>
    if w.lvl.isMid && w.lvl.block == blk then
      let p := refillWords d q blk n r
      ({ w := d.qword q w, lvl := .head } :: p.1, p.2)
    else let p := refillWords d q blk (n + 1) r; (w :: p.1, p.2)

/-- The block that the head is refilled from (R246): the first word of the queue that is not in the head lies in it, and no word stands in the head before
it. DEDUCED (log 125): what stands in the head behind that word, of an assembly still open, does not count against its 16 free words. -/
def Queue.oldestMid (Q : Queue) : Option Level :=
  match Q.words with
  | w :: _ => if w.lvl.isMid then some w.lvl else none
  | [] => none

/-- The words of a block of the middle. -/
def Queue.blockWords (Q : Queue) (l : Level) : List QWord := Q.words.filter (fun w => w.lvl.isMid && w.lvl.block == l.block)

/-- Refill the head from the oldest block of the middle (R246). -/
def Dev.refill (d : Dev) (q : Nat) : Dev :=
  let c := d.chip
  let Q := c.queue q
  match Q.oldestMid with
  | none => d
  | some blk =>
    let p := Q.items.foldl (fun (acc : List Item × Nat) i =>
      let m := refillWords d q blk.block acc.2 i.words
      (acc.1 ++ [{ i with words := m.1 }], m.2)) ([], 16)
    let r := Q.asms.foldl (fun (acc : List Assembly × Nat) a =>
      let m := refillWords d q blk.block acc.2 a.words
      (acc.1 ++ [{ a with words := m.1 }], m.2)) ([], p.2)
    { d with chip := (c.shiftQueue q (fun Q => ({ Q with items := p.1, asms := r.1 } : Queue).reap)).lvlRefuse (q / 4096) blk }

/-! ### Close, flush and the views -/

/-- Close or reopen a queue (R251). -/
def Chip.qclose (c : Chip) (q : Nat) (v : Bool) : Chip := c.modQueue q (fun Q => { Q with closed := v })

/-- The view QUE_STATUS_l (R268). -/
def Chip.qstatus (c : Chip) (q : Nat) : BitVec 64 :=
  let Q := c.queue q
  mkReg [(63, 1, b2n (c.qfull q)), (62, 1, b2n Q.stall), (61, 1, b2n Q.closed), (60, 1, b2n Q.err), (59, 1, b2n Q.busy),
    (58, 1, b2n (Q.depth == 0)), (42, 16, Q.seq), (25, 17, Q.nitems)]

/-- The view QUE_LEVEL_l (R268). -/
def Chip.qlevel (c : Chip) (q : Nat) : BitVec 64 := mkReg [(32, 27, (c.queue q).fill), (0, 27, (c.queue q).depth)]

/-- The view QUE_POOL_FREE (R271). -/
def Chip.qpoolFree (c : Chip) (t : Nat) : BitVec 64 :=
  let l := (c.tile t).levels
  mkReg [(47, 17, 65536 - (c.tile t).itemsUsed), (19, 28, c.gd7Size t - (gd7Blocks l).length), (0, 19, c.poolSize t - (poolBlocks l).length)]

/-! ### Check values (R260–R263) -/

/-- One byte through a reflected CRC. -/
def crcBits (poly : BitVec 32) (crc : BitVec 32) : Nat → BitVec 32
  | 0 => crc
  | n + 1 => crcBits poly (if crc.getLsbD 0 then (crc >>> 1) ^^^ poly else crc >>> 1) n

/-- The reflected polynomials of R260: CRC-32C and CRC-32. -/
def cvPoly (sel : Nat) : BitVec 32 := if sel = 1 then 0xEDB88320#32 else 0x82F63B78#32

/-- The 4 bytes of a word, byte 0 first, through a check-value unit (R260). -/
def cvWord (sel : Nat) (crc : BitVec 32) (w : Word) : BitVec 32 :=
  (List.range 4).foldl (fun c k => crcBits (cvPoly sel) (c ^^^ (BitVec.ofNat 32 (bitsOf w.toNat (8 * k) 8))) 8) crc

/-- The check word over the data of an item: A and S are folded in, then the final XOR (R261). -/
def cvFinal (sel : Nat) (crc : BitVec 32) (dev q seq : Nat) (cvSeq : Bool) : Word :=
  let a := BitVec.ofNat 32 ((dev % 64) * 2 ^ 16 + q % 16384)
  let s := BitVec.ofNat 32 (if cvSeq then seq % 65536 else 0)
  (cvWord sel (cvWord sel crc a) s) ^^^ 0xFFFFFFFF#32

end Sys2Proof.Machine
end

