-- ==== Sys2Proof/Machine/Rs.lean ====
section
/-!
DEFINITION. The GDDR7 block in its channel and device (R303–R307), and the Reed–Solomon code of its block (R308–R310).
-/
namespace Sys2Proof.Machine

/-! ### The place of a block (R303, R305–R307) -/

/-- The place of a data block of the GDDR7 window: channel, segment and slot, channel byte addresses of the block and of its check bytes, and device, channel of the
device, bank, row and column (R303, R305–R307). -/
structure GdPlace where
  chan : Nat
  seg : Nat
  slot : Nat
  addr : Nat
  check : Nat
  device : Nat
  devChan : Nat
  bank : Nat
  row : Nat
  col : Nat
  deriving DecidableEq, Repr

/-- The bank of a channel byte address (R307). -/
def gdBank (a : Nat) : Nat := (a / 2 ^ 11 % 16) ^^^ (a / 2 ^ 15 % 16)

/-- Where the block of a window offset lies. -/
def gdPlace (o : Nat) : GdPlace :=
  let c := (gdChan o).1 * 8 + (gdChan o).2
  let b := o / 2048
  let a := 1024 * (b / 15) + 64 * (b % 15)
  { chan := c, seg := b / 15, slot := b % 15, addr := a, check := 1024 * (b / 15) + 960 + 4 * (b % 15),
    device := 2 * (c / 8) + c % 8 / 4, devChan := c % 4, bank := gdBank a, row := a / 2 ^ 15 % 2 ^ 15, col := a % 2 ^ 11 }

/-! ### The code (R308) -/

/-- A byte times the field's generator, modulo 0x11D (R308). -/
def gfDouble (a : BitVec 8) : BitVec 8 := if a.getLsbD 7 then (a <<< 1) ^^^ 0x1D#8 else a <<< 1

/-- The product of two bytes in GF(2^8), over `n` bits of the second. -/
def gfMul : Nat → BitVec 8 → BitVec 8 → BitVec 8
  | 0, _, _ => 0#8
  | n + 1, a, b => (if b.getLsbD 0 then a else 0#8) ^^^ gfMul n (gfDouble a) (b >>> 1)

/-- A power of the field's generator. -/
def gfPow : Nat → BitVec 8
  | 0 => 1#8
  | n + 1 => gfDouble (gfPow n)

/-- The code's generator polynomial, lowest coefficient first, without its leading 1. DESIGN CHOICE (log 123): its roots are the powers 0 to 3; the spec names the
field and the lengths. -/
def rsGen : List (BitVec 8) :=
  (List.range 4).foldl (fun g k => ((0#8 :: g).zip (g ++ [1#8])).map (fun x => x.1 ^^^ gfMul 8 x.2 (gfPow k))) []

/-- The 4 check bytes of 64 data bytes (R306, R308). -/
def rsCheck (l : List (BitVec 8)) : List (BitVec 8) :=
  (l.foldl (fun r b =>
    let f := b ^^^ r.getLastD 0#8
    ((0#8 :: r.dropLast).zip rsGen).map (fun x => x.1 ^^^ gfMul 8 f x.2)) [0#8, 0#8, 0#8, 0#8]).reverse

/-- A syndrome of a block of 68 bytes. -/
def rsSyndrome (l : List (BitVec 8)) (k : Nat) : BitVec 8 := l.foldl (fun s b => gfMul 8 s (gfPow k) ^^^ b) 0#8

/-- The decoder (R308): the block as it decodes, with the byte it corrected; `none` when the block does not decode. -/
def rsDecode (l : List (BitVec 8)) : Option (Option Nat × List (BitVec 8)) :=
  let s (k : Nat) : BitVec 8 := rsSyndrome l k
  if s 0 = 0#8 ∧ s 1 = 0#8 ∧ s 2 = 0#8 ∧ s 3 = 0#8 then some (none, l)
  else
    ((List.range 68).find? (fun p => s 0 != 0#8 && gfMul 8 (s 0) (gfPow p) == s 1 && gfMul 8 (s 1) (gfPow p) == s 2 && gfMul 8 (s 2) (gfPow p) == s 3)).map
      (fun p => (some (67 - p), l.zipIdx.map (fun x => if x.2 = 67 - p then x.1 ^^^ s 0 else x.1)))

/-- The 64 data bytes of a block as its channel holds them. -/
def Dev.gdData (d : Dev) (o : Nat) : List (BitVec 8) := (List.range 64).map (fun k => d.mem.read (gdBase + o - o % 64 + k))

/-- The 4 check bytes of a block, inverted where it is written poisoned (R309). -/
def Dev.gdCheckBytes (d : Dev) (o : Nat) : List (BitVec 8) :=
  (rsCheck (d.gdData o)).map (fun b => if kget false d.chip.gdPoison (o / 64) then ~~~b else b)

/-- What the decoder makes of a block (R310). -/
inductive GdOut where
  | clean (bytes : List (BitVec 8)) | corrected (i : Nat) (bytes : List (BitVec 8)) | poisoned | failed
  deriving DecidableEq, Repr

/-- A read of a block some of whose bytes come with errors (R310): decoded as clean, else with its check bytes inverted. -/
def Dev.gdRead (d : Dev) (o : Nat) (errs : List (Nat × BitVec 8)) : GdOut :=
  let got := (d.gdData o ++ d.gdCheckBytes o).zipIdx.map (fun x => errs.foldl (fun b e => if e.1 = x.2 then b ^^^ e.2 else b) x.1)
  match rsDecode got with
  | some (none, l) => .clean (l.take 64)
  | some (some i, l) => .corrected i (l.take 64)
  | none => if (rsDecode (got.zipIdx.map (fun x => if 64 ≤ x.2 then ~~~x.1 else x.1))).isSome then .poisoned else .failed

/-- A block that decoded is clean, with the bytes the decoder gives it. -/
def Dev.gdClean (d : Dev) (o : Nat) (l : List (BitVec 8)) : Dev :=
  { mem := l.zipIdx.foldl (fun m x => m.write (gdBase + o - o % 64 + x.2) x.1) d.mem,
    chip := { d.chip with gdPoison := kdel d.chip.gdPoison (o / 64) } }

/-- The 64 bytes of the check block of a segment (R306): the check bytes of its 15 slots, and 4 bytes of 0. `offs` are the window offsets of its slots. -/
def Dev.gdCheckBlock (d : Dev) (offs : List Nat) : List (BitVec 8) := offs.flatMap d.gdCheckBytes ++ [0#8, 0#8, 0#8, 0#8]

end Sys2Proof.Machine
end

