-- ==== Sys2Proof/Machine/Traps.lean ====
section
/-!
DEFINITION. Failures of a running task: cell check failures (R62, R79, R605), failures outside the cells (R230), traps (R133, R146), and
the memory errors of scratchpads and tile memory (R284–R286).
-/
namespace Sys2Proof.Machine

/-- Change the running task of a grove. -/
def Chip.modRun (c : Chip) (t g : Nat) (f : Run → Run) : Chip :=
  c.modGrove t g (fun gr => { gr with run := gr.run.map f })

/-- Record a failure of the running task: the first one decides (R333). -/
def Chip.failRun (c : Chip) (t g : Nat) (i : FailInfo) : Chip :=
  c.modRun t g (fun r => { r with fail := match r.fail with | some x => some { x with held := x.held || i.held } | none => some i })

/-- The physical cell of a logical cell under SEQ_CELL_MAP (R73, R77). -/
def Chip.pcell (c : Chip) (t g n : Nat) : Nat :=
  let out := c.rf .seqCellMap (.grove t g) 0 (4 * (n / 4)) 3
  5 * (n / 4) + (if n % 4 < out then n % 4 else n % 4 + 1)

/-- A check failure of a cell reaches the sequencer (R62): counted, captured, raised, and the task fails. -/
def cellFail (t g : Nat) (v : Verdict) (c : Chip) : Chip :=
  let slot := match (c.grove t g).run with | some r => r.slot | none => 0
  let s : Site := .grove t g
  let c := c.bump .seqCellChkCnt s
  let c := c.capture .seqCellLast s 0 (mkReg [(60, 3, slot), (57, 3, v.cls), (50, 7, v.opcode), (48, 2, v.lane), (43, 5, c.pcell t g v.cell),
    (39, 4, v.cell), (36, 3, v.expected), (33, 3, v.observed), (0, 32, v.data.toNat)])
  let c := raise (.grove t g 0) (v.cls * 16 + v.cell) c
  c.failRun t g { code := 0xD, cls := v.cls }

/-- A failure outside the cells (R230) that is no trap: the event with its cause; the check class kept for a placeholder is field for
select latches and slot words (R99, R169) and operand at a queue write port (R254). -/
def outerFail (t g cause cls : Nat) (c : Chip) : Chip :=
  (raise (.grove t g 0) (256 + cause) c).failRun t g { code := 0xD, cls := cls }

/-- A check failure outside the cells after which the slot is HELD (R99, R155, R169). -/
def heldFail (t g cause cls : Nat) (c : Chip) : Chip :=
  (raise (.grove t g 0) (256 + cause) c).failRun t g { code := 0xD, cls := cls, held := true }

/-- A routing fault (R99, R108, R109): counted and captured. -/
def routeFault (t g kind track source ones : Nat) (c : Chip) : Chip :=
  let slot := match (c.grove t g).run with | some r => r.slot | none => 0
  let s : Site := .grove t g
  (c.bump .seqRouteCnt s).capture .seqRouteLast s 0 (mkReg [(60, 3, slot), (58, 2, kind), (51, 7, track), (45, 6, source), (38, 7, ones)])

/-- Trap causes (R133). -/
inductive Trap where
  | illegal | target | addr | loop | ret | qbind | item | mem | susp | budget | spill | seqchk (frame : Bool)
  deriving DecidableEq, Repr

/-- The code of a trap cause (R133). -/
def Trap.code : Trap → Nat
  | .illegal => 1
  | .target => 2
  | .addr => 3
  | .loop => 4
  | .ret => 5
  | .qbind => 6
  | .item => 7
  | .mem => 8
  | .susp => 9
  | .budget => 10
  | .spill => 11
  | .seqchk _ => 12

/-- A trap of the running task (R133, R146): counted, captured, its event raised, and the task fails. -/
def takeTrap (t g : Nat) (k : Trap) (pc info : Nat) (c : Chip) : Chip :=
  match (c.grove t g).run with
  | none => c
  | some r =>
    let s : Site := .grove t g
    let c := c.bump .seqTrapCnt s
    let c := c.capture .seqTrapLast s 0 (mkReg [(60, 3, r.slot), (56, 4, k.code), (51, 5, pc), (42, 9, r.depth), (26, 16, r.ctx), (0, 26, info)])
    let c := match k with
      | .spill => raise (.grove t g 2) r.ctx c
      | .seqchk frame => raise (.grove t g 0) (256 + if frame then 2 else 1) c
      | _ => raise (.grove t g 1) k.code c
    c.failRun t g { code := k.code }

/-- A verdict that reaches the grove sequencer (R61, R99): of a cell (0–15), of the sequencer's own checks (16), of a select latch (17; its slot
is HELD) or of a canopy channel the grove taps (18). -/
def verdictArrives (t g : Nat) (v : Verdict) (c : Chip) : Chip :=
  match v.cell with
  | 16 => match (c.grove t g).run with
    | some r => takeTrap t g (.seqchk false) r.pc 0 c
    | none => c
  | 17 => heldFail t g 3 6 c
  | 18 => outerFail t g 3 6 c
  | _ => cellFail t g v c

/-! ### Errors of the on-die memories -/

/-- The upset of the sum of a fetch-add. -/
def sumMask : Ecc → Word
  | .adder m => m
  | _ => 0#32

/-- The code finds an error it cannot correct. -/
def eccUe : Ecc → Bool
  | .ue _ => true
  | _ => false

/-- An ordinary read of slot words: an error the code corrects is counted for the ranger (R154). -/
def slotRead (t : Nat) (e : Ecc) (c : Chip) : Chip :=
  match e with
  | .ce _ => c.bump .rgrCeCnt (.tile t)
  | _ => c

/-- The sum of a fetch-add is upset (R282). -/
def sumBad (e : Ecc) : Bool := sumMask e != 0#32


/-- Outcome of the code on a read of a scratchpad row (R286); `src` as SPM_ECC_LAST gives it. A row that its write-back entry holds is read from there and
finds no error. -/
def Dev.spmEcc (d : Dev) (t g a : Nat) (e : Ecc) (src : Nat) : Dev :=
  let s : Site := .grove t g
  let cap (kind : Nat) (syn : BitVec 8) := mkReg [(62, 1, kind), (60, 2, src), (53, 3, spBank a), (42, 11, spRow a), (34, 8, syn.toNat)]
  let gr := d.chip.grove t g
  if kfind? gr.spmWb (spBank a) = some (spRow a) then d
  else match e with
  | .ok | .adder _ | .bytes _ => d
  | .ce syn =>
    d.on (fun c =>
      let c := (c.bump .spmCeCnt s).capture .spmEccLast s 0 (cap 0 syn)
      if khas gr.spmWb (spBank a) then c else c.modGrove t g (fun gr => { gr with spmWb := kset gr.spmWb (spBank a) (spRow a) }))
  | .ue syn =>
    (d.poison (spBase t g + a)).on (fun c =>
      raise (.tile t 23) (g * 256 + spBank a) ((c.bump .spmUeCnt s).capture .spmEccLast s 0 (cap 1 syn)))

/-- Outcome of the code on a read of a tile-memory row (R286); `src` as TMB_ECC_LAST gives it. -/
def Dev.tmbEcc (d : Dev) (t a : Nat) (e : Ecc) (src : Nat) : Dev :=
  let s : Site := .tile t
  let b := d.chip.tmBlock t a
  let r := d.chip.tmRow t a
  let cap (kind : Nat) (syn : BitVec 8) := mkReg [(62, 1, kind), (60, 2, src), (54, 6, b), (38, 16, r), (30, 8, syn.toNat)]
  let ti := d.chip.tile t
  if kfind? ti.tmbWb b = some r then d
  else match e with
  | .ok | .adder _ | .bytes _ => d
  | .ce syn =>
    d.on (fun c =>
      let c := (c.bump .tmbCeCnt s).capture .tmbEccLast s 0 (cap 0 syn)
      if khas ti.tmbWb b then c else c.modTile t (fun ti => { ti with tmbWb := kset ti.tmbWb b r }))
  | .ue syn =>
    (d.poison (tmBase t + a)).on (fun c => raise (.tile t 25) b ((c.bump .tmbUeCnt s).capture .tmbEccLast s 0 (cap 1 syn)))

/-- The outcome of the code on a read of a GDDR7 block (R306, R310); `src` as GD7_ECC_LAST gives it, the corrected byte as the syndrome;
`bytes` are errors in single bytes of the block, which its code decodes (R308). -/
def Dev.gd7Ecc (d : Dev) (o : Nat) (e : Ecc) (src : Nat) : Dev :=
  let ch := gdChan o
  let s : Site := .tile ch.1
  let p := gdPlace o
  let cap (kind sym : Nat) := mkReg [(62, 1, kind), (60, 2, src), (57, 3, ch.2), (37, 20, p.seg), (33, 4, p.slot), (26, 7, sym)]
  let one (sym : Nat) (d : Dev) : Dev := d.on (fun c => (c.bump .gd7CeCnt s).capture .gd7EccLast s 0 (cap 0 sym))
  let two (d : Dev) : Dev := (d.poison (gdBase + o)).on (fun c => raise (.tile ch.1 27) ch.2 ((c.bump .gd7UeCnt s).capture .gd7EccLast s 0 (cap 1 127)))
  match e with
  | .ok | .adder _ => d
  | .ce syn => one syn.toNat d
  | .ue _ => two d
  | .bytes errs =>
    match d.gdRead o (errs.map (fun x => (x.1.val, x.2))) with
    | .clean l => d.gdClean o l
    | .corrected i l => one i (d.gdClean o l)
    | .poisoned => d.poison (gdBase + o)
    | .failed => two d

/-- The outcome of the code on a read by the queue block at a level of the middle (R255, R286, R310). -/
def Dev.lvlEcc (d : Dev) (t : Nat) (l : Level) (e : Ecc) : Dev :=
  if d.chip.lvlOff t l then d
  else
    match l with
    | .pool _ => d.tmbEcc t (d.chip.lvlAddr t l - tmBase t) e 0
    | .gd7 _ => d.gd7Ecc (d.chip.lvlAddr t l - gdBase) e 0
    | _ => d

/-- A read of some words of an item where they stand in registers: bad ones are poisoned and counted (R255). -/
def Queue.readAt (Q : Queue) (seq : Nat) (idx : List Nat) : Queue :=
  let Q' : Queue := { Q with items := Q.items.map (fun i => if i.seq = seq && !i.gone then
    { i with words := i.words.zipIdx.map (fun x => if idx.contains x.2 then x.1.checked else x.1) } else i) }
  { Q' with found := Q.found + (Q.faults - Q'.faults) }

/-! ### Scratchpad power (R288–R290) -/

/-- The power state of a scratchpad bank. -/
def Chip.spPwr (c : Chip) (t g a : Nat) : MemPwr := kget .on (c.grove t g).spmPwr (spBank a)

/-- A grove wakes (R548): from retention, its scratchpad banks leave retention with it, but for those whose own request keeps them there (R288). -/
def wakeGrove (t g : Nat) (c : Chip) : Chip :=
  c.modGrove t g (fun gr => { gr with pwr := .awake, spmPwr := if gr.pwr = .retention then gr.spmPwr.map (fun (x : Nat × MemPwr) =>
    if x.2 = .retention ∧ c.rf .spmPwr (.grove t g) 0 (2 * x.1) 2 = 0 then (x.1, .on) else x) else gr.spmPwr })

/-- Note a bank that an access takes out of retention: it returns there under the automatic rule only (R288). -/
def Grove.noteWoken (gr : Grove) (b : Nat) : Grove := { gr with spmWoken := gr.spmWoken.filter (fun x => x != b) ++ [b] }

/-- An access of port B wakes a bank from retention and waits until it is on (R288, R290). -/
def Chip.spWake (c : Chip) (t g a : Nat) : Chip :=
  if c.spPwr t g a = .retention ∨ c.spPwr t g a = .waking then
    c.modGrove t g (fun gr => ({ gr with spmPwr := kset gr.spmPwr (spBank a) .on } : Grove).noteWoken (spBank a))
  else c

/-- An access of port A begins the wake of a bank in retention; the slot stalls until MEM_POWER_TRANSITION_DONE (R290). -/
def Chip.spWakeA (c : Chip) (t g b : Nat) : Chip :=
  if kget .on (c.grove t g).spmPwr b = .retention then c.modGrove t g (fun gr => ({ gr with spmPwr := kset gr.spmPwr b .waking } : Grove).noteWoken b) else c


end Sys2Proof.Machine
end

