-- ==== Sys2Proof/Machine/Tick.lean ====
section
/-!
DEFINITION. One TCLK cycle of a tile: results that fall due become visible (R48, R49), scratchpad accesses reach their banks (R275),
verdicts reach the sequencer (R61), read ports deliver (R126), edge lanes and canopy channels move (R90, R92), budgets count (R140).
-/
namespace Sys2Proof.Machine

/-- Write a register k of a cell in the working bank of the running slot (R46). -/
def Grove.setK (gr : Grove) (n k : Nat) (w : TWord) : Grove :=
  match gr.run with
  | some r => match gr.workBank r.slot with
    | some b => { gr with banks := kset gr.banks (b * 64 + 4 * n + k) w }
    | none => gr
  | none => gr

/-- A register k that is written in this cycle still reads as it did at the cycle's start (R46). -/
def Grove.keepK (gr : Grove) (n k : Nat) (w : TWord) : Grove := if khas gr.kOld (4 * n + k) then gr else { gr with kOld := kset gr.kOld (4 * n + k) w }

/-- Write a register of the running task's current window. -/
def Grove.setW (gr : Grove) (i : Nat) (w : TWord) : Grove :=
  match gr.run with
  | some r => { gr with windows := gr.windows.map (fun x =>
      if x.slot == r.slot && x.depth == r.depth then { x with regs := kset x.regs i w } else x) }
  | none => gr

/-- A loaded word reaches its register: in the window of that depth, kept for the refill when the window is spilled, dropped when it was released
(R124, R136). -/
def Grove.setAt (gr : Grove) (slot depth i : Nat) (w : TWord) : Grove :=
  if gr.windows.any (fun x => x.slot == slot && x.depth == depth) then
    { gr with windows := gr.windows.map (fun x => if x.slot == slot && x.depth == depth then { x with regs := kset x.regs i w } else x) }
  else
    let keep (r : Run) : Run := if r.slot == slot && decide (0 < depth) && decide (depth ≤ r.depth) then { r with late := r.late ++ [(depth, i, w)] } else r
    { gr with run := gr.run.map keep, susp := gr.susp.map keep }

/-- Replace a cell. -/
def Grove.setCell (gr : Grove) (n : Nat) (c : Cell) : Grove := { gr with cells := kset gr.cells n c }

/-- Update the flags of a cell under a mask, with generated parity (R56). -/
def Cell.setFlags (c : Cell) (fl m : BitVec 16) : Cell :=
  let f := (c.flags &&& ~~~m) ||| (fl &&& m)
  { c with flags := f, par := flagPar f }

/-- Write a result to OUT under a lane mask, keeping the other lanes (R70, R60); a kept poisoned lane keeps the word poisoned. -/
def Cell.setOut (c : Cell) (w : TWord) (mask : BitVec 32) : Cell :=
  if mask = 0#32 then c
  else if mask = 0xFFFFFFFF#32 then { c with out := w, outValid := true }
  else
    let data := (TWord.data c.out &&& ~~~mask) ||| (TWord.data w &&& mask)
    { c with out := twordP (TWord.isPoison c.out || TWord.isPoison w) data, outValid := true }

/-- An accumulator write takes effect (R49, R59, R66): the cell, and the failure of its prediction when there is one. -/
def Cell.accLand (c : Cell) (n : Nat) (sel : Bool) (op : AccOp) (sgn flagEn : Bool) (bad : BitVec 64) (opc lane : Nat) : Cell × Option Verdict :=
  let r := accWrite (c.accu sel) op sgn
  let a := r.1
  let seen := a.val ^^^ bad
  let obs := seen.toNat % 7
  let a' := { a with val := seen, res := if a.res == 7#3 then 7#3 else res64 seen }
  let c := if sel then { c with acc1 := a' } else { c with acc0 := a' }
  let fl : BitVec 16 := BitVec.ofNat 16 (2 * b2n r.2.1 + 4 * b2n (seen == 0#64) + 8 * b2n (seen.getLsbD 63))
  let isArith := match op with
    | .add _ _ | .sub _ _ => true
    | _ => false
  let unused : BitVec 16 := match lane with
    | 0 => 0xFFF0#16
    | 1 => 0xFF00#16
    | _ => 0#16
  let c := if flagEn && isArith then c.setFlags fl (0x000F#16 ||| unused) else c
  let clean := match op with
    | .clear => true
    | _ => a.res == 7#3
  if clean || r.2.2 == obs then (c, none)
  else (c, some { cell := n, cls := 4, opcode := opc, lane := lane, expected := r.2.2, observed := obs, data := seen.extractLsb' 0 32 })

/-- Add a fired operation to the pipelines. -/
def Grove.push (gr : Grove) (f : InFlight) : Grove := { gr with inflight := gr.inflight ++ [f] }

/-- A verdict that reaches the sequencer in the cycle after `due` (R61). -/
def Grove.verdict (gr : Grove) (due : Nat) (v : Verdict) : Grove := { gr with verdicts := gr.verdicts ++ [(due + 1, v)] }

/-- A failed memory operation of a cell, or of the sequencer (R118, R282, R284). -/
def memFail (t g cell cls opcode : Nat) (w : TWord) (now : Nat) (seq : Bool) (c : Chip) : Chip :=
  let v : Verdict := ⟨if seq then 16 else cell, cls, opcode, 0, (TWord.res w).toNat, (TWord.data w).toNat % 7, TWord.data w⟩
  c.modGrove t g (fun gr => gr.verdict now v)

/-- A port-A access in its access cycle (R275, R281–R284). -/
def performA (t g now : Nat) (f : InFlight) (k : MemKind) (addr : Nat) (data : TWord) (ecc : Ecc) (wb : Option Nat) (d : Dev) : Dev :=
  let a := spBase t g + addr
  let isW := match k with
    | .ld | .sld => false
    | _ => true
  let d := d.on (fun c => ((c.spWake t g addr).see { kind := 1, die := t, g := g, wr := isW, addr := addr, data := TWord.data (if isW then data else d.rd32 a) }).modGrove t g
    (fun gr => { gr with accA := gr.accA ++ [(addr / 4, isW, f.cell)] }))
  match k with
  | .ld =>
    let d := d.spmEcc t g addr ecc 0
    d.on (fun c => c.modGrove t g (fun gr => gr.push { cell := f.cell, due := now + 1, eff := .out (twordP (TWord.isPoison data || TWord.isPoison (d.rd32 a)) (TWord.data (d.rd32 a))) 0xFFFFFFFF#32 wb 0#16 0#16 }))
  | .sld =>
    let d := d.spmEcc t g addr ecc 0
    d.on (fun c => c.modGrove t g (fun gr => gr.push { cell := 16, due := now + 1, eff := .reg (wb.getD 0) (d.rd32 a), depth := f.depth }))
  | .st => if TWord.bad data then d.on (memFail t g f.cell 2 0x41 data now false) else (d.spmEcc t g addr ecc 0).wr32 a data
  | .sst => if TWord.bad data then d.on (memFail t g 16 2 0 data now true) else (d.spmEcc t g addr ecc 0).wr32 a data
  | .fadd =>
    let d := d.spmEcc t g addr ecc 0
    let old := d.rd32 a
    let d := d.on (fun c => c.modGrove t g (fun gr => gr.push { cell := f.cell, due := now + 2, eff := .out (twordP (TWord.isPoison data || TWord.isPoison old) (TWord.data old)) 0xFFFFFFFF#32 wb 0#16 0#16 }))
    let sum := TWord.data old + TWord.data data
    let seen := sum ^^^ sumMask ecc
    if TWord.bad data then d.on (memFail t g f.cell 2 0x42 data now false)
    else if TWord.isPoison data || TWord.isPoison old then d.poison a
    else if seen.toNat % 7 != sum.toNat % 7 then
      d.on (fun c => c.modGrove t g (fun gr => gr.verdict now ⟨f.cell, 0, 0x42, f.lane, sum.toNat % 7, seen.toNat % 7, seen⟩))
    else d.wr32 a (tword seen)
  | .swap =>
    let d := d.spmEcc t g addr ecc 0
    let old := d.rd32 a
    let d := d.on (fun c => c.modGrove t g (fun gr => gr.push { cell := f.cell, due := now + 2, eff := .out (twordP (TWord.isPoison data || TWord.isPoison old) (TWord.data old)) 0xFFFFFFFF#32 wb 0#16 0#16 }))
    if TWord.bad data then d.on (memFail t g f.cell 2 0x43 data now false)
    else if TWord.isPoison data || TWord.isPoison old then d.poison a
    else d.wr32 a data

/-- What a fired operation does when its cycle comes. -/
def landOne (t g now : Nat) (f : InFlight) (d : Dev) : Dev :=
  let note (c : Chip) : Chip := match f.bad with
    | some v => c.modGrove t g (fun gr => gr.verdict now v)
    | none => c
  match f.eff with
  | .out w mask wb fl flMask =>
    d.on (fun c => note (c.modGrove t g (fun gr =>
      let cell := ((gr.cell f.cell).setOut w mask).setFlags fl flMask
      let gr := gr.setCell f.cell (if flMask = 0#16 then { cell with flags := (gr.cell f.cell).flags, par := (gr.cell f.cell).par } else cell)
      match wb with
      | some k => (gr.setK f.cell k (gr.cell f.cell).out).keepK f.cell k (gr.kreg f.cell k)
      | none => gr)))
  | .acc sel op sgn flagEn bad =>
    d.on (fun c => note (c.modGrove t g (fun gr =>
      let r := (gr.cell f.cell).accLand f.cell sel op sgn flagEn bad f.opcode f.lane
      let gr := gr.setCell f.cell r.1
      match r.2 with
      | some v => gr.verdict now v
      | none => gr)))
  | .mem k addr data ecc wb => (performA t g now f k addr data ecc wb d).on note
  | .reg i w => d.on (fun c => note (c.modGrove t g (fun gr => match gr.run with
      | some r => gr.setAt r.slot f.depth i w
      | none => gr)))
  | .setk k w => d.on (fun c => note (c.modGrove t g (fun gr => gr.setK f.cell k w)))
  | .nothing => d.on note

/-- The check-value unit of a read port sees a delivered word (R263): the word as delivered, the unit after it, and a mismatch. -/
def cvDeliver (cfg : BitVec 64) (gen : Bool) (dev q seq idx n : Nat) (u : CVUnit) (w : TWord) : TWord × CVUnit × Bool :=
  if fld cfg 51 2 != 2 || gen then (w, u, false)
  else if !u.valid || u.next != idx then (w, { u with valid := false }, false)
  else if idx + 1 < n then (w, { u with crc := cvWord (fld cfg 50 1) u.crc (TWord.data w), next := idx + 1 }, false)
  else if TWord.data w = cvFinal (fld cfg 50 1) u.crc dev q seq (fld cfg 49 1 == 1) then (w, { u with next := idx + 1 }, false)
  else (poisoned (TWord.data w), { u with next := idx + 1, mismatch := true }, true)

/-- A read port in one cycle: it delivers the next word when that lies in the queue head or in its fetch buffer (R126, R242), checked by this read (R255);
a stopped queue delivers nothing (R256). -/
def qrTick (t g u : Nat) (d : Dev) : Dev :=
  let c := d.chip
  match (c.grove t g).run with
  | none => d
  | some r =>
    let p := if u = 0 then r.qr0 else r.qr1
    let put (p : QRPort) (cv : CVUnit) (r : Run) : Run := if u = 0 then { r with qr0 := p, cv0 := cv } else { r with qr1 := p, cv1 := cv }
    let cv := if u = 0 then r.cv0 else r.cv1
    if p.left = 0 || (c.queue r.queue).err then d.on (fun c => c.modRun t g (put { p with valid := false } cv))
    else
      match (c.queue r.queue).item? r.itemSeq with
      | none => d.on (fun c => c.modRun t g (put { p with valid := false, left := 0 } cv))
      | some it =>
        if it.words.length ≤ p.pos then d.on (fun c => c.modRun t g (put { p with valid := false, left := 0 } cv))
        else
          let buffered := p.buf.find? (fun b => b.1 == p.pos)
          let w : Option QWord := match buffered with
            | some b => some b.2
            | none => match it.words[p.pos]? with
              | some qw => if qw.lvl.isHead then some qw else none
              | none => none
          match w with
          | none => d.on (fun c => c.modRun t g (put { p with valid := false } cv))
          | some w =>
            let qw := if u = 0 then r.qw0 else r.qw1
            let gen := match qw.queue with
              | some q => fld (c.qcfg q) 51 2 == 1
              | none => false
            let x := cvDeliver (c.qcfg r.queue) gen (c.rf .fabCtl .hub 0 32 6) r.queue r.itemSeq p.pos it.words.length cv w.checked.w
            let left := if p.pos + 1 = it.words.length then 0 else p.left - 1
            let p' : QRPort := { pos := p.pos + 1, left := left, out := x.1, valid := true, buf := p.buf.filter (fun b => b.1 != p.pos) }
            d.on (fun c =>
              let c := c.modRun t g (put p' x.2.1)
              let c := c.shiftQueue r.queue (fun Q => if buffered.isSome then { Q with found := Q.found + b2n w.faulty } else Q.readAt r.itemSeq [p.pos])
              if x.2.2 then c.bump .queCvFailCnt (qsite r.queue) else c)

/-- The word address a port-A access in flight is for. -/
def InFlight.portA (f : InFlight) : Option Nat :=
  match f.eff with
  | .mem _ addr _ _ _ => some (addr / 4)
  | _ => none

/-- The bank accesses that some accesses of port A to one bank need (R50, R274): the first of them reaches its row, and one to the other word of that row is
served with it. -/
def bankGroups : Nat → List InFlight → List (List InFlight)
  | 0, _ => []
  | _, [] => []
  | n + 1, f :: r =>
    match r.find? (fun x => x.portA == f.portA.map (fun w => if w % 2 = 0 then w + 1 else w - 1)) with
    | some x => [f, x] :: bankGroups n (r.erase x)
    | none => [f] :: bankGroups n r

/-- The bank of an access of port A. -/
def InFlight.bank (f : InFlight) : Option Nat := f.portA.map (fun w => spBank (4 * w))

/-- The order in which port A serves the accesses of one cycle: the cells in their order, the sequencer last (R50, R128). -/
def portAOrder (l : List InFlight) : List InFlight := (List.range 17).flatMap (fun n => l.filter (fun f => f.cell == n))

/-- The bank is not ready for port A in this cycle: it leaves retention (R290), or port B goes first (R277). -/
def Grove.bankHeld (gr : Grove) (b : Nat) : Bool := kget .on gr.spmPwr b == .waking || gr.bFirst == some b

/-- The accesses of port A that reach their banks in this cycle, and the bank accesses that stall the slot (R50): one row of each bank is served. -/
def Grove.portASplit (gr : Grove) (l : List InFlight) : List InFlight × List (List InFlight) :=
  (List.range 8).foldl (fun acc b =>
    let gs := bankGroups l.length (l.filter (fun f => f.bank == some b))
    let k := if gr.bankHeld b then 0 else 1
    (acc.1 ++ (gs.take k).flatten, acc.2 ++ gs.drop k)) ([], [])

/-- The first stalled bank access whose bank is ready, and those that stay. -/
def takeReady (held : Nat → Bool) : List (List InFlight) → List InFlight × List (List InFlight)
  | [] => ([], [])
  | x :: r => if (x.head?.bind InFlight.bank).any held then (let p := takeReady held r; (p.1, x :: p.2)) else (x, r)

/-- The running slot stalls in this cycle: port A serves a further bank access (R50), a write port holds a word (R247), or an acquisition
moves data (R166). -/
def Grove.frozen (gr : Grove) : Bool :=
  gr.acqWait.isSome || (match gr.run with
    | some r => decide (0 < r.stall) || r.qw0.held.isSome || r.qw1.held.isSome
    | none => false)

/-- The first part of a cycle: counters step, and what was visible for one cycle ends. A stalled cycle leaves cells, strobes and waits of the
slot as they are, and its pipelines hold (R50); the budget counts it (R140). -/
def Grove.turn (gr : Grove) : Grove :=
  let gr' : Grove := { gr with
    cycle := gr.cycle + 1
    stretched := gr.frozen
    accA := []
    busyCnt := gr.busyCnt + b2n gr.run.isSome
    run := gr.run.map (fun r => { r with stall := b2n (!gr.deferA.isEmpty), budget := if r.started && !r.done then r.budget - 1 else r.budget }) }
  let gr' : Grove := if gr.frozen then gr' else { gr' with
    cells := gr.cells.map (fun p => (p.1, { p.2 with outValid := false }))
    fired := []
    kOld := []
    issued := false
    run := gr'.run.map (fun r => { r with
      strobe := r.strobe - 1
      wait := r.wait - 1
      sq := r.sqNext.getD r.sq
      sqNext := none }) }
  if gr'.frozen then { gr' with inflight := gr'.inflight.map (fun f => { f with due := f.due + 1 }) } else gr'

/-- One cycle of a grove, but for the lanes and channels that enter it. A halted grove does not move (R569), but its slot
still counts as RUNNING (R207, R575). The results of one cell land in
the order they were fired in (R48); port A serves the cells in their order, the sequencer last (R50, R128). -/
def tickGrove (t g : Nat) (d : Dev) : Dev :=
  if (d.chip.grove t g).halted then
    (if (d.chip.grove t g).run.isSome then d.on (fun c => c.modGrove t g (fun gr => { gr with busyCnt := gr.busyCnt + 1 })) else d)
  else
    let d := d.on (fun c => c.modGrove t g Grove.turn)
    let gr := d.chip.grove t g
    let now := gr.cycle
    let due := gr.inflight.filter (fun f => f.due == now)
    let mem := portAOrder (due.filter (fun f => f.portA.isSome))
    let d := d.on (fun c => (mem.filterMap InFlight.bank).foldl (fun c b => c.spWakeA t g b) c)
    let gr' := d.chip.grove t g
    let p := if gr.frozen then takeReady gr'.bankHeld gr'.deferA else (let x := gr'.portASplit mem; (x.1, gr'.deferA ++ x.2))
    let d := d.on (fun c => c.modGrove t g (fun gr =>
      { gr with inflight := gr.inflight.filter (fun f => f.due != now), landNow := !due.isEmpty || !p.1.isEmpty, deferA := p.2, bFirst := none }))
    let lands := due.filter (fun f => f.portA.isNone) ++ p.1
    let d := (List.range 17).foldl (fun d n => (lands.filter (fun f => f.cell == n)).foldl (fun d f => landOne t g now f d) d) d
    let vs := (d.chip.grove t g).verdicts.filter (fun v => decide (v.1 ≤ now))
    let d := d.on (fun c => c.modGrove t g (fun gr => { gr with verdicts := gr.verdicts.filter (fun v => !(decide (v.1 ≤ now))) }))
    let d := d.on (fun c => vs.foldl (fun c v => verdictArrives t g v.2 c) c)
    if gr.frozen then d else qrTick t g 1 (qrTick t g 0 d)

/-- What a track of a grove shows beyond it: a word is valid in the cycle in which it becomes visible, and in no later cycle of a stall (R85). -/
def farTrack (gr : Grove) (k : Nat) : Track := let x := outTrack gr k; (x.1, x.2 && !gr.stretched)

/-- The neighbour of a grove on a side (N 0, E 1, S 2, W 3), within the tile (R90). -/
def neighbour (g s : Nat) : Option Nat :=
  let x := g % 16
  let y := g / 16
  match s with
  | 0 => if y = 0 then none else some (gidx x (y - 1))
  | 1 => if x = 11 then none else some (gidx (x + 1) y)
  | 2 => if y = 11 then none else some (gidx x (y + 1))
  | _ => if x = 0 then none else some (gidx (x - 1) y)

/-- Whether a logical grove is served by a direct substitution (R101, R102): its row of the map names its column in mode 1. -/
def Chip.subst (c : Chip) (t g : Nat) : Bool :=
  c.rf .sprGmap .hub (12 * t + g / 16) 4 2 == 1 && c.rf .sprGmap .hub (12 * t + g / 16) 0 4 == g % 16

/-- The words that enter a grove's edge lanes in the next cycle (R90, R91, R102): idle unless both groves run members of one gang
instance and neither is served by a direct substitution. -/
def edgeNext (c : Chip) (t g : Nat) : KMap Track :=
  match (c.grove t g).run with
  | none => []
  | some r =>
    if r.gang.isNone || c.subst t g then []
    else (List.range 4).flatMap (fun s =>
      match neighbour g s with
      | none => []
      | some g' =>
        match (c.grove t g').run with
        | none => []
        | some r' =>
          if r'.gang == r.gang && r'.desc == r.desc && !(c.subst t g') then
            (List.range 4).map (fun l => (4 * s + l, farTrack (c.grove t g') (68 + 4 * ((s + 2) % 4) + l)))
          else [])

/-- Whether a gang runs in a tile. -/
def Chip.gangRuns (c : Chip) (t n : Nat) : Bool :=
  c.groves.any (fun p => p.1 / 256 == t && (match p.2.run with | some r => r.gang == some n | none => false))

/-- The one-hot source latch of a canopy channel, bit 2n + tap for the n-th grove (R100, R111): what its register decodes to, with the upsets;
its check bit (R89) is then always 1. -/
def Chip.cnpLatch (c : Chip) (t ch : Nat) : Nat :=
  let v := c.reg .cfgCnpSrc (.tile t) ch
  (2 ^ (2 * gnum (fld v 8 8) + fld v 0 1)) ^^^ (kget 0#288 (c.tile t).cnpUp ch).toNat

/-- The source a channel's latch encodes to: grove and tap of its lowest set bit (R100, R111). -/
def Chip.cnpSource (c : Chip) (t ch : Nat) : Option (Nat × Nat) :=
  (lowBit (c.cnpLatch t ch) 288).map (fun b => (gidx (b / 2 % 12) (b / 24), b % 2))

/-- The canopy's channels after one more cycle (R92, R93). -/
def cnpNext (c : Chip) (t : Nat) : KMap (List Track) :=
  if c.groves.any (fun p => p.1 / 256 == t && (match p.2.run with | some r => r.gang.isSome | none => false)) then
    (List.range 64).filterMap (fun ch =>
      let v := c.reg .cfgCnpSrc (.tile t) ch
      if fld v 63 1 == 1 && c.gangRuns t (fld v 16 8) && !((c.tile t).cnpOff.contains ch) then
        match c.cnpSource t ch with
        | none => none
        | some s =>
          let src := c.grove t s.1
          if src.halted then some (ch, kget [] (c.tile t).cnp ch) else
          some (ch, (farTrack src (66 + s.2) :: kget [] (c.tile t).cnp ch).take 6)
      else none)
  else []

/-- The groves of a tile that hold any state. -/
def Chip.tileGroves (c : Chip) (t : Nat) : List Nat := (c.groves.filter (fun p => p.1 / 256 == t)).map (fun p => p.1 % 256)

/-- The groves that halt and resume with grove g: the members of the gang instance it runs, else itself (R569). -/
def gangMembers (c : Chip) (t g : Nat) : List Nat :=
  match (c.grove t g).run with
  | some r => match r.gang with
    | some n => (c.tileGroves t).filter (fun g' => match (c.grove t g').run with | some r' => r'.gang == some n && r'.desc == r.desc | none => false)
    | none => [g]
  | none => [g]

/-- Halt a grove, and with it every member of its gang instance, raising DBG_HALT (R569). -/
def haltGrove (t g : Nat) (c : Chip) : Chip :=
  raise (.hub 24) (t * 256 + g) ((gangMembers c t g).foldl (fun c g => c.modGrove t g (fun gr => { gr with halted := true, haltReq := false, step := none })) c)

/-- A step in cycle mode counts the cycle that has passed; after the last the grove halts (R571). -/
def stepCycle (t g : Nat) (c : Chip) : Chip :=
  match (c.grove t g).step with
  | some (false, n + 1) => if n = 0 then haltGrove t g c else c.modGrove t g (fun gr => { gr with step := some (false, n) })
  | _ => c

/-- A task is PLACED or RESUMABLE on a grove. -/
def Tile.onGrove (ti : Tile) (g : Nat) (p : DState → Bool) : Bool := ti.descs.any (fun d => d.2.grove == some g && p d.2.state)

/-- The grove runs a slot or has a switch pending (R548). -/
def groveActive (c : Chip) (t g : Nat) : Bool := (c.grove t g).run.isSome || (c.tile t).onGrove g (fun s => s == .placed)

/-- A grove that has come to rest is clock-gated in the next cycle (R548). -/
def gateGrove (t g : Nat) (c : Chip) : Chip :=
  let gr := c.grove t g
  if groveActive c t g then (if gr.acted then c else c.modGrove t g (fun gr => { gr with acted := true }))
  else if gr.acted && !gr.halted then c.modGrove t g (fun gr => { gr with acted := false, pwr := if gr.pwr = .awake then .gated else gr.pwr })
  else c

/-- Slots of a grove in a state. -/
def Grove.anySlot (gr : Grove) (p : SlotState → Bool) : Bool := (List.range 8).any (fun s => p (gr.slot s).state)

/-- Any slot of a grove is RUNNING or SUSPENDED. -/
def Grove.occupied (gr : Grove) : Bool := gr.anySlot (fun s => s == .running || s == .suspended)

/-- Requests for off and on take effect in a scratchpad (R288, R289): off once no slot is RUNNING or SUSPENDED, with `held` until then; on from
off starts the ramp; on from retention wakes. -/
def spmApply (t g : Nat) (c : Chip) : Chip :=
  let s : Site := .grove t g
  let occ := (c.grove t g).occupied
  let req := c.rf .spmPwr s 0 0 16
  let wantsOff := (List.range 8).any (fun b => bitsOf req (2 * b) 2 == 2 && kget .on (c.grove t g).spmPwr b != .off)
  let c := c.setRf .spmPwr s 0 32 1 (b2n (wantsOff && occ))
  let next (m : KMap MemPwr) (b : Nat) : KMap MemPwr :=
    match bitsOf req (2 * b) 2, kget .on m b with
    | 2, .off | 2, .waking => m
    | 2, _ => if occ then m else kset m b .off
    | 0, .off => kset m b .transition
    | 0, .retention => kset m b .on
    | _, _ => m
  c.modGrove t g (fun gr => { gr with spmPwr := (List.range 8).foldl next gr.spmPwr })

/-- A request for off that is held is looked at again in each cycle (R289). -/
def heldOff (t g : Nat) (c : Chip) : Chip := if c.rbit .spmPwr (.grove t g) 0 32 && !(c.grove t g).occupied then spmApply t g c else c

/-- One TCLK cycle of tile t. -/
def tickTile (t : Nat) (d : Dev) : Dev :=
  let c := d.chip
  let gs := c.tileGroves t
  let d := gs.foldl (fun d g => tickGrove t g d) d
  d.on (fun c' =>
    let c' := gs.foldl (fun c' g => if (c.grove t g).halted then c' else c'.modGrove t g (fun gr => { gr with edgeIn := edgeNext c t g })) c'
    let c' := (c'.tile t).queues.foldl (fun c' p => queueCycle (4096 * t + p.1) c') c'
    gs.foldl (fun c' g => heldOff t g (gateGrove t g (stepCycle t g c'))) (c'.modTile t (fun ti => { ti with cycle := ti.cycle + 1, loadCycles := ti.loadCycles + 1, cnp := cnpNext c t })))

/-- Run a tile until a grove's running slot is no longer stalled and can act in a new cycle, within a bound. -/
def settleGrove (t g : Nat) (busy : Grove → Bool) : Nat → Dev → Dev
  | 0, d => d
  | n + 1, d => if busy (d.chip.grove t g) then settleGrove t g busy n (tickTile t d) else d

/-- Run a tile while a condition on the device holds, within a bound. -/
def settleDev (t : Nat) (busy : Dev → Bool) : Nat → Dev → Dev
  | 0, d => d
  | n + 1, d => if busy d then settleDev t busy n (tickTile t d) else d

end Sys2Proof.Machine
end

