-- ==== Sys2Proof/Machine/CellOps.lean ====
section
/-!
DEFINITION. A cell fires (R41–R69): the conditions of R47, the operand check, the carry chain, the datapath, the checker's verdict, and
the accumulators' lazy save (R65, R166, R167).
-/
namespace Sys2Proof.Machine

/-- The carry and zero signals a cell drives east, formed in this cycle (R67, R68); with cout_en 0, cy = 0 and zr = 1. The fuel is the
number of cells to its west. -/
def chainOut (ti : Tile) (gr : Grove) : Nat → Nat → Bool × Bool
  | 0, n => chainStep n (false, true)
  | fuel + 1, n => chainStep n (if n % 4 = 0 then (false, true) else chainOut ti gr fuel (n - 1))
where
  /-- One cell of the chain. -/
  chainStep (n : Nat) (west : Bool × Bool) : Bool × Bool :=
    let f := cellField (imgCell gr.runImg n)
    if !f.coutEn then (false, true)
    else
      let a := (TWord.data (operand ti gr n f f.srcA).1).toNat
      let b := (TWord.data (operand ti gr n f f.srcB).1).toNat
      let c := (TWord.data (operand ti gr n f f.srcC).1).toNat
      let cin := match f.cin with
        | 0 => 0
        | 1 => b2n west.1
        | 2 => b2n ((gr.cell n).flags.getLsbD 0)
        | _ => 1
      let ls := aluLanes f a b c cin 0 0
      let cy := match ls.getLast? with
        | some l => l.c
        | none => false
      (cy, ls.all (fun l => l.y == 0) && (if f.cin = 1 then west.2 else true))

/-- The cy and zr that enter a cell from the west. -/
def chainIn (ti : Tile) (gr : Grove) (n : Nat) : Bool × Bool :=
  if n % 4 = 0 then (false, true) else chainOut ti gr (n % 4) (n - 1)

/-! ### Acquisition of the accumulators (R165–R168) -/

/-- The device-local address of the save frame of a slot (R165). -/
def Chip.frameAddr (c : Chip) (t g slot : Nat) : Nat :=
  tmBase t + 4096 * c.rf .ctxSaveBase (.tile t) 0 12 13 + (gnum g * 8 + slot) * 256

/-- Accumulator i (2N + k) of a grove. -/
def Grove.acc (gr : Grove) (i : Nat) : Accu := (gr.cell (i / 2)).accu (i % 2 == 1)

/-- Replace accumulator i. -/
def Grove.setAcc (gr : Grove) (i : Nat) (a : Accu) : Grove :=
  let c := gr.cell (i / 2)
  gr.setCell (i / 2) (if i % 2 = 1 then { c with acc1 := a } else { c with acc0 := a })

/-- Save accumulator i into its owner's frame: poisoned ones with the poison encoding, and into a block that is off not at all
(R165, R290). -/
def saveAcc (t g i : Nat) (d : Dev) : Dev :=
  let a := (d.chip.grove t g).acc i
  let addr := d.chip.frameAddr t g a.tag + 8 * i
  let lo := a.val.extractLsb' 0 32
  let hi := a.val.extractLsb' 32 32
  let p := a.res == 7#3 || a.res != res64 a.val
  let off := addr - tmBase t
  let d :=
    if (d.chip.tmPwr t off).dead then d.on (fun c => raise (.tile t 25) (c.tmBlock t off) (c.bump .tmbUeCnt (.tile t)))
    else (d.on (fun c => c.tmWake t off)).wrRow addr (twordP p lo) (twordP p hi)
  d.on (fun c => c.modGrove t g (fun gr =>
    let gr := gr.setAcc i { a with ownerValid := false }
    { gr with slots := kmod {} gr.slots a.tag (fun s => { s with frameValid := true }) }))

/-- Restore accumulator i from a slot's frame: an uncorrectable or poisoned row restores it poisoned (R166, R169, R290). -/
def restoreAcc (t g slot i : Nat) (e : Ecc) (d : Dev) : Dev :=
  let addr := d.chip.frameAddr t g slot + 8 * i
  let off := addr - tmBase t
  let dead := (d.chip.tmPwr t off).dead
  let d := if dead then d.on (fun c => raise (.tile t 25) (c.tmBlock t off) (c.bump .tmbUeCnt (.tile t))) else (d.on (fun c => c.tmWake t off)).tmbEcc t off e 1
  let lo := d.rd32 addr
  let hi := d.rd32 (addr + 4)
  let v : BitVec 64 := TWord.data hi ++ TWord.data lo
  let p := dead || TWord.isPoison lo || TWord.isPoison hi
  d.on (fun c => c.modGrove t g (fun gr => gr.setAcc i { val := v, res := if p then 7#3 else res64 v, tag := slot, ownerValid := true }))

/-- Whether an acquisition for a slot moves data (R166). -/
def Grove.acqMoves (gr : Grove) (slot : Nat) : Bool :=
  (gr.slot slot).frameValid || (List.range 32).any (fun i => (gr.acc i).ownerValid && (gr.acc i).tag != slot)

/-- The three steps of an acquisition (R166). -/
def acquire (t g slot : Nat) (hit : Nat × Ecc) (d : Dev) : Dev :=
  let d := (List.range 32).foldl (fun d i =>
    let a := (d.chip.grove t g).acc i
    if a.ownerValid && a.tag != slot then saveAcc t g i d else d) d
  let d :=
    if ((d.chip.grove t g).slot slot).frameValid then (List.range 32).foldl (fun d i => restoreAcc t g slot i (if hit.1 = i then hit.2 else .ok) d) d
    else d.on (fun c => c.modGrove t g (fun gr =>
      (List.range 32).foldl (fun gr i => gr.setAcc i { val := 0#64, res := 0#3, tag := slot, ownerValid := true }) gr))
  d.on (fun c => (c.modGrove t g (fun gr => { gr with slots := kmod {} gr.slots slot (fun s => { s with frameValid := false }) })).modRun t g
    (fun r => { r with touched := true }))

/-! ### Firing -/

/-- Whether the fire field lets a cell fire in this cycle (R47). -/
def fireOk (ti : Tile) (gr : Grove) (r : Run) (n : Nat) (f : CellField) : Bool :=
  match f.fire with
  | 0 => true
  | 1 => decide (0 < r.strobe)
  | 2 =>
    (!(opReadsA f.opcode) || (operand ti gr n f f.srcA).2) && (!(opReadsB f) || (operand ti gr n f f.srcB).2) &&
    (!(opReadsC f.opcode) || (operand ti gr n f f.srcC).2)
  | _ => false

/-- A verdict of a cell. -/
def mkVerdict (n cls : Nat) (f : CellField) (expected observed : Nat) (data : Word) : Verdict :=
  { cell := n, cls := cls, opcode := f.opcode, lane := f.lane, expected := expected, observed := observed, data := data }

/-- The first check failure of an operation that writes OUT from lanes, in the order of R605. DEDUCED (log 122): a result of class Res+Dup whose residue
differs from that of the value selected has no row there; it counts as its selection, Dup. -/
def outVerdict (n : Nat) (f : CellField) (u : CellUpset) (ls : List LaneRes) (kept y y' : Nat) : Option Verdict :=
  let w : Word := BitVec.ofNat 32 y'
  let v (cls e o : Nat) : Option Verdict := some (mkVerdict n cls f e o w)
  let lanesBad := lanesVerdict f ls kept
  let fold := fold8 (y ^^^ y' ^^^ u.dup.toNat)
  let dec : Option Verdict := if u.dup = 0#32 then none else v 1 (fold % 8) (y' % 7)
  let own : Option Verdict :=
    match opClass f.opcode with
    | .res => match lanesBad with
      | some p => v 0 p.1 p.2
      | none => if f.sat then dec else none
    | .resDup => match lanesBad with
      | some p => v 0 p.1 p.2
      | none => if y % 7 != y' % 7 then v 1 (fold % 8) (y' % 7) else dec
    | .pass => match lanesBad with
      | some p => v 0 p.1 p.2
      | none => none
    | .dup => if fold = 0 then none else v 1 (fold % 8) (y' % 7)
    | _ => none
  match own with
  | some x => some x
  | none => if u.carry && f.cin == 1 then v 3 0 0 else none

/-- The result of an operation on lanes (R51): the word, its lane mask, flags and verdict, ready for the pipeline. -/
def laneFlight (ti : Tile) (gr : Grove) (n now : Nat) (f : CellField) (u : CellUpset) (a b c : Nat) (p : Bool) : InFlight :=
  let west := chainIn ti gr n
  let cin := if f.opcode = 1 ∨ f.opcode = 2 then (match f.cin with
      | 0 => 0
      | 1 => b2n west.1
      | 2 => b2n ((gr.cell n).flags.getLsbD 0)
      | _ => 1) else 0
  let mask := laneBits f
  let up := u.res.toNat &&& mask
  let ls := aluLanes f a b c cin up (u.diff.toNat &&& mask)
  let y := wordOf f.lane (ls.map (fun l => l.y))
  let y' := y ^^^ up
  let zr := if (f.opcode = 1 ∨ f.opcode = 2) ∧ f.cin = 1 then west.2 else true
  let fl := match opFlags f.opcode with
    | some cv => if f.flagEn then (flagWord f cv ls zr, flagMask f) else (0, 0)
    | none => (0, 0)
  { cell := n, due := now + opLatency f.opcode,
    eff := .out (twordP p (BitVec.ofNat 32 y')) (BitVec.ofNat 32 mask) (if f.wbEn then some f.wbK else none) (BitVec.ofNat 16 fl.1) (BitVec.ofNat 16 fl.2),
    bad := outVerdict n f u ls (TWord.data (gr.cell n).out).toNat y y', opcode := f.opcode, lane := f.lane }

/-- The operation's effect once its operands are known: what enters the pipelines (R51–R56, R64, R66), and a failure of a stored
accumulator's residue or of flag parity. -/
def opFlight (ti : Tile) (gr : Grove) (n now : Nat) (f : CellField) (u : CellUpset) (a b c : TWord) (p : Bool) : Option InFlight :=
  let an := (TWord.data a).toNat
  let bn := (TWord.data b).toNat
  let cn := (TWord.data c).toNat
  let wb := if f.wbEn then some f.wbK else none
  let accF (op : AccOp) : Option InFlight :=
    some { cell := n, due := now + 3, eff := .acc f.accSel op f.sgn (f.flagEn && (f.laneMask == 0 || bitOf f.laneMask 0)) u.acc,
           opcode := f.opcode, lane := f.lane }
  match f.opcode with
  | 0x00 => none
  | 0x13 => accF (.add (BitVec.ofInt 64 (dotLanes f an bn)) p)
  | 0x14 => accF (.sub (BitVec.ofInt 64 (dotLanes f an bn)) p)
  | 0x15 => accF (.add (BitVec.ofInt 64 (laneInt f.sgn 32 an)) p)
  | 0x16 => accF (.load (TWord.data b ++ TWord.data a) p)
  | 0x17 => accF .clear
  | 0x18 =>
    let acc := (gr.cell n).accu f.accSel
    let seen := acc.val ^^^ u.acc
    let r := accrs f seen
    let y' := r.1 ^^^ u.res.toNat
    let bad : Option Verdict :=
      if acc.res != 7#3 && acc.res != res64 seen then some (mkVerdict n 4 f acc.res.toNat (seen.toNat % 7) (seen.extractLsb' 0 32))
      else if fold8 (r.1 ^^^ y' ^^^ u.dup.toNat) = 0 then none
      else some (mkVerdict n 1 f (fold8 (r.1 ^^^ y' ^^^ u.dup.toNat) % 8) (y' % 7) (BitVec.ofNat 32 y'))
    let fl := 2 * b2n r.2 + 4 * b2n (r.1 == 0) + 8 * b2n (bitOf r.1 31)
    some { cell := n, due := now + 1, eff := .out (twordP (acc.res == 7#3) (BitVec.ofNat 32 y')) 0xFFFFFFFF#32 wb (BitVec.ofNat 16 fl)
             (if f.flagEn then 0xFFFF#16 else 0#16), bad := bad, opcode := f.opcode, lane := f.lane }
  | 0x50 =>
    let cell := gr.cell n
    let bad : Option Verdict := if cell.par ^^^ u.par = flagPar cell.flags then none
      else some (mkVerdict n 7 f (flagPar cell.flags).toNat (cell.par ^^^ u.par).toNat (BitVec.ofNat 32 cell.flags.toNat))
    some { cell := n, due := now + 1, eff := .out (tword (BitVec.ofNat 32 cell.flags.toNat)) 0xFFFFFFFF#32 wb 0#16 0#16, bad := bad,
           opcode := f.opcode, lane := f.lane }
  | 0x51 => some { cell := n, due := now + 1, eff := .out 0#35 0#32 none (BitVec.ofNat 16 an) 0xFFFF#16, opcode := f.opcode, lane := f.lane }
  | _ => some (laneFlight ti gr n now f u an bn cn p)

/-- A cell's scratchpad access: address, trap, and the access, which reaches its bank in the next cycle (R54, R275, R290). -/
def memFlight (t g n : Nat) (k : MemKind) (f : CellField) (u : CellUpset) (a b : TWord) (c : Chip) : Chip :=
  let gr := c.grove t g
  let an := (TWord.data a).toNat
  let im := (immWord f).toNat
  let sum := ((an + im) % 2 ^ 32) ^^^ u.addr.toNat
  let pred := predAdd 32 an im 0 (decide (2 ^ 32 ≤ an + im))
  let bad : Option Verdict := if pred = sum % 7 then none else some (mkVerdict n 5 f pred (sum % 7) (BitVec.ofNat 32 sum))
  let pc := match gr.run with | some r => r.pc | none => 0
  if 2 ^ 17 ≤ sum ∨ (c.spPwr t g sum).dead then
    let c := takeTrap t g .addr pc (sum % 2 ^ 26) c
    match bad with
    | some v => c.modGrove t g (fun gr => gr.verdict (gr.cycle + 1) v)
    | none => c
  else
    let addr := sum - sum % 4
    let data := match k with
      | .ld => if TWord.isPoison a then poisoned 0#32 else 0#35
      | _ => if TWord.isPoison a then poisoned (TWord.data b) else b
    let fl : InFlight := ⟨n, gr.cycle + 1, .mem k addr data u.ecc (if f.wbEn then some f.wbK else none), bad, f.opcode, f.lane, 0⟩
    c.modGrove t g (fun gr => gr.push fl)

/-- A source that is a half of the selected accumulator (R44). -/
def srcHalf (s : Nat) : Bool := s == 0xB || s == 0xC

/-- The word of a source as the cell sees it: a half of an accumulator comes with an upset of the accumulator as read. -/
def seenOperand (ac : Accu) (up : BitVec 64) (s : Nat) (w : TWord) : TWord :=
  if srcHalf s then ({ ac with val := ac.val ^^^ up } : Accu).half (s == 0xC) else w

/-- A firing operation reads a half of the selected accumulator as an operand. -/
def opReadsHalf (f : CellField) : Bool :=
  (opReadsA f.opcode && srcHalf f.srcA) || (opReadsB f && srcHalf f.srcB) || (opReadsC f.opcode && srcHalf f.srcC)

/-- MAC, MSU, ACCADD and ACCRS take the selected accumulator itself as an operand (R51, R66). -/
def opReadsAcc (o : Nat) : Bool := o == 0x13 || o == 0x14 || o == 0x15 || o == 0x18

/-- The operation of a cell on its operands (R51–R69), once it fires in this cycle. Of several checks that fail in one cycle the first of R605
is reported. -/
def fireNow (t g n : Nat) (f : CellField) (u : CellUpset) (d : Dev) : Dev :=
  d.on (fun c =>
    let ti := c.tile t
    let gr := c.grove t g
    let now := gr.cycle
    let ac := (gr.cell n).accu f.accSel
    let a := seenOperand ac u.acc f.srcA (operand ti gr n f f.srcA).1 ^^^ u.opA
    let b := seenOperand ac u.acc f.srcB (operand ti gr n f f.srcB).1 ^^^ u.opB
    let cc := seenOperand ac u.acc f.srcC (operand ti gr n f f.srcC).1 ^^^ u.opC
    let ra := opReadsA f.opcode
    let rb := opReadsB f
    let rc := opReadsC f.opcode
    let p := (ra && TWord.isPoison a) || (rb && TWord.isPoison b) || (rc && TWord.isPoison cc)
    let opBad : Option TWord :=
      if ra && TWord.bad a then some a else if rb && TWord.bad b then some b else if rc && TWord.bad cc then some cc
      else if u.rail then some a else none
    let accBad := opReadsHalf f && ac.res != 7#3 && ac.res != res64 (ac.val ^^^ u.acc)
    let c := c.modGrove t g (fun gr => { gr with fired := kset gr.fired n true })
    let c := if p || (opReadsAcc f.opcode && ac.res == 7#3) then c.modRun t g (fun r => { r with poisonSeen := true }) else c
    let c := if u.rail then
        let k := if ra && decide (f.srcA < 4) then f.srcA else if rb && decide (f.srcB < 4) then f.srcB else f.srcC % 4
        let sel := gr.sel (4 * n + k)
        routeFault t g 2 (4 * n + k) ((lowBit sel 8).getD 0) (popBits sel 8) c
      else c
    let c := match opBad with
      | some w => c.modGrove t g (fun gr => gr.verdict now (mkVerdict n 2 f (TWord.res w).toNat ((TWord.data w).toNat % 7) (TWord.data w)))
      | none => if accBad then
          let seen := ac.val ^^^ u.acc
          c.modGrove t g (fun gr => gr.verdict now (mkVerdict n 4 f ac.res.toNat (seen.toNat % 7) (seen.extractLsb' 0 32)))
        else c
    let fl := opFlight ti gr n now f u a b cc p
    let c := if (f.cin == 2) && (f.opcode == 1 || f.opcode == 2) && ((gr.cell n).par ^^^ u.par) != flagPar (gr.cell n).flags &&
          (match fl with | some x => x.bad.isNone | none => true) then
        c.modGrove t g (fun gr => gr.verdict (now + 1) (mkVerdict n 7 f 0 0 (BitVec.ofNat 32 (gr.cell n).flags.toNat)))
      else c
    match f.opcode with
    | 0x40 => memFlight t g n .ld f u a b c
    | 0x41 => memFlight t g n .st f u a b c
    | 0x42 => memFlight t g n .fadd f u a b c
    | 0x43 => memFlight t g n .swap f u a b c
    | _ => match fl with
      | some fl => c.modGrove t g (fun gr => gr.push fl)
      | none => c)

/-- The task may act in this cycle: its budget is not yet loaded, or has cycles left (R140). -/
def Run.inBudget (r : Run) : Bool := !r.started || decide (0 < r.budget)

/-- Whether the sequencer of the running slot can issue: a task runs within its budget, has no known failure, has not issued END, nothing holds it. -/
def Grove.canAct (gr : Grove) : Bool :=
  match gr.run with
  | some r => r.fail.isNone && !r.ended && !gr.halted && gr.acqWait.isNone && r.inBudget
  | none => false

/-- Whether cells of the running slot can fire: up to and including the cycle in which END issues (R47, R132). -/
def Grove.cellCan (gr : Grove) : Bool :=
  match gr.run with
  | some r => r.fail.isNone && (!r.ended || r.endAt == gr.cycle) && !gr.halted && gr.acqWait.isNone && r.inBudget && r.qw0.held.isNone && r.qw1.held.isNone
  | none => false

/-- A cell must wait for a later cycle: it has fired in this one, or the slot stalls (R50). -/
def Grove.cellBusy (n : Nat) (gr : Grove) : Bool :=
  gr.cellCan && (khas gr.fired n || (match gr.run with | some r => decide (0 < r.stall) | none => false))

/-- A cell that fires on the valid qualifiers of its operands waits for a word that is still on its way: a result in a pipeline or a delivery
of a read port (R47, R85, R126). -/
def cellAwaits (t g n : Nat) (d : Dev) : Bool :=
  let gr := d.chip.grove t g
  match gr.run with
  | none => false
  | some r =>
    let f := cellField (imgCell gr.runImg n)
    f.fire == 2 && !(fireOk (d.chip.tile t) gr r n f) && (!gr.inflight.isEmpty || decide (0 < r.qr0.left) || decide (0 < r.qr1.left))

/-- The command "a cell fires `op`" (R47, R51, R65, R72). When the cell has already fired in this cycle, or its slot stalls, the tile's
cycles pass first. Without the conditions of R47, or when the running slot's field holds another operation, nothing changes. -/
def cellFire (op t g n : Nat) (u : CellUpset) (d0 : Dev) : Dev :=
  let d := settleDev t (fun d => (d.chip.grove t g).cellBusy n || ((d.chip.grove t g).cellCan && cellAwaits t g n d)) 4096 d0
  let gr := d.chip.grove t g
  match gr.run with
  | none => d0
  | some r =>
    let f := cellField (imgCell gr.runImg n ^^^ u.fieldMask)
    let f0 := cellField (imgCell gr.runImg n)
    if !gr.cellCan || f0.opcode != op || khas gr.fired n || !(fireOk (d.chip.tile t) gr r n f0) then d0
    else if eccUe u.slotEcc then d.on (heldFail t g 6 6)
    else let d := d.on (slotRead t u.slotEcc)
    if f.reserved then
      d.on (fun c => c.modGrove t g (fun gr =>
        { gr with fired := kset gr.fired n true }.verdict gr.cycle (mkVerdict n 6 f 0 0 0#32)))
    else if opTouches f && (!r.touched || (gr.slot r.slot).frameValid) then
      if gr.acqMoves r.slot then d.on (fun c => c.modGrove t g (fun gr => { gr with acqWait := some (n, op, u) }))
      else fireNow t g n f u (acquire t g r.slot (0, .ok) d)
    else fireNow t g n f u d

/-- ACC_ACQUISITION_END: the save and restore end and the touching operation fires in the next cycle (R166). -/
def acquisitionEnd (t g : Nat) (hit : Nat × Ecc) (d : Dev) : Dev :=
  let gr := d.chip.grove t g
  match gr.acqWait, gr.run with
  | some (n, _, u), some r =>
    let d := tickTile t d
    let d := acquire t g r.slot hit (d.on (fun c => c.modGrove t g (fun gr => { gr with acqWait := none })))
    fireNow t g n (cellField (imgCell (d.chip.grove t g).runImg n ^^^ u.fieldMask)) u d
  | _, _ => d

end Sys2Proof.Machine
end

