-- ==== Sys2Proof/Machine/SeqOps.lean ====
section
/-!
DEFINITION. The grove sequencer issues one instruction (R114–R131): fetch and checks (R119, R123), registers and the ALU (R117, R118),
branches and loops (R125), windows (R134, R135), queue ports (R126, R127), memory (R128), suspension (R130) and traps (R133).
-/
namespace Sys2Proof.Machine

/-- Op field of an instruction word (R120). -/
def iOp (w : Word) : Nat := w.toNat / 2 ^ 26
/-- Destination or port (R120). -/
def iD (w : Word) : Nat := bitsOf w.toNat 22 4
/-- First source (R120). -/
def iA (w : Word) : Nat := bitsOf w.toNat 18 4
/-- Second source (R120). -/
def iB (w : Word) : Nat := bitsOf w.toNat 14 4
/-- Immediate (R120). -/
def iImm (w : Word) : Nat := w.toNat % 2 ^ 14
/-- Target or end (R120). -/
def iTgt (w : Word) : Nat := w.toNat % 32
/-- Branch condition (R120). -/
def iCond (w : Word) : Nat := bitsOf w.toNat 8 6
/-- Inversion of a branch condition (R120). -/
def iInv (w : Word) : Bool := bitOf w.toNat 7
/-- LOOP count (R120). -/
def iCount (w : Word) : Nat := bitsOf w.toNat 5 9
/-- Immediate sign-extended to a word. -/
def iSImm (w : Word) : Word := BitVec.ofInt 32 (toInt 14 (iImm w))

/-- The fields an instruction uses (R121): d, a, b, and the mask of the immediate bits it uses; `none` for a reserved opcode. -/
def iForm (op : Nat) : Option (Bool × Bool × Bool × Nat) :=
  if op = 0 then some (false, false, false, 0)
  else if op ≤ 0x07 then some (true, true, true, 0)
  else if op ≤ 0x0D then some (true, true, false, 0x3FFF)
  else match op with
    | 0x10 => some (false, false, false, 0x1F)
    | 0x11 => some (false, false, false, 0x3F9F)
    | 0x12 | 0x13 => some (false, true, false, 0x1F)
    | 0x14 => some (false, false, false, 0x3FFF)
    | 0x15 => some (false, true, false, 0x1F)
    | 0x16 => some (false, false, false, 0x1F)
    | 0x17 | 0x18 => some (false, false, false, 0)
    | 0x19 => some (false, false, false, 0x3F80)
    | 0x1A => some (false, false, false, 0x3FFF)
    | 0x1B | 0x1C => some (false, false, false, 0)
    | 0x20 => some (false, false, false, 0x3FFF)
    | 0x21 | 0x22 => some (false, true, false, 0)
    | 0x23 => some (true, false, false, 0)
    | 0x24 => some (true, false, false, 0x0F)
    | 0x25 => some (false, true, false, 0x3F)
    | 0x28 => some (true, true, true, 0)
    | 0x29 => some (true, false, false, 0)
    | 0x2A => some (true, true, false, 0)
    | 0x2B => some (true, false, false, 0x3FFF)
    | 0x2C | 0x2D => some (true, true, false, 0)
    | 0x30 => some (true, true, false, 0x3FFF)
    | 0x31 => some (false, true, true, 0x3FFF)
    | 0x32 | 0x33 => some (true, true, true, 0)
    | 0x38 => some (false, false, false, 0xFF)
    | _ => none

/-- Whether an instruction writes register d (R117). -/
def iWrites (op : Nat) : Bool := (decide (1 ≤ op) && decide (op ≤ 0x0D)) || op == 0x23 || op == 0x24 || op == 0x30 || op == 0x32

/-- Whether d names a port (R120). -/
def iPort (op : Nat) : Bool := decide (0x28 ≤ op) && decide (op ≤ 0x2D)

/-- Whether an instruction has a target or an end (R120). -/
def iHasTgt (op : Nat) : Bool := decide (0x10 ≤ op) && decide (op ≤ 0x16)

/-- The faults of R123: such a word is rejected at load and causes the ILLEGAL trap at issue. -/
def iBad (n idx : Nat) (w : Word) : Bool :=
  let op := iOp w
  match iForm op with
  | none => true
  | some (d, a, b, m) =>
    (!d && iD w != 0) || (!a && iA w != 0) || (!b && iB w != 0) || (iImm w &&& (0x3FFF - m)) != 0 ||
    ((op == 0x11 || op == 0x19) && decide (0x1B ≤ iCond w)) || (iPort op && decide (1 < iD w)) ||
    (iHasTgt op && decide (n ≤ iTgt w)) || ((op == 0x14 || op == 0x15) && decide (iTgt w ≤ idx)) ||
    (iWrites op && decide (8 ≤ iD w))

/-- The next index after the instruction at `i` issues without branching, and the loop levels, innermost first (R125): the innermost level that
ends at `i` returns, or is done and leaves the index to the next one. -/
def loopNext (i : Nat) : List LoopLvl → Nat × List LoopLvl
  | [] => (i + 1, [])
  | l :: r =>
    if i = l.last then
      if 1 < l.left then (l.first, { l with left := l.left - 1 } :: r) else loopNext i r
    else
      let p := loopNext i r
      (p.1, l :: p.2)

/-- Loop levels that survive a taken branch (R125). -/
def loopBranch (tgt : Nat) : List LoopLvl → List LoopLvl
  | [] => []
  | l :: r => if l.first ≤ tgt ∧ tgt ≤ l.last then l :: loopBranch tgt r else loopBranch tgt r

/-- The condition values of R122. -/
def seqCond (gr : Grove) (r : Run) (cond ilenWords : Nat) : Bool :=
  if cond < 16 then condBit (gr.cell cond) (cellField (imgCell gr.runImg cond))
  else match cond with
    | 0x10 => r.qr0.pos == ilenWords
    | 0x11 => r.qr1.pos == ilenWords
    | 0x12 => r.qr0.left == 0
    | 0x13 => r.qr1.left == 0
    | 0x14 => r.qw0.openAsm.isSome
    | 0x15 => r.qw1.openAsm.isSome
    | 0x16 => !r.mrds.isEmpty
    | 0x17 => r.poisonSeen
    | 0x18 => true
    | 0x19 => r.cv0.mismatch
    | 0x1A => r.cv1.mismatch
    | _ => false

/-- Registers an instruction reads or writes, for the interlock of R124. -/
def iRegs (w : Word) : List Nat :=
  match iForm (iOp w) with
  | some (_, a, b, _) =>
    (if iWrites (iOp w) || iOp w == 0x33 then [iD w] else []) ++ (if a then [iA w] else []) ++ (if b then [iB w] else [])
  | none => []

/-- The registers, as depth and number, whose outstanding loads an instruction must wait for (R124): those it reads or writes; CALL reads w4–w7, RET
reads w0–w3 and writes the caller's w4–w7 (R135). -/
def Run.uses (r : Run) (w : Word) : List (Nat × Nat) :=
  match iOp w with
  | 0x16 => [(r.depth, 4), (r.depth, 5), (r.depth, 6), (r.depth, 7)]
  | 0x17 => [(r.depth, 0), (r.depth, 1), (r.depth, 2), (r.depth, 3), (r.depth - 1, 4), (r.depth - 1, 5), (r.depth - 1, 6), (r.depth - 1, 7)]
  | _ => (iRegs w).map (fun i => (r.depth, i))

/-- The word count of the input item: ⌈ILEN ÷ 4⌉. -/
def Run.words (r : Run) : Nat := (r.ilen + 3) / 4

/-- The result of a sequencer ALU operation and whether its check is by Res, Res+Dup or Dup (R118, R121). -/
def seqAlu (op : Nat) (a b : Nat) (w : Word) : Nat × ChkClass :=
  let imm := iImm w
  let m : Nat := 2 ^ 32
  match op with
  | 0x01 => ((a + b) % m, .res)
  | 0x02 => ((a + m - b) % m, .res)
  | 0x03 => (a &&& b, .dup)
  | 0x04 => (a ||| b, .dup)
  | 0x05 => (a ^^^ b, .dup)
  | 0x06 => (b2n (decide (toInt 32 a < toInt 32 b)), .resDup)
  | 0x07 => (b2n (decide (a < b)), .resDup)
  | 0x08 => ((a + (iSImm w).toNat) % m, .res)
  | 0x09 => (a &&& imm, .dup)
  | 0x0A => (a ||| imm, .dup)
  | 0x0B => ((a * 2 ^ (imm % 32)) % m, .dup)
  | 0x0C => (a / 2 ^ (imm % 32), .dup)
  | _ => (wrapInt 32 (toInt 32 a / ((2 ^ (imm % 32) : Nat) : Int)), .dup)

/-- Whether the checker catches an upset of an ALU result (R118, R59). -/
def aluCaught (k : ChkClass) (y mask : Nat) (dup : Bool) : Bool :=
  match k with
  | .res => (y ^^^ mask) % 7 != y % 7
  | .resDup => dup || (y ^^^ mask) % 7 != y % 7
  | _ => dup || fold8 (y ^^^ mask) != fold8 y

/-- The instruction has issued: the sequencer's cycle is used and the index moves. -/
def stepPc (t g pc : Nat) (loops : List LoopLvl) (c : Chip) : Chip :=
  c.modRun t g (fun r => { r with pc := pc, loops := loops })

/-- Issue without branching (R125). -/
def goNext (t g : Nat) (c : Chip) : Chip :=
  match (c.grove t g).run with
  | some r => let p := loopNext r.pc r.loops; stepPc t g p.1 p.2 c
  | none => c

/-- Issue a taken branch (R125). -/
def goTo (t g tgt : Nat) (c : Chip) : Chip :=
  match (c.grove t g).run with
  | some r => stepPc t g tgt (loopBranch tgt r.loops) c
  | none => c

/-- Issue a LOOP or LOOPR of `n` passes with its end at `e` (R125): a new level, or the skip of its body; one that stands at the end of an outer body
with passes left returns there. -/
def goLoop (t g e n : Nat) (c : Chip) : Chip :=
  match (c.grove t g).run with
  | none => c
  | some r =>
    let p := loopNext r.pc r.loops
    let ls := if n = 0 then p.2 else ⟨r.pc + 1, e, n⟩ :: p.2
    stepPc t g (if p.1 = r.pc + 1 then (if n = 0 then e + 1 else r.pc + 1) else p.1) ls c

/-- Change write port p of the running task. -/
def Run.modQw (r : Run) (p : Nat) (f : QWPort → QWPort) : Run := if p = 0 then { r with qw0 := f r.qw0 } else { r with qw1 := f r.qw1 }

/-- Write port p. -/
def Run.qw (r : Run) (p : Nat) : QWPort := if p = 0 then r.qw0 else r.qw1

/-- Read port p. -/
def Run.qr (r : Run) (p : Nat) : QRPort := if p = 0 then r.qr0 else r.qr1

/-- Change read port p of the running task, with its check-value unit. -/
def Run.modQr (r : Run) (p : Nat) (f : QRPort → QRPort) (h : CVUnit → CVUnit) : Run :=
  if p = 0 then { r with qr0 := f r.qr0, cv0 := h r.cv0 } else { r with qr1 := f r.qr1, cv1 := h r.cv1 }

/-- The check-value unit of a port pair. -/
def Run.cv (r : Run) (p : Nat) : CVUnit := if p = 0 then r.cv0 else r.cv1

/-- Change the check-value unit of a port pair. -/
def Run.modCv (r : Run) (p : Nat) (h : CVUnit → CVUnit) : Run := if p = 0 then { r with cv0 := h r.cv0 } else { r with cv1 := h r.cv1 }

/-- Queues bound to ports of a task or gang other than port p of grove g (R133 QBIND). -/
def boundElsewhere (c : Chip) (t g p : Nat) (r : Run) (q : Nat) : Bool :=
  (c.tileGroves t).any (fun g' =>
    match (c.grove t g').run with
    | some r' =>
      let mine := g' == g || (r.gang.isSome && r'.gang == r.gang && r'.desc == r.desc)
      mine && ((r'.qw0.queue == some q && !(g' == g && p == 0)) || (r'.qw1.queue == some q && !(g' == g && p == 1)))
    | none => false)

/-- Replace the last word of an assembly (R262). -/
def Dev.setLast (d : Dev) (q id : Nat) (w : TWord) : Dev :=
  match (d.chip.queue q).asms.find? (fun a => a.id == id) with
  | none => d
  | some a =>
    match a.words.getLast? with
    | none => d
    | some lw =>
      let d := d.on (fun c => c.modQueue q (fun Q => { Q with asms := Q.asms.map (fun a => if a.id = id then
        { a with words := a.words.dropLast ++ [{ lw with w := w }] } else a) }))
      match lw.lvl with
      | .head | .tail => d
      | l => d.wr32 (d.chip.lvlAddr (q / 4096) l) w

/-- SUSP takes effect (R130, R155, R187): the slot and the descriptor become SUSPENDED and the grove is free. -/
def suspendRun (t g : Nat) (c : Chip) : Chip :=
  match (c.grove t g).run with
  | none => c
  | some r =>
    let p := loopNext r.pc r.loops
    let r := { r with pc := p.1, loops := p.2, suspAt := (c.grove t g).cycle }
    let c := c.modGrove t g (fun gr => { gr with
      run := none
      susp := gr.susp ++ [r]
      slots := kmod {} gr.slots r.slot (fun s => { s with state := .suspended }) })
    c.modTile t (fun ti => { ti with descs := kmod {} ti.descs r.desc (fun x => { x with state := .suspended }) })

/-- The effect of a well-formed instruction that issues in this cycle (R121). `a` and `b` are the register values read. -/
def seqEffect (t g : Nat) (w : Word) (u : SeqUpset) (a b : TWord) (d : Dev) : Dev :=
  let c := d.chip
  let gr := c.grove t g
  match gr.run with
  | none => d
  | some r =>
    let op := iOp w
    let an := (TWord.data a).toNat
    let bn := (TWord.data b).toNat
    let p := iD w
    let pa := TWord.isPoison a
    let pb := TWord.isPoison b
    let form := (iForm op).getD (false, false, false, 0)
    let bad := (form.2.1 && TWord.bad a) || (form.2.2.1 && TWord.bad b)
    let trap (k : Trap) (info : Nat) : Dev := d.on (takeTrap t g k r.pc info)
    let chk : Dev := d.on (fun c => takeTrap t g (.seqchk false) (loopNext r.pc r.loops).1 0 (goNext t g c))
    let seen (c : Chip) : Chip := if (form.2.1 && pa) || (form.2.2.1 && pb) then c.modRun t g (fun r => { r with poisonSeen := true }) else c
    let next (f : Chip → Chip) : Dev := d.on (fun c => goNext t g (f (seen c)))
    let setW (i : Nat) (x : TWord) (c : Chip) : Chip := c.modGrove t g (fun gr => gr.setW i x)
    if bad then chk
    else if (decide (1 ≤ op) && decide (op ≤ 0x0D)) then
      let y := seqAlu op an bn w
      if aluCaught y.2 y.1 u.res.toNat u.dup then chk
      else next (setW p (twordP (pa || (form.2.2.1 && pb)) (BitVec.ofNat 32 (y.1 ^^^ u.res.toNat))))
    else match op with
    | 0x10 => d.on (goTo t g (iTgt w))
    | 0x11 => if xor (seqCond gr r (iCond w) r.words) (iInv w) then d.on (goTo t g (iTgt w)) else next id
    | 0x12 => if pa then chk else if an = 0 then d.on (goTo t g (iTgt w)) else next id
    | 0x13 => if pa then chk else if an = 0 then next id else d.on (goTo t g (iTgt w))
    | 0x14 =>
      if 2 ≤ r.loops.length then trap .loop 0
      else d.on (goLoop t g (iTgt w) (iCount w))
    | 0x15 =>
      if pa then chk
      else if 2 ≤ r.loops.length then trap .loop 0
      else d.on (goLoop t g (iTgt w) an)
    | 0x16 =>
      let img := gr.runImg
      if (if r.doubled then 2 * imgSpillLen img else imgSpillLen img) ≤ r.depth then trap .spill 0
      else if gr.freeWin = 0 then d
      else
        let cur := gr.curWin
        let regs : KMap TWord := (List.range 4).foldl (fun m i => kset m i (kget 0#35 cur.regs (i + 4))) []
        d.on (fun c => ((c.modGrove t g (fun gr => { gr with windows := gr.windows ++ [⟨r.slot, r.depth + 1, regs, r.pc + 1⟩] })).modRun t g
          (fun r => { r with depth := r.depth + 1, pc := iTgt w })))
    | 0x17 =>
      if r.depth ≤ 1 then trap .ret 0
      else match gr.window? r.slot (r.depth - 1) with
        | none => d
        | some _ =>
          let cur := gr.curWin
          d.on (fun c => (c.modGrove t g (fun gr => { gr with
              inflight := gr.inflight.map (fun f => if f.depth = r.depth then { f with depth := 0 } else f)
              windows := (gr.windows.filter (fun x => !(x.slot == r.slot && x.depth == r.depth))).map (fun x =>
                if x.slot == r.slot && x.depth == r.depth - 1 then
                  { x with regs := (List.range 4).foldl (fun m i => kset m (i + 4) (kget 0#35 cur.regs i)) x.regs }
                else x) })).modRun t g (fun r => { r with depth := r.depth - 1, pc := cur.ret, mrds := r.mrds.map (fun m => if m.depth = r.depth then { m with depth := 0 } else m) }))
    | 0x18 => d.on (fun c => c.modRun t g (fun r => { r with ended := true, endAt := gr.cycle }))
    | 0x19 => if xor (seqCond gr r (iCond w) r.words) (iInv w) then next id else d
    | 0x1A => next (fun c => c.modRun t g (fun r => { r with wait := iImm w + 1 }))
    | 0x1B =>
      if !(imgSuspEn gr.runImg) || r.gang.isSome then trap .susp 0
      else if r.qr0.left != 0 || r.qr1.left != 0 || !gr.inflight.isEmpty then d
      else if r.mrds.isEmpty then next id
      else d.on (suspendRun t g)
    | 0x1C => if c.rbit .dbgCtl .hub 0 0 then (next id).on (haltGrove t g) else next id
    | 0x20 => next (fun c => c.modRun t g (fun r => { r with strobe := iImm w + 1, wait := iImm w + 1 }))
    | 0x21 => if pa then chk else next (fun c => c.modRun t g (fun r => { r with strobe := an, wait := an }))
    | 0x22 => next (fun c => c.modRun t g (fun r => { r with sqNext := some a }))
    | 0x23 =>
      let v := (List.range 16).foldl (fun n i => n + b2n (condBit (gr.cell i) (cellField (imgCell gr.runImg i))) * 2 ^ i) 0
      next (setW p (tword (BitVec.ofNat 32 v)))
    | 0x24 =>
      let o := (gr.cell (iImm w % 16)).out
      if TWord.bad o then chk else next (setW p o)
    | 0x25 => next (fun c => c.modGrove t g (fun gr => gr.push ⟨iImm w % 16, gr.cycle + 1, .setk (iImm w / 16 % 4) a, none, 0, 0, 0⟩))
    | 0x28 =>
      let q := an % 16384
      if pa || pb then chk
      else if fld (c.qcfg q) 53 8 != kget 0 (c.tile t).groveFb g || (r.qw p).openAsm.isSome || boundElsewhere c t g p r q then trap .qbind 0
      else next (fun c => c.modRun t g (fun r => r.modQw p (fun x => { x with queue := some q, flow := BitVec.ofNat 24 bn })))
    | 0x29 =>
      match (r.qw p).queue with
      | none => trap .item 0
      | some q =>
        if (r.qw p).openAsm.isSome then trap .item 0
        else
          let Q := c.queue q
          let begin_ (id : Nat) (c : Chip) : Chip := c.modRun t g (fun r =>
            (r.modQw p (fun x => { x with openAsm := some id, pushed := 0 })).modCv p (fun v => { v with crc := 0xFFFFFFFF#32, next := 0 }))
          if Q.err then d.on (fun c => c.noteWait q (.grove (gkey t g) p) true)
          else if Q.closed || !(c.qen q) then next (fun c => begin_ 0 (c.noteWait q (.grove (gkey t g) p) false))
          else match c.openAsm q (.grove (gkey t g) p) (r.qw p).flow with
            | none => d.on (fun c => c.noteWait q (.grove (gkey t g) p) true)
            | some (c', id) => ({ d with chip := c' } : Dev).on (fun c => goNext t g (begin_ id (seen (c.noteWait q (.grove (gkey t g) p) false))))
    | 0x2A =>
      match (r.qw p).openAsm, (r.qw p).queue with
      | some id, some q =>
        if (r.qw p).pushed = 0 then trap .item 0
        else
          let close (vb : Nat) (c : Chip) : Chip :=
            (c.modQueue q (fun Q => { Q with asms := Q.asms.map (fun x => if x.id = id then { x with vb := vb, closed := true } else x) })).modRun t g
              (fun r => { (r.modQw p (fun x => { x with openAsm := none })) with closed := r.closed ++ [(q, id)] })
          if fld (c.qcfg q) 51 2 = 1 then
            if 16384 ≤ (r.qw p).pushed then trap .item 0
            else
              let vb := an % 4
              let lw : TWord := match (c.queue q).asms.find? (fun x => x.id == id) with
                | some x => (x.words.getLast?.map (fun y => y.w)).getD 0#35
                | none => 0#35
              let keep : Word := if vb = 0 then 0xFFFFFFFF#32 else BitVec.ofNat 32 (2 ^ (8 * vb) - 1)
              let lw' := twordP (TWord.isPoison lw) (TWord.data lw &&& keep)
              let d' := d.setLast q id lw'
              let r' := d'.place q id 0#35
              if id ≠ 0 && !r'.2 && (c.queue q).asms.any (fun x => x.id == id) then d.on (fun c => c.noteWait q (.grove (gkey t g) p) true)
              else (r'.1.on (fun c => c.noteWait q (.grove (gkey t g) p) false)).on (fun c => goNext t g (close 0 (c.modRun t g (fun r =>
                r.modCv p (fun v => { v with crc := cvWord (fld (c.qcfg q) 50 1) v.crc (TWord.data lw') })))))
          else d.on (fun c => goNext t g (close (an % 4) c))
      | _, _ => trap .item 0
    | 0x2B =>
      if r.member != 0 || !r.hasItem then trap .item 0
      else next (fun c => c.modRun t g (fun r => r.modQr p (fun x => { x with left := if r.words ≤ x.pos then 0 else iImm w + 1 }) id))
    | 0x2C =>
      if r.member != 0 || !r.hasItem then trap .item 0
      else if pa then chk
      else next (fun c => c.modRun t g (fun r => r.modQr p (fun x => { x with left := if r.words ≤ x.pos then 0 else an }) id))
    | 0x2D =>
      if r.member != 0 || !r.hasItem then trap .item 0
      else if pa then chk
      else next (fun c => c.modRun t g (fun r => r.modQr p (fun x => { x with pos := min an r.words, buf := [] })
        (fun v => { v with crc := 0xFFFFFFFF#32, next := 0, valid := true })))
    | 0x30 =>
      let addr := (an + (iSImm w).toNat) % 2 ^ 32
      if pa then chk
      else if 2 ^ 17 ≤ addr ∨ (c.spPwr t g addr).dead then trap .addr (addr % 2 ^ 26)
      else
        let al := addr - addr % 4
        next (fun c => c.modGrove t g (fun gr => gr.push ⟨16, gr.cycle + 1, .mem .sld al 0#35 u.ecc (some p), none, 0, 0, r.depth⟩))
    | 0x31 =>
      let addr := (an + (iSImm w).toNat) % 2 ^ 32
      if pa then chk
      else if 2 ^ 17 ≤ addr ∨ (c.spPwr t g addr).dead then trap .addr (addr % 2 ^ 26)
      else
        let al := addr - addr % 4
        next (fun c => c.modGrove t g (fun gr => gr.push ⟨16, gr.cycle + 1, .mem .sst al b u.ecc none, none, 0, 0, 0⟩))
    | 0x32 =>
      let addr := (bn % 65536) * 2 ^ 32 + (an - an % 4)
      if pa || pb then chk
      else if 4 ≤ r.mrds.length then d
      else next (fun c => (c.modGrove t g (fun gr => { gr with mrdTag := (gr.mrdTag + 1) % 64 })).modRun t g
        (fun r => { r with mrds := r.mrds ++ [⟨r.depth, p, r.pc, addr, gr.mrdTag⟩] }))
    | 0x33 =>
      let addr := (bn % 65536) * 2 ^ 32 + (an - an % 4)
      let v := seqReg gr p
      if pa || pb || TWord.bad v then chk
      else if 8 ≤ r.store.length then trap .mem 0xFF
      else next (fun c => c.modRun t g (fun r => { r with store := r.store ++ [(addr, v)], poisonSeen := r.poisonSeen || TWord.isPoison v }))
    | 0x38 => next (fun c => c.modRun t g (fun r => { r with sig := some (iImm w % 256) }))
    | _ => next id

/-- Registers, with their depth, whose SLD data is still on its way. -/
def Grove.sldPending (gr : Grove) : List (Nat × Nat) :=
  gr.inflight.filterMap (fun f => match f.eff with
    | .mem .sld _ _ _ wb => wb.map (fun i => (f.depth, i))
    | .reg i _ => some (f.depth, i)
    | _ => none)

/-- The sequencer must let cycles pass before it can issue `w`: it has issued in this cycle, the slot or the sequencer stalls, an SLD of a
register it uses is on its way, or a delivery on its read port is pending (R124, R126). -/
def Grove.seqBusy (gr : Grove) : Bool :=
  gr.canAct &&
  (match gr.run with
   | some r =>
     let w := imgInstr gr.runImg r.pc
     gr.issued || decide (0 < r.stall) || decide (0 < r.wait) || gr.sldPending.any (fun x => (r.uses w).contains x) ||
     (decide (0x2B ≤ iOp w) && decide (iOp w ≤ 0x2D) && decide (0 < (r.qr (iD w % 2)).left) && (r.qr (iD w % 2)).valid)
   | none => false)

/-- A read-port instruction waits for words that are still being fetched (R126, R242). -/
def Run.qrWaits (r : Run) (w : Word) : Bool :=
  decide (0x2B ≤ iOp w) && decide (iOp w ≤ 0x2D) && decide (0 < (r.qr (iD w % 2)).left)

/-- Halt every grove of a tile: one event, with g = 0xFF (R569). -/
def haltTile (t : Nat) (c : Chip) : Chip :=
  raise (.hub 24) (t * 256 + 255) (((List.range 188).filter gpop).foldl (fun c g => c.modGrove t g (fun gr => { gr with halted := true, haltReq := false, step := none })) c)

/-- A halt of a grove takes effect now, or after an acquisition in progress (R574). -/
def haltSoon (t g : Nat) (c : Chip) : Chip :=
  if (gangMembers c t g).any (fun g => (c.grove t g).acqWait.isSome) then c.modGrove t g (fun gr => { gr with haltReq := true }) else haltGrove t g c

/-- A halt of every grove of a tile takes effect now, or after the acquisitions in progress. -/
def haltTileSoon (t : Nat) (c : Chip) : Chip :=
  if (c.tileGroves t).any (fun g => (c.grove t g).acqWait.isSome) then c.modTile t (fun ti => { ti with haltReq := true }) else haltTile t c

/-- Halt the management core (R573). -/
def haltCore (c : Chip) : Chip :=
  raise (.hub 24) 0xFFFF (c.modHub (fun h => { h with core := { h.core with halted := true, haltReq := false, stepLeft := 0 } }))

/-- The actions of a match of comparator n (R578); `who` is the grove of the match, if it is one. -/
def cmpMatch (n : Nat) (who : Option (Nat × Nat)) (c : Chip) : Chip :=
  let v := c.reg .dbgCmp .hub n
  let act := fld v 52 4
  let c := { c.setRf .dbgCmp .hub n 62 1 1 with hits := c.hits ++ [n] }
  let c := if fld v 56 1 = 1 ∧ n < 7 then c.setRf .dbgCmp .hub (n + 1) 63 1 1 else c
  let c := if bitOf act 0 then raise (.hub 25) n c else c
  let c := match who with
    | some x => if bitOf act 1 && !(c.grove x.1 x.2).halted then haltSoon x.1 x.2 c else c
    | none => c
  let c := if bitOf act 2 && decide (fld v 16 3 < 4) then haltTileSoon (fld v 16 3) c else c
  if bitOf act 3 && !c.hub.core.halted then haltCore c else c

/-- The comparators match what this command let them see: kinds 1 to 3 (R577). -/
def compareAll (c : Chip) : Chip :=
  let hits (c : Chip) (o : Obs) (n : Nat) : Bool :=
    let v := c.reg .dbgCmp .hub n
    let am := (c.reg .dbgCmpAmask .hub n).toNat
    let dv := c.reg .dbgCmpData .hub n
    let dm := fld dv 32 32
    let rw := fld v 57 2
    let place : Bool := match o.kind with
      | 1 => fld v 16 3 == o.die && fld v 8 8 == o.g && bitOf rw (b2n o.wr)
      | 2 => fld v 16 3 == o.die && bitOf rw (b2n o.wr)
      | _ => fld v 16 3 == o.die
    fld v 63 1 == 1 && fld v 59 3 == o.kind && place && ((o.addr &&& am) == ((c.reg .dbgCmpAddr .hub n).toNat &&& am)) &&
      ((o.data.toNat &&& dm) == (fld dv 0 32 &&& dm))
  c.obs.foldl (fun c o => ((List.range 8).filter (hits c o)).foldl (fun c n => cmpMatch n (if o.kind = 1 then some (o.die, o.g) else o.who) c) c)
    { c with obs := [] }

/-- Comparators of kind 0 that match an instruction before it issues (R577). -/
def issueMatches (c : Chip) (t g ctx pc : Nat) : List Nat :=
  (List.range 8).filter (fun n =>
    let v := c.reg .dbgCmp .hub n
    let m := (c.reg .dbgCmpAmask .hub n).toNat
    fld v 63 1 == 1 && fld v 59 3 == 0 && fld v 16 3 == t && (fld v 8 8 == 255 || fld v 8 8 == g) && (fld v 31 1 == 1 || fld v 32 16 == ctx) &&
      (pc &&& m) == ((c.reg .dbgCmpAddr .hub n).toNat &&& m))

/-- A step in instruction mode counts an issue, unless the instruction stalls; with its count used up the grove halts before the next one (R571). -/
def stepIssue (stalls : Bool) (t g : Nat) (c : Chip) : Chip :=
  match (c.grove t g).step with
  | some (true, 0) => haltGrove t g c
  | some (true, n + 1) => if stalls then c else c.modGrove t g (fun gr => { gr with step := some (true, n) })
  | _ => c

/-- Whether a well-formed instruction only stalls in this cycle: a false WAITC, a CALL with no free window (R139), a SUSP that waits (R130), an item that a queue
cannot open or close yet (R247), a fifth MRD (R128). -/
def seqStalls (t g : Nat) (gr : Grove) (r : Run) (w : Word) (d : Dev) : Bool :=
  let c := d.chip
  let p := iD w
  match iOp w with
  | 0x16 => decide (r.depth < (if r.doubled then 2 * imgSpillLen gr.runImg else imgSpillLen gr.runImg)) && gr.freeWin == 0
  | 0x19 => !(xor (seqCond gr r (iCond w) r.words) (iInv w))
  | 0x1B => imgSuspEn gr.runImg && r.gang.isNone && (r.qr0.left != 0 || r.qr1.left != 0 || !gr.inflight.isEmpty)
  | 0x29 =>
    match (r.qw p).queue with
    | some q => (r.qw p).openAsm.isNone &&
      ((c.queue q).err || (!(c.queue q).closed && c.qen q && (c.openAsm q (.grove (gkey t g) p) (r.qw p).flow).isNone))
    | none => false
  | 0x2A =>
    match (r.qw p).openAsm, (r.qw p).queue with
    | some id, some q => decide (0 < (r.qw p).pushed) && fld (c.qcfg q) 51 2 == 1 && decide ((r.qw p).pushed < 16384) && id != 0 &&
      !(d.place q id 0#35).2 && (c.queue q).asms.any (fun x => x.id == id)
    | _, _ => false
  | 0x32 => decide (4 ≤ r.mrds.length)
  | _ => false

/-- The instruction waits for a load that is outstanding, for its window, or for a delivery on its port (R124, R126, R139). -/
def seqWaits (gr : Grove) (r : Run) (w : Word) : Bool :=
  r.mrds.any (fun m => (r.uses w).contains (m.depth, m.dest)) || (gr.window? r.slot r.depth).isNone || r.qrWaits w

/-- The word at the program index can issue as an instruction `op`: it holds that opcode, or a reserved one, which is no instruction's (R123). -/
def issuesAs (op : Nat) (w : Word) : Bool := iOp w == op || (iForm (iOp w)).isNone

/-- The command "the sequencer issues `op`" (R119–R124, R133). Cycles pass first while the sequencer is busy; when it then waits on
something that only another command can bring, or the word at the program index is another instruction, nothing changes. -/
def seqIssue (op t g : Nat) (u : SeqUpset) (d0 : Dev) : Dev :=
  let d := settleGrove t g Grove.seqBusy 20000 d0
  let gr := d.chip.grove t g
  match gr.run with
  | none => d0
  | some r =>
    if !gr.canAct || gr.seqBusy || r.qw0.held.isSome || r.qw1.held.isSome then d0
    else
      let n := imgN gr.runImg
      let w := imgInstr gr.runImg r.pc ^^^ u.instrMask
      let pastEnd := decide (n ≤ r.pc)
      let sound := !pastEnd && !(eccUe u.slotEcc) && !(iBad n r.pc w)
      if !pastEnd && (!(issuesAs op (imgInstr gr.runImg r.pc)) || (sound && seqWaits gr r w)) then d0
      else
        let stalls := sound && seqStalls t g gr r w d
        let d := d.on (stepIssue stalls t g)
        let seen := issueMatches d.chip t g r.ctx r.pc
        let ms := if gr.resumed || stalls then [] else seen
        let d := d.on (fun c => ms.foldl (fun c n => cmpMatch n (some (t, g)) c) c)
        if (d.chip.grove t g).halted then d
        else
          let d := d.on (fun c => (c.modGrove t g (fun gr => { gr with issued := true, resumed := gr.resumed && stalls && !seen.isEmpty })).modRun t g
            (fun r => { r with started := true }))
          if pastEnd then d.on (takeTrap t g .target r.pc 0)
          else if eccUe u.slotEcc then d.on (fun c => (takeTrap t g (.seqchk false) r.pc 0 c).failRun t g { code := 12, held := true })
          else if iBad n r.pc w then d.on (fun c => takeTrap t g .illegal r.pc 0 (slotRead t u.slotEcc c))
          else seqEffect t g w u (seqReg gr (iA w) ^^^ u.opA) (seqReg gr (iB w) ^^^ u.opB) (d.on (slotRead t u.slotEcc))

end Sys2Proof.Machine
end

