-- ==== Sys2Proof/Machine/SchedOps.lean ====
section
/-!
DEFINITION. The tile scheduler (R180–R207, R606): intake of notices and posts, flow locks and chains, delay lists, placement, gangs,
cancels and the inter-tile grants.
-/
namespace Sys2Proof.Machine

/-- Descriptor n of tile t (R185). -/
def Chip.desc (c : Chip) (t n : Nat) : Desc := kget {} (c.tile t).descs n

/-- Change a descriptor. -/
def Chip.modDesc (c : Chip) (t n : Nat) (f : Desc → Desc) : Chip :=
  c.modTile t (fun ti => { ti with descs := kmod {} ti.descs n f })

/-- The number of descriptors that are not FREE. -/
def Tile.used (ti : Tile) : Nat := (ti.descs.filter (fun p => p.2.state != .free)).length

/-- The number of FREE descriptors. -/
def Tile.nfree (ti : Tile) : Nat := 4096 - ti.used

/-- The lowest FREE descriptor. -/
def Tile.freeDesc (ti : Tile) : Option Nat :=
  let used := (ti.descs.filter (fun p => p.2.state != .free)).map (fun p => p.1)
  if 4096 ≤ used.length then none else lowFree used (used.length + 1) 0

/-- The set of a flow in the flow-lock table (R188). -/
def flowSet (f : Flow) : Nat := (f.toNat % 8192) ^^^ (f.toNat / 8192)

/-- The way that holds a flow's entry, as the number 8s + way (R188). -/
def Tile.lockOf (ti : Tile) (f : Flow) : Option Nat :=
  (List.range 8).findSome? (fun w => match kfind? ti.locks (8 * flowSet f + w) with
    | some e => if e.flow == f then some (8 * flowSet f + w) else none
    | none => none)

/-- A free way of a flow's set. -/
def Tile.freeWay (ti : Tile) (f : Flow) : Option Nat :=
  ((List.range 8).find? (fun w => !(khas ti.locks (8 * flowSet f + w)))).map (fun w => 8 * flowSet f + w)

/-- Change the entry of a flow. -/
def Chip.modLock (c : Chip) (t : Nat) (f : Flow) (h : LockE → LockE) : Chip :=
  match (c.tile t).lockOf f with
  | some k => c.modTile t (fun ti => { ti with locks := kmod { flow := f } ti.locks k h })
  | none => c

/-- Whether a flow lies in an enabled SCH_XRANGE (R192). -/
def Chip.spans (c : Chip) (t : Nat) (f : Flow) : Bool :=
  (List.range 8).any (fun n =>
    let v := c.reg .schXrange (.tile t) n
    fld v 63 1 == 1 && decide (fld v 0 24 ≤ f.toNat) && decide (f.toNat ≤ fld v 24 24))

/-- A descriptor holds an item of a flow in one of some states. -/
def Tile.anyTask (ti : Tile) (f : Flow) (p : Desc → Bool) : Bool := ti.descs.any (fun d => d.2.itemV && d.2.flow == f && p d.2)

/-- A state outside FREE and DELAYED. -/
def DState.live : DState → Bool
  | .free | .delayed => false
  | _ => true

/-- Tasks in the lock overflow FIFO (R191), in order. -/
def Tile.fifo (ti : Tile) : List (Nat × Desc) :=
  (ti.descs.filter (fun p => p.2.inFifo && !p.2.marked)).mergeSort (fun a b => decide (a.2.ord ≤ b.2.ord))

/-- Ask the forwarder for a grant when a flow-spanning task becomes READY without it (R192). -/
def Chip.askGrant (c : Chip) (t : Nat) (f : Flow) : Chip :=
  match (c.tile t).lockOf f with
  | some k =>
    let e := kget { flow := f } (c.tile t).locks k
    if e.xspan && !e.xgrant && !e.asked then c.modTile t (fun ti => { ti with locks := kset ti.locks k { e with asked := true }, xreq := ti.xreq ++ [(f, true)] })
    else c
  | none => c

/-- A task with an item enters the flow-lock table as READY or FLOWWAIT (R188, R189). -/
def Chip.enterTable (c : Chip) (t n key : Nat) (f : Flow) : Chip :=
  let ti := c.tile t
  let e := kget { flow := f, xspan := c.spans t f } ti.locks key
  let busy := e.holder.isSome || ti.descs.any (fun p => p.1 != n && p.2.itemV && p.2.flow == f &&
    (p.2.state == .ready || p.2.state == .placed || (p.2.state == .flowwait && !p.2.inFifo)))
  let c := c.modTile t (fun ti => { ti with locks := kset ti.locks key e })
  let c := c.modDesc t n (fun x => { x with state := if busy then .flowwait else .ready, inFifo := false })
  if busy then c else c.askGrant t f

/-- A task becomes ready (R189, R191): itemless tasks at once; tasks with an item through the flow-lock table or its overflow FIFO. -/
def Chip.becomeReady (c : Chip) (t n : Nat) : Chip :=
  let x := c.desc t n
  let ti := c.tile t
  let c := (c.modDesc t n (fun x => { x with rstamp := ti.cycle, ord := ti.ord, due := false })).modTile t (fun ti => { ti with ord := ti.ord + 1 })
  if !x.itemV then c.modDesc t n (fun x => { x with state := .ready })
  else
    let inQ := (c.tile t).descs.any (fun p => p.1 != n && p.2.inFifo && p.2.flow == x.flow)
    let key := match (c.tile t).lockOf x.flow with
      | some k => some k
      | none => (c.tile t).freeWay x.flow
    match key, inQ with
    | some k, false => c.enterTable t n k x.flow
    | _, _ =>
      let c := c.modDesc t n (fun x => { x with state := .flowwait, inFifo := true })
      raise (.tile t 3) x.flow.toNat (c.bump .schLockOvfCnt (.tile t))

/-- The lock overflow FIFO is full (R191). -/
def Tile.fifoFull (ti : Tile) : Bool := decide (64 ≤ (ti.descs.filter (fun p => p.2.inFifo)).length)

/-- The gang a context is bound to (R94, R180). -/
def Chip.ctxGang (c : Chip) (t ctx : Nat) : Option Nat :=
  ((c.tile t).gangs.find? (fun g => g.2.primary.any (fun p => p.2 == ctx))).map (fun g => g.1)

/-- Whether a context's current image is defined (R606). -/
def Chip.ctxDefined (c : Chip) (t ctx : Nat) : Bool :=
  match kfind? (c.tile t).ctxTab ctx with
  | some i => i.defined
  | none => false

/-- Take one notice (R25, R181): fill a descriptor from the queue's template; it becomes ready. -/
def takeNotice (t : Nat) (c : Chip) : Chip :=
  let ti := c.tile t
  match ti.notices, ti.freeDesc with
  | nt :: rest, some n =>
    let tg := c.qtgt nt.queue
    let ctx := fld tg 48 16
    let d : Desc := { prio := fld tg 40 3, entry := fld tg 43 5, ctx := ctx, itemV := true, itemSeq := nt.seq, queue := nt.queue,
                      flow := nt.flow, gang := c.ctxGang t ctx }
    (c.modTile t (fun ti => { ti with notices := rest, descs := kset ti.descs n d })).becomeReady t n
  | _, _ => c

/-- The queue whose notice has to wait because no more than post_reserve descriptors are free (R184). -/
def noticeWaits (t : Nat) (c : Chip) : Option Nat :=
  if (c.tile t).nfree ≤ c.rf .schCtl (.tile t) 0 8 8 then (c.tile t).notices.head?.map (fun nt => nt.queue) else none

/-- One cycle of notice intake, of up to `k` notices (R181, R184): it stalls while the overflow FIFO is full (R191), and raises SCH_NO_DESC when a
notice first has to wait for a descriptor. -/
def noticeIntake (t : Nat) : Nat → Chip → Chip
  | 0, c => c.modTile t (fun ti => { ti with noDescEpisode := false })
  | k + 1, c =>
    if (c.tile t).fifoFull then c
    else match noticeWaits t c with
      | some q => if (c.tile t).noDescEpisode then c else raise (.tile t 1) q (c.modTile t (fun ti => { ti with noDescEpisode := true }))
      | none => noticeIntake t k (takeNotice t c)

/-- The oldest complete unclaimed item of a pull queue is claimed (R182). -/
def Chip.claim (c : Chip) (q : Nat) : Option (Chip × Item) :=
  match (c.queue q).items.find? (fun i => !i.gone && !i.claimed) with
  | none => none
  | some it =>
    some (c.modQueue q (fun Q => { Q with items := Q.items.map (fun i => if i.seq = it.seq then { i with claimed := true } else i) }), it)

/-- A posted task becomes ready (R182): it claims its item, or stays itemless with its template's flow. -/
def postReady (t n : Nat) (c : Chip) : Chip :=
  match (c.desc t n).pull with
  | some q =>
    match c.claim q with
    | some (c, it) => (c.modDesc t n (fun x => { x with itemV := true, queue := q, itemSeq := it.seq, flow := it.flow })).becomeReady t n
    | none => c.becomeReady t n
  | none => c.becomeReady t n

/-- A due task can become ready while the overflow FIFO is full (R191): it will be itemless, or its flow needs no place in the FIFO. -/
def entersNow (c : Chip) (t n : Nat) : Bool :=
  match (c.desc t n).pull.bind (fun q => c.claim q) with
  | none => true
  | some (_, it) =>
    let ti := c.tile t
    !(ti.descs.any (fun p => p.2.inFifo && p.2.flow == it.flow)) && ((ti.lockOf it.flow).isSome || (ti.freeWay it.flow).isSome)

/-- A lost post (R184). -/
def lostPost (t tpl : Nat) (c : Chip) : Chip := raise (.tile t 2) tpl (c.bump .schPostLostCnt (.tile t))

/-- Clear pend of a source: the change to 0 travels to the pending summary like a raise (R223). -/
def clearPend (e : EvSrc) (c : Chip) : Chip :=
  let v := c.ev e
  if fld v 63 1 = 0 then c
  else
    let c := c.setEv e (setFld v 63 1 0)
    match e with
    | .hub _ => c.setRf .evtPendSum .hub (e.num / 64) (e.num % 64) 1 0
    | _ => { c with evt := { c.evt with flight := c.evt.flight ++ [⟨e.num, false, 0#32, v⟩] } }

/-- Take one post (R182, R184, R222). An event source whose route had auto set at its change of pend is re-armed when its
post is taken. -/
def takePost (t : Nat) (p : PostReq) (c : Chip) : Chip :=
  let ti := c.tile t
  let tv := c.reg .schTpl (.tile t) p.tpl
  let q := fld tv 40 14
  let badQ := fld tv 59 1 == 1 && (c.qmode q == 0 || q / 4096 != t)
  match ti.freeDesc with
  | none => lostPost t p.tpl c
  | some n =>
    if fld tv 63 1 = 0 ∨ badQ then lostPost t p.tpl c
    else
      let ctx := fld tv 24 16
      let d : Desc := { prio := fld tv 60 3, entry := fld tv 54 5, ctx := ctx, post := true, tpl := p.tpl, pull := if fld tv 59 1 = 1 then some q else none,
                        flow := BitVec.ofNat 24 (fld tv 0 24), gang := c.ctxGang t ctx }
      let c := match p.src with
        | some e =>
          if p.auto then clearPend (EvSrc.ofNum e) c else c
        | none => c
      if p.delay = 0 then postReady t n (c.modTile t (fun ti => { ti with descs := kset ti.descs n d }))
      else
        let now := c.rf .schNow (.tile t) 0 0 32
        c.modTile t (fun ti => { ti with
          descs := kset ti.descs n { d with state := .delayed, deadline := (now + p.delay) % 2 ^ 32, ord := ti.ord }
          ord := ti.ord + 1 })

/-- Posts that events made wait for the intake of one post per cycle; the oldest is taken (R181, R222). -/
def takeEventPost (t : Nat) (c : Chip) : Chip :=
  match kget [] c.evt.posts t with
  | [] => c
  | p :: r =>
    if (c.tile t).fifoFull then c
    else takePost t p { c with evt := { c.evt with posts := kset c.evt.posts t r } }

/-! ### Locks -/

/-- Release the flow lock of a task, and its grant (R190, R192). -/
def Chip.releaseLock (c : Chip) (t n : Nat) : Chip :=
  let x := c.desc t n
  if !x.itemV then c
  else
    match (c.tile t).lockOf x.flow with
    | none => c
    | some k =>
      let e := kget { flow := x.flow } (c.tile t).locks k
      if e.holder = some n ∨ e.holder = none then
        c.modTile t (fun ti => { ti with
          locks := kset ti.locks k { e with holder := none, xgrant := false, asked := false }
          releaseQ := ti.releaseQ ++ [x.flow]
          xreq := if e.xspan && e.xgrant then ti.xreq ++ [(x.flow, false)] else ti.xreq })
      else c

/-- The first task of a flow's chain. -/
def Tile.chainHead (ti : Tile) (f : Flow) : Option Nat :=
  (((ti.descs.filter (fun p => p.2.itemV && p.2.flow == f && p.2.state == .flowwait && !p.2.inFifo && !p.2.marked)).mergeSort
    (fun a b => decide (a.2.ord ≤ b.2.ord))).head?).map (fun p => p.1)

/-- The chain of a flow advances when its lock is free and no task of it is READY or PLACED (R190). -/
def chainAdvance (t : Nat) (f : Flow) (c : Chip) : Chip :=
  let ti := c.tile t
  match ti.lockOf f with
  | none => c
  | some k =>
    let e := kget { flow := f } ti.locks k
    if e.holder.isSome || ti.anyTask f (fun d => d.state == .ready || d.state == .placed) then c
    else
      match ti.chainHead f with
      | none => c.modTile t (fun ti => { ti with releaseQ := ti.releaseQ.filter (fun x => x != f) })
      | some n =>
        let c := c.modTile t (fun ti => { ti with releaseQ := ti.releaseQ.filter (fun x => x != f), ord := ti.ord + 1 })
        (c.modDesc t n (fun x => { x with state := .ready, ord := ti.ord })).askGrant t f

/-- The first task of the overflow FIFO enters the table as a way of its set frees (R191). -/
def fifoDrain (t : Nat) (c : Chip) : Chip :=
  match (c.tile t).fifo with
  | [] => c
  | (n, x) :: _ =>
    let key := match (c.tile t).lockOf x.flow with
      | some k => some k
      | none => (c.tile t).freeWay x.flow
    match key with
    | some k => c.enterTable t n k x.flow
    | none => c

/-- Free a flow-lock entry with no task and no lock (R188); a grant it still holds is released (R192). -/
def entryFree (t : Nat) (f : Flow) (c : Chip) : Chip :=
  let ti := c.tile t
  match ti.lockOf f with
  | none => c
  | some k =>
    let e := kget { flow := f } ti.locks k
    if e.holder.isSome || ti.anyTask f (fun d => d.state.live) then c
    else c.modTile t (fun ti => { ti with locks := kdel ti.locks k, xreq := if e.xgrant then ti.xreq ++ [(f, false)] else ti.xreq })

/-- The view SCH_LOCK_n (R217). -/
def Chip.lockView (c : Chip) (t n : Nat) : BitVec 64 :=
  match kfind? (c.tile t).locks n with
  | none => 0#64
  | some e =>
    let w := ((c.tile t).descs.filter (fun p => p.2.itemV && p.2.flow == e.flow && p.2.state == .flowwait)).length
    mkReg [(63, 1, 1), (62, 1, b2n e.holder.isSome), (61, 1, b2n e.xspan), (60, 1, b2n e.xgrant), (48, 12, e.holder.getD 0), (36, 12, w), (0, 24, e.flow.toNat)]

/-! ### Placement -/

/-- The image a page-in of a context would read: the tile cache's, else the backing store's (R151, R152). -/
def Dev.ctxImage (d : Dev) (t ctx : Nat) : BitVec 4096 × Bool :=
  let hit := (List.range 8).findSome? (fun w => match kfind? (d.chip.tile t).cache (8 * (ctx % 512) + w) with
    | some e => if imgNumber e.img = ctx then some e.img else none
    | none => none)
  match hit with
  | some i => (i, true)
  | none =>
    let base := 33554432 * d.chip.rf .ctxBackBase (.tile t) 0 25 23
    (BitVec.ofNat 4096 (d.mem.load (base + 512 * ctx) 512), false)

/-- Free banks of a grove. -/
def Grove.freeBanks (gr : Grove) : List Nat := (List.range 8).filter (fun b => !(khas gr.alloc b))

/-- Banks a slot owns. -/
def Grove.slotBanks (gr : Grove) (s : Nat) : Nat := (gr.alloc.filter (fun p => p.2.slot == s)).length

/-- The victim slot for a page-in that needs `need` banks (R157, R161). -/
def victimSlot (c : Chip) (t g need : Nat) : Option Nat :=
  let gr := c.grove t g
  let ctl := c.reg .ctxPageCtl (.tile t)
  let keepEn := fld ctl 1 1 == 1
  let prefer := fld ctl 0 1 == 1
  let okB (s : Nat) : Bool := decide (need ≤ gr.freeBanks.length + gr.slotBanks s)
  let st (s : Nat) := (gr.slot s).state
  let all := (List.range 8).filter okB
  let cached (s : Nat) : Bool := (List.range 8).any (fun w =>
    match kfind? (c.tile t).cache (8 * (imgNumber (gr.slot s).img % 512) + w) with
    | some e => imgNumber e.img == imgNumber (gr.slot s).img
    | none => false)
  let lru (l : List Nat) : Option Nat := (l.mergeSort (fun a b => decide ((gr.slot a).recency ≤ (gr.slot b).recency))).head?
  let pick (l : List Nat) : Option Nat := if prefer then (lru (l.filter cached)).or (lru (l.filter (fun s => !(cached s)))) else lru l
  let rdy := all.filter (fun s => st s == .ready)
  let keep (s : Nat) : Bool := keepEn && imgSlotKeep (gr.slot s).img
  (all.find? (fun s => st s == .empty)).or ((pick (rdy.filter (fun s => !(keep s)))).or ((pick (rdy.filter keep)).or (all.find? (fun s => st s == .held))))

/-- A slot of a grove that holds a context READY and not stale (R154). -/
def Grove.holds (gr : Grove) (ctx : Nat) : Option Nat :=
  (List.range 8).find? (fun s => (gr.slot s).state == .ready && !(gr.slot s).stale && imgNumber (gr.slot s).img == ctx)

/-- Banks a context needs (R161). -/
def Dev.ctxNeed (d : Dev) (t ctx : Nat) : Nat := if imgKretain (d.ctxImage t ctx).1 then 2 else 1

/-- A grove is a candidate for placement of a context's task (R198), reservations aside. -/
def candidate (d : Dev) (t g fb : Nat) : Bool :=
  let c := d.chip
  let gr := c.grove t g
  let gv := c.reg .schGrove (.tile t) g
  kget 0 (c.tile t).groveFb g == fb && khas (c.tile t).groveFb g && fld gv 63 1 == 0 && fld gv 62 1 == 0 && !(c.retired t g) && gr.run.isNone &&
  !((c.tile t).onGrove g (fun s => s == .placed || s == .resumable)) && !gr.halted

/-- The class of a candidate for a context (R198): 0 when it has none. -/
def placeClass (d : Dev) (t g ctx : Nat) : Nat :=
  let gr := d.chip.grove t g
  let has := (gr.holds ctx).isSome
  let can := gr.pagein.isNone && (victimSlot d.chip t g (d.ctxNeed t ctx)).isSome
  if gr.pwr = .retention then (if has || can then 5 else 0)
  else if has then (if gr.pwr = .awake then 1 else 2)
  else if can then (if gr.pwr = .awake then 3 else 4)
  else 0

/-- Every populated grove index, rising. -/
def allGroves : List Nat := (List.range 188).filter gpop

/-- The grove chosen for a single task (R198, R199): its reserved grove for a replay on the same grove, else the first non-empty class,
lowest load, lowest index. -/
def chooseGrove (d : Dev) (t n : Nat) : Option Nat :=
  let c := d.chip
  let x := c.desc t n
  let fb := match kfind? (c.tile t).ctxTab x.ctx with
    | some i => i.firebreak
    | none => 0
  match (c.tile t).rsv.find? (fun p => p.2 == .replay n) with
  | some (g, _) =>
    let gr := c.grove t g
    if gr.run.isNone && !((c.tile t).onGrove g (fun s => s == .placed || s == .resumable)) && !gr.halted && placeClass d t g x.ctx != 0 then some g else none
  | none =>
    let ok := allGroves.filter (fun g => candidate d t g fb && !(khas (c.tile t).rsv g) && (x.attempt != 2 || x.avoid != some g))
    let best (k : Nat) : Option Nat :=
      ((ok.filter (fun g => placeClass d t g x.ctx == k)).mergeSort (fun a b =>
        decide (c.rf .schGrove (.tile t) a 16 16 ≤ c.rf .schGrove (.tile t) b 16 16))).head?
    (best 1).or ((best 2).or ((best 3).or ((best 4).or (best 5))))

/-- READY tasks in dispatch order (R197). -/
def Tile.readyOrder (ti : Tile) : List Nat :=
  let key (d : Desc) : Nat := d.prio * 2 ^ 41 + (if d.replay then 0 else 1) * 2 ^ 40 + d.ord % 2 ^ 40
  ((ti.descs.filter (fun p => p.2.state == .ready && !p.2.marked && p.2.poisonDue.isNone)).mergeSort (fun a b => decide (key a.2 ≤ key b.2))).map (fun p => p.1)

/-- A flow-spanning task is placeable only while its grant is held (R197, R192). -/
def Chip.granted (c : Chip) (t n : Nat) : Bool :=
  let x := c.desc t n
  !x.itemV || (match (c.tile t).lockOf x.flow with
    | some k => let e := kget { flow := x.flow } (c.tile t).locks k; !e.xspan || e.xgrant
    | none => false)

/-- The wait-time bucket of R206. -/
def histBucket (w : Nat) : Nat := if w < 16 then 0 else if 2 ^ 18 ≤ w then 15 else (Nat.log2 w) - 3

/-- Record a task's wait once (R17, R206). -/
def Chip.histRecord (c : Chip) (t n : Nat) : Chip :=
  let x := c.desc t n
  if x.counted then c
  else
    let b := histBucket ((c.tile t).cycle - x.rstamp)
    let i := 8 * x.prio + b / 2
    let lo := 32 * (b % 2)
    let old := c.rf .schHist (.tile t) i lo 32
    let new := min (old + 1) (2 ^ 32 - 1)
    let c := c.setRf .schHist (.tile t) i lo 32 new
    let c := c.modDesc t n (fun x => { x with counted := true })
    if decide (old < 2 ^ 32 - 1) && decide (new = 2 ^ 32 - 1) && c.rf .schHistCtl (.tile t) 0 (8 + x.prio) 1 == 0 then
      raise (.tile t 7) x.prio (c.setRf .schHistCtl (.tile t) 0 (8 + x.prio) 1 1)
    else c

/-- Page-ins in progress in a tile. -/
def Chip.loading (c : Chip) (t : Nat) : Nat := (c.groves.filter (fun p => p.1 / 256 == t && p.2.pagein.isSome)).length

/-- Start a page-in of a context into a grove's victim slot (R155, R158, R161): the slot is LOADING and its banks are reserved, a
committed bank set to 0. -/
def startPageIn (d : Dev) (t g ctx : Nat) (desc : Option Nat) (c : Chip) : Chip × Nat :=
  let need := d.ctxNeed t ctx
  match victimSlot c t g need with
  | none => (c, 0)
  | some s =>
    let c := c.modGrove t g (fun gr =>
      let al := gr.alloc.filter (fun p => p.2.slot != s)
      let free := (List.range 8).filter (fun b => !(khas al b))
      let al := match need, free with
        | 2, a :: b :: _ => kset (kset al a ⟨true, s⟩) b ⟨false, s⟩
        | _, a :: _ => kset al a ⟨false, s⟩
        | _, [] => al
      let cb := match need, free with
        | 2, a :: _ => some a
        | _, _ => none
      { gr with
        alloc := al
        banks := match cb with
          | some b => gr.banks.filter (fun p => p.1 / 64 != b)
          | none => gr.banks
        slots := kset gr.slots s { (gr.slot s) with state := .loading, stale := false, frameValid := false }
        pagein := some { slot := s, ctx := ctx, desc := desc } })
    (c, s)

/-- Start the page-ins that wait, in the order of their dispatches, while max_loading allows (R158). The first that cannot start holds the others. -/
def startWaiting (t : Nat) : Nat → Dev → Dev
  | 0, d => d
  | k + 1, d =>
    match (d.chip.tile t).pageWait with
    | [] => d
    | (g, ctx, n) :: rest =>
      let c := d.chip
      if c.rf .ctxPageCtl (.tile t) 0 8 8 ≤ c.loading t || (c.grove t g).pagein.isSome || (victimSlot c t g (d.ctxNeed t ctx)).isNone then d
      else
        let r := startPageIn d t g ctx (some n) (c.modTile t (fun ti => { ti with pageWait := rest }))
        startWaiting t k { d with chip := r.1.modDesc t n (fun x => if x.state == .placed then { x with slot := r.2 } else x) }

/-- Start the waiting page-ins of a tile. -/
def Dev.startPaging (d : Dev) (t : Nat) : Dev := startWaiting t ((d.chip.tile t).pageWait.length) d

/-- A dispatch or gang asks for a page-in (R158): it starts now, or waits behind those decided earlier. -/
def Dev.askPage (d : Dev) (t g ctx n : Nat) : Dev :=
  (d.on (fun c => c.modTile t (fun ti => { ti with pageWait := ti.pageWait ++ [(g, ctx, n)] }))).startPaging t

/-- A descriptor becomes FREE, and what was reserved for its task is free (R199, R203). -/
def Chip.freeTask (c : Chip) (t n : Nat) : Chip :=
  (c.modTile t (fun ti => { ti with
    rsv := ti.rsv.filter (fun p => p.2 != .replay n && p.2 != .gang n)
    pageWait := ti.pageWait.filter (fun m => m.2.2 != n) })).modDesc t n (fun _ => {})

/-- Place one READY task on a grove (R190, R197, R206): lock, counters, page-in. The slot shown is the one that holds the context, or the victim. -/
def placeTask (t n g : Nat) (d : Dev) : Dev :=
  let x := d.chip.desc t n
  let held0 := (d.chip.grove t g).holds x.ctx
  let s := (held0.or (victimSlot d.chip t g (d.ctxNeed t x.ctx))).getD 0
  let d := d.on (fun c =>
    let c := c.histRecord t n
    let c := c.modDesc t n (fun x => { x with state := .placed, grove := some g, slot := s })
    let c := if x.itemV then c.modLock t x.flow (fun e => { e with holder := some n }) else c
    let c := c.modTile t (fun ti => { ti with rsv := ti.rsv.filter (fun p => p.2 != .replay n) })
    let c := wakeGrove t g c
    let c := c.modGrove t g (fun gr => { gr with
      dispCnt := gr.dispCnt + 1
      slots := if held0.isSome then kmod {} gr.slots s (fun x => { x with frameValid := false }) else gr.slots })
    let c := c.bump .schDispatchCnt (.tile t)
    if x.replay then c.bump .schReplayCnt (.tile t) else c)
  if held0.isSome then d else d.askPage t g x.ctx n

/-- A READY task of an undefined context ends its ladder without an attempt (R606): its placeholder falls due, or it is discarded. -/
def undefinedEnd (t : Nat) (c : Chip) : Chip :=
  ((c.tile t).readyOrder.filter (fun n => !(c.ctxDefined t (c.desc t n).ctx) && c.granted t n)).foldl (fun c n =>
    if (c.desc t n).itemV then
      c.modDesc t n (fun x => { x with poisonDue := some 1, lastFail := { code := 0xE }, grove := none, suspectG := none })
    else c.freeTask t n) c

/-! ### Gangs (R94, R95, R200) -/

/-- No edge lane that a member's context selects leads to or from a directly substituted grove (R104). -/
def Chip.edgesWhole (c : Chip) (t g ctx : Nat) : Bool :=
  let e := match kfind? (c.tile t).ctxTab ctx with
    | some i => i.edge
    | none => 0
  (List.range 4).all (fun s => !(bitOf e s || bitOf e (4 + s)) || (!c.subst t g && (match neighbour g s with
    | some h => !c.subst t h
    | none => true)))

/-- The placement a gang task uses: the primary unless unusable, then the alternate (R200, R104). -/
def gangPlacement (c : Chip) (t n : Nat) : Option (List (Nat × Nat) × Bool) :=
  let x := c.desc t n
  match x.gang.bind (fun k => kfind? (c.tile t).gangs k) with
  | none => none
  | some gg =>
    let usable (l : List (Nat × Nat)) : Bool := !l.isEmpty && l.all (fun p =>
      let v := c.reg .schGrove (.tile t) p.1
      !(c.retired t p.1) && (fld v 63 1 == 0 && fld v 62 1 == 0) || (c.tile t).rsv.contains (p.1, .gang n)) && l.all (fun p => c.edgesWhole t p.1 p.2)
    if x.attempt = 2 && !gg.alternate.isEmpty then (if usable gg.alternate then some (gg.alternate, true) else none)
    else if usable gg.primary then some (gg.primary, false)
    else if usable gg.alternate then some (gg.alternate, true)
    else none

/-- READY gang tasks in dispatch order. -/
def gangOrder (c : Chip) (t : Nat) : List Nat :=
  (c.tile t).readyOrder.filter (fun n => (c.desc t n).gang.isSome && c.ctxDefined t (c.desc t n).ctx)

/-- A gang with no usable placement is parked, with SCH_GANG_PARKED once until it has been startable again (R104, R200). -/
def parkGang (t n : Nat) (c : Chip) : Chip :=
  match (c.desc t n).gang with
  | none => c
  | some k =>
    let gg := kget { firebreak := 0, primary := [] } (c.tile t).gangs k
    let none_ := (gangPlacement c t n).isNone
    if gg.parked == none_ then c
    else
      let c := c.modTile t (fun ti => { ti with gangs := kset ti.gangs k { gg with parked := none_ } })
      if none_ then raise (.tile t 5) k c else c

/-- The gang task that reserves its placement in a firebreak (R200): the first in dispatch order that has one. -/
def gangFirst (c : Chip) (t fb : Nat) : Option (Nat × List (Nat × Nat)) :=
  (gangOrder c t).findSome? (fun n => match gangPlacement c t n with
    | some (pl, _) => if pl.head?.map (fun p => kget 0 (c.tile t).groveFb p.1) == some fb then some (n, pl) else none
    | none => none)

/-- GANG_RESERVATION: a member grove of the first gang of its firebreak is reserved as it becomes a candidate, and its page-in is asked for (R200).
Gangs are parked or startable again as their placements stand. -/
def gangReserve (t g : Nat) (d : Dev) : Dev :=
  let d := d.on (fun c => (gangOrder c t).foldl (fun c n => parkGang t n c) c)
  let c := d.chip
  let fb := kget 0 (c.tile t).groveFb g
  match gangFirst c t fb with
  | none => d
  | some (n, pl) =>
    match pl.find? (fun p => p.1 == g) with
    | none => d
    | some (_, ctx) =>
      let mine := kfind? (c.tile t).rsv g == some (.gang n)
      if (khas (c.tile t).rsv g && !mine) || (!mine && !(candidate d t g fb)) then d
      else
        let d := d.on (fun c => c.modTile t (fun ti => { ti with
          rsv := kset (ti.rsv.filter (fun p => p.2 != .gang n || pl.any (fun q => q.1 == p.1))) g (.gang n) }))
        let asked := (d.chip.tile t).pageWait.any (fun m => m.1 == g && m.2.2 == n)
        if ((d.chip.grove t g).holds ctx).isSome || (d.chip.grove t g).pagein.isSome || asked then d else d.askPage t g ctx n

/-! ### Cancels (R202, R203) -/

/-- A state that a cancel acts on (R202). -/
def DState.cancellable : DState → Bool
  | .delayed | .ready | .flowwait | .placed => true
  | _ => false

/-- Cancel one task with the effects of R203. -/
def cancelTask (t n : Nat) (c : Chip) : Chip :=
  let x : Desc := c.desc t n
  let locked := match (c.tile t).lockOf x.flow with
    | some k => (kget { flow := x.flow } (c.tile t).locks k).holder == some n
    | none => false
  let c := if x.itemV then c.retire x.queue x.itemSeq else c
  let c := if x.itemV && (locked || x.state == .ready || x.state == .placed) then c.releaseLock t n else c
  let c := (c.tileGroves t).foldl (fun c g =>
    c.modGrove t g (fun gr => { gr with pagein := gr.pagein.map (fun (p : PageIn) => if p.desc == some n then { p with desc := none } else p) })) c
  (c.freeTask t n).bump .schCancelCnt (.tile t)

/-- Report the outcome of a cancel in SCH_CANCEL_LAST (R212). -/
def cancelReport (t : Nat) (busy refused : Bool) (count : Nat) (c : Chip) : Chip :=
  c.setReg .schCancelLast (.tile t) 0 (mkReg [(63, 1, b2n busy), (61, 2, b2n refused), (0, 13, count)])

/-- A task becomes ready in the cycle in which a cancel names it (R204): it is due, or it became READY or FLOWWAIT in this cycle. -/
def Chip.justReady (c : Chip) (t : Nat) (x : Desc) : Bool :=
  (x.state == .delayed && x.due) || ((x.state == .ready || x.state == .flowwait) && x.rstamp == (c.tile t).cycle)

/-- Such a task is dropped: counted, with SCH_DROPPED_READY (R204). -/
def dropReady (t n : Nat) (c : Chip) : Chip :=
  if c.justReady t (c.desc t n) then raise (.tile t 0) n (c.bump .schDroppedReadyCnt (.tile t)) else c

/-- Cancel by descriptor (R202): refused for a task that is not in a cancellable state. -/
def cancelDesc (t n : Nat) (c : Chip) : Chip :=
  let x := c.desc t n
  if !x.state.cancellable then cancelReport t false true 0 c
  else cancelReport t false false 1 (cancelTask t n (dropReady t n c))

/-- Cancel by flow or template: mark every eligible task; the walk removes them (R202). -/
def cancelMark (t : Nat) (p : Desc → Bool) (c : Chip) : Chip :=
  let hit (x : Desc) : Bool := x.state.cancellable && p x
  let ns := ((c.tile t).descs.filter (fun d => hit d.2)).map (fun d => d.1)
  let c := ns.foldl (fun c n => dropReady t n c) c
  cancelReport t true false 0 (c.modTile t (fun ti => { ti with
    descs := ti.descs.map (fun d => if hit d.2 then (d.1, { d.2 with marked := true }) else d) }))

/-- A write to SCH_CANCEL takes effect (R202, R212). -/
def cancelStart (t : Nat) (v : BitVec 64) (c : Chip) : Chip :=
  match fld v 62 2 with
  | 0 => cancelDesc t (fld v 0 12) c
  | 1 => cancelMark t (fun x => x.flow.toNat == fld v 0 24) c
  | 2 => cancelMark t (fun x => x.post && x.tpl == fld v 0 8) c
  | _ => c

/-- A write to SCH_CANCEL (R202): it stalls while a cancel is in progress. -/
def schCancel (t : Nat) (v : BitVec 64) (c : Chip) : Chip :=
  if c.rbit .schCancelLast (.tile t) 0 63 then c.modTile t (fun ti => { ti with cancelQ := ti.cancelQ ++ [v] }) else cancelStart t v c

/-- The stalled writes to SCH_CANCEL go on, in order, until one starts a walk (R202). -/
def cancelNext (t : Nat) : Nat → Chip → Chip
  | 0, c => c
  | k + 1, c =>
    if c.rbit .schCancelLast (.tile t) 0 63 then c
    else match (c.tile t).cancelQ with
      | [] => c
      | v :: r => cancelNext t k (cancelStart t v (c.modTile t (fun ti => { ti with cancelQ := r })))

/-- One step of the descriptor walk (R202): it removes the next marked task, and ends when none is left. -/
def cancelWalk (t : Nat) (c : Chip) : Chip :=
  let k := c.rf .schCancelLast (.tile t) 0 0 13
  match (c.tile t).descs.find? (fun d => d.2.marked) with
  | some (n, _) => cancelReport t true false (k + 1) (cancelTask t n c)
  | none =>
    if c.rbit .schCancelLast (.tile t) 0 63 then cancelNext t (c.tile t).cancelQ.length (cancelReport t false false k c) else c

end Sys2Proof.Machine
end

