-- ==== Sys2Proof/Machine/TaskOps.lean ====
section
/-!
DEFINITION. The life of a task on its grove: the switch cycle (R156), resumption (R201), gang start (R95, R200), page-ins (R158, R159), the
windows' spill engine (R136, R137), queue ports (R127, R242), end, commit and abort (R29, R132, R334), the replay ladder (R336–R339) and
placeholders (R340–R344).
-/
namespace Sys2Proof.Machine

/-! ### The switch cycle -/

/-- The check bits of the selects of a routing section (R89). -/
def latchChecks (sel : BitVec 1024) : KMap Bool :=
  (List.range 86).map (fun k => (k, (sel.extractLsb' (trackSel k).1 (trackSel k).2) != 0))

/-- The recency of a slot that becomes the most recent one (R157). -/
def Grove.nextRecency (gr : Grove) : Nat := (gr.slots.foldl (fun m p => max m p.2.recency) 0) + 1

/-- OUT, flags and the active latches of a slot that becomes the running slot (R41, R89, R156). -/
def Grove.switchTo (gr : Grove) (slot : Nat) : Grove :=
  let img := (gr.slot slot).img
  { gr with
    cells := gr.cells.map (fun p => (p.1, { p.2 with out := 0#35, outValid := false, flags := 0#16, par := 0#4 }))
    latches := imgRoute img
    latchChk := latchChecks (imgRoute img)
    slots := kmod {} gr.slots slot (fun s => { s with state := .running, recency := gr.nextRecency })
    edgeIn := [] }

/-- Copy a bank over another. -/
def Grove.copyBank (gr : Grove) (src dst : Nat) : Grove :=
  { gr with banks := (List.range 64).foldl (fun m i => kset m (dst * 64 + i) (kget 0#35 gr.banks (src * 64 + i))) gr.banks }

/-- Prepare the working bank of a first dispatch (R162). -/
def Grove.prepareBank (gr : Grove) (slot : Nat) : Grove :=
  match gr.workBank slot with
  | none => gr
  | some b =>
    match gr.commBank slot with
    | some cb => gr.copyBank cb b
    | none => { gr with banks := gr.banks.filter (fun p => p.1 / 64 != b) }

/-- The first dispatch of descriptor n on grove g in a slot, as a single task or as member m of a gang (R116, R140, R156). -/
def startRun (t g n slot : Nat) (gang : Option (Nat × Nat)) (c : Chip) : Chip :=
  let x := c.desc t n
  let ilen := match x.itemV, (c.queue x.queue).item? x.itemSeq with
    | true, some it => it.ilen
    | _, _ => 0
  c.modGrove t g (fun gr =>
    let gr := (gr.switchTo slot).prepareBank slot
    let img := (gr.slot slot).img
    let m := match gang with
      | some (_, m) => m
      | none => 0
    { gr with
      run := some { slot := slot, desc := n, member := m, gang := gang.map (fun p => p.1), ctx := imgNumber img, pc := x.entry,
                    budget := imgBudget img, doubled := x.grow, hasItem := x.itemV, queue := x.queue, itemSeq := x.itemSeq, ilen := ilen,
                    flow := x.flow }
      slots := kmod {} gr.slots slot (fun s => { s with frameValid := false })
      windows := if gr.freeWin = 0 then gr.windows else gr.windows ++ [{ slot := slot, depth := 1 }] })

/-- The task PLACED on a grove whose context is READY there, with its slot: its switch is pending (R187, R201). -/
def pendingSwitch (c : Chip) (t g : Nat) : Option (Nat × Nat) :=
  let gr := c.grove t g
  match (c.tile t).descs.find? (fun d => d.2.state == .placed && d.2.grove == some g && d.2.gang.isNone && !d.2.marked) with
  | none => none
  | some (n, x) => if gr.pagein.any (fun p => p.desc == some n) then none else (gr.holds x.ctx).map (fun s => (n, s))

/-- A RESUMABLE task becomes the running task again (R130, R155, R201): while the scheduler is enabled (R209), the grove runs no slot and no switch is
pending. OUT, flags and SQ are cleared. -/
def resumeTask (t g : Nat) (c : Chip) : Chip :=
  let gr := c.grove t g
  let l := gr.susp.filter (fun r => (c.desc t r.desc).state == .resumable)
  let l := l.mergeSort (fun a b =>
    decide ((c.desc t a.desc).prio < (c.desc t b.desc).prio) || ((c.desc t a.desc).prio == (c.desc t b.desc).prio && decide (a.suspAt ≤ b.suspAt)))
  match gr.run, l with
  | none, r :: _ =>
    if gr.halted || r.fail.isSome || c.rf .schCtl (.tile t) 0 0 1 == 0 || (pendingSwitch c t g).isSome then c
    else
      let c := c.modGrove t g (fun gr => { (gr.switchTo r.slot) with
        run := some { r with sq := 0#35, sqNext := none }
        susp := gr.susp.filter (fun y => y.slot != r.slot)
        dispCnt := gr.dispCnt + 1 })
      let c := wakeGrove t g c
      c.modDesc t r.desc (fun x => { x with state := .running })
  | _, _ => c

/-- The switch cycle of the task PLACED on a grove (R156, R187): its slot is READY and current. -/
def switchPlaced (t g : Nat) (c : Chip) : Chip :=
  let gr := c.grove t g
  match pendingSwitch c t g with
  | none => c
  | some (n, s) => if gr.run.isSome || gr.halted then c else (startRun t g n s none c).modDesc t n (fun x => { x with state := .running, slot := s })

/-- SWITCH_CYCLE: the pending switch of a PLACED task, else a RESUMABLE task (R201). -/
def switchCycle (t g : Nat) (c : Chip) : Chip :=
  if (pendingSwitch c t g).isSome then switchPlaced t g c else resumeTask t g c

/-! ### The dispatch decision -/

/-- The placement on which a gang task can start now (R93, R95, R100, R200): every member grove is reserved for it, free, with no resumption due (R201), and
holds its context READY; its canopy channels are not disabled. -/
def gangReady (c : Chip) (t n : Nat) : Option (List (Nat × Nat)) :=
  match gangPlacement c t n, (c.desc t n).gang with
  | some (pl, _), some k =>
    if c.granted t n && c.ctxDefined t (c.desc t n).ctx && pl.all (fun p =>
        let gr := c.grove t p.1
        kfind? (c.tile t).rsv p.1 == some (.gang n) && gr.run.isNone && (gr.holds p.2).isSome && gr.pagein.isNone && !gr.halted &&
        !((c.tile t).onGrove p.1 (fun s => s == .resumable))) &&
      !((c.tile t).cnpOff.any (fun ch => c.rbit .cfgCnpSrc (.tile t) ch 63 && c.rf .cfgCnpSrc (.tile t) ch 16 8 == k)) then some pl else none
  | _, _ => none

/-- The dispatch decision of a cycle (R197, R200, R606): of the first 16 READY tasks in order the first that can be placed, with its grove, or that can
start as a gang. -/
def decision (t : Nat) (d : Dev) : Option (Nat × Option Nat) :=
  let c := d.chip
  if c.rf .schCtl (.tile t) 0 0 1 = 0 then none
  else ((c.tile t).readyOrder.take 16).findSome? (fun n =>
    if (c.desc t n).gang.isSome then (gangReady c t n).map (fun _ => (n, none))
    else if c.granted t n && c.ctxDefined t (c.desc t n).ctx then (chooseGrove d t n).map (fun g => (n, some g)) else none)

/-- A gang starts (R95, R200): all members switch in one cycle, and its channels carry nothing from before (R93). -/
def startGang (t n : Nat) (c : Chip) : Chip :=
  match gangReady c t n, (c.desc t n).gang with
  | some pl, some k =>
    let g0 := (pl.head?.map (fun p => p.1)).getD 0
    let s0 := (pl.head?.bind (fun p => (c.grove t p.1).holds p.2)).getD 0
    let x := c.desc t n
    let c := c.histRecord t n
    let c := (pl.zipIdx).foldl (fun c p =>
      match (c.grove t p.1.1).holds p.1.2 with
      | some s => wakeGrove t p.1.1 ((startRun t p.1.1 n s (some (k, p.2)) c).modGrove t p.1.1 (fun gr => { gr with dispCnt := gr.dispCnt + 1 }))
      | none => c) c
    let c := c.modDesc t n (fun x => { x with state := .running, grove := some g0, slot := s0 })
    let c := if x.itemV then c.modLock t x.flow (fun e => { e with holder := some n }) else c
    let c := c.modTile t (fun ti => { ti with
      rsv := ti.rsv.filter (fun p => p.2 != .gang n)
      cnp := ti.cnp.filter (fun p => c.rf .cfgCnpSrc (.tile t) p.1 16 8 != k)
      gangs := kmod { firebreak := 0, primary := [] } ti.gangs k (fun gg => { gg with parked := false }) })
    let c := c.bump .schDispatchCnt (.tile t)
    if x.replay then c.bump .schReplayCnt (.tile t) else c
  | _, _ => c

/-- DISPATCH_DECISION (R197–R199, R606): READY tasks of undefined contexts end, then the decision is carried out. -/
def dispatch (t : Nat) (d : Dev) : Dev :=
  let d := d.on (undefinedEnd t)
  match decision t d with
  | some (n, some g) => placeTask t n g d
  | some (n, none) => d.on (startGang t n)
  | none => d

/-- GANG_START (R95, R200): the gang start that is the dispatch decision of the cycle. -/
def gangStart (t : Nat) (d : Dev) : Dev :=
  match decision t d with
  | some (n, none) => d.on (startGang t n)
  | _ => d

/-! ### The replay ladder -/

/-- Members of a running or suspended attempt: grove, run, and whether it is suspended. -/
def attemptOf (c : Chip) (t n : Nat) : List (Nat × Run × Bool) :=
  (c.tileGroves t).flatMap (fun g =>
    let gr := c.grove t g
    (match gr.run with
     | some r => if r.desc = n then [(g, r, false)] else []
     | none => []) ++ ((gr.susp.filter (fun r => r.desc == n)).map (fun r => (g, r, true))))

/-- Free a slot and its banks (R155, R161). -/
def Grove.emptySlot (gr : Grove) (s : Nat) : Grove :=
  { gr with
    slots := kset gr.slots s {}
    alloc := gr.alloc.filter (fun p => p.2.slot != s) }

/-- Open the first window of a task that was dispatched while none was free (R139). -/
def Grove.openFirst (gr : Grove) : Grove :=
  match gr.run with
  | some r => if !r.started && r.depth == 1 && (gr.window? r.slot 1).isNone && decide (0 < gr.freeWin)
      then { gr with windows := gr.windows ++ [{ slot := r.slot, depth := 1 }] } else gr
  | none => gr

/-- The slot of a task that has committed or aborted leaves RUNNING or SUSPENDED; windows and accumulators are released (R134, R155, R167). -/
def Grove.leaveSlot (gr : Grove) (s : Nat) (held : Bool) : Grove :=
  let gr := { gr with
    run := match gr.run with
      | some r => if r.slot = s then none else some r
      | none => none
    susp := gr.susp.filter (fun r => r.slot != s)
    windows := gr.windows.filter (fun w => w.slot != s) }
  let gr := gr.openFirst
  let gr := (List.range 32).foldl (fun gr i => if (gr.acc i).tag == s then gr.setAcc i { (gr.acc i) with ownerValid := false } else gr) gr
  if (gr.slot s).stale then gr.emptySlot s
  else { gr with slots := kmod {} gr.slots s (fun x => { x with state := if held then .held else .ready, frameValid := false }) }

/-- Discard what one member of an attempt has made (R334): verdicts that are still on their way are counted first. -/
def discardMember (t : Nat) (m : Nat × Run × Bool) (c : Chip) : Chip :=
  let g := m.1
  let r := m.2.1
  let vs := if m.2.2 then [] else (c.grove t g).verdicts
  let c := vs.foldl (fun c v => verdictArrives t g v.2 c) c
  let outs := r.closed ++ ([r.qw0, r.qw1].filterMap (fun w => match w.queue, w.openAsm with
    | some q, some id => some (q, id)
    | _, _ => none))
  let c := outs.foldl (fun c o => c.dropAsm o.1 o.2) c
  let c := ([(0, r.qw0), (1, r.qw1)]).foldl (fun c w => match w.2.queue with
    | some q => c.noteWait q (.grove (gkey t g) w.1) false
    | none => c) c
  let held := match r.fail with
    | some f => f.held
    | none => false
  c.modGrove t g (fun gr =>
    let gr := if m.2.2 then gr else { gr with inflight := [], deferA := [], verdicts := [], acqWait := none, edgeIn := [], kOld := [] }
    gr.leaveSlot r.slot held)

/-- A descriptor enters READY again as a replay, behind the replays already READY (R187, R334). -/
def reenter (t n : Nat) (f : Desc → Desc) (c : Chip) : Chip :=
  let o := (c.tile t).ord
  (c.modTile t (fun ti => { ti with ord := ti.ord + 1 })).modDesc t n (fun x => { (f x) with state := .ready, replay := true, ord := o })

/-- Reserve groves for a replay (R199, R200). -/
def reserveFor (t n : Nat) (gang : Bool) (gs : List Nat) (c : Chip) : Chip :=
  c.modTile t (fun ti => { ti with rsv := gs.foldl (fun m g => kset m g (if gang then .gang n else .replay n)) ti.rsv })

/-- A PLACED task is READY again at its former position (R159, R187, R337); a replay that is bound to its grove keeps the reservation (R199). -/
def backToReady (t n g : Nat) (c : Chip) : Chip :=
  let x := c.desc t n
  let c := if x.attempt = 1 || x.grow then reserveFor t n false [g] c else c
  c.modDesc t n (fun x => { x with state := .ready })

/-- Set the suspect bit of a grove and raise SCH_SUSPECT (R199). -/
def suspect (t g : Nat) (c : Chip) : Chip := raise (.tile t 6) g (c.setRf .schGrove (.tile t) g 62 1 1)

/-- One step of the replay ladder after a failed attempt on groves `gs` (R336, R338, R339). -/
def ladder (t n : Nat) (gs : List Nat) (f : FailInfo) (c : Chip) : Chip :=
  let x := c.desc t n
  let gang := x.gang.isSome
  let g0 := gs.head?
  match x.attempt with
  | 0 => reenter t n (fun x => { x with attempt := 1, grow := false, lastFail := f, grove := g0 }) (reserveFor t n gang gs c)
  | 1 =>
    let gg : Gang := match x.gang with
      | some k => kget { firebreak := 0, primary := [] } (c.tile t).gangs k
      | none => { firebreak := 0, primary := [] }
    let marks := if gang then gg.primary.map (fun p => p.1) else gs
    let c := if gang && gg.alternate.isEmpty then reserveFor t n true marks c else c
    let c := marks.foldl (fun c g => suspect t g c) c
    reenter t n (fun x => { x with attempt := 2, grow := false, avoid := if gang then none else g0, lastFail := f, grove := g0, suspectG := marks.head? }) c
  | _ =>
    if x.itemV then c.modDesc t n (fun x => { x with poisonDue := some 1, lastFail := f, grove := g0 })
    else c.freeTask t n

/-- The abort cycle of an attempt (R334): everything it made is discarded, and its descriptor goes on by R138, R336 or R339. -/
def abortAttempt (t n : Nat) (c : Chip) : Chip :=
  let ms := attemptOf c t n
  let gs := (ms.mergeSort (fun a b => decide (a.2.1.member ≤ b.2.1.member))).map (fun m => m.1)
  let f := ((ms.filterMap (fun m => m.2.1.fail)).head?).getD { code := 0 }
  let spill := ms.find? (fun m => match m.2.1.fail with | some f => f.code == 11 | none => false)
  let grow := match spill with
    | some m => imgSpillGrow ((c.grove t m.1).slot m.2.1.slot).img && !m.2.1.doubled
    | none => false
  let isSpill := f.code == 11
  let c := ms.foldl (fun c m => discardMember t m c) c
  let c := c.bump .schAbortCnt (.tile t)
  let x := c.desc t n
  if isSpill then
    if grow then reenter t n (fun x => { x with grow := true, lastFail := f, grove := gs.head? }) (reserveFor t n x.gang.isSome gs c)
    else if x.itemV then c.modDesc t n (fun x => { x with poisonDue := some 2, lastFail := f, grove := gs.head? })
    else c.freeTask t n
  else ladder t n gs f c

/-- TASK_ABORT (R333, R334): the abort cycle of the running task of a grove whose failure is known, or of a suspended one. -/
def taskAbort (t g : Nat) (c : Chip) : Chip :=
  let gr := c.grove t g
  let cand := ((match gr.run with | some r => [r] | none => []) ++ gr.susp).find? (fun r => (attemptOf c t r.desc).any (fun m => m.2.1.fail.isSome))
  match cand with
  | some r => abortAttempt t r.desc c
  | none => c

/-- The attempts of a grove repeat without advancing after a GROVE reset (R337); PLACED tasks are placed again. -/
def resetAttempts (t g : Nat) (c : Chip) : Chip :=
  let gr := c.grove t g
  let ns := ((match gr.run with | some r => [r.desc] | none => []) ++ gr.susp.map (fun r => r.desc))
  let c := ns.foldl (fun c n =>
    let ms := attemptOf c t n
    let x := c.desc t n
    let gs := ms.map (fun m => m.1)
    let c := ms.foldl (fun c m => discardMember t m c) c
    let c := c.bump .schAbortCnt (.tile t)
    let c := if x.attempt = 1 then reserveFor t n x.gang.isSome gs c else c
    reenter t n id c) c
  let ps := ((c.tile t).descs.filter (fun d => d.2.state == .placed && d.2.grove == some g)).map (fun d => d.1)
  ps.foldl (fun c n =>
    backToReady t n g c) c

/-! ### End and commit -/

/-- Cycles still pass before the end conditions can hold (R132). -/
def Grove.ending (gr : Grove) : Bool :=
  match gr.run with
  | some r => r.ended && r.fail.isNone && !gr.halted && r.inBudget && (!gr.inflight.isEmpty || !gr.deferA.isEmpty || gr.landNow || !gr.verdicts.isEmpty)
  | none => false

/-- The end conditions of R132. -/
def Grove.endsNow (gr : Grove) : Bool :=
  match gr.run with
  | some r => r.ended && r.fail.isNone && !gr.halted && r.qw0.openAsm.isNone && r.qw1.openAsm.isNone && r.mrds.isEmpty &&
      gr.inflight.isEmpty && gr.deferA.isEmpty && !gr.landNow && gr.verdicts.isEmpty && !r.done && r.inBudget
  | none => false

/-- TASK_END (R132, R344): the task ends; with poison_ph set and poison seen it does not commit, and its placeholder falls due. -/
def taskEnd (t g : Nat) (d0 : Dev) : Dev :=
  let d := settleGrove t g Grove.ending 64 d0
  let gr := d.chip.grove t g
  match gr.run with
  | none => d0
  | some r =>
    if !gr.endsNow then (if r.ended && r.fail.isNone && (gr.run.bind (fun r => r.fail)).isSome then d else d0)
    else
      let d := d.on (fun c => c.modRun t g (fun r => { r with done := true }))
      let ms := attemptOf d.chip t r.desc
      if ms.all (fun m => m.2.1.done) && ms.any (fun m => m.2.1.poisonSeen) && d.chip.rbit .schIntegCtl (.tile t) 0 0 then
        d.on (fun c =>
          let c := ms.foldl (fun c m => discardMember t m c) c
          if (c.desc t r.desc).itemV then c.modDesc t r.desc (fun x => { x with poisonDue := some 3, lastFail := { code := 0 }, grove := some g })
          else c.freeTask t r.desc)
      else d

/-- The check word of an item under generation (R261, R262), over all its words but the last. -/
def Dev.genCheck (d : Dev) (q id : Nat) : Dev :=
  let c := d.chip
  let cfg := c.qcfg q
  if fld cfg 51 2 != 1 then d
  else
    match (c.queue q).asms.find? (fun a => a.id == id) with
    | none => d
    | some a =>
      let crc := a.words.dropLast.foldl (fun v w => cvWord (fld cfg 50 1) v (TWord.data (d.qword q w))) 0xFFFFFFFF#32
      d.setLast q id (tword (cvFinal (fld cfg 50 1) crc (c.rf .fabCtl .hub 0 32 6) q (c.queue q).seq (fld cfg 49 1 == 1)))

/-- The output items of a commit join their queues, in increasing order of queue number, those of one queue in their order (R29, R181). -/
def joinOutputs (l : List (Nat × Nat)) (d : Dev) : Dev :=
  (l.mergeSort (fun a b => decide (a.1 ≤ b.1))).foldl (fun d o => (d.genCheck o.1 o.2).on (fun c => c.joinAsm o.1 o.2)) d

/-- One member's part of the commit cycle (R29, R162, R167): its signal is raised, its slot is left. -/
def commitMember (t : Nat) (m : Nat × Run × Bool) (d : Dev) : Dev :=
  let g := m.1
  let r := m.2.1
  d.on (fun c =>
    let c := match r.sig with
      | some s => raise (.grove t g 3) s (c.modGrove t g (fun gr => { gr with lastSig := s }))
      | none => c
    c.modGrove t g (fun gr =>
      let gr := match gr.workBank r.slot, gr.commBank r.slot with
        | some w, some cb => gr.copyBank w cb
        | _, _ => gr
      let p := r.store.foldl (fun (acc : Nat × List (Nat × Nat × Nat)) s => (acc.1 + 1, acc.2 ++ [(acc.1, s.1, r.ctx)])) (gr.mwrTag, gr.mwrLog)
      ({ gr with mwrTag := p.1, mwrLog := p.2.drop (p.2.length - 64), edgeIn := [] }).leaveSlot r.slot false))

/-- The commit cycle (R29, R95): a task or gang that has ended commits. The list holds the buffered writes to issue, in program order. -/
def taskCommit (t g : Nat) (d : Dev) : Dev × List (Nat × Nat × TWord) :=
  match (d.chip.grove t g).run with
  | none => (d, [])
  | some r =>
    let n := r.desc
    let ms := (attemptOf d.chip t n).mergeSort (fun a b => decide (a.2.1.member ≤ b.2.1.member))
    if ms.all (fun m => m.2.1.done && m.2.1.fail.isNone && !m.2.2 && (d.chip.grove t m.1).verdicts.isEmpty && m.2.1.closed.all (fun o => !(d.chip.queue o.1).err)) then
      let x := d.chip.desc t n
      let d := joinOutputs (ms.flatMap (fun m => m.2.1.closed)) d
      let d := ms.foldl (fun d m => commitMember t m d) d
      let d := d.on (fun c =>
        let c := if x.itemV then (c.retire x.queue x.itemSeq).releaseLock t n else c
        c.freeTask t n)
      (d, ms.flatMap (fun m => m.2.1.store.map (fun s => (m.1, s.1, s.2))))
    else (d, [])

/-! ### Placeholders -/

/-- The target queues of a flow's placeholder (R342): error queue, and the placeholder queue when it is another one. -/
def phTargets (c : Chip) (t : Nat) (f : Flow) : List Nat :=
  let v := match (List.range 16).find? (fun n =>
      let r := c.reg .schErrRange (.tile t) n
      fld r 63 1 == 1 && decide (fld r 0 24 ≤ f.toNat) && decide (f.toNat ≤ fld r 24 24)) with
    | some n => c.reg .schErrTgt (.tile t) n
    | none => c.reg .schErrDflt (.tile t) 0
  let e := fld v 0 12
  let p := fld v 16 12
  if fld v 28 1 = 1 ∧ p ≠ e then [t * 4096 + e, t * 4096 + p] else [t * 4096 + e]

/-- The four words of a placeholder (R341). -/
def phWords (x : Desc) (ilen : Nat) : List TWord :=
  let g := x.grove.getD 0xFF
  let s := x.suspectG.getD 0xFF
  let cls := if x.lastFail.code = 0xD then x.lastFail.cls else 0
  [ poisoned (BitVec.ofNat 32 (x.poisonDue.getD 0 * 2 ^ 24 + x.flow.toNat)),
    poisoned (BitVec.ofNat 32 ((x.queue % 2 ^ 14) * 2 ^ 16 + x.itemSeq % 2 ^ 16)),
    poisoned (BitVec.ofNat 32 ((x.ctx % 2 ^ 16) * 2 ^ 16 + (g % 256) * 2 ^ 8 + s % 256)),
    poisoned (BitVec.ofNat 32 ((x.lastFail.code % 16) * 2 ^ 28 + (cls % 8) * 2 ^ 25 + (ilen - 1) % 2 ^ 16)) ]

/-- Write one item of a producer other than a grove; `none` when the queue cannot take all of it now. -/
def Dev.pushItem (d : Dev) (q : Nat) (p : Producer) (flow : Option Flow) (vb : Nat) : List TWord → Bool → Option Dev
  | [], _ => some d
  | w :: r, start =>
    let o := d.hubPush q p w start r.isEmpty vb flow
    if o.2 = .waits then none else Dev.pushItem o.1 q p flow vb r false

/-- PLACEHOLDER_DELIVERY (R340, R343): in the poison cycle the placeholder joins its queues, the input item retires, the lock is released. A
queue that cannot take it delays the poison cycle, with the scheduler as a waiting producer. -/
def placeholderDelivery (t n : Nat) (d : Dev) : Dev :=
  let x := d.chip.desc t n
  match x.poisonDue with
  | none => d
  | some _ =>
    let ilen := match (d.chip.queue x.queue).item? x.itemSeq with
      | some it => it.ilen
      | none => 1
    let qs := phTargets d.chip t x.flow
    let r := qs.foldl (fun (acc : Option Dev) q => acc.bind (fun d => d.pushItem q .sched (some x.flow) 0 (phWords x ilen) true)) (some d)
    match r with
    | none => d.on (fun c => qs.foldl (fun c q => if (d.pushItem q .sched (some x.flow) 0 (phWords x ilen) true).isNone then c.noteWait q .sched true else c) c)
    | some d => d.on (fun c =>
        let c := qs.foldl (fun c q => c.noteWait q .sched false) c
        let c := (c.retire x.queue x.itemSeq).releaseLock t n
        (c.freeTask t n).bump .schPhCnt (.tile t))

/-! ### Page-ins -/

/-- Write a fetched image into its set of the tile's context cache (R153). -/
def cacheFill (t ctx : Nat) (img : BitVec 4096) (c : Chip) : Chip :=
  c.modTile t (fun ti =>
    let set := ctx % 512
    let ways := List.range 8
    let free := ways.find? (fun w => !(khas ti.cache (8 * set + w)))
    let lru := ((ways.filter (fun w => match kfind? ti.cache (8 * set + w) with | some e => !(imgCachePin e.img) | none => false)).mergeSort
      (fun a b => decide ((kget ⟨0, 0⟩ ti.cache (8 * set + a)).ord ≤ (kget ⟨0, 0⟩ ti.cache (8 * set + b)).ord))).head?
    match free.or lru with
    | some w => { ti with cache := kset ti.cache (8 * set + w) ⟨img, ti.pageOrd⟩, pageOrd := ti.pageOrd + 1 }
    | none => ti)

/-- Drop a context from the tile's context cache. -/
def cacheDrop (t ctx : Nat) (c : Chip) : Chip :=
  c.modTile t (fun ti => { ti with cache := ti.cache.filter (fun p => imgNumber p.2.img != ctx) })

/-- Take the image of a page-in: from the cache, or from the backing store with the cache filled; the flag says cache. -/
def pageImage (t : Nat) (p : PageIn) (d : Dev) : BitVec 4096 × Bool × Dev :=
  let hit := if p.fromBack then none else
    (List.range 8).findSome? (fun w => match kfind? (d.chip.tile t).cache (8 * (p.ctx % 512) + w) with
      | some e => if imgNumber e.img = p.ctx then some (w, e.img) else none
      | none => none)
  match hit with
  | some (w, i) =>
    (i, true, d.on (fun c => (c.bump .ctxHitCnt (.tile t)).modTile t (fun ti =>
      { ti with cache := kset ti.cache (8 * (p.ctx % 512) + w) ⟨i, ti.pageOrd⟩, pageOrd := ti.pageOrd + 1 })))
  | none =>
    let base := 33554432 * d.chip.rf .ctxBackBase (.tile t) 0 25 23 + 512 * p.ctx
    let i := BitVec.ofNat 4096 (d.mem.load base 512)
    (i, false, d.on (fun c => cacheFill t p.ctx i ((cacheDrop t p.ctx c).bump .ctxMissCnt (.tile t))))

/-- A 512-byte image in GDDR7 that holds a poisoned block. -/
def Dev.imagePoison (d : Dev) (a : Nat) : Bool := (List.range 8).any (fun i => d.poisonAt (a + 64 * i))

/-- Invalidate the cache entry that a page-in read or wrote, whatever its header says (R159). -/
def cacheFault (t ctx : Nat) (img : BitVec 4096) (c : Chip) : Chip :=
  (cacheDrop t ctx c).modTile t (fun ti => { ti with cache := ti.cache.filter (fun p => p.1 / 8 != ctx % 512 || p.2.img != img) })

/-- A page-in is issued again into the same slot (R159): the slot has become EMPTY, and is LOADING again with the banks the image needs. -/
def reissue (t g need : Nat) (p : PageIn) (c : Chip) : Chip :=
  c.modGrove t g (fun gr =>
    let gr := gr.emptySlot p.slot
    let free := gr.freeBanks
    let al := match need, free with
      | 2, a :: b :: _ => kset (kset gr.alloc a ⟨true, p.slot⟩) b ⟨false, p.slot⟩
      | _, a :: _ => kset gr.alloc a ⟨false, p.slot⟩
      | _, [] => gr.alloc
    let cb := match need, free with
      | 2, a :: _ => some a
      | _, _ => none
    { gr with
      alloc := al
      banks := match cb with
        | some b => gr.banks.filter (fun q => q.1 / 64 != b)
        | none => gr.banks
      slots := kset gr.slots p.slot { state := .loading }
      pagein := some p })

/-- PAGE_IN_COMPLETE (R159): the header check and what follows it. `ue` says that a beat was uncorrectable. -/
def pageInComplete (t g : Nat) (ue : Bool) (d : Dev) : Dev :=
  match (d.chip.grove t g).pagein with
  | none => d
  | some p =>
    let r := pageImage t p d
    let img := r.1
    let d := r.2.2
    let back := 33554432 * d.chip.rf .ctxBackBase (.tile t) 0 25 23 + 512 * p.ctx
    let ue := ue || (!r.2.1 && d.imagePoison back)
    let empty (c : Chip) : Chip := c.modGrove t g (fun gr => { (gr.emptySlot p.slot) with pagein := none })
    let gen := kget 0 (d.chip.tile t).gens p.ctx
    let fault : Option Nat :=
      if ue then some 0
      else if imgNumber img ≠ p.ctx then some 1
      else if imgGen img ≠ gen then none
      else if imgVersion img = 0 then some 2
      else if imgVersion img ≠ 1 then some 3
      else if imgFirebreak img ≠ kget 0 (d.chip.tile t).groveFb g then some 4
      else none
    let waits := p.desc.filter (fun n => (d.chip.desc t n).state == .placed || (d.chip.desc t n).gang.isSome)
    let d : Dev := match fault with
      | some k =>
        let d := d.on (fun c =>
          raise (.tile t 9) p.ctx ((cacheFault t p.ctx img c).capture .ctxFaultLast (.tile t) 0
            (mkReg [(60, 3, k), (59, 1, b2n (!r.2.1)), (58, 1, b2n p.second), (50, 8, g), (47, 3, p.slot), (0, 16, p.ctx)])))
        (match waits with
         | some n =>
           if p.second then d.on (fun c => ladder t n [g] { code := 0xE } (empty c))
           else d.on (reissue t g (d.ctxNeed t p.ctx) { p with fromBack := true, second := true })
         | none => d.on empty)
      | none =>
        if imgGen img = gen then d.on (fun c => c.modGrove t g (fun gr => { gr with
          slots := kset gr.slots p.slot { state := .ready, img := img, recency := gr.nextRecency }
          pagein := none }))
        else
          let d := d.on (cacheDrop t p.ctx)
          (match waits with
           | none => d.on empty
           | some n =>
             let need := d.ctxNeed t p.ctx
             let gr := d.chip.grove t g
             if d.chip.ctxDefined t p.ctx && decide (need ≤ gr.freeBanks.length + gr.slotBanks p.slot) then
               d.on (reissue t g need { slot := p.slot, ctx := p.ctx, desc := p.desc })
             else d.on (fun c => if (c.desc t n).gang.isSome then empty c else backToReady t n g (empty c)))
    d.startPaging t

/-! ### Windows -/

/-- The victim of the spill engine (R137): slot and depth. -/
def Grove.spillVictim (gr : Grove) : Option (Nat × Nat) :=
  let susp := gr.susp.mergeSort (fun a b => decide (a.suspAt ≤ b.suspAt))
  let below (r : Run) : Option (Nat × Nat) :=
    ((gr.windows.filter (fun w => w.slot == r.slot && decide (w.depth < r.depth))).mergeSort (fun a b => decide (a.depth ≤ b.depth))).head?.map (fun w => (w.slot, w.depth))
  let cur (r : Run) : Option (Nat × Nat) := (gr.window? r.slot r.depth).map (fun w => (w.slot, w.depth))
  (susp.findSome? below).or ((susp.findSome? cur).or (gr.run.bind below))

/-- The scratchpad address of the frame of a window (R136). -/
def Grove.frameOf (gr : Grove) (slot depth : Nat) : Nat := imgSpillBase (gr.slot slot).img + 40 * (depth - 1)

/-- The context of the task in a slot. -/
def Grove.taskCtx (gr : Grove) (slot : Nat) : Nat := imgNumber (gr.slot slot).img

/-- The window a refill is demanded for (R137): the running task's current one, or the caller's for a RET. -/
def refillDemand (c : Chip) (t g : Nat) : Option (Nat × Nat) :=
  let gr := c.grove t g
  match gr.run with
  | none => none
  | some r =>
    if (gr.window? r.slot r.depth).isNone then (if r.started then some (r.slot, r.depth) else none)
    else if decide (1 < r.depth) && (gr.window? r.slot (r.depth - 1)).isNone && iOp (imgInstr gr.runImg r.pc) == 0x17 then some (r.slot, r.depth - 1)
    else none

/-- The window the engine refills next (R137): one that is demanded, or a prefetch of the window the running task's next RET needs. -/
def refillWant (c : Chip) (t g : Nat) : Option (Nat × Nat) :=
  let gr := c.grove t g
  let ctl := c.reg .seqWinCtl (.grove t g) 0
  (refillDemand c t g).or (match gr.run with
    | some r =>
      if decide (1 < r.depth) && (gr.window? r.slot r.depth).isSome && (gr.window? r.slot (r.depth - 1)).isNone && fld ctl 3 1 == 1 &&
        decide (fld ctl 0 3 < gr.freeWin) then some (r.slot, r.depth - 1) else none
    | none => none)

/-- WINDOW_SPILL (R136, R137): while free windows are below low_water, and no refill that is demanded can be made first, the engine spills a
victim to its frame through port B. `ue` says that the window was uncorrectable (R139). -/
def windowSpill (t g : Nat) (ue : Bool) (d : Dev) : Dev :=
  let gr := d.chip.grove t g
  if gr.halted || decide (d.chip.rf .seqWinCtl (.grove t g) 0 0 3 ≤ gr.freeWin) || ((refillDemand d.chip t g).isSome && decide (0 < gr.freeWin)) then d
  else
    match gr.spillVictim with
    | none => d
    | some (s, depth) =>
      let w := (gr.window? s depth).getD { slot := s, depth := depth }
      if ue then d.on (windowFail t g s)
      else
        let a := spBase t g + gr.frameOf s depth
        let ws := (List.range 8).map (fun i => kget 0#35 w.regs i)
        let meta0 := tword (BitVec.ofNat 32 ((gr.taskCtx s) * 2 ^ 16 + (depth % 512) * 2 ^ 5 + w.ret % 32))
        let d := (d.on (fun c => c.spWake t g (gr.frameOf s depth))).wrWords a (ws ++ [meta0, 0#35])
        d.on (fun c => (c.modGrove t g (fun gr => ({ gr with windows := gr.windows.filter (fun x => !(x.slot == s && x.depth == depth)) }).openFirst)).bump
          .seqSpillCnt (.grove t g))
where
  /-- An uncorrectable window or frame: the owning task fails with SEQCHK, at once if it is suspended (R139). -/
  windowFail (t g s : Nat) (c : Chip) : Chip :=
    match (c.grove t g).run with
    | some r => if r.slot = s then takeTrap t g (.seqchk true) r.pc 0 c else suspFail t g s c
    | none => suspFail t g s c
  /-- The failure of a suspended task. -/
  suspFail (t g s : Nat) (c : Chip) : Chip :=
    let site : Site := .grove t g
    let c := (raise (.grove t g 0) 258 (c.bump .seqTrapCnt site)).modGrove t g (fun gr =>
      { gr with susp := gr.susp.map (fun r => if r.slot = s then { r with fail := some { code := 12 } } else r) })
    match (c.grove t g).susp.find? (fun r => r.slot == s) with
    | some r => abortAttempt t r.desc (c.capture .seqTrapLast site 0 (mkReg [(60, 3, s), (56, 4, 12), (51, 5, r.pc), (42, 9, r.depth), (26, 16, r.ctx), (0, 26, 0)]))
    | none => c

/-- WINDOW_REFILL (R136, R137, R139): the frame is read back and the window is usable; an uncorrectable frame fails the task. -/
def windowRefill (t g : Nat) (ecc : Ecc) (d : Dev) : Dev :=
  let gr := d.chip.grove t g
  match refillWant d.chip t g with
  | none => d
  | some (s, depth) =>
    if gr.halted || gr.freeWin == 0 then d
    else
      let off := gr.frameOf s depth
      let d := (d.on (fun c => c.spWake t g off)).spmEcc t g off ecc 1
      let ws := d.rdWords (spBase t g + off) 10
      let bad := (match ecc with
        | .ue _ => true
        | _ => false) || TWord.isPoison (ws.getD 8 0#35)
      if bad then d.on (fun c => match (c.grove t g).run with
        | some r => takeTrap t g (.seqchk true) r.pc 0 c
        | none => c)
      else
        let ret := (TWord.data (ws.getD 8 0#35)).toNat % 32
        d.on (fun c => (c.modGrove t g (fun gr =>
          let l : List (Nat × Nat × TWord) := (match gr.run with | some r => r.late | none => []).filter (fun x => x.1 == depth)
          { gr with windows := gr.windows ++ [⟨s, depth, l.foldl (fun m x => kset m x.2.1 x.2.2) ((List.range 8).map (fun i => (i, ws.getD i 0#35))), ret⟩] })).modRun t g
            (fun r => { r with late := r.late.filter (fun x => x.1 != depth) }))

/-! ### Reads, budget, ports -/

/-- Change the run, running or suspended, that has an MRD of a tag outstanding. -/
def Grove.modMrd (gr : Grove) (tag : Nat) (f : Run → Run) : Grove :=
  { gr with
    run := gr.run.map (fun r => if r.mrds.any (fun m => m.tag == tag) then f r else r)
    susp := gr.susp.map (fun r => if r.mrds.any (fun m => m.tag == tag) then f r else r) }

/-- The outstanding MRD of a tag, with its run. -/
def Grove.mrd? (gr : Grove) (tag : Nat) : Option (Run × MrdOut) :=
  ((match gr.run with | some r => [r] | none => []) ++ gr.susp).findSome? (fun r => (r.mrds.find? (fun m => m.tag == tag)).map (fun m => (r, m)))

/-- MRD_COMPLETION (R124, R128, R146): the word lands in its register, or a status other than OK causes the MEM trap; a suspended task whose
last read completes is RESUMABLE. -/
def mrdNow (t g tag : Nat) (res : Except Nat TWord) (c : Chip) : Chip :=
  match (c.grove t g).mrd? tag with
  | none => c
  | some (r, m) =>
    let isRun := match (c.grove t g).run with
      | some x => x.slot == r.slot
      | none => false
    let c := match res with
      | .ok w => c.modGrove t g (fun (gr : Grove) => gr.setAt r.slot m.depth m.dest w)
      | .error st =>
        if isRun then takeTrap t g .mem m.pc (st % 256) c
        else
          let s : Site := .grove t g
          let c := (c.bump .seqTrapCnt s).capture .seqTrapLast s 0 (mkReg [(60, 3, r.slot), (56, 4, 8), (51, 5, m.pc), (42, 9, r.depth), (26, 16, r.ctx), (0, 26, st % 256)])
          (raise (.grove t g 1) 8 c).modGrove t g (fun gr => gr.modMrd tag (fun r => { r with fail := match r.fail with | some x => some x | none => some { code := 8 } }))
    let c := c.modGrove t g (fun gr => gr.modMrd tag (fun r => { r with mrds := r.mrds.filter (fun x => x.tag != tag) }))
    if !isRun && decide (r.mrds.length ≤ 1) then c.modDesc t r.desc (fun x => if x.state == .suspended then { x with state := .resumable } else x) else c

/-- A completion for a halted grove is held until its release (R570, R576). -/
def mrdLand (t g tag : Nat) (res : Except Nat TWord) (c : Chip) : Chip :=
  if (c.grove t g).halted then
    c.modGrove t g (fun gr => { gr with landHeld := gr.landHeld ++ [match res with
      | .ok w => (tag, 0, w)
      | .error st => (tag, st, 0#35)] })
  else mrdNow t g tag res c

/-- The completions held during a halt, in order (R570). -/
def landHeld (t g : Nat) (c : Chip) : Chip :=
  let l := (c.grove t g).landHeld
  l.foldl (fun c x => mrdNow t g x.1 (if x.2.1 = 0 then .ok x.2.2 else .error x.2.1) c) (c.modGrove t g (fun gr => { gr with landHeld := [] }))

/-- BUDGET_EXPIRY (R140): the counter has reached 0 before the task ended. -/
def budgetExpiry (t g : Nat) (c : Chip) : Chip :=
  match (c.grove t g).run with
  | some r => if r.started && r.budget == 0 && !r.done && r.fail.isNone && !(c.grove t g).halted then takeTrap t g .budget r.pc 0 c else c
  | none => c

/-- The error completion of a grove's posted write number `tag`, of which the packet carries bits 5–0 (R129): counted, captured, and raised as SEQ_MWR_ERR. -/
def mwrError (t g tag status : Nat) (c : Chip) : Chip :=
  let s : Site := .grove t g
  let rec_ := (c.grove t g).mwrLog.find? (fun x => x.1 == tag)
  let c := c.bump .seqMwrErrCnt s
  let c := if c.rbit .seqMwrLast s 0 63 then c
    else
      let c := c.setReg .seqMwrAddr s 0 (match rec_ with
        | some x => mkReg [(2, 46, x.2.1 / 4)]
        | none => 0#64)
      c.setReg .seqMwrLast s 0 (mkReg [(63, 1, 1), (62, 1, b2n rec_.isNone), (56, 4, status), (50, 6, tag % 64),
        (16, 16, match rec_ with
          | some x => x.2.2
          | none => 0)])
  let c := c.modGrove t g (fun gr => { gr with mwrLog := gr.mwrLog.filter (fun x => x.1 != tag) })
  raise (.tile t 31) (g * 256 + status % 16) c

/-- QR_FETCH_ARRIVAL (R242, R255): up to `n` further words beyond the head reach the port's fetch buffer, each checked where it is read; the first word from
the middle comes with an outcome of its code. `hit` is a word that a fault strikes in the buffer; its delivery finds it. -/
def qrFetch (t g u n : Nat) (e : Ecc) (hit : Option Nat) (d : Dev) : Dev :=
  match (d.chip.grove t g).run with
  | none => d
  | some r =>
    match r.hasItem && r.member == 0 && !(d.chip.queue r.queue).err, (d.chip.queue r.queue).item? r.itemSeq with
    | true, some it =>
      let p := r.qr u
      let held := p.buf.map (fun b => b.1)
      let want := ((List.range it.words.length).filter (fun i => decide (p.pos ≤ i) && !(held.contains i) &&
        (match it.words[i]? with | some w => !w.lvl.isHead | none => false))).take (min n (16 - p.buf.length))
      let mids := want.filterMap (fun i => (it.words[i]?).bind (fun w => if w.lvl.isMid then some w else none))
      let d' := match mids.head? with
        | some w => d.lvlEcc (r.queue / 4096) w.lvl e
        | none => d
      let newly := (mids.filter (fun w => !(TWord.isPoison (d.qword r.queue w)) && TWord.isPoison (d'.qword r.queue w))).length
      let got := want.filterMap (fun i => (it.words[i]?).map (fun w => (i, ({ w := if w.lvl.isMid then d'.qword r.queue w else w.checked.w, lvl := .head } : QWord))))
      let d' := d'.on (fun c => c.shiftQueue r.queue (fun Q => { Q.readAt r.itemSeq want with found := (Q.readAt r.itemSeq want).found + newly }))
      d'.on (fun c => c.modRun t g (fun r => r.modQr u (fun p =>
        { p with buf := (p.buf ++ got).zipIdx.map (fun x => if hit = some x.2 then (x.1.1, { x.1.2 with bad := true }) else x.1) }) id))
    | _, _ => d

/-- A word of a grove is placed into its open item, or held with the slot stalled (R247, R257, R262). -/
def pushWord (t g p q id : Nat) (w : TWord) (d : Dev) : Dev :=
  let c := d.chip
  let counted (c : Chip) : Chip := c.modRun t g (fun r => r.modQw p (fun x => { x with pushed := x.pushed + 1, held := none }))
  let Q := c.queue q
  match Q.asms.find? (fun a => a.id == id) with
  | none => d.on (fun c => counted ((c.bump (if id = 0 then .queRefusedCnt else .queFlushDrop) (qsite q)).noteWait q (.grove (gkey t g) p) false))
  | some a =>
    if Q.err then d.on (fun c => (c.noteWait q (.grove (gkey t g) p) true).modRun t g (fun r => r.modQw p (fun x => { x with held := some w })))
    else
      let r := d.place q id w
      if r.2 then
        r.1.on (fun c' =>
          let c' := if fld (c.qcfg q) 51 2 = 1 then
              (match a.words.getLast? with
               | some lw => c'.modRun t g (fun r => r.modCv p (fun v => { v with crc := cvWord (fld (c.qcfg q) 50 1) v.crc (TWord.data (d.qword q lw)) }))
               | none => c')
            else c'
          (counted c').noteWait q (.grove (gkey t g) p) false)
      else d.on (fun c => (c.noteWait q (.grove (gkey t g) p) true).modRun t g (fun r => r.modQw p (fun x => { x with held := some w })))

/-- QW_PUSH (R127, R254): the port pushes the valid word on its track. `up` and `rail` are an upset of the word and of its valid rails. -/
def qwPush (t g p : Nat) (up : BitVec 35) (rail : Bool) (d0 : Dev) : Dev :=
  let busy (gr : Grove) : Bool := gr.canAct && (match gr.run with
    | some r => (r.qw p).openAsm.isSome && (r.qw p).held.isNone && !gr.inflight.isEmpty &&
        ((r.qw p).lastPush == some gr.cycle || !(outTrack gr (64 + p)).2)
    | none => false)
  let d := settleGrove t g busy 8 d0
  let gr := d.chip.grove t g
  match gr.run with
  | none => d0
  | some r =>
    let port := r.qw p
    let tr := outTrack gr (64 + p)
    match port.queue, port.openAsm with
    | some q, some id =>
      if !tr.2 || port.held.isSome || r.fail.isSome || gr.halted || port.lastPush == some gr.cycle then d0
      else
        let w := tr.1 ^^^ up
        let d := d.on (fun c => c.modRun t g (fun r => r.modQw p (fun x => { x with lastPush := some gr.cycle })))
        if rail then d.on (fun c => outerFail t g 4 2 (routeFault t g 2 (64 + p) ((lowBit (gr.sel (64 + p)) 16).getD 0) (popBits (gr.sel (64 + p)) 16) c))
        else if TWord.bad w then d.on (outerFail t g 5 2)
        else if 16384 ≤ port.pushed then d.on (takeTrap t g .item r.pc 0)
        else pushWord t g p q id w d
    | _, _ => d0

/-- QW_WORD_ACCEPTED (R247): the queue takes the word a stalled port holds, and the slot resumes. -/
def qwAccepted (t g p : Nat) (d : Dev) : Dev :=
  match (d.chip.grove t g).run with
  | none => d
  | some r =>
    match (r.qw p).held, (r.qw p).queue, (r.qw p).openAsm with
    | some w, some q, some id =>
      let now := (d.chip.grove t g).cycle
      pushWord t g p q id w (d.on (fun c => c.modRun t g (fun r => r.modQw p (fun x => { x with lastPush := some now }))))
    | _, _, _ => d

/-! ### Latches, map, banks, saves -/

/-- The verdict of a routing latch: of a grove's own select latch, after which the slot is HELD, or of a canopy channel (R99, R100). -/
def latchVerdict (own : Bool) : Verdict := ⟨if own then 17 else 18, 6, 0, 0, 0, 0, 0#32⟩

/-- SELECT_LATCH_FAULT (R98, R99): an upset of the active latch of a track is found multi-hot or at odds with its check bit. -/
def selectFault (t g k : Nat) (up : BitVec 64) (c : Chip) : Chip :=
  let sw := trackSel k
  let c := c.modGrove t g (fun gr => { gr with latches := gr.latches ^^^ ((BitVec.setWidth 1024 (up.extractLsb' 0 sw.2)) <<< sw.1) })
  let gr := c.grove t g
  match gr.run with
  | none => c
  | some _ =>
    let s := gr.sel k
    let ones := popBits s sw.2
    let src := (lowBit s sw.2).getD 0
    if decide (86 ≤ k) then c
    else if 2 ≤ ones then (raise (.grove t g 6) k (routeFault t g 0 k src ones c)).modGrove t g (fun gr => gr.verdict gr.cycle (latchVerdict true))
    else if (s != 0) != kget false gr.latchChk k then
      (raise (.grove t g 7) k (routeFault t g 1 k src ones c)).modGrove t g (fun gr => gr.verdict gr.cycle (latchVerdict true))
    else c

/-- A fault of a canopy channel's latch (R99, R100): the channel is disabled until the ranger rewrites it, and the fault reaches every running
grove that taps it at the start of the next cycle. -/
def cnpFault (t ch ev : Nat) (c : Chip) : Chip :=
  let c := raise (.tile t ev) ch ((c.setRf .cfgCnpSrc (.tile t) ch 62 1 1).bump .cfgCnpUpsetCnt (.tile t))
  let c := (c.tileGroves t).foldl (fun c g =>
    let gr := c.grove t g
    if gr.run.isSome && (lowBit (gr.sel 84) 64 == some ch || lowBit (gr.sel 85) 64 == some ch) then
      c.modGrove t g (fun gr => gr.verdict gr.cycle (latchVerdict false)) else c) c
  c.modTile t (fun ti => { ti with cnpOff := if ti.cnpOff.contains ch then ti.cnpOff else ti.cnpOff ++ [ch], cnp := kdel ti.cnp ch })

/-- CANOPY_LATCH_FAULT (R100): upsets of the latch of a channel leave it multi-hot, or at odds with its check bit. -/
def canopyFault (t ch : Nat) (up : BitVec 288) (c : Chip) : Chip :=
  let c := c.modTile t (fun ti => { ti with cnpUp := kset ti.cnpUp ch (kget 0#288 ti.cnpUp ch ^^^ up) })
  let s := c.cnpLatch t ch
  if 2 ≤ popBits s 288 then cnpFault t ch 12 c
  else if s = 0 then cnpFault t ch 13 c
  else c

/-- SEQ_CELL_MAP_WRITE (R73–R75): discarded with SEQ_MAP_BUSY while a slot runs or a dispatch to the grove is pending. The remapped cells
start with their accumulators at reset values. -/
def cellMapWrite (t g : Nat) (v : BitVec 64) (c : Chip) : Chip :=
  let gr := c.grove t g
  if gr.run.isSome || (c.tile t).onGrove g (fun s => s == .placed || s == .resumable) then raise (.tile t 11) g c
  else
    let c := c.logRepair 1 (Config.repairCause 1 (t * 2 ^ 30 + g * 2 ^ 22 + fld v 0 15)) (t * 2 ^ 30 + g * 2 ^ 22 + fld v 0 15)
    (List.range 4).foldl (fun c r =>
      let x := fld v (4 * r) 3
      let old := c.rf .seqCellMap (.grove t g) 0 (4 * r) 3
      if x = 5 ∨ x = 6 then c
      else
        let c := c.setRf .seqCellMap (.grove t g) 0 (4 * r) 3 x
        (List.range 4).foldl (fun c j =>
          let phys (o : Nat) : Nat := if j < o then j else j + 1
          if phys old = phys x then c
          else c.modGrove t g (fun gr => gr.setCell (4 * r + j) { (gr.cell (4 * r + j)) with acc0 := {}, acc1 := {} })) c) c

/-- BANK_WRITE (R163). -/
def bankWrite (t g b i : Nat) (v : BitVec 64) (c : Chip) : Chip :=
  c.modGrove t g (fun gr =>
    match kfind? gr.alloc b with
    | none => gr
    | some a =>
      if (gr.slot a.slot).state = .running ∨ (gr.slot a.slot).state = .suspended then gr
      else { gr with banks := kset gr.banks (b * 64 + i % 64) (tword (v.extractLsb' 0 32)) })

/-- ACC_FORCED_SAVE_REQ (R168, R173). -/
def forcedSaveReq (t g : Nat) (c : Chip) : Chip := c.modGrove t g (fun gr => { gr with forcedSave := true })

/-- ACC_FORCED_SAVE (R168): once no slot runs and no switch is pending, every owned accumulator is saved and busy clears. -/
def forcedSave (t g : Nat) (d : Dev) : Dev :=
  let gr := d.chip.grove t g
  if !gr.forcedSave || gr.run.isSome || (pendingSwitch d.chip t g).isSome || (d.chip.tile t).onGrove g (fun s => s == .resumable) then d
  else
    let d := (List.range 32).foldl (fun d i => if ((d.chip.grove t g).acc i).ownerValid then saveAcc t g i d else d) d
    d.on (fun c => c.modGrove t g (fun gr => { gr with forcedSave := false }))

end Sys2Proof.Machine
end

