-- ==== Sys2Proof/Machine/MemOps.lean ====
section
/-!
DEFINITION. Queue maintenance (R248, R249, R257, R258), the ports of the on-die memories (R274–R286), scrubbing and power (R287–R290), the
GDDR7 channels (R303–R318), and event delivery at the hub (R222–R225).
-/
namespace Sys2Proof.Machine

/-- A read's answer to its master: address, completion status, value. -/
def Chip.answer (c : Chip) (a st : Nat) (v : BitVec 64) : Chip := c.modHub (fun h => { h with reads := h.reads ++ [(a, st, v)] })

/-! ### Queues -/

/-- A fault strikes the `n`-th word of a list of queue words that stands in a register: its bits no longer fit their parity (R235). -/
def strikeWord : Nat → List QWord → List QWord × Nat
  | n, [] => ([], n)
  | n, w :: r =>
    if w.lvl.isMid then let p := strikeWord n r; (w :: p.1, p.2)
    else if n = 0 then ({ w with bad := true } :: r, r.length + 1000000)
    else let p := strikeWord (n - 1) r; (w :: p.1, p.2)

/-- A fault strikes the `k`-th register word of a queue; its next read finds it (R255). -/
def Queue.strike (Q : Queue) (k : Nat) : Queue :=
  let p := Q.items.foldl (fun (acc : List Item × Nat) i => let m := strikeWord acc.2 i.words; (acc.1 ++ [{ i with words := m.1 }], m.2)) ([], k)
  let r := Q.asms.foldl (fun (acc : List Assembly × Nat) a => let m := strikeWord acc.2 a.words; (acc.1 ++ [{ a with words := m.1 }], m.2)) ([], p.2)
  { Q with items := p.1, asms := r.1 }

/-- QUEUE_SPILL (R245, R255): a full tail spills one block. `bad` names a word in the queue's registers that a fault has struck since the last
happening; one in the tail is found by the spill, one in the head by its delivery. -/
def queueSpill (q : Nat) (bad : Option Nat) (d : Dev) : Dev :=
  ((match bad with
    | none => d
    | some k => d.on (fun c => c.modQueue q (fun Q => Q.strike k))).spillTail q).1

/-- A pop by a register read (R249, R269): the word is answered, or the read waits for the next refill. -/
def popRead (q : Nat) (d : Dev) : Dev :=
  let a := Reg.addr .quePop (qsite q) (q % 4096)
  match d.popNext q with
  | some (v, d) => d.on (fun c => c.answer a 0 v)
  | none => d.on (fun c => c.modQueue q (fun Q => { Q with popWait := Q.popWait + 1 }))

/-- Serve the pops that wait, oldest first (R249), behind a read that has begun. -/
def servePops (q : Nat) : Nat → Dev → Dev
  | 0, d => d
  | n + 1, d =>
    if (d.chip.queue q).popWait = 0 || (d.chip.partLive q).isSome then d
    else match d.pop q with
      | some (v, d) =>
        servePops q n (d.on (fun c =>
          (c.modQueue q (fun Q => { Q with popWait := Q.popWait - 1 })).answer (Reg.addr .quePop (qsite q) (q % 4096)) 0 v))
      | none => d

/-- Go on with a read of `n` words by its owner (R249, R393, R511): whether it is complete, the words so far, and the device, in which an incomplete
read keeps its words and its turn. A read behind another one or behind waiting pops has no words yet. -/
def collect (q : Nat) (host : Bool) (who tag n : Nat) (d0 : Dev) : Bool × List (BitVec 64) × Dev :=
  let d := if (d0.chip.partLive q).isNone then servePops q 64 d0 else d0
  let go (ws : List (BitVec 64)) : Bool × List (BitVec 64) × Dev :=
    let r := popSome q (n - ws.length) d
    let all := ws ++ r.1
    if n ≤ all.length || fld (r.1.getLastD 0#64) 37 1 == 1 then
      (true, all, servePops q 64 (r.2.on (fun c => c.modQueue q (fun Q => { Q with part := none }))))
    else (false, all, r.2.on (fun c => c.modQueue q (fun Q => { Q with part := some { host := host, who := who, tag := tag, words := all } })))
  match d.chip.partLive q with
  | some x => if x.host == host && x.who == who && x.tag == tag then go x.words else (false, [], d)
  | none => if (d.chip.queue q).popWait = 0 then go [] else (false, [], d)

/-- The oldest block of the middle goes through its code on its way to the head: what row `row` of it shows, and the words that this read finds bad
(R255, R286, R310). -/
def refillCode (q row : Nat) (e : Ecc) (d : Dev) : Dev :=
  match (d.chip.queue q).oldestMid with
  | none => d
  | some l =>
    let at_ : Level := match l.block with
      | some (true, b) => .pool (16 * b + 2 * (row % 8))
      | some (false, b) => .gd7 (16 * b + 2 * (row % 8))
      | none => l
    let d' := d.lvlEcc (q / 4096) at_ e
    let n := (((d.chip.queue q).blockWords l).filter (fun w => !(TWord.isPoison (d.qword q w)) && TWord.isPoison (d'.qword q w))).length
    d'.on (fun c => c.shiftQueue q (fun Q => { Q with found := Q.found + n }))

/-- QUEUE_REFILL_LAND (R246, R249, R255); row `row` of the block comes with an outcome of its code. -/
def refillLand (q row : Nat) (e : Ecc) (d : Dev) : Dev := servePops q 64 ((refillCode q row e d).refill q)

/-- A quiet read of QUE_POP_l (R249, R259): the front word or the glade word, nothing removed; `none` while it must wait. -/
def popQuiet (q : Nat) (d : Dev) : Option (BitVec 64) :=
  if d.chip.qmode q != 3 then some 0#64 else if (d.chip.queue q).err then none else (d.chip.queue q).popPeek

/-- Descriptors of the device that hold an item of a queue: tile and number. -/
def itemHolders (c : Chip) (q seq : Nat) : List (Nat × Nat) :=
  (List.range 4).flatMap (fun t => ((c.tile t).descs.filter (fun p => p.2.itemV && p.2.queue == q && p.2.itemSeq == seq && p.2.state != .free)).map (fun p => (t, p.1)))

/-- A flush takes effect (R257, R258): unheld items and all open assemblies are discarded, their tasks cancelled and the scheduler's notices that wait for a
descriptor withdrawn; the stop of an uncorrectable item-table entry ends (R256). -/
def flushNow (q : Nat) (c : Chip) : Chip :=
  let Q := c.queue q
  let front := Q.front?
  let reading (i : Item) : Bool := (c.partLive q).any (fun x => !x.words.isEmpty) && front == some i
  let held (i : Item) : Bool := i.sending || reading i || (itemHolders c q i.seq).any (fun p =>
    match (c.desc p.1 p.2).state with
    | .placed | .running | .suspended | .resumable => true
    | _ => false)
  let gone := Q.items.filter (fun i => !i.gone && !(held i))
  let lost := Q.asms
  let freed := (gone.flatMap (fun i => i.words) ++ lost.flatMap (fun a => a.words)).map (fun w => w.lvl)
  let victims := gone.flatMap (fun i => itemHolders c q i.seq)
  let drops := (lost.filter (fun a => !a.closed)).filterMap (fun a => match a.prod with
    | .grove _ _ => none
    | p => some p)
  let c' := c.shiftQueue q (fun Q => ({ Q with
    items := Q.items.filter (fun i => i.gone || held i)
    asms := []
    err := false
    busy := !(poolBlocks freed).isEmpty || !(gd7Blocks freed).isEmpty
    freeing := freed.filter Level.isMid
    dropping := Q.dropping ++ drops } : Queue).reap)
  let c' := c'.setRf .queCtl (qsite q) (q % 4096) 16 16 (min 65535 gone.length)
  let c' := (List.range 4).foldl (fun c t => c.modTile t (fun ti =>
    { ti with notices := ti.notices.filter (fun n => !(n.queue == q && gone.any (fun i => i.seq == n.seq))) })) c'
  victims.foldl (fun c p => cancelTask p.1 p.2 c) c'

/-- QUEUE_FLUSH (R257): one written while an earlier flush completes waits for it. -/
def queueFlush (q : Nat) (c : Chip) : Chip := if (c.queue q).busy then c.modQueue q (fun Q => { Q with flushWait := true }) else flushNow q c

/-- FLUSH_BLOCK_RETURN (R257): the blocks freed by a flush are back and busy clears; a flush that waited takes effect. -/
def flushReturn (q : Nat) (c : Chip) : Chip :=
  let c' := c.modQueue q (fun Q => { Q with busy := false, freeing := [], flushWait := false })
  if (c.queue q).flushWait then flushNow q c' else c'

/-- QUEUE_STALL_LIMIT (R248): a producer has waited beyond the limit: stall is set and QUE_STALL raised once per episode. -/
def stallLimit (q : Nat) (c : Chip) : Chip :=
  let Q := c.queue q
  if Q.waiting.isEmpty || Q.stall then c else raise (.tile (q / 4096) 19) q (c.modQueue q (fun Q => { Q with stall := true }))

/-- An uncorrectable item-table entry stops its queue (R256). -/
def itemTableUe (q : Nat) (c : Chip) : Chip := raise (.tile (q / 4096) 20) q (c.modQueue q (fun Q => { Q with err := true }))

/-! ### Memory accesses from the network and by block (R276, R280–R286, R290, R311, R314) -/

/-- A naturally aligned offset (R276). -/
def alignTo (wide : Bool) (o : Nat) : Nat := if wide then o - o % 8 else o - o % 4

/-- The outcome of an access: served with a status and two words, or left waiting. -/
structure AccessOut where
  st : Nat := 0
  lo : TWord := 0#35
  hi : TWord := 0#35
  waits : Bool := false
  deriving DecidableEq, Repr

/-- The value of one or two words. -/
def wval (wide : Bool) (lo hi : TWord) : Nat := (TWord.data lo).toNat + (if wide then 2 ^ 32 * (TWord.data hi).toNat else 0)

/-- Read one or two words at an aligned address. -/
def Dev.rdW (d : Dev) (a : Nat) (wide : Bool) : TWord × TWord := (d.rd32 a, if wide then d.rd32 (a + 4) else 0#35)

/-- Write one or two words at an aligned address. -/
def Dev.wrW (d : Dev) (a : Nat) (wide : Bool) (lo hi : TWord) : Dev := if wide then d.wrRow a lo hi else d.wr32 a lo

/-- The two words of a number. -/
def wsplit (wide : Bool) (n : Nat) : TWord × TWord := (tword (BitVec.ofNat 32 n), if wide then tword (BitVec.ofNat 32 (n / 2 ^ 32)) else 0#35)

/-- Serve an access at an address whose row or block has been through its code (R281–R285). `poisonCnt` counts a write stored poisoned and
`ueCnt` a failed atomic. -/
def serveAccess (a : Nat) (op : MemOp) (wide : Bool) (lo hi : TWord) (poisonCnt ueCnt : Chip → Chip) (d : Dev) : AccessOut × Dev :=
  let a := a - a % (if wide then 8 else 4)
  let bad := TWord.bad lo || (wide && TWord.bad hi)
  let psn := TWord.isPoison lo || (wide && TWord.isPoison hi)
  let old := d.rdW a wide
  let oldP := TWord.isPoison old.1 || (wide && TWord.isPoison old.2)
  match op with
  | .read => ({ lo := old.1, hi := old.2 }, d)
  | .write => if bad then ({}, (d.poison a).on poisonCnt) else ({}, d.wrW a wide lo hi)
  | .fadd =>
    if bad then ({ st := 8 }, d.on ueCnt)
    else if psn || oldP then ({ lo := old.1, hi := old.2 }, d.poison a)
    else let s := wsplit wide (wval wide old.1 old.2 + wval wide lo hi); ({ lo := old.1, hi := old.2 }, d.wrW a wide s.1 s.2)
  | .swap =>
    if bad then ({ st := 8 }, d.on ueCnt)
    else if psn || oldP then ({ lo := old.1, hi := old.2 }, d.poison a)
    else ({ lo := old.1, hi := old.2 }, d.wrW a wide lo hi)

/-- A written word merged with what its place holds, by its byte enables; a word that fails its residue check stays as it came (R284, R395). -/
def mergeWord (be : Nat) (old new : TWord) : TWord :=
  if be = 15 || TWord.bad new then new
  else
    let mask : Word := BitVec.ofNat 32 ((List.range 4).foldl (fun n i => n + (if bitOf be i then 255 * 2 ^ (8 * i) else 0)) 0)
    twordP (TWord.isPoison new) ((TWord.data new &&& mask) ||| (TWord.data old &&& ~~~mask))

/-- A write of an access with byte enables: the words it touches, merged with what the row holds (R276, R284). -/
def Dev.wrEn (d : Dev) (a be : Nat) (lo hi : TWord) : Dev :=
  let one (a be : Nat) (w : TWord) (d : Dev) : Dev := if be = 0 then d else d.wr32 a (mergeWord be (d.rd32 a) w)
  one (a + 4) (be / 16 % 16) hi (one a (be % 16) lo d)

/-- An access of the network to a scratchpad through port B, without a collision (R276, R284, R290). -/
def spadAccess (t g : Nat) (p : PortB) (ecc : Ecc) (d : Dev) : AccessOut × Dev :=
  let off := p.addr
  let all := if p.wide then 255 else 15
  let whole := p.wide && p.be % 256 == 255
  if (d.chip.spPwr t g off).dead then ({ st := 1 }, d)
  else
    let s : Site := .grove t g
    let d := d.on (fun c => c.spWake t g off)
    let d := if p.op = .write && whole then d else d.spmEcc t g off ecc 1
    if sumBad ecc && p.op == .fadd then ({ st := 8 }, d.on (fun c => c.bump .spmUeCnt s))
    else if p.op = .write && p.be % (all + 1) != all && !(TWord.bad p.lo) && !(p.wide && TWord.bad p.hi) then
      ({}, d.wrEn (spBase t g + off) (p.be % (all + 1)) p.lo p.hi)
    else serveAccess (spBase t g + off) p.op p.wide p.lo p.hi (fun c => c.bump .spmPoisonCnt s) (fun c => c.bump .spmUeCnt s) d

/-- An access to tile memory (R280, R284, R290). -/
def tmemAccess (t off : Nat) (who : TmbReq) (op : MemOp) (wide : Bool) (lo hi : TWord) (ecc : Ecc) (d : Dev) : AccessOut × Dev :=
  let s : Site := .tile t
  if (d.chip.tmPwr t off).dead then
    if who = .network then ({ st := 1 }, d)
    else ({ lo := poisoned 0#32, hi := poisoned 0#32 }, d.on (fun c => raise (.tile t 25) (c.tmBlock t off) (c.bump .tmbUeCnt s)))
  else
    let d := d.on (fun c => c.tmWake t off)
    let d := if op = .write && wide then d else d.tmbEcc t off ecc (match who with
      | .queue => 0
      | .context => 1
      | .network => 2)
    if sumBad ecc && op == .fadd then ({ st := 8 }, d.on (fun c => c.bump .tmbUeCnt s))
    else serveAccess (tmBase t + off) op wide lo hi (if who = .network then fun c => c.bump .tmbPoisonCnt s else id) (fun c => c.bump .tmbUeCnt s) d

/-- Change a GDDR7 channel. -/
def Chip.modChan (c : Chip) (t i : Nat) (f : Chan → Chan) : Chip := c.modTile t (fun ti => { ti with chans := kmod {} ti.chans i f })

/-- A GDDR7 channel. -/
def Chip.chan (c : Chip) (t i : Nat) : Chan := kget {} (c.tile t).chans i

/-- An access goes through the check-block cache of its channel (R311): the segment's check block is in it from then on, dirty after a write; of 65 the one used
longest ago is written back. DESIGN CHOICE (log 124): the spec names no replacement rule. -/
def Chan.touch (x : Chan) (seg : Nat) (wr : Bool) : Chan :=
  let old := x.checks.find? (fun e => e.1 == seg)
  { x with checks := ((seg, wr || (old.map (fun e => e.2)).getD false) :: x.checks.filter (fun e => e.1 != seg)).take 64 }

/-- One more transaction of a channel is outstanding until its transfer is done (R303). -/
def gddrIssue (o : Nat) (wr : Bool) (c : Chip) : Chip :=
  let ch := gdChan o
  c.modChan ch.1 ch.2 (fun x => if x.state = .ready then { x.touch (gdPlace o).seg wr with outst := x.outst + 1 } else x)

/-- An access of the network to GDDR7 (R310, R311, R314, R315): a channel that is down refuses it; one that is not ready lets it wait. -/
def gddrAccess (o : Nat) (op : MemOp) (wide : Bool) (lo hi : TWord) (ecc : Ecc) (d : Dev) : AccessOut × Dev :=
  let ch := gdChan o
  let s : Site := .tile ch.1
  match (d.chip.chan ch.1 ch.2).state with
  | .down => ({ st := 3 }, d)
  | .ready =>
    let d := (d.on (fun c => c.modChan ch.1 ch.2 (fun x => { x with pdown := false }))).gd7Ecc o ecc 2
    if sumBad ecc && op == .fadd then ({ st := 8 }, d.on (fun c => c.bump .gd7UeCnt s))
    else serveAccess (gdBase + o) op wide lo hi id (fun c => c.bump .gd7UeCnt s) d
  | _ => ({ waits := true }, d)

/-! ### Port B of a scratchpad (R276–R278) -/

/-- The words that an access touches, as word numbers of the scratchpad. -/
def wordsOf (addr : Nat) (wide : Bool) : List Nat := if wide then [addr / 8 * 2, addr / 8 * 2 + 1] else [addr / 4]

/-- Replace the data that port A returns for reads of a word in this cycle by a free word with a consistent residue (R278). -/
def undefRead (t g : Nat) (cells : List Nat) (d : Dev) : Dev :=
  d.on (fun c =>
    let w := tword (Config.freeWord c.fresh)
    { (c.modGrove t g (fun gr => { gr with inflight := gr.inflight.map (fun f =>
        if cells.contains f.cell && f.opcode == 0 && f.due == gr.cycle + 1 then
          match f.eff with
          | .out _ m wb fl fm => { f with eff := .out w m wb fl fm }
          | .reg i _ => { f with eff := .reg i w }
          | _ => f
        else f) })) with fresh := c.fresh + 1 })

/-- One try of a port-B access in this cycle (R277, R278): what it answers, and whether it met BUSY_B and must be repeated. -/
def portBTry (t g : Nat) (p : PortB) (ecc : Ecc) (d0 : Dev) : AccessOut × Bool × Dev :=
  let d := d0.on (fun c => c.see { kind := 1, die := t, g := g, wr := p.op != .read, addr := p.addr, data := TWord.data (if p.op = .read then d0.rd32 (spBase t g + p.addr) else p.lo) })
  let gr := d.chip.grove t g
  let d := d.on (fun c => c.modGrove t g (fun gr => { gr with portBAt := some gr.cycle }))
  let hits := if gr.halted then [] else gr.accA.filter (fun x => (wordsOf p.addr p.wide).contains x.1)
  let aW := hits.any (fun x => x.2.1)
  let bW := p.op != .read
  let coll := !hits.isEmpty && (aW || bW)
  if !coll then
    let r := spadAccess t g p ecc d
    (r.1, false, r.2)
  else
    let d := d.on (fun c => raise (.grove t g 5) (spBank p.addr) (c.bump .spmCollideCnt (.grove t g)))
    if aW then ({}, true, d)
    else
      let r := spadAccess t g p ecc d
      let d := undefRead t g (hits.map (fun x => x.2.2)) r.2
      (r.1, p.op == .write, d)

/-- Note the outcome of a port-B access: BUSY_B keeps it for its repeat; else its answer goes to its master. -/
def portBDone (t g : Nat) (p : PortB) (r : AccessOut × Bool × Dev) : Dev :=
  if r.2.1 then r.2.2.on (fun c => c.modGrove t g (fun gr => { gr with portB := gr.portB ++ [{ p with tries := p.tries + 1 }] }))
  else if p.op = .write && r.1.st == 0 then r.2.2
  else
    let d := if r.1.st = 1 then r.2.2.on (fun c => raise (.hub 6) p.src (c.bump .fabUnmappedCnt .hub)) else r.2.2
    d.on (fun c => c.answer (spBase t g + p.addr) r.1.st ((TWord.data r.1.hi) ++ (TWord.data r.1.lo)))

/-- PORT_B_REPEAT (R277): the access that met BUSY_B is repeated in the next cycle; after 16 cycles of BUSY_B it goes ahead of port A, whose access to that
bank stalls. -/
def portBRepeat (t g : Nat) (ecc : Ecc) (d : Dev) : Dev :=
  match (d.chip.grove t g).portB with
  | [] => d
  | p :: r =>
    let d := tickTile t (d.on (fun c => c.modGrove t g (fun gr => { gr with portB := r, bFirst := if 16 ≤ p.tries then some (spBank p.addr) else none })))
    portBDone t g p (portBTry t g p ecc d)

/-- The accesses that met BUSY_B are repeated ahead of any other use of port B (R276). -/
def portBRepeats (t g : Nat) : Nat → Dev → Dev
  | 0, d => d
  | n + 1, d => if (d.chip.grove t g).portB.isEmpty then d else portBRepeats t g n (portBRepeat t g .ok d)

/-- Port B becomes free for a new access (R276): the accesses that met BUSY_B are repeated first, and it carries one access a cycle. -/
def portBFree (t g : Nat) (d : Dev) : Dev :=
  let d := portBRepeats t g 40 d
  let gr := d.chip.grove t g
  if gr.portBAt == some gr.cycle && !gr.halted then tickTile t d else d

/-- PORT_B_ACCESS (R276, R278): one naturally aligned access of 4 or 8 bytes from the network, a write with byte enables. -/
def portBAccess (t g src addr : Nat) (op : MemOp) (wide : Bool) (be : Nat) (lo hi : TWord) (ecc : Ecc) (d : Dev) : Dev :=
  let p : PortB := { op := op, addr := addr - addr % (if wide then 8 else 4), wide := wide, lo := lo, hi := hi, tries := 0, src := src, be := be }
  let d := portBFree t g d
  if !(d.chip.grove t g).portB.isEmpty || d.chip.copying t g then d else portBDone t g p (portBTry t g p ecc d)

/-- The place of a requester of a tile-memory block in its round (R280). -/
def tmbCode : TmbReq → Nat
  | .queue => 0
  | .context => 1
  | .network => 2

/-- One access that a tile-memory block serves (R280), noted as the last of its round; a read or an atomic operation answers. -/
def tmbServe (t src : Nat) (a : TmbAcc) (d : Dev) : Dev :=
  let off := alignTo a.wide a.off.toNat
  let d := d.on (fun c => c.modTile t (fun ti => { ti with tmbLast := kset ti.tmbLast (c.tmBlock t off) (tmbCode a.who) }))
  let r := tmemAccess t off a.who a.op a.wide a.lo a.hi a.ecc d
  if a.op = .write && r.1.st == 0 then r.2
  else
    let d := if r.1.st = 1 then r.2.on (fun c => raise (.hub 6) src (c.bump .fabUnmappedCnt .hub)) else r.2
    d.on (fun c => c.answer (tmBase t + off) r.1.st ((TWord.data r.1.hi) ++ (TWord.data r.1.lo)))

/-- TMB_ACCESS (R280): the block serves the accesses that wait for it round-robin, each requester's in their order, from the requester after the one it
served last. -/
def tmbAccess (t src : Nat) (a : TmbAcc) (others : List TmbAcc) (d : Dev) : Dev :=
  let last := kget 2 (d.chip.tile t).tmbLast (d.chip.tmBlock t (alignTo a.wide a.off.toNat))
  let of (k : Nat) : List TmbAcc := (a :: others).filter (fun x => tmbCode x.who == (last + 1 + k) % 3)
  let rec go : Nat → List TmbAcc → List TmbAcc → List TmbAcc → Dev → Dev
    | 0, _, _, _, d => d
    | n + 1, x, y, z, d =>
      match x with
      | p :: x' => go n y z x' (tmbServe t src p d)
      | [] => if y.isEmpty && z.isEmpty then d else go n y z [] d
  go (3 * (others.length + 1)) (of 0) (of 1) (of 2) d

/-! ### Write-back and scrubbing (R286, R287, R318) -/

/-- ECC_WRITEBACK (R286): the corrected row leaves the write-back entry. -/
def eccWriteback (u : MemUnit) (c : Chip) : Chip :=
  match u with
  | .bank t g b => c.modGrove t g (fun gr => { gr with spmWb := kdel gr.spmWb b })
  | .block t b => c.modTile t (fun ti => { ti with tmbWb := kdel ti.tmbWb b })

/-- A pass of a scrubber has ended when its position wraps: the 16-bit count of passes advances (R294). -/
def scrubPass (r : Reg) (s : Site) (wrapped : Bool) (c : Chip) : Chip :=
  if wrapped then c.setRf r s 0 32 16 (c.rf r s 0 32 16 + 1) else c

/-- SPM_SCRUB_ROW (R287). -/
def spmScrubRow (t g : Nat) (ecc : Ecc) (d : Dev) : Dev :=
  let s : Site := .grove t g
  if !(d.chip.rbit .spmScrub s 0 16) then d
  else
    let d := portBFree t g d
    let pos := (d.chip.grove t g).spmPos % 16384
    let a := pos % 2048 * 64 + pos / 2048 * 8
    let d := if d.chip.spPwr t g a = .on then d.spmEcc t g a ecc 2 else d
    d.on (fun c => scrubPass .spmScrub s (pos == 16383) (c.modGrove t g (fun gr => { gr with spmPos := (pos + 1) % 16384 })))

/-- TMB_SCRUB_ROW (R287). -/
def tmbScrubRow (t : Nat) (ecc : Ecc) (d : Dev) : Dev :=
  let s : Site := .tile t
  if !(d.chip.rbit .tmbScrub s 0 16) then d
  else
    let pos := (d.chip.tile t).tmbPos % 4194304
    let a := d.chip.tmOffset t (pos / 65536) (pos % 65536)
    let d := if d.chip.tmPwr t a = .on then d.tmbEcc t a ecc 3 else d
    d.on (fun c => scrubPass .tmbScrub s (pos == 4194303) (c.modTile t (fun ti => { ti with tmbPos := (pos + 1) % 4194304 })))

/-- The GDDR7 window offset of channel-local block b of local channel i of a tile (R305). -/
def gdOffset (t i b : Nat) : Nat :=
  let B := b * 32
  let low := (8 * t + i) ^^^ (B / 2 ^ 8 % 32) ^^^ (B / 2 ^ 16 % 32) ^^^ (B / 2 ^ 24 % 32)
  64 * (B + low % 32)

/-- GD7_SCRUB_BLOCK (R318). -/
def gd7ScrubBlock (t : Nat) (ecc : Ecc) (d : Dev) : Dev :=
  let s : Site := .tile t
  if !(d.chip.rbit .gd7Scrub s 0 16) then d
  else
    let nb := d.chip.gdCap / 2048
    let pos := (d.chip.tile t).gd7Pos % (8 * nb)
    let i := pos / nb
    let d := if (d.chip.chan t i).state = .ready then d.gd7Ecc (gdOffset t i (pos % nb)) ecc 3 else d
    d.on (fun c => scrubPass .gd7Scrub s (pos + 1 == 8 * nb) (c.modTile t (fun ti => { ti with gd7Pos := (pos + 1) % (8 * nb) })))

/-! ### Power of the on-die memories (R288–R290) -/

/-- SPM_PWR_WRITE (R289, R290, R293). -/
def spmPwrWrite (t g : Nat) (v : BitVec 64) (c : Chip) : Chip :=
  let s : Site := .grove t g
  let c := (List.range 8).foldl (fun c b => if fld v (2 * b) 2 = 3 then c else c.setRf .spmPwr s 0 (2 * b) 2 (fld v (2 * b) 2)) c
  let c := c.modGrove t g (fun gr => { gr with spmWoken := gr.spmWoken.filter (fun b => fld v (2 * b) 2 == 3) })
  let c := c.setRf .spmPwr s 0 33 1 (fld v 33 1)
  let c := if 8 ≤ fld v 35 5 ∧ fld v 35 5 ≤ 24 then c.setRf .spmPwr s 0 35 5 (fld v 35 5) else c
  spmApply t g c

/-- TMB_PWR_WRITE (R288, R290, R299) of TMB_PWR_i. -/
def tmbPwrWrite (t i : Nat) (v : BitVec 64) (c : Chip) : Chip :=
  let s : Site := .tile t
  (List.range 32).foldl (fun c j =>
    let r := fld v (2 * j) 2
    if r = 3 then c
    else
      let c := c.setRf .tmbPwr s i (2 * j) 2 r
      let next (m : KMap MemPwr) : KMap MemPwr :=
        match r, kget .on m (32 * i + j) with
        | 2, _ => kset m (32 * i + j) .off
        | 0, .off => kset m (32 * i + j) .transition
        | 0, .retention => kset m (32 * i + j) .on
        | _, _ => m
      c.modTile t (fun ti => { ti with tmbPwr := next ti.tmbPwr, tmbWoken := ti.tmbWoken.filter (fun b => b != 32 * i + j) })) c

/-- MEM_RETENTION_ENTRY (R288): an idle bank or block enters retention when its request asks for it and no access has woken it since, or by the automatic
rule. -/
def retentionEntry (u : MemUnit) (c : Chip) : Chip :=
  match u with
  | .bank t g b =>
    let s : Site := .grove t g
    let req := c.rf .spmPwr s 0 (2 * b) 2
    if kget .on (c.grove t g).spmPwr b = .on ∧ ((req = 1 ∧ !((c.grove t g).spmWoken.contains b)) ∨ (c.rbit .spmPwr s 0 33 = true ∧ req ≠ 2)) then
      c.modGrove t g (fun gr => { gr with spmPwr := kset gr.spmPwr b .retention })
    else c
  | .block t b =>
    let s : Site := .tile t
    let req := c.rf .tmbPwr s (b / 32) (2 * (b % 32)) 2
    if kget .on (c.tile t).tmbPwr b = .on ∧ ((req = 1 ∧ !((c.tile t).tmbWoken.contains b)) ∨ (c.rbit .tmbCtl s 0 8 = true ∧ req ≠ 2)) then
      c.modTile t (fun ti => { ti with tmbPwr := kset ti.tmbPwr b .retention })
    else c

/-- Zero every row of a scratchpad bank. -/
def zeroBank (t g b : Nat) (d : Dev) : Dev :=
  { d with mem := d.mem.filter (fun c => !(decide (spBase t g ≤ c.1) && decide (c.1 < spBase t g + 131072) && spBank (c.1 - spBase t g) == b)) }

/-- Zero every row of a tile-memory block. -/
def zeroBlock (t b : Nat) (d : Dev) : Dev :=
  { d with mem := d.mem.filter (fun c => !(decide (tmBase t ≤ c.1) && decide (c.1 < tmBase t + 33554432) && d.chip.tmBlock t (c.1 - tmBase t) == b)) }

/-- MEM_POWER_TRANSITION_DONE (R288): the ramp after off ends with every row zero; a wake from retention ends; a held request is looked at
again. -/
def powerDone (u : MemUnit) (d : Dev) : Dev :=
  match u with
  | .bank t g b =>
    let d := d.on (spmApply t g)
    match kget .on (d.chip.grove t g).spmPwr b with
    | .transition => (zeroBank t g b d).on (fun c => c.modGrove t g (fun gr => { gr with spmPwr := kset gr.spmPwr b .on }))
    | .waking => d.on (fun c => spmApply t g (c.modGrove t g (fun gr => { gr with spmPwr := kset gr.spmPwr b .on })))
    | _ => d
  | .block t b =>
    match kget .on (d.chip.tile t).tmbPwr b with
    | .transition => (zeroBlock t b d).on (fun c => c.modTile t (fun ti => { ti with tmbPwr := kset ti.tmbPwr b .on }))
    | _ => d

/-- The state code of a power state (R293, R299). -/
def MemPwr.code : MemPwr → Nat
  | .on => 0
  | .retention => 1
  | .off => 2
  | .transition | .waking => 3

/-! ### GDDR7 channels (R312–R318) -/

/-- The level source GD7_TRAIN follows the channels of its tile (R315). -/
def gd7Level (t : Nat) (c : Chip) : Chip :=
  let mask := (List.range 8).foldl (fun m i => match (c.chan t i).state with
    | .untrained | .training | .zerofill | .down => m + 2 ^ i
    | _ => m) 0
  setLevel (.tile t 28) (mask != 0) mask c

/-- GD7_BRINGUP_DONE (R304, R315): the channel is ready, or down after three failures; the density read is kept. -/
def gd7BringupDone (t i : Nat) (ok : Bool) (density temp : Nat) (c : Chip) : Chip :=
  match (c.chan t i).state with
  | .untrained | .training | .zerofill | .selfRefresh =>
    gd7Level t (c.modChan t i (fun x => { x with state := if ok then .ready else .down, density := density % 4, temp := temp % 128 }))
  | _ => c

/-- Start a retraining of a channel; one that runs takes the request in (R316, R319). -/
def gd7Retrain (t i : Nat) (c : Chip) : Chip :=
  match (c.chan t i).state with
  | .ready | .down => gd7Level t ((c.modChan t i (fun x => { x with state := .retraining })).bump .gd7RetrainCnt (.tile t))
  | _ => c

/-- GD7_TRAIN_START (R316, R321): the write of start, with crc_thr and period. -/
def gd7TrainStart (t : Nat) (v : BitVec 64) (c : Chip) : Chip :=
  let c := (c.setRf .gd7TrainCtl (.tile t) 0 24 8 (fld v 24 8)).setRf .gd7TrainCtl (.tile t) 0 16 8 (fld v 16 8)
  (List.range 8).foldl (fun c i => if fld v i 1 = 1 then gd7Retrain t i c else c) c

/-- GD7_RETRAIN_PERIOD (R316, R321). -/
def gd7Period (t i : Nat) (c : Chip) : Chip :=
  if c.rf .gd7TrainCtl (.tile t) 0 16 8 = 0 ∨ (c.chan t i).state ≠ .ready then c
  else gd7Retrain t i (c.modChan t i (fun x => { x with crcInPeriod := 0 }))

/-- GD7_RETRAIN_DONE (R314, R316). -/
def gd7RetrainDone (t i : Nat) (ok : Bool) (c : Chip) : Chip :=
  match (c.chan t i).state with
  | .retraining => gd7Level t (c.modChan t i (fun x => { x with state := if ok then .ready else .down, crcInPeriod := 0 }))
  | _ => c

/-- GD7_TRANSFER_DONE (R312, R316, R319): a transfer of the block at a window offset ends after `crc` mismatches and `ode` reported on-die
corrections, with the outcome of its code. -/
def gd7TransferDone (o crc ode : Nat) (ecc : Ecc) (d : Dev) : Dev :=
  let ch := gdChan o
  let t := ch.1
  let s : Site := .tile t
  let d := d.on (fun c => ((c.bump .gd7CrcCnt s 0 crc).bump .gd7OdeCnt s 0 ode).modChan t ch.2 (fun x => { x with crcInPeriod := x.crcInPeriod + crc, pdown := false, outst := x.outst - 1 }))
  let was := (d.chip.chan t ch.2).state
  let thr := d.chip.rf .gd7TrainCtl s 0 24 8
  if 5 ≤ crc then
    let d := (d.poison (gdBase + o)).on (fun c => raise (.tile t 27) ch.2 (c.bump .gd7UeCnt s))
    if was = .retraining then d.on (fun c => gd7Level t (c.modChan t ch.2 (fun x => { x with state := .down }))) else d.on (gd7Retrain t ch.2)
  else
    let d := if 4 ≤ crc || (decide (0 < thr) && decide (thr ≤ (d.chip.chan t ch.2).crcInPeriod)) then d.on (gd7Retrain t ch.2) else d
    d.gd7Ecc o ecc 2

/-- GD7_POWER_DOWN (R317). -/
def gd7PowerDown (t i : Nat) (c : Chip) : Chip :=
  if c.rbit .gd7Ctl (.tile t) 0 9 && (c.chan t i).state == .ready then c.modChan t i (fun x => { x with pdown := true }) else c

/-- GD7_REFRESH (R302, R317): a bank of the channel is refreshed, every bank while it trains; a device that reports high temperature is refreshed twice as
often while hot_ref asks for it. No content changes. -/
def gd7Refresh (t i b : Nat) (hot : Bool) (c : Chip) : Chip :=
  let n := if hot && c.rbit .gd7Ctl (.tile t) 0 8 then 2 else 1
  c.modChan t i (fun x =>
    let banks := match x.state with
      | .training | .retraining => List.range 16
      | _ => [b]
    { x with refreshed := banks.foldl (fun m b => kmod 0 m b (fun k => k + n)) x.refreshed })

/-! ### Events at the hub (R222–R225) -/

/-- Deliver a change of pend that has reached the hub. -/
def deliverFlight (f : EvFlight) (c : Chip) : Chip :=
  if f.pend then
    let p := hubDeliver f.num f.info f.route c
    let c := if p.2.1 then raise (.hub 37) 0 p.1 else p.1
    if p.2.2 then c.bump .pciMsixDropCnt .hub else c
  else c.setRf .evtPendSum .hub (f.num / 64) (f.num % 64) 1 0

/-- EVENT_HUB_ARRIVAL (R223): the oldest change of a source on its way reaches the hub. -/
def hubArrival (num : Nat) (c : Chip) : Chip :=
  match c.evt.flight.find? (fun f => f.num == num) with
  | none => c
  | some f => deliverFlight f { c with evt := { c.evt with flight := c.evt.flight.erase f } }

/-- EVT_SRC_WRITE (R221, R226, R232): pend and lost are cleared by ones, the route is written; a level whose condition holds is raised again. -/
def evtSrcWrite (e : EvSrc) (v : BitVec 64) (c : Chip) : Chip :=
  let c := if fld v 62 1 = 1 then c.setEv e (setFld (c.ev e) 62 1 0) else c
  let c := if fld v 63 1 = 1 then clearPend e c else c
  let cur := c.ev e
  let wr (lo w : Nat) (x : BitVec 64) : BitVec 64 := setFld x lo w (fld v lo w)
  c.setEv e (wr 60 1 (wr 59 1 (wr 48 11 (wr 47 1 (wr 46 1 (wr 44 2 (wr 36 8 cur)))))))

/-- A read of EVT_FWQ (R224, R233): the oldest entry, removed unless the read is quiet. -/
def fwqRead (quiet : Bool) (c : Chip) : BitVec 64 × Chip :=
  match c.evt.fwq with
  | [] => (0#64, c)
  | (n, i) :: r =>
    let v := mkReg [(63, 1, 1), (32, 13, n), (0, 32, i.toNat)]
    if quiet then (v, c)
    else (v, { c with evt := { c.evt with fwq := r, fwqLost := false, irq := c.evt.irq && !r.isEmpty } })

/-- FWQ_HOLDOFF_EXPIRY (R224). -/
def fwqHoldoff (c : Chip) : Chip := if c.evt.fwq.isEmpty then c else { c with evt := { c.evt with irq := true } }

/-- VECTOR_HOLDOFF_EXPIRY (R225): the coalesced message of a vector falls due. -/
def vecHoldoff (v : Nat) (c : Chip) : Chip :=
  if c.rf .evtVec .hub v 0 8 = 0 then c
  else
    let p := msixDue (c.setRf .evtVec .hub v 0 8 0) v
    if p.2 then p.1.bump .pciMsixDropCnt .hub else p.1

end Sys2Proof.Machine
end

