-- ==== Sys2Proof/Machine/Forward.lean ====
section
/-!
DEFINITION. The tick and delay lists (R194, R195), the inter-tile forwarder (R192, R193), histograms and load windows (R206, R207), and the
seedbank (R355–R376).
-/
namespace Sys2Proof.Machine

/-! ### Tick and delay lists -/

/-- TICK (R194): the tick count advances by one. -/
def schTickOnce (t : Nat) (c : Chip) : Chip := c.setRf .schNow (.tile t) 0 0 32 (c.rf .schNow (.tile t) 0 0 32 + 1)

/-- DELAY_EXPIRY (R195): every task whose deadline equals the tick count, or that was inserted after its deadline, becomes due. -/
def delayExpiry (t : Nat) (c : Chip) : Chip :=
  let now := c.rf .schNow (.tile t) 0 0 32
  c.modTile t (fun ti => { ti with descs := ti.descs.map (fun p =>
    if p.2.state == .delayed && !(serialLater 32 p.2.deadline now) then (p.1, { p.2 with due := true }) else p) })

/-- Due tasks in the order of deadline, priority and posting (R195). -/
def dueOrder (ti : Tile) (now : Nat) : List Nat :=
  let age (d : Desc) : Nat := (now + 2 ^ 32 - d.deadline) % 2 ^ 32
  ((ti.descs.filter (fun p => p.2.state == .delayed && p.2.due && !p.2.marked)).mergeSort (fun a b =>
    decide (age b.2 < age a.2) || (age a.2 == age b.2 && (decide (a.2.prio < b.2.prio) || (a.2.prio == b.2.prio && decide (a.2.ord ≤ b.2.ord)))))).map (fun p => p.1)

/-- DUE_TASK_READY (R191, R195): up to four due tasks become ready in order; one that cannot enter the table or a full FIFO stays due. -/
def dueReady (t : Nat) (c : Chip) : Chip :=
  ((dueOrder (c.tile t) (c.rf .schNow (.tile t) 0 0 32)).foldl (fun (x : Chip × Nat) n =>
    if x.2 = 0 || ((x.1.tile t).fifoFull && !(entersNow x.1 t n)) then x else (postReady t n x.1, x.2 - 1)) (c, 4)).1

/-- SCH_TICK_WRITE (R194, R210): the period changes unless the value is out of range. -/
def schTickWrite (t : Nat) (v : BitVec 64) (c : Chip) : Chip :=
  if 20 ≤ fld v 0 20 ∧ fld v 0 20 ≤ 1000000 then c.setRf .schTick (.tile t) 0 0 20 (fld v 0 20) else c

/-- HISTOGRAM_CLEAR (R206, R215): clr zeroes histograms, ones in ovf clear sticky bits. -/
def histClear (t : Nat) (v : BitVec 64) (c : Chip) : Chip :=
  let c := c.setRf .schHistCtl (.tile t) 0 8 8 (c.rf .schHistCtl (.tile t) 0 8 8 &&& (255 - fld v 8 8))
  (List.range 8).foldl (fun c p => if fld v p 1 = 1 then (List.range 8).foldl (fun c j => c.setReg .schHist (.tile t) (8 * p + j) 0#64) c else c) c

/-- LOAD_WINDOW_END (R207): every SCH_GROVE_n receives load and disp. -/
def loadWindowEnd (t : Nat) (c : Chip) : Chip :=
  let w := 2 ^ c.rf .schLoadCtl (.tile t) 0 0 5
  let c := allGroves.foldl (fun c g =>
    let gr := c.grove t g
    (c.setRf .schGrove (.tile t) g 16 16 (min 65535 (65536 * gr.busyCnt / w))).setRf .schGrove (.tile t) g 0 16 (min 65535 gr.dispCnt)) c
  (c.tileGroves t).foldl (fun c g => c.modGrove t g (fun gr => { gr with busyCnt := 0, dispCnt := 0 })) (c.modTile t (fun ti => { ti with loadCycles := 0 }))

/-! ### The inter-tile flow-lock forwarder -/

/-- Change or remove the entry of a flow. -/
def xput (l : List XEntry) (f : Flow) (e : Option XEntry) : List XEntry :=
  l.filter (fun x => x.flow != f) ++ (match e with
    | some e => [e]
    | none => [])

/-- Grant a free entry to the first tile that waits (R192); nothing is granted until every tile has re-announced (R193). -/
def xgrantNext (f : Flow) (c : Chip) : Chip :=
  if !c.hub.xreann.isEmpty then c
  else
    match c.hub.xlocks.find? (fun x => x.flow == f) with
    | none => c
    | some e =>
      match e.holder, e.queue with
      | none, t :: r => c.modHub (fun h => { h with xlocks := xput h.xlocks f (some { e with holder := some t, queue := r }), xgrants := h.xgrants ++ [(t, f)] })
      | none, [] => c.modHub (fun h => { h with xlocks := xput h.xlocks f none })
      | some _, _ => c

/-- A request reaches the forwarder (R192): a full set sends it to the FIFO; a full FIFO keeps the tile's request waiting. -/
def xrequest (t : Nat) (f : Flow) (c : Chip) : Chip × Bool :=
  match c.hub.xlocks.find? (fun x => x.flow == f) with
  | some e =>
    if e.holder = some t ∨ e.queue.contains t then (c, true)
    else (xgrantNext f (c.modHub (fun h => { h with xlocks := xput h.xlocks f (some { e with queue := e.queue ++ [t] }) })), true)
  | none =>
    if 8 ≤ (c.hub.xlocks.filter (fun x => x.flow.toNat % 2048 == f.toNat % 2048)).length then
      if 256 ≤ c.hub.xfifo.length then (c, false) else (c.modHub (fun h => { h with xfifo := h.xfifo ++ [(t, f)] }), true)
    else (xgrantNext f (c.modHub (fun h => { h with xlocks := h.xlocks ++ [{ flow := f, queue := [t] }] })), true)

/-- The first request of the FIFO whose set has room enters the table (R192). -/
def xdrain (c : Chip) : Chip :=
  match c.hub.xfifo with
  | [] => c
  | (t, f) :: r =>
    if 8 ≤ (c.hub.xlocks.filter (fun x => x.flow.toNat % 2048 == f.toNat % 2048)).length && !(c.hub.xlocks.any (fun x => x.flow == f)) then c
    else (xrequest t f (c.modHub (fun h => { h with xfifo := r }))).1

/-- Requests leave the FIFO in order while the set of the first has room (R192). -/
def xdrainAll : Nat → Chip → Chip
  | 0, c => c
  | n + 1, c => let c' := xdrain c; if c'.hub.xfifo.length = c.hub.xfifo.length then c' else xdrainAll n c'

/-- A release reaches the forwarder (R192). -/
def xrelease (t : Nat) (f : Flow) (c : Chip) : Chip :=
  match c.hub.xlocks.find? (fun x => x.flow == f) with
  | some e =>
    if e.holder = some t then xdrainAll 256 (xgrantNext f (c.modHub (fun h => { h with xlocks := xput h.xlocks f (some { e with holder := none }) }))) else c
  | none => c

/-- XLOCK_REQUEST (R192): the oldest request or release of a tile reaches the forwarder. -/
def xlockRequest (t : Nat) (c : Chip) : Chip :=
  match (c.tile t).xreq with
  | [] => c
  | (f, true) :: r =>
    let p := xrequest t f c
    if p.2 then p.1.modTile t (fun ti => { ti with xreq := r }) else c
  | (f, false) :: r => xrelease t f (c.modTile t (fun ti => { ti with xreq := r }))

/-- XLOCK_GRANT (R192): the oldest grant on its way to a tile arrives; with no task of the flow left there it is released again. -/
def xlockGrant (t : Nat) (c : Chip) : Chip :=
  match c.hub.xgrants.find? (fun x => x.1 == t) with
  | none => c
  | some x =>
    let c := c.modHub (fun h => { h with xgrants := h.xgrants.erase x })
    match (c.tile t).lockOf x.2, (c.tile t).anyTask x.2 (fun d => d.state.live && !d.marked) with
    | some _, true => c.modLock t x.2 (fun e => { e with xgrant := true, asked := false })
    | _, _ => (c.modLock t x.2 (fun e => { e with asked := false })).modTile t (fun ti => { ti with xreq := ti.xreq ++ [(x.2, false)] })

/-- XLOCK_ERROR (R193): the oldest exchange of a tile is sent again, with SCH_XLOCK_ERR. -/
def xlockError (t : Nat) (c : Chip) : Chip :=
  match (c.tile t).xreq with
  | [] => c
  | (f, _) :: _ => raise (.tile t 4) f.toNat c

/-- XLOCK_REANNOUNCE (R193): a tile re-announces its grants, then its pending requests in the order in which its tasks became READY; requests that find
the FIFO full are sent again. -/
def xlockReannounce (t : Nat) (c : Chip) : Chip :=
  if !(c.hub.xreann.contains t) then c
  else
    let held := ((c.tile t).locks.filter (fun p => p.2.xgrant)).map (fun p => p.2.flow)
    let c := held.foldl (fun c f => c.modHub (fun h =>
      let e := (h.xlocks.find? (fun x => x.flow == f)).getD { flow := f }
      { h with xlocks := xput h.xlocks f (some { e with holder := some t, queue := e.queue.filter (fun q => q != t) }) })) c
    let ti := c.tile t
    let want := ((ti.descs.filter (fun p => p.2.state == .ready && p.2.itemV && (match ti.lockOf p.2.flow with
      | some k => let e := kget { flow := p.2.flow } ti.locks k; e.xspan && !e.xgrant
      | none => false))).mergeSort (fun a b => decide (a.2.ord ≤ b.2.ord))).map (fun p => p.2.flow)
    let c := c.modTile t (fun ti => { ti with xreq := [] })
    let c := want.foldl (fun c f =>
      let r := xrequest t f c
      if r.2 then r.1 else c.modTile t (fun ti => { ti with xreq := ti.xreq ++ [(f, true)] })) c
    let c := c.modHub (fun h => { h with xreann := h.xreann.filter (fun x => x != t) })
    if c.hub.xreann.isEmpty then (c.hub.xlocks.map (fun e => e.flow)).foldl (fun c f => xgrantNext f c) c else c

/-- A TILE reset of t releases every grant it holds and removes its requests (R193). -/
def xtileReset (t : Nat) (c : Chip) : Chip :=
  let c := c.modHub (fun h => { h with
    xfifo := h.xfifo.filter (fun x => x.1 != t)
    xgrants := h.xgrants.filter (fun x => x.1 != t)
    xlocks := h.xlocks.map (fun e => { e with holder := if e.holder = some t then none else e.holder, queue := e.queue.filter (fun q => q != t) }) })
  xdrainAll 256 ((c.hub.xlocks.map (fun e => e.flow)).foldl (fun c f => xgrantNext f c) c)

/-! ### The seedbank -/

/-- A resident context of a grove selects an edge lane, toward or from it (R103, R360). -/
def Grove.usesEdge (gr : Grove) : Bool :=
  (List.range 8).any (fun s =>
    let x := gr.slot s
    (x.state != .empty && x.state != .loading) &&
    (let r := imgRoute x.img
     (List.range 16).any (fun n => (r.extractLsb' (8 * (4 * n + 1) + 4) 4) != 0) || (r.extractLsb' 576 256) != 0))

/-- A grove is drained: not busy and not reserved (R361). -/
def groveDrained (c : Chip) (t g : Nat) : Bool :=
  !(c.grove t g).occupied && !((c.tile t).onGrove g (fun s => s == .placed || s == .resumable)) && !(khas (c.tile t).rsv g)

/-- End a swap with a result (R373, R375); excl returns to its value before the swap. -/
def swapEnd (result : Nat) (c : Chip) : Chip :=
  match c.hub.swap with
  | none => c
  | some s =>
    let c := if s.shift then c else c.setRf .schGrove (.tile s.tile) (gidx s.col s.row) 63 1 (b2n s.excl)
    (c.setReg .sprSwapStat .hub 0 (mkReg [(56, 4, result)])).modHub (fun h => { h with swap := none })

/-- Record the phase of a swap. -/
def swapPhase (p : Nat) (c : Chip) : Chip :=
  (c.setReg .sprSwapStat .hub 0 (mkReg [(63, 1, 1), (60, 3, p), (56, 4, c.rf .sprSwapStat .hub 0 56 4)])).modHub (fun h =>
    { h with swap := h.swap.map (fun s => { s with phase := p }) })

/-- A failed check of prepare: the result is shown, nothing starts. -/
def swapRefuse (r : Nat) (c : Chip) : Chip := c.setReg .sprSwapStat .hub 0 (mkReg [(56, 4, r)])

/-- SWAP_DIRECT (R360, R361). -/
def swapDirect (t x y : Nat) (c : Chip) : Chip :=
  if c.hub.swap.isSome then c
  else if 12 ≤ x ∨ 12 ≤ y then swapRefuse 7 c
  else
    let g := gidx x y
    let m := c.reg .sprGmap .hub (12 * t + y)
    if fld m 4 2 ≠ 0 ∨ fld m 0 4 = 15 then swapRefuse 2 c
    else if (c.grove t g).usesEdge then swapRefuse 1 c
    else
      let ex := c.rbit .schGrove (.tile t) g 63
      let c := c.setRf .schGrove (.tile t) g 63 1 1
      swapPhase 1 (c.modHub (fun h => { h with swap := some ⟨1, false, t, x, y, ex⟩ }))

/-- The maintenance window of a row (R365). -/
def maintWindow (c : Chip) (t y : Nat) : Bool :=
  allGroves.all (fun g => !(decide (y ≤ g / 16 + 1) && decide (g / 16 ≤ y + 1)) || (c.rbit .schGrove (.tile t) g 63 && groveDrained c t g)) &&
  (List.range 64).all (fun ch => !(c.rbit .cfgCnpSrc (.tile t) ch 63 && c.rf .cfgCnpSrc (.tile t) ch 8 8 / 16 == y))

/-- SWAP_SHIFT (R360, R365). -/
def swapShift (t f y : Nat) (c : Chip) : Chip :=
  if c.hub.swap.isSome then c
  else if 12 ≤ f ∨ 12 ≤ y then swapRefuse 7 c
  else
    let m := c.reg .sprGmap .hub (12 * t + y)
    if (fld m 4 2 ≠ 0 ∧ ¬ (fld m 4 2 = 1 ∧ fld m 0 4 = f)) ∨ fld m 0 4 = 15 then swapRefuse 2 c
    else if !(maintWindow c t y) then swapRefuse 3 c
    else swapPhase 1 (c.modHub (fun h => { h with swap := some ⟨1, true, t, f, y, false⟩ }))

/-- SWAP_ABORT (R366): only in prepare or drain. -/
def swapAbort (c : Chip) : Chip :=
  match c.hub.swap with
  | some s => if s.phase ≤ 2 then swapEnd 4 c else c
  | none => c

/-- SWAP_PREPARE_DONE (R361, R366): the spare passes its test, or is recorded as failed. -/
def swapPrepareDone (ok : Bool) (c : Chip) : Chip :=
  match c.hub.swap with
  | some s =>
    if s.phase ≠ 1 then c
    else if ok then swapPhase 2 c
    else swapEnd 6 (c.setRf .sprGmap .hub (12 * s.tile + s.row) 0 4 15)
  | none => c

/-- SWAP_DRAIN_DONE (R361): the grove is drained and not halted; the copy starts. -/
def swapDrainDone (c : Chip) : Chip :=
  match c.hub.swap with
  | some s =>
    let ok := if s.shift then maintWindow c s.tile s.row else groveDrained c s.tile (gidx s.col s.row) && !(c.grove s.tile (gidx s.col s.row)).halted
    if s.phase = 2 ∧ ok then swapPhase 3 c else c
  | none => c

/-- The logical grove as its new physical grove holds it (R361, R362): READY slots, committed banks, scratchpad and controls are copied. -/
def moveGrove (t g : Nat) (c : Chip) : Chip :=
  let c := c.modGrove t g (fun gr =>
    let drop := (List.range 8).filter (fun s => (gr.slot s).state != .ready)
    let gr := drop.foldl (fun gr s => gr.emptySlot s) gr
    { gr with cells := [], windows := [], inflight := [], verdicts := [], pagein := none, edgeIn := [], latches := 0#1024, latchChk := [],
              banks := gr.banks.filter (fun p => match kfind? gr.alloc (p.1 / 64) with
                | some a => a.committed
                | none => false),
              lastSig := 0, mwrLog := [], spmWb := [], spmPos := 0, deferA := [] })
  let s : Site := .grove t g
  let clear (r : Reg) (c : Chip) : Chip := c.setReg r s 0 r.rst
  [Reg.seqCellMap, .seqCellChkCnt, .seqCellLast, .seqRouteCnt, .seqRouteLast, .seqTrapCnt, .seqTrapLast, .seqSpillCnt, .seqMwrErrCnt, .seqMwrLast,
   .seqMwrAddr, .spmCeCnt, .spmUeCnt, .spmCollideCnt, .spmPoisonCnt, .spmEccLast].foldl (fun c r => clear r c) c

/-- SWAP_COPY_DONE (R361, R365): the map changes in one cycle, SPR_SWAP is raised and the substitution counted. -/
def swapCopyDone (c : Chip) : Chip :=
  match c.hub.swap with
  | some s =>
    if s.phase ≠ 3 then c
    else
      let n := 12 * s.tile + s.row
      let g := gidx s.col s.row
      let wasDirect := c.rf .sprGmap .hub n 4 2 == 1
      let cols := if s.shift then (List.range 12).filter (fun x => decide (s.col ≤ x) && !(wasDirect && x == s.col)) else [s.col]
      let c := cols.foldl (fun c x => moveGrove s.tile (gidx x s.row) c) c
      let c := (c.setRf .sprGmap .hub n 4 2 (if s.shift then 2 else 1)).setRf .sprGmap .hub n 0 4 s.col
      let c := raise (.hub 35) (s.tile * 256 + g) c
      let loc := s.tile * 2 ^ 30 + g * 2 ^ 22 + s.col * 2 ^ 16
      swapEnd 0 ((c.bump .sprSwapCnt .hub).logRepair (if s.shift then 3 else 2) (Config.repairCause (if s.shift then 3 else 2) loc) loc)
  | none => c

/-- The key of a unit in the count of spare rows used. -/
def rowUnit (j : RowJob) : Nat := match j.kind with
  | 0 => ((j.tile * 256 + j.grove) * 8 + j.part) * 4
  | 1 => (j.tile * 64 + j.part) * 4 + 1
  | _ => j.tile * 4 + 2

/-- Spares of a unit (R355). -/
def rowSpares (kind : Nat) : Nat := match kind with
  | 0 => 8
  | 1 => 32
  | _ => 64

/-- A row target that exists (R375). -/
def rowValid (j : RowJob) : Bool := match j.kind with
  | 0 => gpop j.grove && decide (j.grove < 188) && decide (j.part < 8) && decide (j.row < 2048)
  | 1 => decide (j.part < 64)
  | 2 => decide (j.row < 4096)
  | _ => false

/-- SPR_ROW_CTL_GO (R366, R367): ignored while busy; refused for an invalid target; without effect when no spare remains. -/
def sprRowGo (v : BitVec 64) (c : Chip) : Chip :=
  if c.hub.rowJob.isSome then c
  else
    let j : RowJob := { kind := fld v 56 2, tile := fld v 54 2, grove := fld v 46 8, part := fld v 40 6, row := fld v 0 16 }
    let keep (busy res : Nat) : BitVec 64 := setFld (setFld (setFld (v &&& 0x03FFFF000000FFFF#64) 63 1 0) 62 1 busy) 58 4 res
    if fld v 63 1 = 0 then c.setReg .sprRowCtl .hub 0 (keep 0 (c.rf .sprRowCtl .hub 0 58 4))
    else if !(rowValid j) then c.setReg .sprRowCtl .hub 0 (keep 0 7)
    else if rowSpares j.kind ≤ kget 0 c.hub.rowUsed (rowUnit j) then c.setReg .sprRowCtl .hub 0 (keep 0 2)
    else (c.setReg .sprRowCtl .hub 0 (keep 1 0)).modHub (fun h => { h with rowJob := some j })

/-- ROW_SPARE_COPY (R367): the target copies the old row, corrected or poisoned, into the spare; a cache entry is invalidated. -/
def rowCopy (ecc : Ecc) (d : Dev) : Dev :=
  match d.chip.hub.rowJob with
  | none => d
  | some j =>
    let d := match j.kind with
      | 0 => d.spmEcc j.tile j.grove (j.row * 64 + j.part * 8) ecc 1
      | 1 => d.tmbEcc j.tile (d.chip.tmOffset j.tile j.part j.row) ecc 2
      | _ => d.on (fun c => c.modTile j.tile (fun ti => { ti with cache := kdel ti.cache j.row }))
    let loc := j.tile * 2 ^ 30 + (if j.kind = 0 then j.grove * 2 ^ 22 else 0) + (if j.kind ≤ 1 then j.part * 2 ^ 16 else 0) + j.row
    d.on (fun c => ((c.setRf .sprRowCtl .hub 0 62 1 0).modHub (fun h =>
      { h with rowJob := none, rowUsed := kmod 0 h.rowUsed (rowUnit j) (fun n => n + 1) })).logRepair (5 + j.kind) (Config.repairCause (5 + j.kind) loc) loc)

/-- The physical column that serves logical column `x` of the row whose map is SPR_GMAP_n (R360). -/
def Chip.physCol (c : Chip) (n x : Nat) : Nat :=
  let m := c.reg .sprGmap .hub n
  if fld m 4 2 = 1 ∧ fld m 0 4 = x then 12 else if fld m 4 2 = 2 ∧ fld m 0 4 ≤ x then x + 1 else x

/-- SPR_GMAP_WRITE (R364, R374): only while every grove of the row is excluded, idle and unreserved. -/
def sprGmapWrite (n : Nat) (v : BitVec 64) (c : Chip) : Chip :=
  let t := n / 12
  let y := n % 12
  if (List.range 12).all (fun x => c.rbit .schGrove (.tile t) (gidx x y) 63 && groveDrained c t (gidx x y)) then
    let x := fld v 8 4
    let loc := t * 2 ^ 30 + gidx x y * 2 ^ 22 + c.physCol n x * 2 ^ 16
    let c := if c.rf .sprGmap .hub n 8 4 ≠ x ∧ x < 12 then c.logRepair 4 (Config.repairCause 4 loc) loc else c
    ((c.setRf .sprGmap .hub n 8 4 x).setRf .sprGmap .hub n 4 2 (fld v 4 2)).setRf .sprGmap .hub n 0 4 (fld v 0 4)
  else c

/-- AGE_SAMPLE (R357): the slowdown of a physical grove; at the threshold over is set and SPR_WEAR raised once. -/
def ageSample (n slow : Nat) (c : Chip) : Chip :=
  let c := c.setRf .sprAge .hub n 0 16 slow
  if c.rf .sprAgeThr .hub 0 0 16 ≤ slow % 65536 ∧ ¬ c.rbit .sprAge .hub n 63 then raise (.hub 36) n (c.setRf .sprAge .hub n 63 1 1) else c

end Sys2Proof.Machine
end

