-- ==== Sys2Proof/Machine/Puhan.lean ====
section
/-!
DEFINITION. Puhan packets at the hub's ports (R378–R407): the CRC and its fold, the checks on arrival, violations and
quarantine, streams and their credit, queue transactions, notices and messages, drains.
-/
namespace Sys2Proof

/-- The payload with residues, 0b111 for each word the mask marks (R384). -/
def Packet.words (p : Packet) : List TWord :=
  p.payload.zipIdx.map (fun x => twordP (((p.mask.getD (x.2 / 32) 0#32).getLsbD (x.2 % 32))) x.1)

end Sys2Proof

namespace Sys2Proof.Machine

/-- The channel of a type (R386); `none` for a reserved code. -/
def typeVc (t : Nat) : Option Nat :=
  match t with
  | 0x01 | 0x02 | 0x03 => some 0
  | 0x08 | 0x09 | 0x0A | 0x0B => some 1
  | 0x10 | 0x11 => some 2
  | 0x18 | 0x19 | 0x1A | 0x1C | 0x1D => some 3
  | _ => none

/-- The four header words. -/
def hdrWords (h : BitVec 128) : List Word := (List.range 4).map (fun i => h.extractLsb' (32 * i) 32)

/-- The CRC of a packet under a fold of a sequence number and a destination (R385). -/
def packetCrc (h : BitVec 128) (payload mask : List Word) (seq vc dst : Nat) : Word :=
  let h := h &&& ~~~((255#128) <<< 48)
  let f : Word := BitVec.ofNat 32 ((seq % 65536) * 65536 + (vc % 4) * 4096 + dst % 4096)
  ((hdrWords h ++ payload ++ mask ++ [f]).foldl (fun c w => cvWord 0 c w) 0xFFFFFFFF#32) ^^^ 0xFFFFFFFF#32

/-- Bytes of a header from (lo, width, value) triples. -/
def mkHdr (l : List (Nat × Nat × Nat)) : BitVec 128 := l.foldl (fun h x => h ||| ((BitVec.ofNat 128 (x.2.2 % 2 ^ x.2.1)) <<< x.1)) 0#128

/-- The device's endpoint (R378). -/
def Chip.devId (c : Chip) : Nat := c.rf .fabCtl .hub 0 32 6

/-- The device has been assigned its number (R378). -/
def Chip.idValid (c : Chip) : Bool := c.rbit .fabCtl .hub 0 40

/-- The egress port and virtual link of an endpoint (R407). -/
def Chip.route (c : Chip) (ep : Nat) : Option (Nat × Nat) :=
  if c.rbit .fabEp .hub ep 63 then some (c.rf .fabEp .hub ep 8 3, c.rf .fabEp .hub ep 0 8) else none

/-- A port carries no traffic: it is down, or has not been trained. -/
def Chip.portDown (c : Chip) (p : Nat) : Bool :=
  let s := (c.link p).st
  s == .disabled || s == .training || s == .down

/-- A port is down, or its virtual link is quarantined. -/
def Chip.linkHeld (c : Chip) (port vl : Nat) : Bool := c.portDown port || c.rbit .fabVl .hub (256 * port + vl) 62

/-- Queue a packet for transmission on a port (R384, R385): the sequence number kept under `k` advances. -/
def sendFrom (src k port vl type tag len dst : Nat) (spec : List (Nat × Nat × Nat)) (ws : List TWord) (c : Chip) : Chip :=
  let vc := (typeVc type).getD 3
  let seq := kget 0 c.hub.txSeq k
  let psn := ws.any TWord.isPoison
  let mask : List Word := if psn then (List.range ((ws.length + 31) / 32)).map (fun j =>
      BitVec.ofNat 32 ((List.range 32).foldl (fun m i => m + b2n (TWord.isPoison (ws.getD (32 * j + i) 0#35)) * 2 ^ i) 0)) else []
  let h := mkHdr ([(0, 5, type), (5, 2, vc), (7, 1, b2n psn), (8, 12, dst), (20, 12, src), (32, 16, seq), (48, 8, vl), (56, 7, len), (64, 10, tag)] ++ spec)
  let data := ws.map TWord.data
  let p : Packet := { port := port, hdr := h, payload := data, mask := mask, crc := packetCrc h data mask seq vc dst }
  c.modHub (fun x => { x with txSeq := kset x.txSeq k ((seq + 1) % 65536), xtx := kmod [] x.xtx port (fun l => l ++ [p]) })

/-- Queue a packet from this device: sequence numbers are kept per destination and channel (R385). -/
def sendPacket (port vl type tag len dst : Nat) (spec : List (Nat × Nat × Nat)) (ws : List TWord) (c : Chip) : Chip :=
  sendFrom c.devId (dst * 4 + (typeVc type).getD 3) port vl type tag len dst spec ws c

/-- Queue a link-local message on a port (R439); its sequence is kept per port. -/
def sendLocal (port cls : Nat) (ws : List Word) (c : Chip) : Chip :=
  sendFrom 4095 (2 ^ 20 + port) port 0 0x1A 0 ws.length 4095 [(74, 8, cls)] (ws.map tword) c

/-- Answer the source of a packet, by the route to its endpoint, else by the link on which it came. -/
def answerTo (p : Packet) (type len : Nat) (spec : List (Nat × Nat × Nat)) (ws : List TWord) (c : Chip) : Chip :=
  let r := (c.route p.src).getD (p.port, p.vlink)
  sendPacket r.1 r.2 type p.tag len p.src spec ws c

/-- A completion without data (R397). -/
def complete (p : Packet) (status : Nat) (c : Chip) : Chip := answerTo p 0x10 0 [(74, 4, status)] [] c

/-! ### Discards of a stream's open item (R392) -/

/-- Discard the open item of a stream in a queue; its later words are dropped up to the end mark (R392). -/
def discardOpen (q src sid : Nat) (c : Chip) : Chip :=
  let pr : Producer := .stream src q sid
  match (c.queue q).asms.find? (fun a => a.prod == pr && !a.closed) with
  | none => c
  | some a => (c.dropAsm q a.id).modQueue q (fun Q => { Q with lost := Q.lost.filter (fun x => x != pr) ++ [pr] })

/-- Every queue in which a source has an open item. -/
def openOf (c : Chip) (p : Nat → Bool) : List (Nat × Nat × Nat) :=
  c.tiles.flatMap (fun t => t.2.queues.flatMap (fun q => q.2.asms.filterMap (fun a => match a.prod with
    | .stream s qn sid => if p s && !a.closed then some (qn, s, sid) else none
    | _ => none)))

/-- The epoch of an assembly slot (R391): after a TILE reset it starts from the low 4 bits of the tile's count of TILE resets (R555). -/
def Chip.epochOf (c : Chip) (q i : Nat) : Nat := kget (c.rf .rstTileCnt .hub 0 (16 * (q / 4096)) 4) (c.queue q).epochs i

/-- The epoch of a slot advances (R391). -/
def Chip.epochUp (c : Chip) (q i : Nat) : Chip := c.modQueue q (fun Q => { Q with epochs := kset Q.epochs i ((c.epochOf q i + 1) % 16) })

/-- Free a stream's slot: its reservation ends and the slot's epoch advances (R390, R391). -/
def freeSlot (q i : Nat) (c : Chip) : Chip :=
  match kfind? (c.queue q).streams i with
  | none => c
  | some s => (c.epochUp q i).modQueue q (fun Q => { Q with
      streams := kset Q.streams i { s with bal := 0, live := false }
      reserved := Q.reserved - s.bal })

/-- Live slots of a queue whose stream satisfies a condition. -/
def liveSlots (Q : Queue) (p : StreamSlot → Bool) : List Nat := (Q.streams.filter (fun x => x.2.live && p x.2)).map (fun x => x.1)

/-! ### Violations and quarantine (R402, R403) -/

/-- A virtual link enters quarantine (R403): its streams lose their credit and their open items. -/
def quarantine (n : Nat) (c : Chip) : Chip :=
  let ep := c.rf .fabVl .hub n 28 12
  let c := raise (.hub 8) ((n / 256) * 256 + n % 256) (c.setRf .fabVl .hub n 62 1 1)
  let c := (openOf c (fun s => s == ep)).foldl (fun c x => discardOpen x.1 x.2.1 x.2.2 c) c
  c.tiles.foldl (fun c' t => t.2.queues.foldl (fun c' q =>
    (liveSlots q.2 (fun s => s.src == ep)).foldl (fun c' i => freeSlot (4096 * t.1 + q.1) i c') c') c') c

/-- A violation on a packet that arrived (R402): counted, captured and raised; at the limit the link is quarantined. -/
def violate (p : Packet) (code : Nat) (c : Chip) : Chip :=
  let n := p.vl
  let v := min 255 (c.rf .fabVl .hub n 54 8 + 1)
  let c := (c.setRf .fabVl .hub n 54 8 v).bump .fabViolCnt .hub
  let c := if c.rbit .fabViolLast .hub 0 63 then c
    else ((c.setReg .fabViolLast .hub 0 (mkReg [(63, 1, 1), (59, 4, code), (55, 4, p.port), (47, 8, p.vlink), (35, 12, p.src)])).setReg .fabViolHdr .hub 0
      (p.hdr.extractLsb' 0 64)).setReg .fabViolHdr .hub 1 (p.hdr.extractLsb' 64 64)
  let c := raise (.hub 7) (p.port * 256 + p.vlink) c
  if c.rf .fabViolLimit .hub 0 0 8 ≤ v && !(c.rbit .fabVl .hub n 62) then quarantine n c else c

/-- Answer a violation with a completion: always for a known type, for a reserved one only when vc is 1 (R402). -/
def answerViol (p : Packet) (status : Nat) (c : Chip) : Chip :=
  if p.type = 0x18 then answerTo p 0x19 0 [(74, 14, p.f 74 14), (102, 4, status)] [] c
  else if (typeVc p.type).isSome || p.vc == 1 then
    (if p.type = 0x03 || p.type = 0x10 || p.type = 0x11 || p.type = 0x19 || p.type = 0x1A || p.type = 0x1C || p.type = 0x1D then c else complete p status c)
  else c

/-- VCOUNT_DECAY (R403): vcount of a link falls by 1. -/
def vcountDecay (n : Nat) (c : Chip) : Chip :=
  if c.rf .fabViolLimit .hub 0 16 16 = 0 then c else c.setRf .fabVl .hub n 54 8 (c.rf .fabVl .hub n 54 8 - 1)

/-- QUARANTINE_CLEAR (R403): quar and vcount clear, and the next packet of each source, on each of its virtual channels (DEDUCED: a sequence is
kept per source and channel, R385), sets its expected sequence. -/
def quarClear (n : Nat) (c : Chip) : Chip :=
  if c.rbit .fabVl .hub n 62 then
    ((c.setRf .fabVl .hub n 62 1 0).setRf .fabVl .hub n 54 8 0).modHub (fun h => { h with resync := kset h.resync n [] })
  else c

/-! ### The checks on arrival -/

/-- Types whose header counts words that follow. -/
def hasPayload (t : Nat) : Bool := !(t == 0x08 || t == 0x0B)

/-- The spec bits that a type uses (R383), as (lo, width). -/
def specBits (t : Nat) : List (Nat × Nat) :=
  match t with
  | 0x01 => [(74, 46)]
  | 0x02 | 0x08 | 0x09 | 0x0A => [(74, 54)]
  | 0x03 => [(74, 54)]
  | 0x0B => [(74, 14)]
  | 0x10 | 0x11 => [(74, 33)]
  | 0x18 => [(74, 24)]
  | 0x19 => [(74, 32)]
  | 0x1A => [(74, 8)]
  | _ => []

/-- The format checks of R402 for a known type: reserved bits, len, byte enables, alignment, the 4 KiB rule, mask bits, address range. -/
def formatBad (p : Packet) : Bool :=
  let t := p.type
  let used := (specBits t).foldl (fun (m : BitVec 128) x => m ||| ((BitVec.ofNat 128 (2 ^ x.2 - 1)) <<< x.1)) 0#128
  let res := ((p.hdr >>> 74) <<< 74) &&& ~~~used
  let n := p.len
  let lenBad := match t with
    | 0x01 | 0x02 | 0x11 | 0x1A => n == 0 || decide (64 < n)
    | 0x03 | 0x10 | 0x18 | 0x19 => n != 0
    | 0x08 | 0x0B => n == 0 || decide (64 < n)
    | 0x09 | 0x0A => n == 0 || decide (2 < n)
    | _ => false
  let memT := t == 0x02 || t == 0x08 || t == 0x09 || t == 0x0A
  let fbe := p.f 74 4
  let lbe := p.f 78 4
  let a := 4 * p.f 82 46
  let beBad := memT && (fbe == 0 || (if n = 1 then lbe != 0 else lbe == 0) || ((t != 0x02) && (fbe != 15 || (decide (2 ≤ n) && lbe != 15))))
  let alBad := (t == 0x09 || t == 0x0A) && n == 2 && a % 8 != 0
  let kBad := memT && decide (4096 < a % 4096 + 4 * n)
  let aBad := memT && decide (0x20000000000 ≤ a)
  let lenOk := if hasPayload t then p.payload.length == n && p.mask.length == (if p.f 7 1 = 1 then (n + 31) / 32 else 0) else p.payload.isEmpty && p.mask.isEmpty
  let maskBad := (List.range (32 * p.mask.length)).any (fun i => decide (n ≤ i) && (p.mask.getD (i / 32) 0#32).getLsbD (i % 32))
  let vbBad := t == 0x01 && p.f 89 1 == 0 && p.f 90 2 != 0
  let flowBad := t == 0x01 && p.f 88 1 == 0 && p.f 92 24 != 0
  res != 0#128 || p.f 63 1 == 1 || lenBad || beBad || alBad || kBad || aBad || !lenOk || maskBad || vbBad || flowBad

/-- The permission bit a type needs (R408). -/
def permBit (t : Nat) : Option Nat :=
  match t with
  | 0x01 | 0x18 => some 0
  | 0x0B => some 1
  | 0x08 => some 2
  | 0x02 => some 3
  | 0x09 | 0x0A => some 4
  | 0x1A | 0x03 => some 6
  | _ => none

/-- The result of the arrival checks. -/
inductive Arrival where
  | accept
  | drop
  deriving DecidableEq, Repr

/-- The checks of R378, R385, R402 and R403, in their order, on a packet addressed to this device. -/
def arrive (p : Packet) (c : Chip) : Arrival × Chip :=
  if (!c.idValid || c.hub.bare) && p.type != 0x1A then (.drop, c)
  else
    let k := if p.isLocal then 2 ^ 20 + p.port else p.src * 4 + p.vc
    let keys := [p.vl, 4096 + p.port].filter (khas c.hub.resync)
    let fresh := keys.any (fun n => !((kget [] c.hub.resync n).contains k))
    let exp := if p.seq = 0 then 0 else if fresh then p.seq else kget 0 c.hub.rxSeq k
    let own := if p.type = 0x1A && (p.isLocal || !c.idValid) then p.dst else c.devId
    let ok := packetCrc p.hdr p.payload p.mask exp p.vc own == p.crc
    let okHdr := packetCrc p.hdr p.payload p.mask p.seq p.vc p.dst == p.crc
    let next (c : Chip) : Chip := c.modHub (fun h => { h with
      rxSeq := kset h.rxSeq k ((p.seq + 1) % 65536)
      resync := keys.foldl (fun m n => kmod [] m n (fun l => if l.contains k then l else l ++ [k])) h.resync })
    let quar := c.rbit .fabVl .hub p.vl 62
    if !ok && !okHdr then (.drop, if quar then c else violate p 1 (c.bump .fabCrcCnt .hub))
    else if quar then (.drop, if p.vc = 1 then complete p 9 c else c)
    else
      let late := !ok && !(serialLater 16 p.seq exp)
      let c := if ok then next c
        else if late then violate p 2 c
        else
          let c := violate p 2 c
          next ((openOf c (fun s => s == p.src)).foldl (fun c x => discardOpen x.1 x.2.1 x.2.2 c) c)
      if late then (.drop, c)
      else
        let v := c.reg .fabVl .hub p.vl
        let spoof := p.src != fld v 28 12 && !(fld v 7 1 == 1 && c.rbit .fabEp .hub p.src 63 && c.rf .fabEp .hub p.src 8 3 == p.port)
        let lacks := match permBit p.type with
          | some b => fld v b 1 == 0
          | none => false
        if typeVc p.type != some p.vc || p.type == 0x1C || p.type == 0x1D then (.drop, answerViol p 6 (violate p 3 c))
        else if formatBad p then (.drop, answerViol p 6 (violate p 4 c))
        else if !c.idValid || p.isLocal then (.accept, c)
        else if spoof then (.drop, answerViol p 5 (violate p 5 c))
        else if fld v 63 1 == 0 || lacks then (.drop, answerViol p 5 (violate p 6 c))
        else (.accept, c)

/-- RESERVED_TYPE_PACKET (R381, R402): a packet of a reserved or internal type, delimited by len and psn, is a TYPE violation when its CRC passes. -/
def reservedType (p : Packet) (c : Chip) : Chip := if (typeVc p.type).isSome && p.type != 0x1C && p.type != 0x1D then c else (arrive p c).2

/-- The firebreak of the virtual link on which a packet came. -/
def Chip.linkFb (c : Chip) (p : Packet) : Nat := c.rf .fabVl .hub p.vl 40 8

/-- The firebreak of a queue. -/
def Chip.queueFb (c : Chip) (q : Nat) : Nat := fld (c.qcfg q) 53 8

/-- A queue of another firebreak (R402). -/
def fbRefuse (p : Packet) (q : Nat) (c : Chip) : Option Chip :=
  if c.linkFb p = c.queueFb q then none else some (answerViol p 5 (violate p 6 c))

/-! ### Queue writes (R390–R392) -/

/-- Push the words of a QWR; `none` when the queue cannot take them all now. -/
def pushStream (q : Nat) (pr : Producer) (flow : Flow) (vb : Nat) (stop : Bool) : List TWord → Bool → Dev → Option Dev
  | [], _, d => some d
  | w :: r, start, d =>
    let o := d.hubPush q pr w start (stop && r.isEmpty) (if r.isEmpty then vb else 0) (some flow)
    if o.2 = .waits then none else pushStream q pr flow vb stop r false o.1

/-- Consume words of a stream's balance (R390). -/
def useBalance (q i n : Nat) (c : Chip) : Chip :=
  c.modQueue q (fun Q => match kfind? Q.streams i with
    | some s => { Q with streams := kset Q.streams i { s with bal := s.bal - n }, reserved := Q.reserved - min n s.bal }
    | none => Q)

/-- PUHAN_QWR (R391, R392, R402); `keep` is the device with the packet still waiting, as it stays while the queue cannot take the words. -/
def puhanQwr (p : Packet) (keep d0 : Dev) : Dev :=
  if p.type ≠ 0x01 then keep
  else
    let r := arrive p d0.chip
    let d : Dev := { d0 with chip := r.2 }
    match r.1 with
    | .drop => d
    | .accept =>
      let q := p.f 74 14
      match (if d.chip.hub.held.contains (q / 4096) then none else fbRefuse p q d.chip) with
      | some c => { d with chip := c }
      | none =>
        let sid := p.tag % 8
        let start := p.f 88 1 == 1
        let stop := p.f 89 1 == 1
        let pr : Producer := .stream p.src q sid
        let Q := d.chip.queue q
        let mine := Q.streams.filter (fun x => x.2.src == p.src && x.2.sid == sid)
        let slot := (mine.find? (fun x => x.2.live)).or mine.head?
        let openA := Q.asms.find? (fun a => a.prod == pr && !a.closed)
        let unmark (c : Chip) : Chip := c.modQueue q (fun Q => { Q with
          silent := Q.silent.filter (fun x => x != pr), lost := Q.lost.filter (fun x => x != pr), refusing := Q.refusing.filter (fun x => x != pr) })
        let quiet (c : Chip) : Chip := if stop then unmark c else c.modQueue q (fun Q => { Q with silent := Q.silent.filter (fun x => x != pr) ++ [pr] })
        let old := match slot with
          | some (i, _) => p.f 116 4 != d.chip.epochOf q i
          | none => true
        let spend (c : Chip) : Chip := match slot with
          | some (i, s) => if s.live && p.f 116 4 == c.epochOf q i then useBalance q i p.len c else c
          | none => c
        if !start && Q.silent.contains pr then d.on (fun c => spend (if stop then unmark c else c))
        else if !start && Q.lost.contains pr then
          d.on (fun c => if old then quiet (complete p 11 (unmark c)) else spend (if stop then unmark c else c))
        else if !start && Q.refusing.contains pr then d.on (fun c => spend ((if stop then unmark c else c).bump .queRefusedCnt (qsite q) 0 p.len))
        else if !start && (Q.dropping.contains pr || Q.tooLong.contains pr) then (pushStream q pr 0#24 0 stop p.words false (d.on spend)).getD keep
        else
          match slot with
          | none => d.on (fun c => quiet (complete p 11 (violate p 7 (unmark c))))
          | some (i, s) =>
            if p.f 116 4 ≠ d.chip.epochOf q i then d.on (fun c => quiet (complete p 11 (unmark (discardOpen q p.src sid c))))
            else if !s.live || decide (s.bal < p.len) then
              d.on (fun c => quiet (complete p 11 (violate p 7 (unmark (discardOpen q p.src sid c)))))
            else if !start && openA.isNone then d.on (fun c => quiet (complete p 6 (violate p 8 c)))
            else
              let d := d.on unmark
              let d := match start, openA with
                | true, some a => d.on (fun c => complete p 6 (violate p 8 (c.dropAsm q a.id)))
                | _, _ => d
              let d := d.on (useBalance q i p.len)
              if start && (Q.closed || !(d.chip.qen q)) then
                d.on (fun c => (complete p 4 (c.bump .queRefusedCnt (qsite q) 0 p.len)).modQueue q (fun Q =>
                  if stop then Q else { Q with refusing := Q.refusing ++ [pr] }))
              else
                let before := match start, openA with
                  | false, some a => a.words.length
                  | _, _ => 0
                let tooLong := decide (before ≤ 16384) && decide (16384 < before + p.len)
                match pushStream q pr (BitVec.ofNat 24 (p.f 92 24)) (p.f 90 2) stop p.words start d with
                | none => keep.on (fun c => c.noteWait q pr true)
                | some d => let d := d.on (fun c => c.noteWait q pr false); if tooLong then d.on (fun c => complete p 6 (violate p 8 c)) else d

/-- Blocks that a queue can reserve now (R390): what fits in its capacity after its fill, while a block within its allowances is free. -/
def reservable (c : Chip) (q : Nat) : Nat :=
  let t := q / 4096
  let Q := c.queue q
  let sp := c.reg .queSpill (qsite q) (q % 4096)
  let cap := 32 + 16 * (fld sp 8 18 + fld sp 28 22)
  let mineP := (poolBlocks Q.levels).length
  let mineG := (gd7Blocks Q.levels).length
  let pool := decide (mineP < fld sp 8 18) && decide ((poolBlocks (c.tile t).levels).length < c.poolSize t)
  let gd7 := decide (mineG < fld sp 28 22) && decide ((gd7Blocks (c.tile t).levels).length < c.gd7Size t)
  if pool || gd7 then (cap - Q.fill) / 16 else 0

/-- Send a QCG (R390). -/
def sendQcg (r : CreditReq) (q blocks epoch status : Nat) (c : Chip) : Chip :=
  let l := (c.route r.src).getD (r.port, r.vlink)
  sendPacket l.1 l.2 0x19 r.tag 0 r.src [(74, 14, q), (88, 10, blocks), (98, 4, epoch), (102, 4, status)] [] c

/-- A request for credit joins those that wait; its producer counts as waiting until it is answered (R247, R248). -/
def askCredit (q : Nat) (r : CreditReq) (c : Chip) : Chip :=
  (c.modQueue q (fun Q => { Q with creditQ := Q.creditQ ++ [r] })).noteWait q (.stream r.src q r.sid) true

/-- PUHAN_QCQ (R390): a return and a full balance are answered at once; a closed queue refuses; any other request waits for its grant. -/
def puhanQcq (p : Packet) (c0 : Chip) : Chip :=
  if p.type ≠ 0x18 then c0
  else
    let r := arrive p c0
    match r.1 with
    | .drop => r.2
    | .accept =>
      let c := r.2
      let q := p.f 74 14
      let req : CreditReq := ⟨p.src, p.tag % 8, p.f 88 10, p.tag, p.port, p.vlink⟩
      if c.hub.held.contains (q / 4096) && req.blocks != 0 then askCredit q req c
      else
      match fbRefuse p q c with
      | some c => c
      | none =>
        let Q := c.queue q
        let slot := Q.streams.find? (fun x => x.2.live && x.2.src == p.src && x.2.sid == p.tag % 8)
        if req.blocks = 0 then
          match slot with
          | none => sendQcg req q 0 0 0 c
          | some (i, s) =>
            let ep := c.epochOf q i
            let opened := Q.asms.any (fun a => a.prod == .stream p.src q (p.tag % 8) && !a.closed)
            let c := if opened then c.modQueue q (fun Q => { Q with streams := kset Q.streams i { s with bal := 0 }, reserved := Q.reserved - s.bal })
              else freeSlot q i c
            sendQcg req q 0 ep 0 c
        else if Q.closed || !(c.qen q) then sendQcg req q 0 0 4 c
        else
          match slot with
          | some (i, s) => if 1023 * 16 ≤ s.bal then sendQcg req q 0 (c.epochOf q i) 0 c
              else askCredit q req c
          | none => askCredit q req c

/-- QUEUE_CREDIT_GRANT (R390): the oldest waiting request is granted once a block can be reserved and, for a new holder, a slot is free. -/
def creditGrant (q : Nat) (c : Chip) : Chip :=
  let Q := c.queue q
  match Q.creditQ with
  | [] => c
  | r :: rest =>
    let pop (c : Chip) : Chip := (c.modQueue q (fun Q => { Q with creditQ := rest })).noteWait q (.stream r.src q r.sid) false
    if c.hub.held.contains (q / 4096) then c
    else if Q.closed || !(c.qen q) then sendQcg r q 0 0 4 (pop c)
    else if c.rf .fabVl .hub (256 * r.port + r.vlink) 40 8 ≠ c.queueFb q then sendQcg r q 0 0 5 (pop c)
    else
      let slot := Q.streams.find? (fun x => x.2.live && x.2.src == r.src && x.2.sid == r.sid)
      let i? : Option Nat := match slot with
        | some x => some x.1
        | none => if 65536 ≤ (c.tile (q / 4096)).itemsUsed then none else
          (List.range 8).find? (fun i => match kfind? Q.streams i with
            | some s => !s.live
            | none => true)
      match i? with
      | none => c
      | some i =>
        let bal := match slot with
          | some x => x.2.bal
          | none => 0
        let n := min (min r.blocks (reservable c q)) (1023 - (bal + 15) / 16)
        if n = 0 then c
        else
          let c := (pop c).modQueue q (fun Q => { Q with
            streams := kset Q.streams i { src := r.src, sid := r.sid, bal := bal + 16 * n, live := true }
            reserved := Q.reserved + 16 * n })
          sendQcg r q n (c.epochOf q i) 0 c

/-- Tell a stream that it lost its credit (R391). -/
def sendReclaim (q i : Nat) (c : Chip) : Chip :=
  match kfind? (c.queue q).streams i with
  | none => c
  | some s =>
    match c.route s.src with
    | none => c
    | some l => sendPacket l.1 l.2 0x19 s.sid 0 s.src [(74, 14, q), (98, 4, c.epochOf q i), (102, 4, 12)] [] c

/-- STREAM_RECLAIM (R391): a stream with no open item that has sent nothing for asm_limit loses its slot. -/
def streamReclaim (q i : Nat) (c : Chip) : Chip :=
  match kfind? (c.queue q).streams i with
  | none => c
  | some s =>
    if !s.live || (c.queue q).asms.any (fun a => a.prod == .stream s.src q s.sid && !a.closed) then c
    else freeSlot q i (sendReclaim q i c)

/-- An enable of a queue (R391, R392): every slot's epoch advances, holders lose their credit and open items and are told. -/
def enableEpochs (q : Nat) (c : Chip) : Chip :=
  (List.range 8).foldl (fun c i =>
    match kfind? (c.queue q).streams i with
    | some s => if s.live then freeSlot q i (sendReclaim q i (discardOpen q s.src s.sid c)) else c.epochUp q i
    | none => c.epochUp q i) c

/-- ASSEMBLY_IDLE_LIMIT (R402): an open item of a stream that is idle beyond asm_limit is discarded, as a violation of code ASM. -/
def asmIdle (q i : Nat) (c : Chip) : Chip :=
  match kfind? (c.queue q).streams i with
  | none => c
  | some s =>
    if (c.queue q).asms.any (fun a => a.prod == .stream s.src q s.sid && !a.closed) then
      let n := ((List.range 2048).find? (fun n => c.rbit .fabVl .hub n 63 && c.rf .fabVl .hub n 28 12 == s.src)).getD 0
      let p : Packet := { port := n / 256, hdr := mkHdr [(48, 8, n % 256), (20, 12, s.src), (74, 14, q), (64, 10, s.sid)] }
      violate p 9 (discardOpen q s.src s.sid c)
    else c

/-- QUE_CFG_WRITE (R259, R265, R391): configuration changes only while en is 0, apart from en, the ev_ fields and thr; cv = 0b11 is ignored;
an enable advances every slot epoch. -/
def queCfgWrite (q : Nat) (v : BitVec 64) (c : Chip) : Chip :=
  let old := c.qcfg q
  let s := qsite q
  let l := q % 4096
  let fieldsAlways : List (Nat × Nat) := [(63, 1), (46, 1), (47, 1), (48, 1), (24, 17)]
  let fieldsIdle : List (Nat × Nat) := [(61, 2), (53, 8), (51, 2), (50, 1), (49, 1), (0, 24)]
  if fld v 51 2 = 3 then c
  else
    let fs := if fld old 63 1 = 1 then fieldsAlways else fieldsAlways ++ fieldsIdle
    let c := c.setReg .queCfg s l (fs.foldl (fun r f => setFld r f.1 f.2 (fld v f.1 f.2)) old)
    if fld old 63 1 = 0 && fld v 63 1 = 1 then enableEpochs q c else c

/-! ### Queue reads, notices, messages -/

/-- A word as QUE_POP_l shows it. -/
def popWord (v : BitVec 64) : TWord := (v.extractLsb' 32 3) ++ (v.extractLsb' 0 32)

/-- The answer of a QRD: a CPLD of the words popped (R393). -/
def qrdAnswer (p : Packet) (vs : List (BitVec 64)) (c : Chip) : Chip :=
  let v0 := vs.headD 0#64
  let vl := vs.getLastD 0#64
  let glade := fld v0 39 1 == 0
  answerTo p 0x11 vs.length [(78, 1, b2n glade), (79, 1, fld v0 38 1), (80, 1, fld vl 37 1), (81, 2, fld vl 35 2), (83, 24, fld v0 40 24)] (vs.map popWord) c

/-- Put a message into the management core's queue of 64 entries (R396). -/
def queueMsg (m : MsgIn) (c : Chip) : Chip :=
  if 64 ≤ c.hub.msgQ.length then c.bump .fabMsgDropCnt .hub else c.modHub (fun h => { h with msgQ := h.msgQ ++ [m] })

/-- PUHAN_NTC (R394). -/
def puhanNtc (p : Packet) (c0 : Chip) : Chip :=
  if p.type ≠ 0x03 then c0
  else
    let r := arrive p c0
    match r.1 with
    | .drop => r.2
    | .accept => queueMsg ⟨p.src, 256, (List.range 2).map (fun i => BitVec.ofNat 32 (p.f (74 + 32 * i) (if i = 0 then 32 else 22))), p.port, p.vlink, none⟩ r.2

/-- PUHAN_MSG (R396). -/
def puhanMsg (p : Packet) (c0 : Chip) : Chip :=
  if p.type ≠ 0x1A then c0
  else
    let r := arrive p c0
    match r.1 with
    | .drop => r.2
    | .accept => queueMsg ⟨p.src, p.f 74 8, p.payload, p.port, p.vlink, none⟩ r.2

/-- The notices of pop-mode queues with sink_en leave (R394): to the management core for the device's own endpoint, else as NTC packets. -/
def sendSink (c : Chip) : Chip :=
  match c.hub.sinkNotices with
  | [] => c
  | n :: r =>
    let ep := fld (c.qtgt n.queue) 14 12
    let pop (c : Chip) : Chip := c.modHub (fun h => { h with sinkNotices := r })
    if ep = c.devId then queueMsg ⟨ep, 256, [BitVec.ofNat 32 n.queue, BitVec.ofNat 32 n.seq, n.flow.setWidth 32], 8, 0, none⟩ (pop c)
    else match c.route ep with
      | none => pop c
      | some l => if c.linkHeld l.1 l.2 then c
        else sendPacket l.1 l.2 0x03 0 0 ep [(74, 14, n.queue), (88, 16, n.seq), (104, 24, n.flow.toNat)] [] (pop c)

/-- PUHAN_LCK (R192): a request or release of a tile that travels as an LCK packet reaches the forwarder, or a grant its tile. -/
def puhanLck (t op : Nat) (c : Chip) : Chip :=
  match op with
  | 0 => (match (c.tile t).xreq with
    | (_, true) :: _ => xlockRequest t c
    | _ => c)
  | 1 => xlockGrant t c
  | 2 => (match (c.tile t).xreq with
    | (_, false) :: _ => xlockRequest t c
    | _ => c)
  | _ => xlockReannounce t c

/-! ### Drains (R607) -/

/-- The partner of a drain: port, virtual link, endpoint, destination queue and stream. -/
def drainTo (c : Chip) (q : Nat) : Nat × Nat × Nat × Nat × Nat :=
  let v := c.qtgt q
  let port := fld v 35 3
  let vl := fld v 27 8
  (port, vl, c.rf .fabVl .hub (256 * port + vl) 28 12, fld v 0 14, fld v 40 3)

/-- Change the sending side of a drain. -/
def Chip.modDrain (c : Chip) (q : Nat) (f : Drain → Drain) : Chip := c.modHub (fun h => { h with drains := kmod {} h.drains q f })

/-- A drain loses its credit and will send its item again from the first word (R607). -/
def drainLost (q : Nat) (c : Chip) : Chip := c.modDrain q (fun x => { x with bal := 0, asked := false, sent := 0 })

/-- The peer has acknowledged the flit that holds the end word of a drain's oldest sent item: the item leaves its queue (R425). -/
def drainAcked (q : Nat) (c : Chip) : Chip :=
  match (c.queue q).items.find? (fun i => i.waitAck && !i.gone) with
  | some i => c.retire q i.seq
  | none => c

/-- DRAIN_SEND (R607): a drain-mode queue asks for credit, or sends the next words of its first item not yet sent whole; an item sent
whole keeps its place until the peer has acknowledged its end word (R425). -/
def drainSend (q : Nat) (d : Dev) : Dev :=
  let c := d.chip
  if c.qmode q ≠ 2 ∨ (c.queue q).err then d
  else
    match (c.queue q).items.find? (fun i => !i.gone && !i.waitAck) with
    | none => d
    | some it =>
      let tgt := drainTo c q
      let dr := kget {} c.hub.drains q
      if c.linkHeld tgt.1 tgt.2.1 || dr.held then d
      else if dr.bal = 0 then
        if dr.asked then d
        else d.on (fun c => (sendPacket tgt.1 tgt.2.1 0x18 tgt.2.2.2.2 0 tgt.2.2.1 [(74, 14, tgt.2.2.2.1), (88, 10, min 1023 ((it.words.length - dr.sent + 15) / 16))] [] c).modDrain q
          (fun x => { x with asked := true }))
      else
        let n := min (min 64 dr.bal) (it.words.length - dr.sent)
        let ws := ((it.words.drop dr.sent).take n).map (fun w => d.qword q w.checked)
        let start := dr.sent == 0
        let stop := dr.sent + n == it.words.length
        let d := d.on (fun c => (sendPacket tgt.1 tgt.2.1 0x01 tgt.2.2.2.2 n tgt.2.2.1 [(74, 14, tgt.2.2.2.1), (88, 1, b2n start), (89, 1, b2n stop),
          (90, 2, if stop then it.vb else 0), (92, 24, if start then it.flow.toNat else 0), (116, 4, dr.epoch)] ws c).modDrain q
          (fun x => { x with used := true, bal := x.bal - n, sent := if stop then 0 else x.sent + n }))
        d.on (fun c => (c.shiftQueue q (fun Q => Q.readAt it.seq ((List.range n).map (fun k => dr.sent + k)))).modQueue q (fun Q => { Q with items := Q.items.map (fun i =>
          if i.seq = it.seq then { i with sending := true, waitAck := stop } else i) }))

/-- DRAIN_CREDIT_RETRY (R607): a drain that a CLOSED or PERM grant holds repeats its QCQ. -/
def drainRetry (q : Nat) (c : Chip) : Chip :=
  if (kget {} c.hub.drains q).held then c.modDrain q (fun x => { x with held := false, asked := false }) else c

/-- The drain that a packet from a partner answers. -/
def drainOf (c : Chip) (p : Packet) (ok : Nat → Bool) : Option Nat :=
  (c.hub.drains.find? (fun x => let tgt := drainTo c x.1; tgt.2.2.1 == p.src && tgt.2.2.2.2 == p.tag % 8 && ok x.1)).map (fun x => x.1)

/-- A completion for a drain's QWR (R391, R607): STALE takes its credit, and the item in progress, or else the last one sent whole whose end the
peer has not acknowledged, is sent again from its first word; any other status changes nothing here. -/
def drainAnswer (q st : Nat) (c : Chip) : Chip :=
  if st = 11 then
    let part := 0 < (kget {} c.hub.drains q).sent
    let last := ((c.queue q).items.filter (fun i => i.waitAck && !i.gone)).getLast?
    let c := drainLost q c
    match last with
    | some it => if part then c else c.modQueue q (fun Q => { Q with items := Q.items.map (fun i => if i.seq = it.seq then { i with sending := false, waitAck := false } else i) })
    | none => c
  else c

/-- PUHAN_QCG (R394, R607): a grant for one of the device's drains. -/
def puhanQcg (p : Packet) (c0 : Chip) : Chip :=
  if p.type ≠ 0x19 then c0
  else
    let r := arrive p c0
    match r.1 with
    | .drop => r.2
    | .accept =>
      let c := r.2
      match drainOf c p (fun q => (drainTo c q).2.2.2.1 == p.f 74 14) with
      | none => violate p 10 c
      | some q =>
        let dr := kget {} c.hub.drains q
        match p.f 102 4 with
        | 12 => drainLost q c
        | 0 => if dr.asked then c.modDrain q (fun x => { x with bal := min 16368 (x.bal + 16 * p.f 88 10), epoch := p.f 98 4, asked := false }) else violate p 10 c
        | _ => if dr.asked then c.modDrain q (fun x => { x with bal := 0, asked := false, held := true }) else violate p 10 c

/-- TRANSIT_FORWARD (R401): a packet for another endpoint leaves on the port and link of its route, unchanged; with that port down an NP
packet is answered with UNREACH. In the bare state only messages pass (R470); what comes on a quarantined link is dropped, an NP packet answered (R403). -/
def transitForward (p : Packet) (c : Chip) : Chip :=
  let quar := c.rbit .fabVl .hub p.vl 62
  if !c.idValid || p.dst == c.devId || p.isLocal || (c.hub.bare && p.type != 0x1A) then c
  else if packetCrc p.hdr p.payload p.mask p.seq p.vc p.dst != p.crc then (if quar then c else violate p 1 (c.bump .fabCrcCnt .hub))
  else if quar then (if p.vc = 1 then complete p 9 c else c)
  else
    match c.route p.dst with
    | none => if p.vc ≤ 1 then complete p 2 c else c
    | some l =>
      if c.portDown l.1 then (if p.vc ≤ 1 then complete p 2 c else c)
      else
        let h := (p.hdr &&& ~~~((255#128) <<< 48)) ||| ((BitVec.ofNat 128 l.2) <<< 48)
        (c.bump .fabTransitCnt .hub).modHub (fun x => { x with xtx := kmod [] x.xtx l.1 (fun q => q ++ [{ p with port := l.1, hdr := h }]) })

end Sys2Proof.Machine
end

