-- ==== Sys2Proof/Machine/LinkOps.lean ====
section
/-!
DEFINITION. The link layer of ports and modules (R410–R428): flits and their CRC, acknowledgement and replay, credits, INIT records,
training, lane substitution, links that go down, and fault injection.
-/
namespace Sys2Proof

/-- A field of a flit's control field (R412). -/
def Flit.c (f : Flit) (lo w : Nat) : Nat := (f.ctl.extractLsb' lo w).toNat

/-- The kind of a flit: 0 data, 1 idle, 2 NAK, 3 INIT. -/
def Flit.kind (f : Flit) : Nat := f.c 0 2

/-- The 63 words a flit's crc covers, bytes 0 to 251 (R410, R412). -/
def Flit.words (f : Flit) : List Word :=
  let s := f.side
  let body := if f.stream.length ≤ 56 then f.stream ++ (List.range 5).map (fun i => s.extractLsb' (32 * i) 32) else f.stream
  body ++ [((f.ctl.extractLsb' 0 24).setWidth 32 <<< 8) ||| (s.extractLsb' 160 8).setWidth 32, f.ctl.extractLsb' 24 32]

end Sys2Proof

namespace Sys2Proof.Machine

/-- The crc of a flit (R412): CRC-32C with no fold. -/
def flitCrc (f : Flit) : Nat := (f.words.foldl (fun c w => cvWord 0 c w) 0xFFFFFFFF#32 ^^^ 0xFFFFFFFF#32).toNat

/-- A flit's crc matches. -/
def flitOk (f : Flit) : Bool := f.c 56 32 == flitCrc f

/-- The end belongs to a port. -/
def isPort (k : Nat) : Bool := decide (k < 16)

/-- The module of an end. -/
def modOf (k : Nat) : Nat := (k - 16) / 2

/-- The other end of a module. -/
def peerEnd (k : Nat) : Nat := if k % 2 = 0 then k + 1 else k - 1

/-- The ends in this device of the link of an end. -/
def linkEnds (k : Nat) : List Nat := if isPort k then [k] else [k - k % 2, k - k % 2 + 1]

/-- Units of a flit's stream: 61 on Puhan-X, 56 on Puhan-D (R410). -/
def streamUnits (k : Nat) : Nat := if isPort k then 61 else 56

/-- Flits a replay buffer holds (R413). -/
def replayCap (k : Nat) : Nat := if isPort k then 1024 else 64

/-- A control field from (lo, width, value) triples. -/
def mkCtl (l : List (Nat × Nat × Nat)) : BitVec 88 := l.foldl (fun h x => h ||| ((BitVec.ofNat 88 (x.2.2 % 2 ^ x.2.1)) <<< x.1)) 0#88

/-- Build a flit of an end: its units with their residues, the acknowledgement, and the credit totals of the end's next channel (R410–R416). -/
def mkFlit (c : Chip) (k kind seq : Nat) (us : List TWord) : Flit :=
  let e := c.link k
  let n := streamUnits k
  let us := us.take n ++ List.replicate (n - us.length) 0#35
  let side : BitVec 168 := if isPort k then 0#168 else
    us.zipIdx.foldl (fun s x => s ||| ((TWord.res x.1).setWidth 168 <<< (3 * x.2))) 0#168
  let ctl := mkCtl [(0, 2, kind), (2, 12, seq), (14, 12, e.rxLast), (26, 2, e.cvc), (28, 8, kget 0 e.retH e.cvc), (36, 12, kget 0 e.retD e.cvc)]
  let f : Flit := { stream := us.map TWord.data, side := side, ctl := ctl }
  { f with ctl := ctl ||| (BitVec.ofNat 88 (flitCrc f)) <<< 56 }

/-- Put a flit on the wires; the next flit carries the totals of the next channel. -/
def emitFlit (k : Nat) (f : Flit) (c : Chip) : Chip := c.modLink k (fun e => { e with sent := e.sent ++ [f], cvc := (e.cvc + 1) % 4 })

/-- Count in a counter of an end's link: the port's, or the module's. -/
def linkBump (k : Nat) (x m : Reg) (c : Chip) : Chip := if isPort k then c.bump x .hub k else c.bump m .hub (modOf k)

/-! ### Levels of links down -/

/-- The mask of ports down, or of modules down. -/
def downMask (c : Chip) (port : Bool) : Nat :=
  (List.range 12).foldl (fun m i =>
    if (if port then decide (i < 8) && (c.link i).st == .down else (c.link (16 + 2 * i)).st == .down) then m + 2 ^ i else m) 0

/-- LNK_DOWN and D2D_DOWN hold their conditions while a port or a module is down. -/
def linkLevel (port : Bool) (c : Chip) : Chip :=
  let m := downMask c port
  setLevel (.hub (if port then 12 else 15)) (decide (m ≠ 0)) m c

/-! ### Outstanding requests -/

/-- The end of a request that left the device: its requester gets the completion (R380). -/
def remoteDone (r : RemReq) (status : Nat) (ws : List TWord) (c : Chip) : Chip :=
  match r.who with
  | .mrd t g tag => mrdLand t g tag (if status = 0 then .ok (ws.headD 0#35) else .error status) c
  | .mwr t g tag => if status = 0 then c else c.modHub (fun h => { h with mwrErr := h.mwrErr ++ [(t, g, tag, status)] })
  | .debug true => if status = 0 then c else c.modHub (fun h => { h with dbg := { h.dbg with werr := true, status := status } })
  | .debug false =>
    let v : BitVec 64 := (TWord.data (ws.getD 1 0#35)) ++ (TWord.data (ws.headD 0#35))
    c.modHub (fun h => { h with dbg := { h.dbg with result := some (status, v) } })
  | .nobody => c
  | .core => c.answer r.ep status ((TWord.data (ws.getD 1 0#35)) ++ (TWord.data (ws.headD 0#35)))
  | .host k => c.modHub (fun h => { h with hostIn := kmod (0, []) h.hostIn k (fun x => (if x.1 = 0 then status else x.1, x.2 ++ ws)) })

/-- Every request outstanding toward an endpoint that satisfies a condition ends with a status. -/
def endRequests (p : Nat → Bool) (status : Nat) (c : Chip) : Chip :=
  let rs := c.hub.remote.filter (fun r => !r.late && !r.posted && p r.ep)
  rs.foldl (fun c r => remoteDone r status [] c) (c.modHub (fun h => { h with remote := h.remote.filter (fun r => r.late || !(p r.ep)) }))

/-! ### Acknowledgement and credits -/

/-- Apply an acknowledgement (R413): flits at or before it leave the replay buffer, and the drains whose items they end move on (R425). -/
def ackUpTo (k a : Nat) (c : Chip) : Chip :=
  let e := c.link k
  let done := e.replay.takeWhile (fun s => !(serialLater 12 s.seq a))
  if done.isEmpty then c
  else
    let c := c.modLink k (fun e => { e with replay := e.replay.drop done.length, resend := e.resend.filter (fun s => serialLater 12 s.seq a), replays := 0 })
    (done.flatMap (fun s => s.units.filterMap (fun u => u.2))).foldl (fun c q => drainAcked q c) c

/-- Newly returned credits by the difference of totals (R416). -/
def takeCredits (k : Nat) (f : Flit) (c : Chip) : Chip :=
  c.modLink k (fun e =>
    let v := f.c 26 2
    let h := f.c 28 8
    let d := f.c 36 12
    { e with
      hdrC := kmod 0 e.hdrC v (fun x => x + (h + 256 - kget 0 e.lastH v) % 256)
      datC := kmod 0 e.datC v (fun x => x + (d + 4096 - kget 0 e.lastD v) % 4096)
      lastH := kset e.lastH v h
      lastD := kset e.lastD v d })

/-- Return the credits of a packet whose place in the receive buffer is free again. -/
def giveCredits (k vc n : Nat) (c : Chip) : Chip :=
  c.modLink k (fun e => { e with
    retH := kmod 0 e.retH vc (fun x => (x + 1) % 256)
    retD := kmod 0 e.retD vc (fun x => (x + (n + 15) / 16) % 4096) })

/-! ### Packets in the stream -/

/-- A packet's units (R381, R411). -/
def packetUnits (p : Packet) : List TWord := (hdrWords p.hdr ++ p.payload ++ p.mask ++ [p.crc]).map (fun w => (0#3 ++ w : BitVec 35))

/-- The channel, virtual link and length in units of the packet that begins a list of units (R381, R382). -/
def unitsInfo (us : List TWord) : Nat × Nat × Nat :=
  let w (i : Nat) : Nat := (TWord.data (us.getD i 0#35)).toNat
  let t := w 0 % 32
  let len := bitsOf (w 1) 24 7
  (bitsOf (w 0) 5 2, bitsOf (w 1) 16 8, 5 + (if hasPayload t then len + (if bitOf (w 0) 7 then (len + 31) / 32 else 0) else 0))

/-- The drain of the device whose item a packet ends. -/
def endsDrain (c : Chip) (p : Packet) : Option Nat :=
  if p.type = 0x01 && p.f 89 1 == 1 then
    (c.hub.drains.find? (fun x =>
      let tgt := drainTo c x.1
      tgt.1 == p.port && tgt.2.2.1 == p.dst && tgt.2.2.2.1 == p.f 74 14 && tgt.2.2.2.2 == p.tag % 8)).map (fun x => x.1)
  else none

/-- Packets waiting at an end with their units: of a port the hub's, of a module those its die gave it. Those of a quarantined virtual
link wait (R403). -/
def waiting (c : Chip) (k : Nat) : List (Nat × List TxUnit) :=
  if isPort k then
    ((kget [] c.hub.xtx k).zipIdx.filter (fun x => !(c.rbit .fabVl .hub (256 * k + x.1.vlink) 62))).map (fun x =>
      let us := packetUnits x.1
      (x.2, us.zipIdx.map (fun u => (u.1, if u.2 + 1 = us.length then endsDrain c x.1 else none))))
  else (c.link k).wait.zipIdx.map (fun x => (x.2, x.1.map (fun u => (u, none))))

/-- The packet a channel sends next: virtual links in round-robin, the oldest packet of the link (R426). -/
def nextOf (e : LinkEnd) (ws : List (Nat × List TxUnit)) (vc : Nat) : Option (Nat × List TxUnit) :=
  let mine := ws.filter (fun x => (unitsInfo (x.2.map Prod.fst)).1 == vc)
  let vl (x : Nat × List TxUnit) : Nat := (unitsInfo (x.2.map Prod.fst)).2.1
  let last := kget 255 e.vlLast vc
  let key (x : Nat × List TxUnit) : Nat := (vl x + 255 - last) % 256
  match mine with
  | [] => none
  | m :: r =>
    let best := r.foldl (fun b x => min b (key x)) (key m)
    mine.find? (fun x => key x == best)

/-- An end holds the link credits of a packet (R389). -/
def hasCredit (e : LinkEnd) (us : List TxUnit) : Bool :=
  let i := unitsInfo (us.map Prod.fst)
  decide (1 ≤ kget 0 e.hdrC i.1) && decide ((i.2.2 - 5 + 15) / 16 ≤ kget 0 e.datC i.1)

/-- The next packet an end may send: of the channel of the oldest waiting packet that credit lets go. -/
def nextPacket (c : Chip) (k : Nat) : Option (Nat × List TxUnit) :=
  let e := c.link k
  let ws := waiting c k
  (ws.filterMap (fun x => (nextOf e ws (unitsInfo (x.2.map Prod.fst)).1))).find? (fun x => hasCredit e x.2)

/-- Take a packet from those that wait, with its credits. -/
def takePacket (k i : Nat) (us : List TxUnit) (c : Chip) : Chip :=
  let inf := unitsInfo (us.map Prod.fst)
  let c := c.modLink k (fun e => { e with
    vlLast := kset e.vlLast inf.1 inf.2.1
    hdrC := kmod 0 e.hdrC inf.1 (fun x => x - 1)
    datC := kmod 0 e.datC inf.1 (fun x => x - (inf.2.2 - 5 + 15) / 16) })
  if isPort k then c.modHub (fun h => { h with xtx := kmod [] h.xtx k (fun l => l.eraseIdx i) })
  else c.modLink k (fun e => { e with wait := e.wait.eraseIdx i })

/-! ### Fault injection (R428) -/

/-- The injection registers of an end: control and pattern. A module's act on the direction that `dir` names. -/
def fiRegs (c : Chip) (k : Nat) : BitVec 64 × BitVec 64 :=
  if isPort k then (c.reg .lnkFi .hub k, c.reg .lnkFiPat .hub k)
  else
    let v := c.reg .d2dFi .hub (modOf k)
    (if fld v 55 1 = k % 2 then v else 0#64, c.reg .d2dFiPat .hub (modOf k))

/-- Whether the next eligible unit of a layer meets an injection: a shot, or the period-th unit while en is 1; action 0b11 and a reorder
of window 0 inject nothing (R433). -/
def fiFires (c : Chip) (k layer : Nat) : Bool :=
  let e := c.link k
  let v := (fiRegs c k).1
  let per := fld v 31 20
  fld v 61 1 == layer && fld v 59 2 != 3 && !(fld v 59 2 == 2 && fld v 56 3 == 0) &&
    (e.fiShot || (fld v 63 1 == 1 && per != 0 && (e.fiCnt + 1) % per == 0))

/-- XOR a pattern into four bytes at an offset of `n` bytes; beyond the end, into the last four (R433). -/
def corruptAt (n off pat : Nat) (x : Nat) : Nat := x ^^^ (pat * 2 ^ (8 * min off (n - 4)))

/-- A corrupted list of units, keeping residues and marks. -/
def corruptUnits (off pat : Nat) (us : List TxUnit) : List TxUnit :=
  let x := us.zipIdx.foldl (fun a u => a + (TWord.data u.1.1).toNat * 2 ^ (32 * u.2)) 0
  let y := corruptAt (4 * us.length) off pat x
  us.zipIdx.map (fun u => ((TWord.res u.1.1 ++ BitVec.ofNat 32 (y / 2 ^ (32 * u.2)) : BitVec 35), u.1.2))

/-- A corrupted flit: bytes 0 to 255 with the crc left as it was. -/
def corruptFlit (off pat : Nat) (f : Flit) : Flit :=
  let x := (f.words ++ [f.ctl.extractLsb' 56 32]).zipIdx.foldl (fun a u => a + u.1.toNat * 2 ^ (32 * u.2)) 0
  let y := corruptAt 256 off pat x
  { stream := (List.range f.stream.length).map (fun i => BitVec.ofNat 32 (y / 2 ^ (32 * i)))
    side := if f.stream.length ≤ 56 then BitVec.ofNat 168 (y / 2 ^ (8 * 224) % 2 ^ 168) else f.side
    ctl := BitVec.ofNat 88 (y / 2 ^ (8 * 245)) }

/-- The order in which a completed window leaves: its first and last members change places. -/
def swapEnds {α : Type} (l : List α) : List α :=
  match l with
  | [] => []
  | a :: r => match r.getLast? with
    | none => [a]
    | some z => z :: r.dropLast ++ [a]

/-- One more eligible unit has passed; a shot is used up by the unit it met. -/
def fiPassed (k : Nat) (fired : Bool) (c : Chip) : Chip :=
  let c := c.modLink k (fun e => { e with fiCnt := e.fiCnt + 1, fiShot := e.fiShot && !fired })
  if fired then linkBump k .lnkFiCnt .d2dFiCnt c else c

/-- First transmission of a data flit through the flit-layer injector. -/
def fiFlit (k : Nat) (f : Flit) (c : Chip) : Chip :=
  match (c.link k).fiFlits with
  | some h =>
    if h.need ≤ 1 then (swapEnds (h.got ++ [f])).foldl (fun c f => emitFlit k f c) (c.modLink k (fun e => { e with fiFlits := none }))
    else c.modLink k (fun e => { e with fiFlits := some { need := h.need - 1, got := h.got ++ [f] } })
  | none =>
    let r := fiRegs c k
    let go := fiFires c k 0
    let c := if fld r.1 61 1 = 0 then fiPassed k go c else c
    if !go then emitFlit k f c
    else match fld r.1 59 2 with
      | 0 => c
      | 1 => emitFlit k (corruptFlit (fld r.1 22 9) (fld r.2 0 32) f) c
      | _ => c.modLink k (fun e => { e with fiFlits := some { need := fld r.1 56 3, got := [f] } })

/-- A packet enters the stream through the packet-layer injector: packets of the channels in vcsel are eligible. -/
def fiPacket (k : Nat) (us : List TxUnit) (c : Chip) : Chip :=
  let put (us : List TxUnit) (c : Chip) : Chip := c.modLink k (fun e => { e with txBuf := e.txBuf ++ us })
  match (c.link k).fiPkts with
  | some h =>
    if h.need ≤ 1 then (swapEnds (h.got ++ [us])).foldl (fun c u => put u c) (c.modLink k (fun e => { e with fiPkts := none }))
    else c.modLink k (fun e => { e with fiPkts := some { need := h.need - 1, got := h.got ++ [us] } })
  | none =>
    let r := fiRegs c k
    let sel := fld r.1 61 1 == 1 && bitOf (fld r.1 51 4) (unitsInfo (us.map Prod.fst)).1
    let go := sel && fiFires c k 1
    let c := if sel then fiPassed k go c else c
    if !go then put us c
    else match fld r.1 59 2 with
      | 0 => c
      | 1 => put (corruptUnits (fld r.1 22 9) (fld r.2 0 32) us) c
      | _ => c.modLink k (fun e => { e with fiPkts := some { need := fld r.1 56 3, got := [us] } })

/-- FI_SHOT (R428): one injection on the next eligible unit. While one is pending, it keeps the values it started with (R427). -/
def fiShot (k : Nat) (c : Chip) : Chip :=
  let k := if isPort k then k else k - k % 2 + fld (c.reg .d2dFi .hub (modOf k)) 55 1
  c.modLink k (fun e => { e with fiShot := true })

/-! ### Training and INIT -/

/-- The INIT record of an end (R417) as stream words. -/
def initRecord (c : Chip) (k : Nat) : List Word :=
  let e := c.link k
  let x := isPort k
  let lane (o : Option Nat) : Nat := o.getD 255
  let spare := if x then e.txFail.isNone else decide (e.gfail.length < 4)
  let retire := if x then lane ((e.moving.find? (fun m => m.1)).map (fun m => m.2)) else 255
  let retireG (g : Nat) : Nat := ((e.moving.find? (fun m => b2n m.1 != k % 2 && m.2 / 16 == g)).map (fun m => m.2 % 16)).getD 255
  let flags := 2 * b2n spare + 4 * b2n e.sawInit + 8 * b2n e.resume
  let v : Nat := [(0, 1), (8, flags), (16, lane e.txFail), (24, retire), (32, if x then c.devId + 32768 * b2n c.idValid else 0),
    (48, replayCap k), (160, if e.resume then e.rxLast else 0)].foldl (fun a p => a + p.2 * 2 ^ p.1) 0
  let cred := (List.range 4).foldl (fun a i => a + (if x then 128 else 64) * 2 ^ (64 + 8 * i) + (if x then 512 else 256) * 2 ^ (96 + 16 * i) +
    (if x then 0 else kget 255 e.gfail i) * 2 ^ (176 + 8 * i) + (if x then 0 else retireG i) * 2 ^ (208 + 8 * i)) 0
  (List.range 8).map (fun i => BitVec.ofNat 32 ((v + cred) / 2 ^ (32 * i)))

/-- A port's direction has a spare lane to move onto: its own, or the peer's. -/
def spareFree (e : LinkEnd) (rx : Bool) : Bool := if rx then e.peerSpare && e.rxFail.isNone else e.txFail.isNone

/-- A retrain begins (R415, R423): flits are held; a second escalation within 1 s of a successful one counts as failed. -/
def startRetrain (k : Nat) (escalated : Bool) (c : Chip) : Chip :=
  let now := c.hub.time.toNat
  let again := escalated && (linkEnds k).any (fun x => match (c.link x).lastOk with
    | some t => decide (now < t + 1000000000)
    | none => false)
  let c := (linkEnds k).foldl (fun c x => c.modLink x (fun e => { e with
    st := if e.moving.isEmpty then .retraining else .failover
    phys := !e.moving.isEmpty, resume := true, sawInit := false, peerSeen := false, sentSeen := false, again := again, nakDue := false })) c
  let c := linkBump k .lnkRetrainCnt .d2dRetrainCnt c
  if isPort k then raise (.hub 10) k c else c

/-- Training from the start: sequence numbers, replay buffers and credits begin anew (R416, R417). -/
def startTraining (k : Nat) (c : Chip) : Chip :=
  let wasDown := (c.link k).st == .down
  let c := (linkEnds k).foldl (fun c x => c.modLink x (fun e => { e with
    st := .training, phys := false, resume := false, sawInit := false, peerSeen := false, sentSeen := false, txNext := 0, replay := [], resend := []
    rxLast := 4095, nakSent := false, nakDue := false, replays := 0, txBuf := [], rxBuf := [], hdrC := [], datC := [], lastH := [], lastD := []
    retH := [], retD := [], moving := e.fo
    fo := [], again := false, fiFlits := none, fiPkts := none })) c
  if wasDown then linkLevel (isPort k) c else c

/-- The link of a port carries nothing any more (R425): replay buffer and stream are gone, requests routed through it end with UNREACH, streams
from it lose credit and open items, and drains toward it hold their items. -/
def portLost (p : Nat) (st : LState) (c : Chip) : Chip :=
  let via (ep : Nat) : Bool := c.rbit .fabEp .hub ep 63 && c.rf .fabEp .hub ep 8 3 == p
  let c := c.modLink p (fun e => { e with st := st, phys := false, resume := false, replay := [], resend := [], txBuf := [], rxBuf := [], rxq := [], moving := [], nakDue := false })
  let c := c.modHub (fun h => { h with xtx := kdel h.xtx p })
  let c := endRequests via 2 c
  let c := (openOf c via).foldl (fun c x => discardOpen x.1 x.2.1 x.2.2 c) c
  let c := c.tiles.foldl (fun c' t => t.2.queues.foldl (fun c' q =>
    if q.2.part.any (fun x => !x.host && x.who % 8 == p) then c'.modQueue (4096 * t.1 + q.1) (fun Q => { Q with part := none }) else c') c') c
  let c := c.tiles.foldl (fun c' t => t.2.queues.foldl (fun c' q =>
    (liveSlots q.2 (fun s => via s.src)).foldl (fun c' i => freeSlot (4096 * t.1 + q.1) i c') c') c') c
  c.hub.drains.foldl (fun c' d => if (drainTo c' d.1).1 = p then
      (drainLost d.1 c').modQueue d.1 (fun Q => { Q with items := Q.items.map (fun i => { i with sending := false, waitAck := false }) })
    else c') c

/-- A port goes down (R425); with auto_up it trains again (R431). -/
def portGoesDown (p : Nat) (c : Chip) : Chip :=
  let s := (c.link p).st
  if s = .down ∨ s = .disabled then c else linkLevel true (portLost p .down c)

/-- Split what a receiver has into packets (R411): null units where a header is expected are skipped. -/
def parseStream : Nat → List TWord → List (List TWord) × List TWord
  | 0, us => ([], us)
  | n + 1, us =>
    match us.dropWhile (fun u => TWord.data u == 0#32) with
    | [] => ([], [])
    | u :: r =>
      let us := u :: r
      let need := (unitsInfo us).2.2
      if us.length < max 4 need then ([], us)
      else
        let p := parseStream n (us.drop need)
        (us.take need :: p.1, p.2)

/-- A packet from its units, as it arrives at a port. -/
def packetOf (port : Nat) (us : List TWord) : Packet :=
  let ws := us.map TWord.data
  let h : BitVec 128 := (ws.getD 3 0#32) ++ (ws.getD 2 0#32) ++ (ws.getD 1 0#32) ++ (ws.getD 0 0#32)
  let p : Packet := { port := port, hdr := h }
  let n := if hasPayload p.type then p.len else 0
  let m := if hasPayload p.type && p.f 7 1 == 1 then (n + 31) / 32 else 0
  { p with payload := (ws.drop 4).take n, mask := (ws.drop (4 + n)).take m, crc := ws.getD (4 + n + m) 0#32 }

/-! ### The way of a packet between dies (R21, R22, R401) -/

/-- The die of an end of a module: D(2t) and D(2t+1) join the hub (4) to tile t, D(8+t) joins tile t to tile (t+1) mod 4 (R21). -/
def endDie (k : Nat) : Nat :=
  let m := modOf k
  if m < 8 then (if k % 2 = 0 then 4 else m / 2) else if k % 2 = 0 then m - 8 else (m - 7) % 4

/-- The module of the pair D(2t), D(2t+1) that carries every packet of one source, destination and channel: the parity of all their bits, and the
other of the pair while that one is down (R401, R420). -/
def pairModule (c : Chip) (t src dst vc : Nat) : Nat :=
  let m := 2 * t + (popBits src 12 + popBits dst 12 + popBits vc 2) % 2
  if (c.link (16 + 2 * m)).st == .down then (if m % 2 = 0 then m + 1 else m - 1) else m

/-- The end over which a packet leaves a die toward the die of its destination (R22): from the hub over the tile's pair; from a tile over the ring
module that joins it to a neighbour, else, and while that module is down (R420), through the hub. -/
def routeEnd (c : Chip) (die src dst vc : Nat) : Option Nat :=
  let dd := dst / 512
  if dd = die ∨ 4 < dd then none
  else if die = 4 then some (16 + 2 * pairModule c dd src dst vc)
  else
    let ring : Option Nat := if dd = (die + 1) % 4 then some (32 + 2 * die) else if dd = (die + 3) % 4 ∧ dd < 4 then some (33 + 2 * dd) else none
    match ring with
    | some k => if dd < 4 ∧ (c.link k).st != .down then some k else some (17 + 2 * pairModule c die src dst vc)
    | none => some (17 + 2 * pairModule c die src dst vc)

/-- A packet goes to the end over which it leaves the die of end `k`; one whose destination no route names stays with `k`. -/
def placeUnits (k : Nat) (us : List TWord) (c : Chip) : Chip :=
  let p := packetOf k us
  c.modLink ((routeEnd c (endDie k) p.src p.dst p.vc).getD k) (fun e => { e with wait := e.wait ++ [us] })

/-- A packet reaches the die of its destination over end `k` (R400): its interface checks the CRC, and a corrupt one is dropped and counted as a
violation of code CRC with port 8 (R406); a sound one is delivered. -/
def deliverUnits (k : Nat) (us : List TWord) (c : Chip) : Chip :=
  let p := packetOf k us
  if packetCrc p.hdr p.payload p.mask 0 p.vc p.dst == p.crc then c.modLink k (fun e => { e with rxUnits := e.rxUnits ++ [us] })
  else
    let c := (c.bump .fabCrcCnt .hub).bump .fabViolCnt .hub
    let c := if c.rbit .fabViolLast .hub 0 63 then c
      else ((c.setReg .fabViolLast .hub 0 (mkReg [(63, 1, 1), (59, 4, 1), (55, 4, 8), (35, 12, p.src)])).setReg .fabViolHdr .hub 0
        (p.hdr.extractLsb' 0 64)).setReg .fabViolHdr .hub 1 (p.hdr.extractLsb' 64 64)
    raise (.hub 7) (8 * 256) c

/-- A packet that end `k` received goes on to the die of its destination, or is delivered there. -/
def arriveUnits (k : Nat) (us : List TWord) (c : Chip) : Chip :=
  let p := packetOf k us
  if (routeEnd c (endDie k) p.src p.dst p.vc).isSome then placeUnits k us c else deliverUnits k us c

/-- Pass units on to the receiving side of an end: whole packets enter its receive queue; of a module their credits return at once. -/
def receiveUnits (k : Nat) (us : List TWord) (c : Chip) : Chip :=
  let p := parseStream 512 ((c.link k).rxBuf ++ us)
  let c := c.modLink k (fun e => { e with rxBuf := p.2 })
  p.1.foldl (fun c us =>
    if isPort k then c.modLink k (fun e => { e with rxq := e.rxq ++ [packetOf k us] })
    else
      let i := unitsInfo us
      arriveUnits k us (giveCredits k i.1 (i.2.2 - 5) c)) c

/-- A packet leaves its place at its port, and its credits return (R416). -/
def takeRx (p : Packet) (c : Chip) : Chip :=
  giveCredits p.port p.vc (p.payload.length + p.mask.length) (c.modLink p.port (fun e => { e with rxq := e.rxq.erase p }))

/-- The surviving path of a down module's traffic is up: the other module of its pair, or for a ring module a path through the hub (R420). -/
def movePath (m : Nat) (c : Chip) : Bool :=
  let up (x : Nat) : Bool := (c.link (16 + 2 * x)).st == .active
  let tile (t : Nat) : Bool := up (2 * t) || up (2 * t + 1)
  if m < 8 then up (if m % 2 = 0 then m + 1 else m - 1) else tile (m - 8) && tile ((m - 7) % 4)

/-- The transfer of R420: what the receivers of a down module have not accepted reaches them over the surviving path. -/
def moduleTransfer (m : Nat) (c : Chip) : Chip :=
  [16 + 2 * m, 17 + 2 * m].foldl (fun c k =>
    let e := c.link k
    let o := c.link (peerEnd k)
    let left := (e.replay.filter (fun s => serialLater 12 s.seq o.rxLast)).flatMap (fun s => s.units.map Prod.fst) ++ e.txBuf.map Prod.fst
    (receiveUnits (peerEnd k) left c).modLink k (fun x => { x with replay := [], resend := [], txBuf := [] })) c

/-- The transfers of the down modules whose surviving path is up: one whose sibling retrains waits for the end of the retrain (R427). -/
def moveTraffic (c : Chip) : Chip :=
  (List.range 12).foldl (fun c m => if (c.link (16 + 2 * m)).st == .down && movePath m c then moduleTransfer m c else c) c

/-- A module goes down (R420): its traffic moves to the surviving path, ahead of what waits for it. -/
def moduleDown (m : Nat) (c : Chip) : Chip :=
  let ends := [16 + 2 * m, 17 + 2 * m]
  if (c.link (16 + 2 * m)).st = .down then c
  else
    let c := linkLevel false (ends.foldl (fun c k => c.modLink k (fun e => { e with st := .down, phys := false, resume := false, moving := [] })) c)
    let c := moveTraffic c
    ends.foldl (fun c k => (c.link k).wait.foldl (fun c us => placeUnits k us c) (c.modLink k (fun x => { x with wait := [] }))) c

/-- A link becomes active once both sides have seen an INIT with seen (R417); from then a port's sources begin with any sequence number when it
was trained afresh (R425), and a recorded lane request is carried out by a further retrain (R427). -/
def tryActivate (k : Nat) (c : Chip) : Chip :=
  let e := c.link k
  if e.phys && e.sawInit && e.peerSeen && e.sentSeen && e.moving.isEmpty && (e.st == .training || e.st == .retraining || e.st == .failover) then
    let fresh := !e.resume
    let now := c.hub.time.toNat
    let c := c.modLink k (fun e => { e with st := .active, resume := false, lastOk := if fresh then none else some now, again := false })
    let c := if isPort k then c else moveTraffic c
    let c := if fresh && isPort k then c.modHub (fun h => { h with resync := kset h.resync (4096 + k) [] }) else c
    if e.fo.isEmpty then c else startRetrain k false (c.modLink k (fun x => { x with fo := [], moving := e.fo }))
  else c

/-- Fill an end's stream buffer with the next packets, up to the units of a flit. -/
def fillTx (k : Nat) : Nat → Chip → Chip
  | 0, c => c
  | n + 1, c =>
    if streamUnits k ≤ (c.link k).txBuf.length then c
    else match nextPacket c k with
      | none => c
      | some x => fillTx k n (fiPacket k x.2 (takePacket k x.1 x.2 c))

/-- FLIT_TRANSMIT (R413–R417): an end sends its next flit: INIT while it trains, a NAK that is due, a flit to be resent, a new data flit while the
replay buffer has room, or an idle flit. `pkts` are packets that its die gives a module. -/
def flitTransmit (k : Nat) (pkts : List (List TWord)) (c : Chip) : Chip :=
  let c := if isPort k then c else pkts.foldl (fun c us => placeUnits k us c) c
  let e := c.link k
  if e.st = .active then
    if e.nakDue then emitFlit k (mkFlit c k 2 0 []) (c.modLink k (fun e => { e with nakDue := false }))
    else match e.resend with
      | s :: r => emitFlit k (mkFlit c k 0 s.seq (s.units.map Prod.fst)) (c.modLink k (fun e => { e with resend := r }))
      | [] =>
        if replayCap k ≤ e.replay.length then emitFlit k (mkFlit c k 1 0 []) c
        else
          let c := fillTx k 64 c
          let e := c.link k
          if e.txBuf.isEmpty then emitFlit k (mkFlit c k 1 0 []) c
          else
            let us := e.txBuf.take (streamUnits k)
            let f := mkFlit c k 0 e.txNext (us.map Prod.fst)
            fiFlit k f (c.modLink k (fun e => { e with
              txBuf := e.txBuf.drop (streamUnits k), txNext := (e.txNext + 1) % 4096, replay := e.replay ++ [⟨e.txNext, us, c.hub.time.toNat⟩] }))
  else if e.phys && (e.st == .training || e.st == .retraining || e.st == .failover) then
    let us : List TWord := (initRecord c k).map (fun w => (0#3 ++ w : BitVec 35))
    tryActivate k (emitFlit k (mkFlit c k 3 0 us) (c.modLink k (fun e => { e with sentSeen := e.sentSeen || e.sawInit })))
  else c

/-- A bad flit, or a data flit out of turn: the first since an acceptance makes one NAK due (R414). -/
def nakOnce (k : Nat) (c : Chip) : Chip := c.modLink k (fun e => if e.nakSent then e else { e with nakSent := true, nakDue := true })

/-- DATA_FLIT_RX (R411, R414, R416): `fec` is what the FEC of a port found: 0 nothing, 1 corrected, 2 uncorrectable. -/
def dataFlitRx (k fec : Nat) (f : Flit) (c : Chip) : Chip :=
  if (c.link k).st ≠ .active then c
  else
    let c := if !(isPort k) || fec = 0 then c else c.bump (if fec = 1 then .lnkFecCeCnt else .lnkFecUeCnt) .hub k
    if !(flitOk f) || (isPort k && decide (2 ≤ fec)) then nakOnce k (linkBump k .lnkCrcCnt .d2dCrcCnt c)
    else if f.kind ≠ 0 then c
    else
      let c := takeCredits k f (ackUpTo k (f.c 14 12) c)
      let want := ((c.link k).rxLast + 1) % 4096
      let seq := f.c 2 12
      if seq = want then
        let us : List TWord := f.stream.zipIdx.map (fun x => ((if isPort k then 0#3 else f.side.extractLsb' (3 * x.2) 3) ++ x.1 : BitVec 35))
        receiveUnits k us (c.modLink k (fun e => { e with rxLast := seq, nakSent := false }))
      else if serialLater 12 seq want then nakOnce k c else c

/-- IDLE_FLIT_RX (R414, R416). -/
def idleFlitRx (k : Nat) (f : Flit) (c : Chip) : Chip :=
  if (c.link k).st ≠ .active then c
  else if !(flitOk f) then linkBump k .lnkCrcCnt .d2dCrcCnt c
  else if f.kind ≠ 1 then c
  else takeCredits k f (ackUpTo k (f.c 14 12) c)

/-- A replay of every buffered flit (R415). -/
def replayAll (k : Nat) (c : Chip) : Chip :=
  if (c.link k).replay.isEmpty then c
  else linkBump k .lnkReplayCnt .d2dReplayCnt (c.modLink k (fun e => { e with resend := e.replay, replays := e.replays + 1 }))

/-- NAK_RX (R415); during a retrain it is ignored (R427). -/
def nakRx (k : Nat) (f : Flit) (c : Chip) : Chip :=
  if (c.link k).st ≠ .active then c
  else if !(flitOk f) then linkBump k .lnkCrcCnt .d2dCrcCnt c
  else if f.kind ≠ 2 then c
  else replayAll k (takeCredits k f (ackUpTo k (f.c 14 12) c))

/-- REPLAY_TIMEOUT (R415): the oldest flit is replayed, or after the eighth replay or 2 ms the link retrains. -/
def replayTimeout (k : Nat) (c : Chip) : Chip :=
  let e := c.link k
  match e.replay with
  | [] => c
  | s :: _ =>
    if e.st ≠ .active then c
    else if 8 ≤ e.replays || decide (s.born + 2000000 ≤ c.hub.time.toNat) then startRetrain k true c
    else replayAll k c

/-- INIT_RX (R417, R423): the peer's credits, endpoint and lanes; a lane it asks to retire moves if a spare is left. -/
def initRx (k : Nat) (f : Flit) (c : Chip) : Chip :=
  let e := c.link k
  let w (lo n : Nat) : Nat := (f.stream.zipIdx.foldl (fun a x => if x.2 < 8 then a + x.1.toNat * 2 ^ (32 * x.2) else a) 0) / 2 ^ lo % 2 ^ n
  if !e.phys || e.st == .active || e.st == .down || e.st == .disabled then c
  else if !(flitOk f) then linkBump k .lnkCrcCnt .d2dCrcCnt c
  else if f.kind ≠ 3 || w 0 8 ≠ 1 then c
  else
    let fresh := !e.resume
    let lane (x : Nat) : Option Nat := if x = 255 then none else some x
    let c := c.modLink k (fun e => { e with
      sawInit := true, peerSeen := e.peerSeen || w 10 1 == 1, peerSpare := w 9 1 == 1, peerRole := some (w 8 1 == 1)
      peerEp := if w 47 1 = 1 then some (w 32 12) else none
      rxFail := if isPort k then lane (w 16 8) else e.rxFail
      hdrC := if fresh then (List.range 4).map (fun v => (v, w (64 + 8 * v) 8)) else e.hdrC
      datC := if fresh then (List.range 4).map (fun v => (v, min 4095 (w (96 + 16 * v) 16))) else e.datC
      lastH := if fresh then [] else e.lastH
      lastD := if fresh then [] else e.lastD })
    let c := if fresh then c else
      let c := if w 11 1 = 1 then ackUpTo k (w 160 12) c else c
      c.modLink k (fun e => { e with resend := e.replay })
    let c := match lane (w 24 8) with
      | none => c
      | some l =>
        let e := c.link k
        if !(isPort k) || e.txFail == some l then c
        else if e.txFail.isSome then portGoesDown k c
        else c.modLink k (fun e => { e with st := .failover, txFail := some l, moving := e.moving ++ [(false, l)] })
    tryActivate k c

/-- Lanes have moved (R419, R423): the direction's lane is out of service and LNK_FAILOVER or D2D_REPAIR is raised for each. -/
def lanesMoved (k : Nat) (c : Chip) : Chip :=
  let ms := (c.link k).moving
  let c := ms.foldl (fun c m =>
    if isPort k then
      raise (.hub 11) (16 * k + m.2) ((c.modLink k (fun e => if m.1 then { e with rxFail := some m.2 } else { e with txFail := some m.2 })).logRepair
        8 6 (k * 2 ^ 22 + m.2 * 2 ^ 15 + b2n m.1 * 2 ^ 14))
    else raise (.hub 14) (256 * modOf k + m.2) ((c.modLink (k - k % 2 + b2n m.1) (fun e => { e with gfail := kset e.gfail (m.2 / 16) (m.2 % 16) })).logRepair
        9 6 (modOf k * 2 ^ 22 + m.2 * 2 ^ 15 + b2n m.1 * 2 ^ 14))) c
  (linkEnds k).foldl (fun c x => c.modLink x (fun e => { e with moving := [] })) c

/-- PORT_TRAINED (R418, R422, R431): the lanes have locked and passed their test, recorded lane requests are carried out, and INIT flits are
exchanged. A port that is down trains again while auto_up is 1. -/
def portTrained (k : Nat) (c : Chip) : Chip :=
  let k := if isPort k then k else k - k % 2
  let c := if isPort k && (c.link k).st == .down && c.rbit .lnkCtl .hub k 63 && c.rbit .lnkCtl .hub k 54 then startTraining k c else c
  if (c.link k).st = .training then
    (linkEnds k).foldl (fun c x => c.modLink x (fun e => { e with phys := true })) (lanesMoved k c)
  else c

/-- A retrain succeeded: INIT flits with resume follow. -/
def retrainOk (k : Nat) (c : Chip) : Chip :=
  let c := lanesMoved k c
  (linkEnds k).foldl (fun c x => c.modLink x (fun e => { e with phys := true, st := .retraining })) c

/-- A lane substitution begins, in a further retrain. -/
def moveLanes (k : Nat) (ms : List (Bool × Nat)) (c : Chip) : Chip :=
  (linkEnds k).foldl (fun c x => c.modLink x (fun e => { e with
    st := .failover, phys := true, sawInit := false, peerSeen := false, sentSeen := false, moving := ms, again := false })) c

/-- The group of a module's physical lane (R418). -/
def laneGroup (l : Nat) : Nat := if l < 64 then l / 16 else l - 64

/-- RETRAIN_COMPLETE (R415, R419, R423): `f0` and `f1` are the lanes that failed, in transmit and receive direction of a port, or in directions 0
and 1 of a module. -/
def retrainComplete (k : Nat) (f0 f1 : List Nat) (c : Chip) : Chip :=
  let k := if isPort k then k else k - k % 2
  let e := c.link k
  if e.st ≠ .retraining ∧ e.st ≠ .failover then c
  else if isPort k then
    let fs := ((f0.filter (fun l => decide (l ≤ 4) && l != (e.txFail.getD 4))).map (fun l => (false, l))) ++
      ((f1.filter (fun l => decide (l ≤ 4) && l != (e.rxFail.getD 4))).map (fun l => (true, l)))
    if e.st = .failover then
      let can := e.moving.all (fun m => if m.1 then e.peerSpare || e.rxFail == some m.2 else e.txFail.isNone || e.txFail == some m.2)
      let left := fs.filter (fun x => !(e.moving.contains x))
      if can && left.isEmpty then retrainOk k c else portGoesDown k c
    else match fs with
      | [] => if e.again then portGoesDown k c else retrainOk k c
      | [m] => if spareFree e m.1 then moveLanes k [m] c else portGoesDown k c
      | _ => portGoesDown k c
  else
    let m := modOf k
    let c := (f0 ++ f1).foldl (fun c l => c.setRf .d2dLane .hub (68 * m + l) 0 16 (min 65535 (c.rf .d2dLane .hub (68 * m + l) 0 16 + 1))) c
    let used (d g : Nat) : Bool := khas (c.link (k + d)).gfail g
    let inUse (d l : Nat) : Bool := if l < 64 then kget 16 (c.link (k + d)).gfail (l / 16) != l % 16 else used d (l - 64)
    let fs := ((f0.filter (inUse 0)).map (fun l => (false, l))) ++ ((f1.filter (inUse 1)).map (fun l => (true, l)))
    if e.st = .failover then
      let clash := e.moving.any (fun x => used (b2n x.1) (laneGroup x.2))
      let left := fs.filter (fun x => !(e.moving.contains x))
      if !clash && left.isEmpty then retrainOk k c else moduleDown m c
    else
      let clash := fs.any (fun x => used (b2n x.1) (laneGroup x.2) || decide (64 ≤ x.2) ||
        decide (1 < (fs.filter (fun y => y.1 == x.1 && laneGroup y.2 == laneGroup x.2)).length))
      if fs.isEmpty then (if e.again then moduleDown m c else retrainOk k c)
      else if clash then moduleDown m c else moveLanes k fs c

/-- LOSS_OF_SIGNAL (R425): on two or more lanes the port goes down; on one, its flits fail and the link escalates by itself. -/
def lossOfSignal (p lanes : Nat) (c : Chip) : Chip := if 2 ≤ lanes then portGoesDown p c else c

/-- LANE_MARGIN_SAMPLE (R424): the errors and margins of a second; a lane beyond its limit sets over and raises SPR_WEAR once. -/
def laneSample (port : Bool) (n ser m0 m1 : Nat) (c : Chip) : Chip :=
  let thr := c.rf .lnkTiming .hub 0 0 16
  if port then
    let beyond := decide (c.rf .lnkTiming .hub 0 16 16 * 1024 < ser) || decide (m0 < thr)
    let c := (c.setRf .lnkLane .hub n 0 32 (min (2 ^ 32 - 1) ser)).setRf .lnkLane .hub n 32 16 m0
    if beyond && !(c.rbit .lnkLane .hub n 63) then raise (.hub 36) (624 + n) (c.setRf .lnkLane .hub n 63 1 1) else c
  else
    let c := (c.setRf .d2dLane .hub n 32 16 m0).setRf .d2dLane .hub n 16 16 m1
    if (decide (m0 < thr) || decide (m1 < thr)) && !(c.rbit .d2dLane .hub n 63) then raise (.hub 36) (664 + n) (c.setRf .d2dLane .hub n 63 1 1) else c

/-- LNK_ENABLE (R431): a write of en starts training, or stops the port. -/
def lnkEnable (p : Nat) (en : Bool) (c : Chip) : Chip :=
  let was := c.rbit .lnkCtl .hub p 63
  let c := c.setRf .lnkCtl .hub p 63 1 (b2n en)
  if en && !was then startTraining p c
  else if !en && was then
    let down := (c.link p).st == .down
    let c := portLost p .disabled c
    if down then linkLevel true c else c
  else c

/-- LNK_RETRAIN_REQ and D2D_RETRAIN_REQ (R425, R431): an active link retrains; a port that is down trains again. -/
def retrainReq (k : Nat) (c : Chip) : Chip :=
  let e := c.link k
  if e.st = .active then startRetrain k false c
  else if isPort k && e.st == .down && c.rbit .lnkCtl .hub k 63 then startTraining k c else c

/-- LNK_DOWN_REQ (R431). -/
def lnkDownReq (p : Nat) (c : Chip) : Chip := portGoesDown p c

/-- LNK_FAILOVER_REQ and D2D_REPAIR_REQ (R419, R423, R427): `dir` 1 is the receive direction of a port or direction 1 of a module. -/
def moveReq (k lane : Nat) (dir : Bool) (c : Chip) : Chip :=
  let k := if isPort k then k else k - k % 2
  if (if isPort k then decide (3 < lane) else decide (63 < lane)) then c
  else if (c.link k).st = .active then
    startRetrain k false ((linkEnds k).foldl (fun c x => c.modLink x (fun e => { e with moving := [(dir, lane)] })) c)
  else c.modLink k (fun e => { e with fo := e.fo ++ [(dir, lane)] })

/-- LNK_STAT_p (R432). -/
def lnkStat (c : Chip) (p : Nat) : BitVec 64 :=
  let e := c.link p
  let st := match e.st with
    | .disabled => 0
    | .training => 1
    | .active => 2
    | .retraining => 3
    | .failover => 4
    | .down => 5
  mkReg [(61, 3, st), (58, 3, e.txFail.getD 7), (55, 3, e.rxFail.getD 7), (54, 1, b2n e.peerSpare), (53, 1, b2n e.peerEp.isSome), (41, 12, e.peerEp.getD 0),
    (30, 11, e.replay.length)]

/-- D2D_STAT_m (R432). -/
def d2dStat (c : Chip) (m : Nat) : BitVec 64 :=
  let e0 := c.link (16 + 2 * m)
  let e1 := c.link (17 + 2 * m)
  let is (s : LState) : Bool := e0.st == s || e1.st == s
  let st := if is .down then 4 else if is .failover then 3 else if is .retraining then 2 else if e0.st == .active && e1.st == .active then 1 else 0
  let used (e : LinkEnd) : Nat := (List.range 4).foldl (fun a g => a + b2n (khas e.gfail g) * 2 ^ g) 0
  let lanes (e : LinkEnd) : Nat := (List.range 4).foldl (fun a g => a + kget 0 e.gfail g * 16 ^ g) 0
  mkReg [(61, 3, st), (57, 4, used e0), (53, 4, used e1), (16, 16, lanes e0), (0, 16, lanes e1)]

/-- Both modules that join a tile to the hub are down: the tile is unreachable (R420). -/
def Chip.tileCut (c : Chip) (t : Nat) : Bool := (c.link (16 + 4 * t)).st == .down && (c.link (18 + 4 * t)).st == .down

end Sys2Proof.Machine
end

