-- ==== Sys2Proof/Machine/Security.lean ====
section
/-!
DEFINITION. The security block (R523–R543): SHA-256, OTP with its owner key slots, lifecycle groups and floors, measurements, and burns.
-/
namespace Sys2Proof.Machine

/-! ### Bytes -/

/-- The low `n` bytes of a number, least significant first (R4). -/
def bytesOf (v : Nat) : Nat → List Byte
  | 0 => []
  | n + 1 => BitVec.ofNat 8 v :: bytesOf (v / 256) n

/-- The little-endian value of bytes (R4). -/
def leOf (l : List Byte) : Nat := l.foldr (fun b v => b.toNat + 256 * v) 0

/-- The little-endian value of `n` bytes from offset `o` of a list. -/
def leAt (l : List Byte) (o n : Nat) : Nat := leOf ((l.drop o).take n)

/-! ### SHA-256 (R523, FIPS 180-4) -/

/-- The first 64 primes. -/
def shaPrimes : List Nat := (List.range 312).filter (fun p => decide (2 ≤ p) && (List.range p).all (fun k => decide (k < 2) || p % k != 0))

/-- The integer part of the `e`-th root of `n`, bit by bit from a first value `r`. -/
def rootBits (e n : Nat) : Nat → Nat → Nat
  | 0, r => r
  | b + 1, r => rootBits e n b (if (r + 2 ^ b) ^ e ≤ n then r + 2 ^ b else r)

/-- The first 32 bits of the fraction of the `e`-th root of `p`. -/
def rootFraction (e p : Nat) : BitVec 32 := BitVec.ofNat 32 (rootBits e (p * 2 ^ (32 * e)) 38 0)

/-- The round constants: from the cube roots of the first 64 primes (FIPS 180-4). -/
def shaK : List (BitVec 32) := shaPrimes.map (rootFraction 3)

/-- The initial hash words: from the square roots of the first eight primes (FIPS 180-4). -/
def shaH : List (BitVec 32) := (shaPrimes.take 8).map (rootFraction 2)

/-- The next word of the message schedule from the last sixteen, newest first. -/
def shaNext (l : List (BitVec 32)) : BitVec 32 :=
  let x := l.getD 14 0#32
  let y := l.getD 1 0#32
  let s0 := x.rotateRight 7 ^^^ x.rotateRight 18 ^^^ (x >>> 3)
  let s1 := y.rotateRight 17 ^^^ y.rotateRight 19 ^^^ (y >>> 10)
  l.getD 15 0#32 + s0 + l.getD 6 0#32 + s1

/-- Extend the schedule, newest first. -/
def shaSchedule : Nat → List (BitVec 32) → List (BitVec 32)
  | 0, l => l
  | n + 1, l => shaSchedule n (shaNext l :: l)

/-- One round on the eight working words. -/
def shaRound (s : List (BitVec 32)) (kw : BitVec 32) : List (BitVec 32) :=
  match s with
  | [a, b, c, d, e, f, g, h] =>
    let s1 := e.rotateRight 6 ^^^ e.rotateRight 11 ^^^ e.rotateRight 25
    let t1 := h + s1 + ((e &&& f) ^^^ (~~~e &&& g)) + kw
    let s0 := a.rotateRight 2 ^^^ a.rotateRight 13 ^^^ a.rotateRight 22
    let t2 := s0 + ((a &&& b) ^^^ (a &&& c) ^^^ (b &&& c))
    [t1 + t2, a, b, c, d + t1, e, f, g]
  | _ => s

/-- One 64-byte block. -/
def shaBlock (h : List (BitVec 32)) (ws : List (BitVec 32)) : List (BitVec 32) :=
  let sched := (shaSchedule 48 ws.reverse).reverse
  let s := (sched.zip shaK).foldl (fun s x => shaRound s (x.1 + x.2)) h
  (h.zip s).map (fun x => x.1 + x.2)

/-- Sixteen big-endian words of a block. -/
def shaWords (l : List Byte) : List (BitVec 32) :=
  (List.range 16).map (fun i => l.getD (4 * i) 0#8 ++ l.getD (4 * i + 1) 0#8 ++ l.getD (4 * i + 2) 0#8 ++ l.getD (4 * i + 3) 0#8)

/-- All blocks of a padded message. -/
def shaBlocks : Nat → List (BitVec 32) → List Byte → List (BitVec 32)
  | 0, h, _ => h
  | n + 1, h, l => shaBlocks n (shaBlock h (shaWords l)) (l.drop 64)

/-- The SHA-256 digest, with byte i in bits 8i + 7 to 8i. -/
def sha256 (m : List Byte) : BitVec 256 :=
  let n := m.length
  let pad := (119 - n % 64) % 64
  let l := m ++ [0x80#8] ++ List.replicate pad 0#8 ++ (bytesOf (8 * n) 8).reverse
  let h := shaBlocks (l.length / 64) shaH l
  let bytes := h.flatMap (fun w => (bytesOf w.toNat 4).reverse)
  BitVec.ofNat 256 (leOf bytes)

/-! ### OTP (R525–R527) -/

/-- A byte of the OTP: what Atgasa wrote, or what has been burned since. -/
def Chip.otpByte (c : Chip) (o : Nat) : Nat := if 0x70 ≤ o ∧ o < 0x1C0 then kget 0 c.hub.otp o else (Config.otpByte o).toNat

/-- Bytes of the OTP. -/
def Chip.otpBytes (c : Chip) (o n : Nat) : List Byte := (List.range n).map (fun i => BitVec.ofNat 8 (c.otpByte (o + i)))

/-- The device's UID. -/
def Chip.uid (c : Chip) : Nat := leOf (c.otpBytes 0 16)

/-- The device's stepping. -/
def Chip.stepping (c : Chip) : Nat := c.otpByte 16

/-- A 4-bit group counts as burned when at least 3 of its bits read 1 (R526). -/
def groupBurned (v : Nat) : Bool := decide (3 ≤ ((List.range 4).filter (fun i => bitOf v i)).length)

/-- States of an owner key slot (R526), with the codes of R537. -/
def Chip.slotState (c : Chip) (s : Nat) : Nat :=
  let o := 0x100 + 48 * s
  let g := c.otpByte (o + 32)
  if groupBurned (g / 16) then 2
  else if groupBurned (g % 16) then 1
  else if leOf (c.otpBytes o 32) = 0 then 0 else 3

/-- Group `i` of the lifecycle field: 0 DEVELOP, 1 PRODUCTION, 2 RETURN, 3 the seed read-gate (R528). -/
def Chip.lcGroup (c : Chip) (i : Nat) : Bool := groupBurned (c.otpByte (0x70 + i / 2) / 16 ^ (i % 2) % 16)

/-- The lifecycle code (R528). -/
def Chip.lifecycle (c : Chip) : Nat := if c.lcGroup 2 then 4 else if c.lcGroup 1 then 3 else if c.lcGroup 0 then 2 else 1

/-- A development lifecycle state (R528). -/
def Chip.development (c : Chip) : Bool := c.lifecycle != 3

/-- A thermometer counts the bits that read 1 (R527). -/
def Chip.thermo (c : Chip) (o : Nat) : Nat := ((List.range 64).filter (fun i => bitOf (c.otpByte (o + i / 8)) (i % 8))).length

/-- The firmware floor. -/
def Chip.fwFloor (c : Chip) : Nat := c.thermo 0x80

/-- The personality floor. -/
def Chip.persFloor (c : Chip) : Nat := c.thermo 0x88

/-- Burn bits: a bit once burned reads 1 (R525). -/
def burnCells (cells : List (Nat × Nat)) (c : Chip) : Chip :=
  c.modHub (fun h => { h with otp := cells.foldl (fun m x => kset m x.1 (kget 0 m x.1 ||| x.2)) h.otp })

/-- The cells that bring a thermometer up to a value. -/
def thermoCells (o n : Nat) : List (Nat × Nat) := (List.range 8).filterMap (fun i =>
  if 8 * i < n then some (o + i, 2 ^ min 8 (n - 8 * i) - 1) else none)

/-- The bits that a burn sets, one by one, in the order of its cells: key or data bits first, the group bits last (R527). -/
def cellBits (cells : List (Nat × Nat)) : List (Nat × Nat) :=
  cells.flatMap (fun x => (List.range 8).filterMap (fun j => if x.2.testBit j then some (x.1, 2 ^ j) else none))

/-- A reset interrupts a burn (R527): a free number of its bytes was written, in order. -/
def burnReset (c : Chip) : Chip :=
  match c.hub.burn with
  | none => c
  | some b =>
    let cells := cellBits b.cells
    let n := Config.burnStop c.fresh % (cells.length + 1)
    { (burnCells (cells.take n) c).modHub (fun h => { h with burn := none }) with fresh := c.fresh + 1 }

/-! ### Keys and measurements -/

/-- The public key of a signer (R529): the vendor key travels with what it signs and must hash to the vendor root key hash; an owner slot must
be valid. -/
def Chip.signerKey (c : Chip) (signer : Nat) (travels : List Byte) : Option (List Byte) :=
  if signer = 0 then
    (if sha256 travels = BitVec.ofNat 256 (leOf (c.otpBytes 0x20 32)) then some travels else none)
  else if signer ≤ 4 ∧ c.slotState (signer - 1) = 1 then some (c.otpBytes (0x100 + 48 * (signer - 1)) 32)
  else none

/-- A signer that may sign a personality in the current state (R528). -/
def Chip.persSigner (c : Chip) (signer : Nat) : Bool :=
  match c.lifecycle with
  | 1 => decide (signer ≤ 4)
  | 2 => decide (1 ≤ signer) && decide (signer ≤ 4)
  | 3 => decide (1 ≤ signer) && decide (signer ≤ 4)
  | _ => signer == 0

/-- Bytes of a measurement register (R534). -/
def Chip.measure (c : Chip) (i : Nat) : List Byte := (List.range 4).flatMap (fun j => bytesOf (c.reg .secMeas .hub (4 * i + j)).toNat 8)

/-- Extend a measurement register by a digest (R534). -/
def extendM (i : Nat) (d : BitVec 256) (c : Chip) : Chip :=
  let m := sha256 (c.measure i ++ bytesOf d.toNat 32)
  (List.range 4).foldl (fun c j => c.setReg .secMeas .hub (4 * i + j) (m.extractLsb' (64 * j) 64)) c

/-- SEC_EXTEND (R534, R543): a write of go extends register 2, 3, 4, 6 or 7 by SEC_EXT_DATA. -/
def secExtend (v : BitVec 64) (c : Chip) : Chip :=
  let r := fld v 0 3
  if fld v 63 1 = 1 ∧ [2, 3, 4, 6, 7].contains r then
    let d : BitVec 256 := c.reg .secExtData .hub 3 ++ c.reg .secExtData .hub 2 ++ c.reg .secExtData .hub 1 ++ c.reg .secExtData .hub 0
    raise (.hub 17) 6 (extendM r d c)
  else c

/-- SEC_STATUS (R543). -/
def secStatus (c : Chip) : BitVec 64 :=
  let slots := (List.range 4).foldl (fun a s => a + b2n (c.slotState s == 1) * 2 ^ s) 0
  let op := if c.hub.burn.isSome then 4 else if c.hub.signing.isSome then 5 else 0
  mkReg [(60, 4, c.lifecycle), (56, 4, slots), (48, 8, c.fwFloor), (40, 8, c.persFloor), (39, 1, b2n (op != 0)), (36, 3, op), (35, 1, b2n (c.lcGroup 3))]

end Sys2Proof.Machine
end

