-- ==== Sys2Proof/Machine/Resets.lean ====
section
/-!
DEFINITION. Register lookup by address, the reset of register fields by scope (R10), and the GROVE and TILE resets (R169, R337, R555).
-/
namespace Sys2Proof.Machine

/-! ### Registers by address -/

/-- The register of a block at an offset, with its index. -/
def Reg.atOff (l : RLoc) (o : Nat) : Option (Reg × Nat) :=
  Reg.all.findSome? (fun r =>
    let i := r.info
    if i.loc = l ∧ i.off ≤ o ∧ (o - i.off) % i.stride = 0 ∧ (o - i.off) / i.stride < i.cnt ∧ !(r.covered ((o - i.off) / i.stride)) then some (r, (o - i.off) / i.stride) else none)

/-- The register at a device-local address, with its place and index. -/
def regAt (a : Nat) : Option (Reg × Site × Nat) :=
  match regionOf 0 a with
  | .hubReg o => (Reg.atOff .hub o).map (fun x => (x.1, .hub, x.2))
  | .tileReg t o => (Reg.atOff .tile o).map (fun x => (x.1, .tile t, x.2))
  | .groveReg t g o => (Reg.atOff .grove o).map (fun x => (x.1, .grove t g, x.2))
  | _ => none

/-- The register whose value is kept under a key: the one at that address, or a record that another register covers. -/
def regKey (a : Nat) : Option (Reg × Site × Nat) :=
  if coveredBase + 256 ≤ a ∧ a < coveredBase + 320 then some (.uioCfg, .hub, (a - coveredBase) / 8) else regAt a

/-! ### Fields and scopes (R10) -/

/-- The fields of a register that a reset of some scopes restores. -/
def Reg.resetVal (r : Reg) (sc : List Scope) (v : BitVec 64) : BitVec 64 :=
  r.fields.foldl (fun v f => if sc.contains f.scope then setFld v f.lo f.wd f.rst else v) v

/-- Restore the fields of every register of some places whose reset scope is named. -/
def resetRegs (place : Site → Bool) (sc : List Scope) (c : Chip) : Chip :=
  { c with regs := c.regs.map (fun x => match regKey x.1 with
    | some (r, s, _) => if place s then (x.1, r.resetVal sc x.2) else x
    | none => x) }

/-- The sources of some places whose pend a reset clears: the change travels like any other (R223). -/
def clearPends (place : Site → Bool) (c : Chip) : Chip :=
  c.regs.foldl (fun c x => match regAt x.1 with
    | some (.evtSrcG, .grove t g, k) => if place (.grove t g) then clearPend (.grove t g k) c else c
    | some (.evtSrcT, .tile t, j) => if place (.tile t) then clearPend (.tile t j) c else c
    | _ => c) c

/-- The registers of tile t and of its groves. -/
def inTile (t : Nat) : Site → Bool
  | .hub => false
  | .tile u => u == t
  | .grove u _ => u == t

/-! ### GROVE reset -/

/-- A substitution that a reset of its grove, its spare's column or its tile ends (R366). -/
def swapReset (t : Nat) (g : Option Nat) (c : Chip) : Chip :=
  match c.hub.swap with
  | some s =>
    let hits : Bool := match g with
      | none => true
      | some g => if s.shift then g / 16 == s.row else g == gidx s.col s.row
    if s.tile = t ∧ hits then swapEnd 5 c else c
  | none => c

/-- A GROVE reset (R169, R226, R288, R337, R572): its tasks abort and repeat their attempts, a page-in is abandoned, slots are EMPTY, registers and
banks at their reset values, scratchpad contents kept. A halted grove stays halted. -/
def groveReset (t g : Nat) (c : Chip) : Chip :=
  let c := resetAttempts t g c
  let c := swapReset t (some g) c
  let c := c.modTile t (fun ti => { ti with
    pageWait := ti.pageWait.filter (fun m => m.1 != g)
    rgrHeld := ti.rgrHeld.filter (fun x => x.1 != g)
    rgrFetched := ti.rgrFetched.filter (fun x => x.1 != g) })
  let c := resetRegs (fun s => s == .grove t g) [.grove] (clearPends (fun s => s == .grove t g) c)
  let c := c.modGrove t g (fun gr => {
    cycle := gr.cycle, halted := gr.halted, haltReq := gr.haltReq, step := gr.step, spmPwr := gr.spmPwr, busyCnt := gr.busyCnt,
    dispCnt := gr.dispCnt, mwrTag := gr.mwrTag, mrdTag := gr.mrdTag, portB := gr.portB })
  spmApply t g c

/-- RST_GROVE (R560, R561): an unpopulated index is ignored. -/
def rstGrove (t g : Nat) (c : Chip) : Chip := if gpop g then groveReset t g c else c

/-! ### TILE reset -/

/-- What a TILE reset leaves of a queue: the streams it no longer knows stay stale (R391, R473). -/
def Queue.forget (Q : Queue) : Queue := { streams := Q.streams.map (fun x => (x.1, { x.2 with bal := 0, live := false })) }

/-- A channel after a TILE reset (R318): it retrains without zero-fill; a bring-up that had not ended restarts. -/
def Chan.reset (x : Chan) : Chan :=
  { state := match x.state with
      | .untrained | .training | .zerofill => .training
      | _ => .retraining
    density := x.density, temp := x.temp }

/-- What a TILE reset leaves of a grove: the power of its scratchpad and the tags of requests that may still be answered. -/
def Grove.forget (gr : Grove) : Grove := { cycle := gr.cycle, spmPwr := gr.spmPwr, mwrTag := gr.mwrTag, mrdTag := gr.mrdTag }

/-- What a TILE reset leaves of a tile: its channels, which retrain, and its memory blocks, of which those that were off are powered up. -/
def Tile.forget (ti : Tile) : Tile :=
  { cycle := ti.cycle
    chans := (List.range 8).map (fun i => (i, (kget ({} : Chan) ti.chans i).reset))
    tmbPwr := ti.tmbPwr.map (fun (b : Nat × MemPwr) => (b.1, if b.2.dead then .transition else .on))
    queues := (ti.queues.map (fun (q : Nat × Queue) => (q.1, q.2.forget))).filter (fun q => !q.2.streams.isEmpty) }

/-- A TILE reset (R193, R291, R318, R366, R391, R427, R555): the tile's logic returns to its reset state, its count advances, memory and GDDR7
contents stay, its modules retrain. The tile is held dark until a personality is applied to it (R473, R475). -/
def tileReset (t : Nat) (c : Chip) : Chip :=
  let c := c.setRf .rstTileCnt .hub 0 (16 * t) 16 (c.rf .rstTileCnt .hub 0 (16 * t) 16 + 1)
  let c := swapReset t none c
  let c := resetRegs (inTile t) [.tile, .grove] (clearPends (inTile t) c)
  let c := xtileReset t c
  let c := c.modHub (fun h => { h with
    drains := h.drains.filter (fun x => x.1 / 4096 != t)
    rowJob := h.rowJob.filter (fun j => j.tile != t)
    held := h.held.filter (fun x => x != t) ++ [t] })
  let c := { c with evt := { c.evt with posts := kdel c.evt.posts t } }
  let c := { c with groves := c.groves.map (fun (x : Nat × Grove) => if x.1 / 256 = t then (x.1, x.2.forget) else x) }
  let c := c.modTile t (fun ti => ti.forget)
  let c := (c.tileGroves t).foldl (fun c g => spmApply t g c) c
  let c := [2 * t, 2 * t + 1, 8 + t, 8 + (t + 3) % 4].foldl (fun c m => startTraining (16 + 2 * m) c) c
  gd7Level t c

/-- A change of ilv rearranges the contents of tile memory: each row stays in its block, and its address changes (R279, R298). -/
def tmbRemap (t : Nat) (after : Chip) (d : Dev) : Dev :=
  let here (a : Nat) : Bool := decide (tmBase t ≤ a) && decide (a < tmBase t + 33554432)
  let stay := d.mem.filter (fun x => !(here x.1))
  let moved := (d.mem.filter (fun x => here x.1)).foldl (fun (m : Mem) (x : Nat × Byte) =>
    let o := x.1 - tmBase t
    m.write (tmBase t + after.tmOffset t (d.chip.tmBlock t o) (d.chip.tmRow t o) + o % 8) x.2) stay
  { mem := moved, chip := after }

/-- A change that resets tiles: where it takes ilv of a tile from 1 to 0, the contents of its memory are rearranged with it (R279, R298). -/
def Dev.reset (d : Dev) (f : Chip → Chip) : Dev :=
  (List.range 4).foldl (fun e t =>
    if d.chip.rbit .tmbCtl (.tile t) 0 1 && !(e.chip.rbit .tmbCtl (.tile t) 0 1) then
      { mem := (tmbRemap t e.chip { mem := e.mem, chip := d.chip }).mem, chip := e.chip } else e) (d.on f)

end Sys2Proof.Machine
end

