-- ==== Sys2Proof/Machine/Image.lean ====
section
/-!
DEFINITION. The container of a personality or partial image (R457–R463) and the loader's checks (R464, R465). A failure is a pair of status
code and image offset.
-/
namespace Sys2Proof.Machine

/-- An image in memory: where it lies, and its length. -/
structure Image where
  mem : Mem
  base : Nat
  len : Nat

/-- `n` bytes of an image from offset `o`, little-endian. -/
def Image.at (i : Image) (o n : Nat) : Nat := i.mem.load (i.base + o) n

/-- A status code of R465 with the image offset of the failing check. -/
abbrev Fail := Nat × Nat

/-- The failure `(code, offset)` unless a condition holds. -/
def need (ok : Bool) (code off : Nat) : Option Fail := if ok then none else some (code, off)

/-- The first failure of a list of checks. -/
def firstFail (l : List (Option Fail)) : Option Fail := l.findSome? id

/-- The signed part of an image (R458). -/
def Image.signed (i : Image) : Nat := i.at 16 4 - 7856

/-- Number of sections. -/
def Image.nsect (i : Image) : Nat := i.at 0x14 2

/-- Type of a section (R458). -/
def Image.stype (i : Image) (k : Nat) : Nat := i.at (64 + 16 * k) 1
/-- Offset of a section. -/
def Image.soff (i : Image) (k : Nat) : Nat := i.at (64 + 16 * k + 4) 4
/-- Size of a section. -/
def Image.ssize (i : Image) (k : Nat) : Nat := i.at (64 + 16 * k + 8) 4

/-- The sections of a type. -/
def Image.sects (i : Image) (ty : Nat) : List Nat := (List.range i.nsect).filter (fun k => i.stype k == ty)

/-- Offset of the only section of a type. -/
def Image.sect? (i : Image) (ty : Nat) : Option (Nat × Nat) := (i.sects ty).head?.map (fun k => (i.soff k, i.ssize k))

/-! ### Steps 1 to 5: the header -/

/-- The header checks of R464 in their order. -/
def headerCheck (c : Chip) (i : Image) : Option Fail :=
  let kind := i.at 6 1
  firstFail [
    need (i.at 0 4 == 0x49505A54) 0x01 0,
    need (i.at 4 2 == 1) 0x02 4,
    need (kind == 1 || kind == 2) 0x02 6,
    need (i.at 0x16 2 == 0) 0x02 0x16,
    need (i.at 0x1C 4 == 0) 0x02 0x1C,
    need (kind != 1 || i.at 0x20 32 == 0) 0x02 0x20,
    need (i.at 8 2 == 0x7A31) 0x03 8,
    need (i.at 10 2 == 0x9216) 0x03 10,
    need (bitOf (i.at 12 4) c.stepping) 0x03 12,
    need (decide (8192 ≤ i.at 16 4) && decide (i.at 16 4 ≤ (if kind = 1 then 50331648 else 16777216))) 0x04 16,
    need (c.persSigner (i.at 7 1)) 0x08 7,
    need (i.at 7 1 == 0 || (c.signerKey (i.at 7 1) []).isSome) 0x08 7,
    need (decide (c.persFloor ≤ i.at 0x18 4)) 0x09 0x18,
    need (kind != 2 || i.at 0x20 32 == c.hub.digest.toNat) 0x0A 0x20]

/-! ### Step 6: the directory (R458, R459) -/

/-- The size a section of a type may have (R459). -/
def sizeOk (ty n : Nat) : Bool :=
  match ty with
  | 0x01 => n % 112 == 0 && n != 0
  | 0x02 => n == 576
  | 0x03 => n == 160
  | 0x04 => n == 10240
  | 0x05 => decide (520 ≤ n) && (n - 8) % 512 == 0
  | 0x06 => n % 68 == 0
  | 0x07 => n == 2048
  | 0x08 => n % 32 == 0
  | 0x09 | 0x0A => n % 16 == 0
  | 0x0B => n == 512
  | 0x0C => decide (24 ≤ n) && n % 8 == 0
  | 0x0D => n == 384
  | _ => false

/-- Whether a type may stand in an image of a kind (R459). -/
def kindOk (kind ty : Nat) : Bool := if kind = 1 then decide (1 ≤ ty) && decide (ty ≤ 0x0D) else ty == 5 || ty == 9

/-- The end of the section before section k, or of the directory. -/
def Image.endOf (i : Image) : Nat → Nat
  | 0 => 64 + 16 * i.nsect
  | k + 1 => i.soff k + i.ssize k

/-- The directory's checks. -/
def dirCheck (i : Image) : Option Fail :=
  let kind := i.at 6 1
  let n := i.nsect
  let entry (k : Nat) : Option Fail :=
    let o := 64 + 16 * k
    firstFail [
      need (kindOk kind (i.stype k)) 0x0B o,
      need (i.at (o + 1) 3 == 0 && i.at (o + 12) 4 == 0) 0x0B o,
      need (i.soff k % 8 == 0 && decide (i.endOf k ≤ i.soff k)) 0x0B (o + 4),
      need (decide (i.soff k + i.ssize k ≤ i.signed)) 0x04 (o + 8),
      need (sizeOk (i.stype k) (i.ssize k)) 0x0B (o + 8),
      need (i.stype k == 5 || i.stype k == 0x0C || ((List.range k).all (fun j => i.stype j != i.stype k))) 0x0B o]
  firstFail [
    need (decide (1 ≤ n) && decide (n ≤ 64)) 0x0B 0x14,
    (List.range n).findSome? entry,
    need (kind != 1 || [1, 2, 3, 4].all (fun t => !(i.sects t).isEmpty)) 0x0B 0x14]

/-! ### Step 7: records -/

/-- Only RW and RWL fields of a register are set (R460). -/
def Reg.recBits (r : Reg) (v : BitVec 64) : Bool :=
  (r.fields.foldl (fun v f => if f.acc = .rw ∨ f.acc = .rwl then setFld v f.lo f.wd 0 else v) v) == 0#64

/-- The fields of a register value lie in their ranges. -/
def Reg.recRange (r : Reg) (v : BitVec 64) : Bool :=
  r.fields.all (fun f => !(f.acc == .rw || f.acc == .rwl) ||
    (decide (f.mn ≤ fld v f.lo f.wd) && decide (fld v f.lo f.wd ≤ f.mx) && !(f.bad.contains (fld v f.lo f.wd))))

/-- A register value of a record at an offset of the image. -/
def Image.reg (i : Image) (o : Nat) : BitVec 64 := BitVec.ofNat 64 (i.at o 8)

/-- A register record: its bits and its ranges. -/
def recCheck (i : Image) (r : Reg) (o code : Nat) : Option Fail :=
  firstFail [need (r.recBits (i.reg o)) 0x0B o, need (r.recRange (i.reg o)) code o]

/-- Whether a range holds a register address (R33, R461). -/
def rangeRegs (lo hi : Nat) : Bool := decide (lo < 0x4000000) || (decide (lo < 0x50000000) && decide (0x10000000 ≤ hi))

/-- FIREBREAK (R461). -/
def fbCheck (i : Image) (o n : Nat) : Option Fail :=
  let e (k : Nat) := o + 112 * k
  let one (k : Nat) : Option Fail :=
    let a := e k
    let rngs := (List.range 4).map (fun j => (i.at (a + 48 + 16 * j) 8, i.at (a + 56 + 16 * j) 8))
    firstFail [
      need (decide (i.at (a + 1) 1 ≤ 3) && i.at (a + 2) 6 == 0) 0x0B a,
      need ((List.range k).all (fun j => i.at (e j) 1 != i.at a 1)) 0x1C a,
      need (k == 0 || decide (i.at (e (k - 1)) 1 < i.at a 1)) 0x0B a,
      need ((List.range k).all (fun j => i.at (e j + 40) 8 &&& i.at (a + 40) 8 == 0)) 0x1C (a + 40),
      need (rngs.all (fun r => decide (r.2 < r.1) || (decide (r.2 < 2 ^ 48) && (bitOf (i.at (a + 1) 1) 1 || !(rangeRegs r.1 r.2))))) 0x1C (a + 48)]
  (List.range (n / 112)).findSome? one

/-- REGION (R270, R298, R460). -/
def regionCheck (c : Chip) (i : Image) (o : Nat) : Option Fail :=
  (List.range 4).findSome? (fun t =>
    let a := o + 40 * t
    let gd := i.reg (a + 24)
    firstFail [
      recCheck i .tmbCtl a 0x1D,
      recCheck i .ctxSaveBase (a + 8) 0x1D,
      need (decide (4096 * fld (i.reg (a + 8)) 12 13 + 294912 ≤ 33554432)) 0x1D (a + 8),
      recCheck i .quePool (a + 16) 0x1D,
      need (decide (65536 * (fld (i.reg (a + 16)) 16 9 + fld (i.reg (a + 16)) 32 9) ≤ 33554432)) 0x1D (a + 16),
      recCheck i .queGd7 (a + 24) 0x1D,
      need (fld gd 36 14 == 0 || (decide (gdBase ≤ 1048576 * fld gd 8 28) && decide (1048576 * (fld gd 8 28 + fld gd 36 14) ≤ gdBase + c.gdCap))) 0x1D (a + 24),
      recCheck i .cfgIcpCtl (a + 32) 0x1D,
      need (decide (4096 * fld (i.reg (a + 32)) 12 13 + 32768 ≤ 33554432)) 0x1D (a + 32)])

/-- SCHED (R214, R342, R460). -/
def schedCheck (i : Image) (o : Nat) : Option Fail :=
  let tile (t : Nat) : Option Fail :=
    let a := o + 2560 * t
    let regs : List (Reg × Nat) := [(.schCtl, 0), (.schTick, 8), (.schLoadCtl, 0x10), (.schIntegCtl, 0x18)] ++
      (List.range 8).map (fun k => (.schXrange, 0x40 + 8 * k)) ++ (List.range 16).map (fun k => (.schErrRange, 0x80 + 8 * k)) ++
      (List.range 256).map (fun k => (.schTpl, 0x200 + 8 * k))
    let errs : List (Reg × Nat) := (.schErrDflt, 0x20) :: (List.range 16).map (fun k => (.schErrTgt, 0x100 + 8 * k))
    firstFail [
      regs.findSome? (fun x => recCheck i x.1 (a + x.2) 0x0B),
      need (fld (i.reg a) 0 1 == 0) 0x0B a,
      need (i.at (a + 0x28) 24 == 0) 0x0B (a + 0x28),
      need (i.at (a + 0x180) 128 == 0) 0x0B (a + 0x180),
      errs.findSome? (fun x => need (fld (i.reg (a + x.2)) 12 4 == 0) 0x1B (a + x.2)),
      errs.findSome? (fun x => recCheck i x.1 (a + x.2) 0x0B)]
  firstFail [
    (List.range 4).findSome? tile,
    (List.range 24).findSome? (fun k => need (i.at (o + 2560 * (k / 8 + 1) + 0x40 + 8 * (k % 8)) 8 == i.at (o + 0x40 + 8 * (k % 8)) 8) 0x0B
      (o + 2560 * (k / 8 + 1) + 0x40 + 8 * (k % 8)))]

/-! ### Context images -/

/-- The chain rule of R69 for cell n. -/
def chainOk (img : BitVec 4096) (n : Nat) : Bool :=
  let f := cellField (imgCell img n)
  let w := cellField (imgCell img (n - 1))
  f.cin != 1 || (n % 4 != 0 && w.coutEn && f.lane == 0 && w.lane == 0 && ((f.opcode == 1 && w.opcode == 1) || (f.opcode == 2 && w.opcode == 2)))

/-- What edge_use and canopy_use must show (R105): out sides in bits 3–0, in sides in bits 7–4, canopy in bit 8. -/
def useBits (r : BitVec 1024) : Nat :=
  let any (p : Nat → Bool) (l : List Nat) : Nat := b2n (l.any p)
  let outS (s : Nat) : Nat := any (fun l => (r.extractLsb' (576 + (4 * s + l) * 16) 16) != 0) (List.range 4)
  let inS (b : Nat) : Nat := any (fun n => r.getLsbD (8 * (4 * n + 1) + b)) (List.range 16)
  outS 0 + 2 * outS 1 + 4 * outS 2 + 8 * outS 3 + 16 * inS 6 + 32 * inS 5 + 64 * inS 7 + 128 * inS 4 +
    256 * b2n ((r.extractLsb' 544 32) != 0 || (r.extractLsb' 832 128) != 0)

/-- The routing section's reserved bits and use bits (R105). -/
def routeFieldOk (r : BitVec 1024) : Bool :=
  (List.range 16).all (fun n => (r.extractLsb' (8 * (4 * n + 3) + 5) 3) == 0) && (r.extractLsb' 969 55) == 0 &&
  (r.extractLsb' 960 8).toNat + 256 * (r.extractLsb' 968 1).toNat == useBits r

/-- The header rules of R150 for an image placed at a number, but for the firebreak's definition. -/
def headOk (img : BitVec 4096) (num : Nat) : Bool :=
  let v := imgVersion img
  imgBits img 64 64 == 0 && imgBits img 3 13 == 0 && (v == 0 || v == 1) && imgNumber img == num &&
  (v == 1 || (imgBits img 24 8 == 0 && imgBits img 0 16 == 0 && (img.extractLsb' 128 3968) == 0))

/-- The checks of a context image on its own (R72, R97, R101, R115, R123, R150): the status code of the first failure. -/
def ctxCheck (img : BitVec 4096) (num : Nat) : Option Nat :=
  let cells := (List.range 16).map (fun n => cellField (imgCell img n))
  let ctl := imgCtl img
  let e := fld ctl 27 5
  let n := fld ctl 22 5
  let frames := fld ctl 48 8 * (if fld ctl 33 1 = 1 then 2 else 1)
  if !(headOk img num) then some 0x17
  else if imgVersion img = 0 then none
  else if cells.any (fun f => f.reserved || !f.laneOk) then some 0x10
  else if (List.range 16).any (fun n => !(chainOk img n)) then some 0x11
  else if (List.range 86).any (fun k => let s := trackSel k; decide (2 ≤ popBits ((imgRoute img).extractLsb' s.1 s.2).toNat s.2)) then some 0x12
  else if !(routeFieldOk (imgRoute img)) then some 0x13
  else if fld ctl 56 8 ≠ 0 ∨ fld ctl 0 22 ≠ 0 ∨ n = 0 ∨ 22 < n ∨ (e ≠ 0 ∧ (e < 10 ∨ 30 < e)) ∨ fld ctl 48 8 = 0 then some 0x15
  else if 131072 < 8 * fld ctl 34 14 + 40 * frames then some 0x16
  else if (List.range n).any (fun k => iBad n k (imgInstr img k)) then some 0x15
  else none

/-- The context images of an image: number and offset. -/
def Image.contexts (i : Image) : List (Nat × Nat) :=
  (i.sects 5).flatMap (fun k => (List.range (i.at (i.soff k + 4) 4)).map (fun j => (i.at (i.soff k) 4 + j, i.soff k + 8 + 512 * j)))

/-- The context image at an offset. -/
def Image.ctx (i : Image) (o : Nat) : BitVec 4096 := BitVec.ofNat 4096 (i.at o 512)

/-- CONTEXT (R460). -/
def contextCheck (i : Image) (o n : Nat) : Option Fail :=
  let first := i.at o 4
  let cnt := i.at (o + 4) 4
  firstFail [
    need (decide (1 ≤ cnt) && decide (first + cnt ≤ 65536) && n == 8 + 512 * cnt) 0x0B o,
    need ((i.sects 5).all (fun k => let f := i.at (i.soff k) 4; let m := i.at (i.soff k + 4) 4
      decide (o ≤ i.soff k) || decide (f + m ≤ first) || decide (first + cnt ≤ f))) 0x0B o,
    (List.range cnt).findSome? (fun j => (ctxCheck (i.ctx (o + 8 + 512 * j)) (first + j)).map (fun k => (k, o + 8 + 512 * j)))]

/-! ### The other sections -/

/-- GANG (R462): one entry. -/
def gangEntry (i : Image) (a : Nat) : Option Fail :=
  let n := i.at (a + 2) 1
  let m (k b : Nat) : Nat := i.at (a + 4 + 4 * k + b) 1
  firstFail [
    need (decide (i.at a 1 ≤ 3) && decide (2 ≤ n) && decide (n ≤ 16) && i.at (a + 3) 1 == 0) 0x0B a,
    need ((List.range (16 - n)).all (fun k => i.at (a + 4 + 4 * (n + k)) 4 == 0)) 0x0B a,
    need ((List.range n).all (fun k => decide (m k 2 < 188) && gpop (m k 2) && (m k 3 == 255 || (decide (m k 3 < 188) && gpop (m k 3))))) 0x0B a,
    need ((List.range n).all (fun k => m k 3 == 255) || (List.range n).all (fun k => m k 3 != 255)) 0x14 a]

/-- UIO (R591). -/
def uioCheck (i : Image) (o : Nat) : Option Fail :=
  let v (n : Nat) : BitVec 64 := i.reg (o + 8 * n)
  let f (n : Nat) : Nat := fld (v n) 60 4
  let x (n : Nat) : Nat := fld (v n) 56 4
  let bad (n : Nat) : Bool :=
    let r := v n
    decide (7 ≤ f n) || fld r 52 2 == 3 || fld r 50 2 == 3 || fld r 48 1 == 1 || ((f n == 2 || f n == 4) && fld r 34 2 == 0) ||
    (match f n with
     | 4 | 5 => decide (8 ≤ x n)
     | 6 => false
     | _ => x n != 0) ||
    (List.range n).any (fun m => f m == f n && ((f n == 2) || ((f n == 4 || f n == 5 || f n == 6) && x m == x n))) ||
    (fld r 49 1 == 1 && !(f n == 1 || f n == 5)) || decide (26 < fld r 0 5) ||
    (f n == 3 && fld r 5 27 != 0 && decide (fld r 5 27 ≤ 2 ^ fld r 0 5))
  (List.range 48).findSome? (fun n => need (!(bad n)) 0x1E (o + 8 * n))

/-- Step 7 for section k (R464). -/
def sectCheck (c : Chip) (i : Image) (k : Nat) : Option Fail :=
  let o := i.soff k
  let n := i.ssize k
  match i.stype k with
  | 0x01 => fbCheck i o n
  | 0x03 => regionCheck c i o
  | 0x04 => schedCheck i o
  | 0x05 => contextCheck i o n
  | 0x06 => (List.range (n / 68)).findSome? (fun j => firstFail [
      gangEntry i (o + 68 * j),
      need ((List.range j).all (fun l => i.at (o + 68 * l) 2 != i.at (o + 68 * j) 2)) 0x0B (o + 68 * j)])
  | 0x07 => (List.range 256).findSome? (fun j => firstFail [
      recCheck i .cfgCnpSrc (o + 8 * j) 0x0B,
      need (let g := fld (i.reg (o + 8 * j)) 8 8; decide (g < 188) && gpop g) 0x0B (o + 8 * j)])
  | 0x08 => (List.range (n / 32)).findSome? (fun j =>
      let a := o + 32 * j
      firstFail [need (decide (i.at a 2 < 16384) && i.at (a + 2) 6 == 0) 0x0B a, recCheck i .queCfg (a + 8) 0x0B,
        need (fld (i.reg (a + 8)) 51 2 != 3 && decide (fld (i.reg (a + 8)) 24 17 ≤ 65536)) 0x0B (a + 8),
        recCheck i .queTgt (a + 16) 0x0B, recCheck i .queSpill (a + 24) 0x0B])
  | 0x09 => (List.range (n / 16)).findSome? (fun j =>
      let a := o + 16 * j
      firstFail [need (decide (i.at a 2 < 5120) && i.at (a + 2) 6 == 0) 0x0B a, recCheck i .evtSrcT (a + 8) 0x0B])
  | 0x0A => (List.range (n / 16)).findSome? (fun j =>
      let a := o + 16 * j
      firstFail [need (decide (i.at a 2 < 2048) && i.at (a + 2) 6 == 0) 0x0B a, recCheck i .fabVl (a + 8) 0x0B])
  | 0x0B => need (i.at o 16 == 2 ^ 128 - 1 && i.at (o + 400) 8 == 2 ^ 64 - 1) 0x0B o
  | 0x0C =>
    let a := i.at o 8
    let l := i.at (o + 8) 8
    let inT := decide (0x2000000000 ≤ a) && decide (a < 0x2400000000) && decide (a % 0x100000000 + l ≤ 33554432)
    let inG := decide (gdBase ≤ a) && decide (a + l ≤ gdBase + c.gdCap)
    firstFail [need (a % 8 == 0 && l % 8 == 0 && l != 0 && n == 16 + l) 0x0B o, need (inT || inG) 0x1D o]
  | 0x0D => uioCheck i o
  | _ => none

/-! ### Step 8: checks across sections -/

/-- Number of a firebreak's entry in an image. -/
def Image.fbDefined (i : Image) (f : Nat) : Bool :=
  match i.sect? 1 with
  | some (o, n) => (List.range (n / 112)).any (fun k => i.at (o + 112 * k) 1 == f)
  | none => false

/-- Two spans of bytes meet. -/
def spansMeet (a b : Nat × Nat) : Bool := decide (0 < a.2) && decide (0 < b.2) && decide (a.1 < b.1 + b.2) && decide (b.1 < a.1 + a.2)

/-- The tile-memory spans of R467: pool, save region, staging area and journal page of tile t. -/
def Image.tmSpans (i : Image) (t : Nat) : List (Nat × Nat) :=
  match i.sect? 3 with
  | some (o, _) =>
    let a := o + 40 * t
    [(65536 * fld (i.reg (a + 16)) 16 9, 65536 * fld (i.reg (a + 16)) 32 9), (4096 * fld (i.reg (a + 8)) 12 13, 294912),
     (4096 * fld (i.reg (a + 32)) 12 13, 32768), (0x1FFF000, 4096)]
  | none => []

/-- The base of the configuration region (R466). -/
def Chip.cfgBase (c : Chip) : Nat := gdBase + c.gdCap - 0x0A000000

/-- The GDDR7 spans of R467: the spill regions and the configuration region. -/
def Image.gdSpans (c : Chip) (i : Image) : List (Nat × Nat) :=
  match i.sect? 3 with
  | some (o, _) => (List.range 4).map (fun t => let v := i.reg (o + 40 * t + 24); (1048576 * fld v 8 28, 1048576 * fld v 36 14)) ++ [(c.cfgBase, 0x0A000000)]
  | none => []

/-- Some two spans of a list meet. -/
def anyMeet : List (Nat × Nat) → Bool
  | [] => false
  | a :: r => r.any (spansMeet a) || anyMeet r

/-- A placement's member contexts with their groves. -/
abbrev Place := List (Nat × Nat)

/-- The checks of R101 on one placement: groves differ, share a firebreak with their contexts, edge lanes stay inside the placement, and
canopy taps name channels of the gang. `img` gives a context's image, `fb` a grove's firebreak, `cnp` a channel's owner. -/
def placeOk (img : Nat → BitVec 4096) (fb : Nat → Nat) (cnp : Nat → Option Nat) (gang : Nat) (pl : Place) : Bool :=
  let gs := pl.map (fun p => p.1)
  let f0 := match gs with
    | g :: _ => fb g
    | [] => 0
  decide gs.Nodup && pl.all (fun p =>
    let im := img p.2
    let use := useBits (imgRoute im)
    fb p.1 == f0 && (imgVersion im == 0 || (imgFirebreak im == f0 &&
    (List.range 4).all (fun s => !(bitOf use s || bitOf use (4 + s)) || (match neighbour p.1 s with
      | some h => gs.contains h
      | none => false)) &&
    (List.range 64).all (fun ch => !((imgRoute im).getLsbD (832 + ch) || (imgRoute im).getLsbD (896 + ch)) || (match cnp ch with
      | some k => k == gang
      | none => true)))))

/-- The gangs of an image: tile, number, primary and alternate placement. -/
def Image.gangs (i : Image) : List (Nat × Nat × Place × Place) :=
  match i.sect? 6 with
  | none => []
  | some (o, n) => (List.range (n / 68)).map (fun j =>
      let a := o + 68 * j
      let m := List.range (i.at (a + 2) 1)
      let ctx (k : Nat) : Nat := i.at (a + 4 + 4 * k) 2
      (i.at a 1, i.at (a + 1) 1, m.map (fun k => (i.at (a + 6 + 4 * k) 1, ctx k)),
        if i.at (a + 7) 1 = 255 then [] else m.map (fun k => (i.at (a + 7 + 4 * k) 1, ctx k))))

/-- The image a personality gives a context; undefined when no section does. -/
def Image.ctxOf (i : Image) (n : Nat) : BitVec 4096 :=
  match i.contexts.find? (fun x => x.1 == n) with
  | some x => i.ctx x.2
  | none => BitVec.ofNat 4096 (n * 2 ^ 48)

/-- The target of a drain queue in its QUE_TGT: port, virtual link, queue and stream (R266, R607). -/
def drainTarget (v : BitVec 64) : Nat × Nat × Nat × Nat := (fld v 35 3, fld v 27 8, fld v 0 14, fld v 40 3)

/-- Step 8 for a personality (R101, R150, R153, R247, R464, R467). -/
def crossCheck (c : Chip) (i : Image) : Option Fail :=
  let ctxs := i.contexts
  let gangs := i.gangs
  let cnp (t ch : Nat) : Option Nat := match i.sect? 7 with
    | some (o, _) => let v := i.reg (o + 512 * t + 8 * ch); if fld v 63 1 = 1 then some (fld v 16 8) else none
    | none => none
  let gfb (t g : Nat) : Nat := match i.sect? 2 with
    | some (o, _) => i.at (o + 144 * t + gnum g) 1
    | none => 0
  let recs (ty sz : Nat) : List Nat := match i.sect? ty with
    | some (o, n) => (List.range (n / sz)).map (fun j => o + sz * j)
    | none => []
  let ofs (ty : Nat) : Nat := ((i.sect? ty).getD (0, 0)).1
  let members := gangs.flatMap (fun g => g.2.2.1.map (fun p => p.2))
  let spill (t : Nat) : Nat := ((recs 8 32).filter (fun a => i.at a 2 / 4096 == t)).foldl (fun s a => s + fld (i.reg (a + 24)) 28 22) 0
  let mems := (i.sects 0x0C).map (fun k => (i.soff k, i.at (i.soff k) 8, i.at (i.soff k + 8) 8))
  firstFail [
    (List.range 576).findSome? (fun k => need (i.fbDefined (i.at (ofs 2 + k) 1)) 0x1C (ofs 2 + k)),
    ctxs.findSome? (fun x => let im := i.ctx x.2; need (imgVersion im == 0 || i.fbDefined (imgFirebreak im)) 0x17 x.2),
    (recs 8 32).findSome? (fun a => need (i.fbDefined (fld (i.reg (a + 8)) 53 8)) 0x1C (a + 8)),
    (recs 8 32).findSome? (fun a => need (fld (i.reg (a + 8)) 61 2 != 2 || !((recs 8 32).any (fun b => decide (b < a) && fld (i.reg (b + 8)) 61 2 == 2 &&
      drainTarget (i.reg (b + 16)) == drainTarget (i.reg (a + 16))))) 0x0B a),
    (recs 0x0A 16).findSome? (fun a => need (fld (i.reg (a + 8)) 63 1 == 0 || i.fbDefined (fld (i.reg (a + 8)) 40 8)) 0x1C (a + 8)),
    need (decide members.Nodup) 0x14 (ofs 6),
    (gangs.zipIdx).findSome? (fun g => need (placeOk i.ctxOf (gfb g.1.1) (cnp g.1.1) g.1.2.1 g.1.2.2.1 &&
      placeOk i.ctxOf (gfb g.1.1) (cnp g.1.1) g.1.2.1 g.1.2.2.2) 0x14 (ofs 6 + 68 * g.2)),
    ctxs.findSome? (fun x => let im := i.ctx x.2
      need (imgVersion im == 0 || useBits (imgRoute im) == 0 || members.contains x.1) 0x14 x.2),
    ctxs.findSome? (fun x => let im := i.ctx x.2
      need (!(imgCachePin im) || decide ((ctxs.filter (fun y => y.1 % 512 == x.1 % 512 && decide (y.1 ≤ x.1) && imgCachePin (i.ctx y.2))).length ≤ 6)) 0x18 x.2),
    (List.range 4).findSome? (fun t => need (decide (spill t ≤ 16384 * fld (i.reg (ofs 3 + 40 * t + 24)) 36 14)) 0x1A (ofs 8)),
    (List.range 4).findSome? (fun t => need (!(anyMeet (i.tmSpans t))) 0x1D (ofs 3 + 40 * t)),
    need (!(anyMeet (i.gdSpans c))) 0x1D (ofs 3),
    mems.findSome? (fun m => need (
      if m.2.1 < gdBase then (i.tmSpans (m.2.1 / 0x100000000 % 4)).all (fun s => !(spansMeet (m.2.1 % 0x100000000, m.2.2) s))
      else (i.gdSpans c).all (fun s => !(spansMeet (m.2.1, m.2.2) s))) 0x1D m.1)]

/-! ### The order of the checks -/

/-- Steps 1 to 8 of R464 on what has arrived, `got` bytes. -/
def prefixCheck (c : Chip) (i : Image) (got : Nat) : Option Fail :=
  if got < 64 then none
  else match headerCheck c i with
    | some f => some f
    | none =>
      if got < 64 + 16 * i.nsect then none
      else match dirCheck i with
        | some f => some f
        | none =>
          match ((List.range i.nsect).filter (fun k => decide (i.soff k + i.ssize k ≤ got))).findSome? (fun k => sectCheck c i k) with
          | some f => some f
          | none => if i.at 6 1 = 1 ∧ (List.range i.nsect).all (fun k => decide (i.soff k + i.ssize k ≤ got)) then crossCheck c i else none

/-- The bytes of an image. -/
def Image.bytes (i : Image) (o n : Nat) : List Byte := (List.range n).map (fun k => i.mem.read (i.base + o + k))

/-- Step 10 (R458, R464, R523): the signature over the signed part. -/
def signCheck (c : Chip) (i : Image) : Option Fail :=
  let n := i.signed
  let key := if i.at 7 1 = 0 then c.signerKey 0 ((List.range 32).map Config.vendorKeyByte) else c.signerKey (i.at 7 1) []
  match key with
  | none => some (0x08, 7)
  | some k => need (Config.slhVerify 0 1 k (sha256 (i.bytes 0 n)) (i.bytes n 7856)) 0x07 n

end Sys2Proof.Machine
end

