-- ==== Sys2Proof/Machine/Repair.lean ====
section
/-!
DEFINITION. The repair log (R369–R371): its two copies, the records they hold, what firmware applies from them after a WARM reset, and the records
it appends. Firmware is the spec's own: what it does here is what R368, R369, R371 and R423 say that it does.
-/
namespace Sys2Proof.Machine

/-! ### The two copies (R369) -/

/-- The flash offset of the repair log, as the descriptor of the firmware image gives it (R531). -/
def Chip.rlogBase (c : Chip) : Nat := leAt c.hub.fwRam (leAt c.hub.fwRam 0x44 4 + 4) 4

/-- A byte of a copy: in flash where the device has it, else as the host delivered it. -/
def Chip.rlogByte (c : Chip) (cp i : Nat) : Byte :=
  match c.hub.flash with
  | some f => kget 0xFF#8 f (c.rlogBase + 32768 * cp + i)
  | none => kget 0#8 (kget [] c.hub.rlog cp) i

/-- Set a byte of a copy. -/
def Chip.rlogSet (c : Chip) (cp i : Nat) (b : Byte) : Chip :=
  c.modHub (fun h => match h.flash with
    | some f => { h with flash := some (kset f (c.rlogBase + 32768 * cp + i) b) }
    | none => { h with rlog := kmod [] h.rlog cp (fun m => kset m i b) })

/-- Bytes of a copy. -/
def Chip.rlogBytes (c : Chip) (cp o n : Nat) : List Byte := (List.range n).map (fun i => c.rlogByte cp (o + i))

/-- The record count of a copy. -/
def Chip.rlogCount (c : Chip) (cp : Nat) : Nat := leOf (c.rlogBytes cp 4 4)

/-- The sequence number of a copy whose digest matches its records. -/
def Chip.rlogCopy (c : Chip) (cp : Nat) : Option Nat :=
  let n := c.rlogCount cp
  if n ≤ 2045 ∧ sha256 (c.rlogBytes cp 48 (16 * n)) = BitVec.ofNat 256 (leOf (c.rlogBytes cp 16 32)) then some (leOf (c.rlogBytes cp 0 4)) else none

/-- The copy in use and its sequence number: the valid copy with the later one. -/
def Chip.rlogUse (c : Chip) : Option (Nat × Nat) :=
  match c.rlogCopy 0, c.rlogCopy 1 with
  | some a, some b => if serialLater 32 b a then some (1, b) else some (0, a)
  | some a, none => some (0, a)
  | none, some b => some (1, b)
  | none, none => none

/-- The repair-log sequence that IDENTIFY shows (R510). -/
def Chip.rlogSeq (c : Chip) : Nat := (c.rlogUse.map Prod.snd).getD 0

/-! ### Records (R370) -/

/-- A record: its sequence number, the time in units of 2^30 ns, its kind, its cause and its location. -/
structure RlogRec where
  seq : Nat
  time : Nat
  kind : Nat
  cause : Nat
  loc : Nat
  deriving DecidableEq, Repr

/-- The 16 bytes of a record. -/
def rlogBytesOf (r : RlogRec) : List Byte :=
  bytesOf r.seq 4 ++ bytesOf r.time 4 ++ bytesOf r.kind 1 ++ bytesOf r.cause 1 ++ bytesOf 0 2 ++ bytesOf r.loc 4

/-- The record that 16 bytes hold. -/
def rlogRecOf (b : List Byte) : RlogRec := { seq := leAt b 0 4, time := leAt b 4 4, kind := leAt b 8 1, cause := leAt b 9 1, loc := leAt b 12 4 }

/-- Bits `lo + w - 1 … lo` of a location. -/
def locF (r : RlogRec) (lo w : Nat) : Nat := r.loc / 2 ^ lo % 2 ^ w

/-- A record in its place by sequence number. -/
def rlogInsert (r : RlogRec) : List RlogRec → List RlogRec
  | [] => [r]
  | x :: l => if r.seq < x.seq then r :: x :: l else x :: rlogInsert r l

/-- The records of the copy in use, in sequence order. -/
def Chip.rlogRecs (c : Chip) : List RlogRec :=
  match c.rlogUse with
  | none => []
  | some (cp, _) => (List.range (c.rlogCount cp)).foldl (fun l i => rlogInsert (rlogRecOf (c.rlogBytes cp (48 + 16 * i) 16)) l) []

/-! ### Applying the log (R371) -/

/-- Whether an earlier applied record has consumed the spare that a record names: the spare cell of a row for another cell, the spare grove of a
row (but a shift of the grove that it serves directly, R360), or the spare lane of a port's direction or of a group. -/
def spareTaken (r e : RlogRec) : Bool :=
  match r.kind with
  | 1 => e.kind == 1 && locF e 22 10 == locF r 22 10 && (List.range 4).any (fun i =>
      decide (locF e (4 * i) 3 < 5) && decide (locF r (4 * i) 3 < 5) && locF e (4 * i) 3 != locF r (4 * i) 3)
  | 2 => (e.kind == 2 || e.kind == 3) && locF e 26 6 == locF r 26 6
  | 3 => locF e 26 6 == locF r 26 6 && (e.kind == 3 || (e.kind == 2 && locF e 22 4 != locF r 16 6))
  | 8 => e.kind == 8 && locF e 22 8 == locF r 22 8 && locF e 14 1 == locF r 14 1
  | 9 => e.kind == 9 && locF e 22 8 == locF r 22 8 && locF e 14 1 == locF r 14 1 && locF e 19 3 == locF r 19 3
  | _ => false

/-- The records that still stand for the parts in service after a record: a substituted grove has the cells of its new physical place. -/
def afterRec (r : RlogRec) (l : List RlogRec) : List RlogRec :=
  (if r.kind = 2 ∨ r.kind = 3 then l.filter (fun e => !(e.kind == 1 && locF e 26 6 == locF r 26 6 &&
      (if r.kind = 2 then locF e 22 4 == locF r 22 4 else decide (locF r 16 6 ≤ locF e 22 4)))) else l) ++ [r]

/-- The cell maps of the groves that a substitution moved start anew (R362). -/
def clearMaps (r : RlogRec) (c : Chip) : Chip :=
  ((List.range 12).filter (fun x => if r.kind = 2 then x == locF r 22 4 else decide (locF r 16 6 ≤ x))).foldl (fun c x =>
    c.setReg .seqCellMap (.grove (locF r 30 2) (16 * locF r 26 4 + x)) 0 Reg.seqCellMap.rst) c

/-- Firmware applies one record: it writes SEQ_CELL_MAP, SPR_GMAP_n or SPR_ROW_CTL, or asks for the lane. A column of 12 names the spare grove. -/
def applyRec (r : RlogRec) (d : Dev) : Dev :=
  let t := locF r 30 2
  let g := locF r 22 8
  let n := 12 * t + g / 16
  let row (kind : Nat) : Dev := rowCopy .ok (d.on (sprRowGo (mkReg [(63, 1, 1), (56, 2, kind), (54, 2, t), (46, 8, g), (40, 6, locF r 16 6), (0, 16, locF r 0 16)])))
  match r.kind with
  | 1 => if gpop g then d.on (cellMapWrite t g (BitVec.ofNat 64 (locF r 0 15))) else d
  | 2 | 3 => if gpop g then d.on (fun c =>
      if locF r 16 6 = 12 then c.setRf .sprGmap .hub n 0 4 15
      else clearMaps r ((c.setRf .sprGmap .hub n 4 2 (r.kind - 1)).setRf .sprGmap .hub n 0 4 (if r.kind = 2 then g % 16 else locF r 16 6))) else d
  | 4 => if gpop g then d.on (fun c => (c.setRf .sprGmap .hub n 8 4 (g % 16)).setRf .schGrove (.tile t) g 63 1 1) else d
  | 5 => row 0
  | 6 => row 1
  | 7 => if locF r 0 16 < 4096 then row 2 else d
  | 8 => if g < 8 then d.on (moveReq g (locF r 15 7) (locF r 14 1 == 1)) else d
  | 9 => if g < 12 then d.on (moveReq (16 + 2 * g) (locF r 15 7) (locF r 14 1 == 1)) else d
  | _ => d

/-- No spare remains for the row or entry that a record names (R367). -/
def rowsGone (r : RlogRec) (c : Chip) : Bool :=
  let j : RowJob := { kind := r.kind - 5, tile := locF r 30 2, grove := locF r 22 8, part := locF r 16 6, row := locF r 0 16 }
  decide (5 ≤ r.kind) && decide (r.kind ≤ 7) && decide (rowSpares j.kind ≤ kget 0 c.hub.rowUsed (rowUnit j))

/-- Firmware applies every record in sequence order, once after each WARM reset; a record whose spare is consumed is skipped and reported to the
host by its number. -/
def rlogBoot (d : Dev) : Dev :=
  if d.chip.hub.rlogDone then d
  else
    let x := d.chip.rlogRecs.foldl (fun (x : Dev × List RlogRec) r =>
      if x.2.any (spareTaken r) || rowsGone r x.1.chip then (x.1.on (fun c => c.modHub (fun h => { h with rlogSkipped := h.rlogSkipped ++ [r.seq] })), x.2)
      else (applyRec r x.1, afterRec r x.2)) (d, [])
    x.1.on (fun c => c.modHub (fun h => { h with rlogDone := true, rlogDue := d.chip.hub.rlogDue }))

/-! ### Appending to the log (R368, R369) -/

/-- The records that are due, numbered after the last one. -/
def dueRecs (c : Chip) (last : Nat) : List RlogRec :=
  c.hub.rlogDue.zipIdx.map (fun x => { seq := (last + 1 + x.2) % 2 ^ 32, time := c.hub.time.toNat / 2 ^ 30 % 2 ^ 32, kind := x.1.1, cause := x.1.2.1, loc := x.1.2.2 })

/-- Firmware writes the records due: the whole log into the copy that it did not write last, with the next sequence number. A full log takes no more. -/
def rlogWrite (c : Chip) : Chip :=
  if c.hub.rlogDue.isEmpty || !c.hub.fwRunning then c
  else
    let old := c.rlogRecs
    let all := (old ++ dueRecs c ((old.getLast?.map RlogRec.seq).getD 0)).take 2045
    let cp := match c.rlogUse with
      | some (cp, _) => 1 - cp
      | none => 0
    let body := all.flatMap rlogBytesOf
    let bytes := bytesOf ((c.rlogSeq + 1) % 2 ^ 32) 4 ++ bytesOf all.length 4 ++ bytesOf 0 8 ++ bytesOf (sha256 body).toNat 32 ++ body
    (bytes.zipIdx.foldl (fun c x => c.rlogSet cp x.2 x.1) c).modHub (fun h => { h with rlogDue := [] })

end Sys2Proof.Machine
end

