-- ==== Sys2Proof/Machine/Loader.lean ====
section
/-!
DEFINITION. The loader: delivery and staging (R468–R470), the journalled commit (R471–R475), partial images (R476, R477).
-/
namespace Sys2Proof.Machine

/-! ### The journal and the configuration region -/

/-- The journal's state (R471, R497). -/
def Chip.jState (c : Chip) : Nat := c.rf .rstCfgJrnl .hub 0 61 3
/-- The active container: 0 A, 1 B. -/
def Chip.jCur (c : Chip) : Nat := c.rf .rstCfgJrnl .hub 0 60 1
/-- The committed epoch; 0 when none has been committed. -/
def Chip.jEpoch (c : Chip) : Nat := c.rf .rstCfgJrnl .hub 0 32 16
/-- Write the journal's state. -/
def Chip.setJ (c : Chip) (s : Nat) : Chip := c.setRf .rstCfgJrnl .hub 0 61 3 s

/-- A tile's record shows the personality of the journal's epoch ACTIVE: it was committed and not given up (R471). -/
def Chip.jHad (c : Chip) : Bool := c.jEpoch != 0 && c.hub.tileRecs.any (fun r => r.2.state == 4 && r.2.epoch == c.jEpoch)

/-- A personality is committed and runs: in ACTIVE and PARTIAL, and in LOADING and STAGED when there was one (R471). -/
def Chip.committed (c : Chip) : Bool := c.jState == 4 || c.jState == 5 || ((c.jState == 1 || c.jState == 2) && c.jHad)

/-- Container A or B (R466). -/
def Chip.container (c : Chip) (k : Nat) : Nat := c.cfgBase + 0x3000000 * k
/-- Backing store A or B (R466). -/
def Chip.store (c : Chip) (k : Nat) : Nat := c.cfgBase + 0x6000000 + 0x2000000 * k

/-- The image in a container. -/
def Dev.imageIn (d : Dev) (k : Nat) : Image := { mem := d.mem, base := d.chip.container k, len := d.mem.load (d.chip.container k + 16) 4 }

/-- Bytes written by the loader; blocks of GDDR7 written whole become clean (R309). -/
def Dev.putBytes (d : Dev) (a : Nat) (bs : List Byte) : Dev :=
  let m := (bs.zipIdx).foldr (fun x m => m.write (a + x.2) x.1) d.mem
  let clean (b : Nat) : Bool := decide (a ≤ gdBase + 64 * b) && decide (gdBase + 64 * b + 64 ≤ a + bs.length)
  { mem := m, chip := { d.chip with gdPoison := d.chip.gdPoison.filter (fun x => !(clean x.1)) } }

/-- The backing image of a context in a store. -/
def Dev.backImage (d : Dev) (k n : Nat) : BitVec 4096 := BitVec.ofNat 4096 (d.mem.load (d.chip.store k + 512 * n) 512)

/-- Write a backing image. -/
def Dev.putImage (d : Dev) (a : Nat) (img : BitVec 4096) : Dev := d.putBytes a (bytesOf img.toNat 512)

/-- Expand the CONTEXT sections into a backing store; every other number receives an image of version 0 (R151, R469). -/
def Dev.expand (d : Dev) (i : Image) (k : Nat) : Dev :=
  let st := d.chip.store k
  let ctxs := i.contexts
  let m := (List.range 65536).foldr (fun n m => match ctxs.find? (fun x => x.1 == n) with
    | some x => m.store (st + 512 * n) 512 (i.ctx x.2).toNat
    | none => m.store (st + 512 * n + 6) 2 n) (d.mem.zero st 0x2000000)
  let b0 := (st - gdBase) / 64
  { mem := m, chip := { d.chip with gdPoison := d.chip.gdPoison.filter (fun x => !(decide (b0 ≤ x.1) && decide (x.1 < b0 + 524288))) } }

/-- Bits 63–0 of the headers of a backing store, by context; an absent number has all of them 0. -/
def storeHeads (m : Mem) (st : Nat) : KMap Nat :=
  m.foldr (fun x acc =>
    if st ≤ x.1 ∧ x.1 < st + 0x2000000 ∧ (x.1 - st) % 512 < 8 then
      kmod 0 acc ((x.1 - st) / 512) (fun v => v + x.2.toNat * 256 ^ ((x.1 - st) % 512))
    else acc) []

/-! ### Delivery (R468, R469) -/

/-- A load ends: what was staged is discarded, the journal returns to the committed personality, the code is kept for its channel (R465). -/
def endLoad (code off : Nat) (c : Chip) : Chip :=
  let c := if c.jState = 1 ∨ c.jState = 2 then c.setJ (if c.jHad then 4 else 0) else c
  c.modHub (fun h => { h with load := none, lastCode := code, lastOff := off })

/-- Begin a load (R464, R465, R468, R470): the status code, 0 when it begins. -/
def loadBegin (kind length : Nat) (auto : Bool) (chan : Option Nat) (c : Chip) : Nat × Chip :=
  let down := (List.range 4).any (fun t => (List.range 8).any (fun i => (c.chan t i).state == .down))
  if c.hub.bare then (0x21, c)
  else if c.hub.load.isSome then (0x20, c)
  else if kind = 2 ∧ c.jState ≠ 4 then (0x21, c)
  else if down then (0x23, c)
  else if length < 8192 ∨ (if kind = 1 then 50331648 else 16777216) < length then (0x04, c)
  else (0, (c.setJ 1).modHub (fun h => { h with load := some { kind := kind, length := length, auto := auto, chan := chan }, lastCode := 0, lastOff := 0 }))

/-- The current image of a context, from the active backing store. -/
def Dev.curImage (d : Dev) (n : Nat) : BitVec 4096 := d.backImage d.chip.jCur n

/-- The gangs of the committed personality: tile, number, primary and alternate placement. -/
def Chip.gangList (c : Chip) : List (Nat × Nat × Place × Place) :=
  (List.range 4).flatMap (fun t => (c.tile t).gangs.map (fun g => (t, g.1, g.2.primary, g.2.alternate)))

/-- The channel owner of the committed personality. -/
def Chip.cnpOwner (c : Chip) (t ch : Nat) : Option Nat := if c.rbit .cfgCnpSrc (.tile t) ch 63 then some (c.rf .cfgCnpSrc (.tile t) ch 16 8) else none

/-- The rules of R476 for replacing contexts by new images: the status code of the first that fails. -/
def replaceCheck (d : Dev) (new : List (Nat × BitVec 4096)) (gensToo : Bool) : Option (Nat × Nat) :=
  let c := d.chip
  let img (n : Nat) : BitVec 4096 := match new.find? (fun x => x.1 == n) with
    | some x => x.2
    | none => d.curImage n
  let gangs := c.gangList
  let bound (n : Nat) : Bool := gangs.any (fun g => g.2.2.1.any (fun p => p.2 == n))
  let one (x : Nat × BitVec 4096) : Option (Nat × Nat) :=
    let old := d.curImage x.1
    if gensToo && imgGen x.2 != (kget 0 (c.tile (x.1 % 4)).gens x.1 + 1) % 65536 then some (0x19, x.1)
    else if imgVersion x.2 = 0 then none
    else if !(khas c.hub.firebreaks (imgFirebreak x.2)) then some (0x17, x.1)
    else if imgVersion old = 1 ∧ imgFirebreak old ≠ imgFirebreak x.2 then some (0x1C, x.1)
    else if useBits (imgRoute x.2) ≠ 0 && !(bound x.1) then some (0x14, x.1)
    else none
  (new.findSome? one).or (gangs.findSome? (fun g =>
    if g.2.2.1.any (fun p => new.any (fun x => x.1 == p.2)) &&
        !(placeOk img (fun q => kget 0 (c.tile g.1).groveFb q) (c.cnpOwner g.1) g.2.1 g.2.2.1 &&
          placeOk img (fun q => kget 0 (c.tile g.1).groveFb q) (c.cnpOwner g.1) g.2.1 g.2.2.2)
    then some (0x14, ((g.2.2.1.find? (fun p => new.any (fun x => x.1 == p.2))).map (fun p => p.2)).getD 0) else none))

/-- The new images of a partial image. -/
def Image.news (i : Image) : List (Nat × BitVec 4096) := i.contexts.map (fun x => (x.1, i.ctx x.2))

/-- Step 7 and 8 for a complete partial image (R476): code and offset. -/
def partialCheck (d : Dev) (i : Image) : Option Fail :=
  (replaceCheck d i.news true).map (fun x => (x.1, ((i.contexts.find? (fun y => y.1 == x.2)).map (fun y => y.2)).getD 0))

/-- A chunk of a load (R464, R468, R469): the status code, 0 when it is taken. -/
def loadData (off : Nat) (bs : List Byte) (d : Dev) : Nat × Dev :=
  match d.chip.hub.load with
  | none => (0x21, d)
  | some l =>
    if l.staged then (0x21, d)
    else if off ≠ l.got then (0x04, d.on (endLoad 0x04 off))
    else if l.length < off + bs.length then (0x06, d.on (endLoad 0x06 l.length))
    else
      let k := 1 - d.chip.jCur
      let d := d.putBytes (d.chip.container k + off) bs
      let d := d.on (fun c => c.modHub (fun h => { h with load := some { l with got := off + bs.length } }))
      let i := d.imageIn k
      match (if decide (64 ≤ off + bs.length) && i.at 6 1 != l.kind then some (0x02, 6) else prefixCheck d.chip i (off + bs.length)) with
      | some f => (f.1, d.on (endLoad f.1 f.2))
      | none => (0, d)

/-- The end of a delivery (R464, R469, R470): the image is staged when it passes steps 8 to 10, and BOOT_DEADLINE is met. -/
def loadEnd (d : Dev) : Nat × Dev :=
  match d.chip.hub.load with
  | none => (0x21, d)
  | some l =>
    if l.staged then (0x21, d)
    else
      let k := 1 - d.chip.jCur
      let i := d.imageIn k
      let f := firstFail [
        need (decide (64 ≤ l.got) && decide (i.at 16 4 ≤ l.got)) 0x05 l.got,
        need (decide (l.got ≤ i.at 16 4)) 0x06 (i.at 16 4),
        prefixCheck d.chip i l.got,
        if l.kind = 2 then partialCheck d i else none,
        signCheck d.chip i]
      match f with
      | some f => (f.1, d.on (fun c => endLoad f.1 f.2 (if f.1 = 0x07 ∨ f.1 = 0x08 then raise (.hub 18) 2 c else c)))
      | none =>
        let d := d.on (raise (.hub 17) 2)
        let d := if l.kind = 1 then d.expand i k else d
        let dg := sha256 (i.bytes 0 i.signed)
        (0, d.on (fun c => (c.setJ 2).modHub (fun h => { h with
          load := some { l with staged := true, digest := dg }, deadlineOn := if l.kind = 1 then false else h.deadlineOn })))

/-- PERS_ABORT, BOOT_DEADLINE and resets abandon a load (R465). -/
def loadAbort (c : Chip) : Chip := if c.hub.load.isSome then endLoad 0x24 0 c else c

/-- CFG_RX_TIMEOUT (R468): a load whose bytes have not all arrived ends. -/
def rxTimeout (c : Chip) : Chip :=
  match c.hub.load with
  | some l => if l.staged || decide (l.length ≤ l.got) then c else endLoad 0x05 l.got c
  | none => c

/-! ### Applying a personality (R472) -/

/-- Write the RW and RWL fields of a register from a record. -/
def Chip.writeRec (c : Chip) (r : Reg) (s : Site) (i : Nat) (v : BitVec 64) : Chip :=
  c.setReg r s i (r.fields.foldl (fun x f => if f.acc = .rw ∨ f.acc = .rwl then setFld x f.lo f.wd (fld v f.lo f.wd) else x) (c.reg r s i))

/-- The default essential-bit map (R463): every bit that is not reserved. -/
def essDefault : BitVec 4096 :=
  let ones (lo w : Nat) : BitVec 4096 := (BitVec.ofNat 4096 (2 ^ w - 1)) <<< lo
  let cells := (List.range 16).foldl (fun v n => v ||| ones (128 + 128 * n) 85) (ones 0 3 ||| ones 16 48)
  let xd := (List.range 16).foldl (fun v n => v &&& ~~~(ones (2176 + 32 * n + 29) 3)) (cells ||| ones 2176 969)
  xd ||| ones 3200 128 ||| ones 3222 34 ||| ones 3264 832

/-- The map a personality uses; every bit of the header and of the control word is essential in it or it was rejected. -/
def Image.essMap (i : Image) : BitVec 4096 :=
  match i.sect? 0x0B with
  | some (o, _) => BitVec.ofNat 4096 (i.at o 512)
  | none => essDefault

/-- EVENT records of a place (R460): routes only. -/
def applyEvents (i : Image) (place : EvSrc → Bool) (c : Chip) : Chip :=
  match i.sect? 9 with
  | none => c
  | some (o, n) => (List.range (n / 16)).foldl (fun c k =>
      let e := EvSrc.ofNum (i.at (o + 16 * k) 2)
      if place e then c.writeRec e.reg.1 e.reg.2.1 e.reg.2.2 (i.reg (o + 16 * k + 8)) else c) c

/-- The tile of an event source. -/
def EvSrc.inTile (t : Nat) : EvSrc → Bool
  | .grove u _ _ => u == t
  | .tile u _ => u == t
  | .hub _ => false

/-- The context and gang tables of a tile from an image's gangs and a backing store (R462, R606). -/
def applyTables (i : Image) (heads : KMap Nat) (edgeOf : Nat → Nat) (t : Nat) (ti : Tile) : Tile :=
  let gangs := i.gangs.filter (fun g => g.1 == t)
  let fbOf (g : Nat) : Nat := match i.sect? 2 with
    | some (o, _) => i.at (o + 144 * t + gnum g) 1
    | none => 0
  { ti with
    ctxTab := heads.filterMap (fun (x : Nat × Nat) => if x.2 / 2 ^ 16 % 256 = 1 then
      some (x.1, ({ defined := true, firebreak := x.2 / 2 ^ 24 % 256, edge := edgeOf x.1 } : CtxInfo)) else none)
    cnpUp := []
    cnpOff := []
    gens := heads.filterMap (fun (x : Nat × Nat) => if x.2 / 2 ^ 32 % 65536 = 0 then none else some (x.1, x.2 / 2 ^ 32 % 65536))
    gangs := gangs.map (fun g => (g.2.1, ({ firebreak := fbOf (g.2.2.1.headD (0, 0)).1, primary := g.2.2.1, alternate := g.2.2.2 } : Gang)))
    groveFb := allGroves.map (fun g => (g, fbOf g)) }

/-- MEMINIT of a place (R460). -/
def applyMeminit (i : Image) (place : Nat → Bool) (d : Dev) : Dev :=
  (i.sects 0x0C).foldl (fun d k =>
    let a := i.at (i.soff k) 8
    if place a then d.putBytes a (i.bytes (i.soff k + 16) (i.at (i.soff k + 8) 8)) else d) d

/-- Step 3 of R472 for tile t: its sections are written from an image, with a backing store; its state is held until release (R490). -/
def applyTile (t : Nat) (i : Image) (k epoch : Nat) (digest : BitVec 256) (d : Dev) : Dev :=
  let s : Site := .tile t
  let st := d.chip.store k
  let heads := storeHeads d.mem st
  let sec (ty : Nat) : Nat := ((i.sect? ty).getD (0, 0)).1
  let d := d.on (fun c =>
    let a := sec 3 + 40 * t
    let lock (r : Reg) (o : Nat) (c : Chip) : Chip := (c.writeRec r s 0 (i.reg (a + o))).setRf r s 0 0 1 1
    let c := lock .cfgIcpCtl 32 (lock .queGd7 24 (lock .quePool 16 (lock .ctxSaveBase 8 (lock .tmbCtl 0 c))))
    let c := (c.setRf .ctxBackBase s 0 25 23 (st / 2 ^ 25)).setRf .ctxBackBase s 0 0 1 1
    let c := c.modTile t (applyTables i heads (fun n => d.mem.load (st + 512 * n + edgeUseAt) 1) t)
    let c := match i.sect? 7 with
      | some (o, _) => (List.range 64).foldl (fun (c : Chip) n => c.writeRec .cfgCnpSrc s n (i.reg (o + 512 * t + 8 * n))) c
      | none => c
    let c := c.setRf .cfgCnpLock s 0 0 1 1
    let c := match i.sect? 8 with
      | some (o, n) => (List.range (n / 32)).foldl (fun (c : Chip) j =>
          let b := o + 32 * j
          let q := i.at b 2
          if q / 4096 = t then
            let c := ((c.writeRec .queCfg s (q % 4096) (i.reg (b + 8))).writeRec .queTgt s (q % 4096) (i.reg (b + 16))).writeRec .queSpill s (q % 4096) (i.reg (b + 24))
            if fld (i.reg (b + 8)) 63 1 = 1 then enableEpochs q c else c
          else c) c
      | none => c
    let b := sec 4 + 2560 * t
    let c := ((c.writeRec .schCtl s 0 (i.reg b)).setRf .schCtl s 0 0 1 0).setRf .schCtl s 0 16 1 1
    let c := (((c.writeRec .schTick s 0 (i.reg (b + 8))).writeRec .schLoadCtl s 0 (i.reg (b + 0x10))).writeRec .schIntegCtl s 0 (i.reg (b + 0x18))).writeRec
      .schErrDflt s 0 (i.reg (b + 0x20))
    let c := (List.range 8).foldl (fun (c : Chip) n => c.writeRec .schXrange s n (i.reg (b + 0x40 + 8 * n))) c
    let c := (List.range 16).foldl (fun (c : Chip) n => (c.writeRec .schErrRange s n (i.reg (b + 0x80 + 8 * n))).writeRec .schErrTgt s n (i.reg (b + 0x100 + 8 * n))) c
    let c := (List.range 256).foldl (fun (c : Chip) n => c.writeRec .schTpl s n (i.reg (b + 0x200 + 8 * n))) c
    let c := applyEvents i (EvSrc.inTile t) c
    let ess := i.essMap
    let c := (List.range 64).foldl (fun c n => (c.setReg .rgrEss s n (ess.extractLsb' (64 * n) 64)).setReg .rgrGoldCnp s n (c.reg .cfgCnpSrc s n)) c
    let c := c.setReg .cfgStatus s 0 (mkReg [(61, 3, 1), (32, 16, epoch), (0, 32, digest.toNat)])
    c.modHub (fun h => { h with tileRecs := kset h.tileRecs t { state := 4, epoch := epoch, digest := digest } }))
  applyMeminit i (fun a => decide (tmBase t ≤ a) && decide (a < tmBase t + 33554432)) d

/-- The routes toward the partners attached to this device use the virtual link that the personality binds to the partner's endpoint (R446). -/
def bindRoutes (c : Chip) : Chip :=
  (List.range 8).foldl (fun c p =>
    match (c.link p).peerEp, (c.link p).peerRole with
    | some n, some true =>
      if c.rbit .fabEp .hub n 63 && c.rf .fabEp .hub n 8 3 == p then
        match (List.range 256).find? (fun v => c.rbit .fabVl .hub (256 * p + v) 63 && c.rf .fabVl .hub (256 * p + v) 28 12 == n) with
        | some v => c.setRf .fabEp .hub n 0 8 v
        | none => c
      else c
    | _, _ => c) c

/-- Step 4 of R472: hub EVENT records, VLINK and the firebreak table. For virtual link 0 of a port with a TZ9216 peer, only perm and
firebreak are applied (R460). -/
def applyHub (i : Image) (c : Chip) : Chip :=
  let c := applyEvents i (fun e => match e with
    | .hub _ => true
    | _ => false) c
  let c := match i.sect? 0x0A with
    | none => c
    | some (o, n) => (List.range (n / 16)).foldl (fun c k =>
        let v := i.at (o + 16 * k) 2
        let x := i.reg (o + 16 * k + 8)
        if v % 256 = 0 ∧ (c.link (v / 256)).peerRole = some false then (c.setRf .fabVl .hub v 0 7 (fld x 0 7)).setRf .fabVl .hub v 40 8 (fld x 40 8)
        else c.writeRec .fabVl .hub v x) c
  let fbs : KMap FbInfo := match i.sect? 1 with
    | none => []
    | some (o, n) => (List.range (n / 112)).map (fun k =>
        let a := o + 112 * k
        let fl := i.at (a + 1) 1
        let rs := (List.range 4).map (fun j => (i.at (a + 48 + 16 * j) 8, i.at (a + 56 + 16 * j) 8))
        (i.at a 1, ⟨bitOf fl 0, bitOf fl 1, BitVec.ofNat 256 (i.at (a + 8) 32), BitVec.ofNat 64 (i.at (a + 40) 8), rs⟩))
  bindRoutes (c.modHub (fun h => { h with firebreaks := fbs }))

/-- The next epoch: 0 means that none has been committed. -/
def nextEpoch (e : Nat) : Nat := if e = 65535 then 1 else e + 1

/-- In PRODUCTION the commit of a personality burns the personality floor up to its version (R531). -/
def floorBurn (o v : Nat) (c : Chip) : Chip :=
  let add := thermoCells o (min v 64)
  c.modHub (fun h => { h with burn := some (match h.burn with
    | some b => { b with cells := b.cells ++ add }
    | none => { cells := add, chan := none }) })

/-- The commit of a staged personality, steps 1 to 6 of R472. Tiles stay held until their release. -/
def commitPers (d : Dev) : Nat × Dev :=
  match d.chip.hub.load with
  | none => (0x21, d)
  | some l =>
    if !l.staged || d.chip.jState != 2 then (0x21, d)
    else if l.kind ≠ 1 then (0x21, d)
    else
      let k := 1 - d.chip.jCur
      let i := d.imageIn k
      let ep := nextEpoch d.chip.jEpoch
      let d := (rlogBoot d).on (fun c => (c.setJ 3).modHub (fun h => { h with
        tileRecs := (List.range 4).map (fun t => (t, ({ state := 3, epoch := ep, digest := l.digest } : TileRec))) }))
      let d := d.reset (fun c => (List.range 4).foldl (fun c t => tileReset t c) c)
      let d := (List.range 4).foldl (fun d t => applyTile t i k ep l.digest d) d
      let d := applyMeminit i (fun a => decide (gdBase ≤ a)) d
      let d := d.on (fun c =>
        let c := applyHub i c
        let c := c.setReg .rstCfgJrnl .hub 0 (mkReg [(61, 3, 4), (60, 1, k), (32, 16, ep), (0, 32, l.digest.toNat)])
        c.modHub (fun h => { h with load := none, digest := l.digest, undo := [], advances := [], uioDue := (i.sect? 0x0D).isSome, lastCode := 0, lastOff := 0 }))
      let d := d.on (extendM 3 l.digest)
      (0, if d.chip.lifecycle = 3 ∧ d.chip.persFloor < i.at 0x18 4 then d.on (floorBurn 0x88 (i.at 0x18 4)) else d)

/-! ### Generations and partial images -/

/-- A tile advances a context's generation in one cycle (R169, R481, R606): only from the old generation; its tables change, cache entries are
invalidated, READY slots empty and RUNNING or SUSPENDED ones become stale. -/
def genAdvance (t n gen fb edge : Nat) (defined : Bool) (c : Chip) : Chip :=
  if (kget 0 (c.tile t).gens n + 1) % 65536 ≠ gen then c
  else
    let c := (cacheDrop t n c).modTile t (fun ti => { ti with
      gens := if gen = 0 then kdel ti.gens n else kset ti.gens n gen
      ctxTab := if defined then kset ti.ctxTab n { (kget ⟨true, fb, 0⟩ ti.ctxTab n) with defined := true, firebreak := fb, edge := edge }
        else kmod ⟨false, 0, 0⟩ ti.ctxTab n (fun x => { x with defined := false }) })
    (c.tileGroves t).foldl (fun c g => c.modGrove t g (fun gr => (List.range 8).foldl (fun gr s =>
      let x := gr.slot s
      if imgNumber x.img ≠ n then gr
      else match x.state with
        | .ready => gr.emptySlot s
        | .running | .suspended => { gr with slots := kset gr.slots s { x with stale := true } }
        | _ => gr) gr)) c

/-- A staged partial image is applied (R476, R477): old images go to the undo log, new ones to the active store, every tile advances in one
cycle, and the EVENT records are written. -/
def commitPartial (d : Dev) : Nat × Dev :=
  match d.chip.hub.load with
  | none => (0x21, d)
  | some l =>
    if !l.staged || l.kind != 2 then (0x21, d)
    else
      let i := d.imageIn (1 - d.chip.jCur)
      match replaceCheck d i.news true with
      | some f => (f.1, d.on (endLoad f.1 0))
      | none =>
        let st := d.chip.store d.chip.jCur
        let old := i.news.map (fun x => (x.1, kget 0 (d.chip.tile (x.1 % 4)).gens x.1, d.curImage x.1))
        let d := (old.zipIdx).foldl (fun d x => d.putImage (d.chip.container (1 - d.chip.jCur) + 0x1000000 + 512 * x.2) x.1.2.2) d
        let d := i.news.foldl (fun d x => d.putImage (st + 512 * x.1) x.2) d
        let d := d.on (fun c => (List.range 4).foldl (fun c t => i.news.foldl (fun c x =>
          genAdvance t x.1 (imgGen x.2) (imgFirebreak x.2) (imgEdge x.2) (imgVersion x.2 == 1) c) c) c)
        (0, d.on (fun c => (extendM 4 l.digest ((applyEvents i (fun _ => true) c).setJ 4)).modHub (fun h => { h with
          load := none, undo := old, lastCode := 0, lastOff := 0, tileRecs := h.tileRecs.map (fun r => (r.1, { r.2 with undo := old.length })) })))

/-- PERS_COMMIT and auto-commit (R468, R472, R477). -/
def loadCommit (d : Dev) : Nat × Dev :=
  match d.chip.hub.load with
  | some l => if l.kind = 1 then commitPers d else commitPartial d
  | none => (0x21, d)

/-! ### Release and restart (R470, R474, R475) -/

/-- UIO commits in one cycle (R474, R592): every pin's record and its first output value and enable. -/
def uioCommit (i : Image) (c : Chip) : Chip :=
  match i.sect? 0x0D with
  | none => c.modHub (fun h => { h with uioDue := false })
  | some (o, _) =>
    let c := (List.range 48).foldl (fun c n => c.setReg .uioCfg .hub n (i.reg (o + 8 * n))) c
    let bits (b : Nat) : Nat := (List.range 48).foldl (fun v n => v + fld (i.reg (o + 8 * n)) b 1 * 2 ^ n) 0
    ((c.setReg .uioOut .hub 0 (BitVec.ofNat 64 (bits 32))).setReg .uioOe .hub 0 (BitVec.ofNat 64 (bits 33))).modHub (fun h => { h with uioOn := true, uioDue := false })

/-- TILE_RELEASE (R474): a tile that holds the committed personality grants credit, its scheduler and its ranger start; with the last one UIO
commits. -/
def tileRelease (t : Nat) (d : Dev) : Dev :=
  let c := d.chip
  let r := kget {} c.hub.tileRecs t
  if c.hub.bare || !(c.hub.held.contains t) || !c.committed || r.state != 4 || r.epoch != c.jEpoch then d
  else
    let s : Site := .tile t
    let d := d.on (fun c =>
      let c := ((c.setRf .schCtl s 0 0 1 1).setRf .rgrCtl s 0 16 1 1).setRf .cfgStatus s 0 61 3 2
      (c.setRf .rgrStat s 0 62 2 1).modHub (fun h => { h with held := h.held.filter (fun x => x != t) }))
    if d.chip.hub.held.isEmpty && d.chip.hub.uioDue then d.on (uioCommit (d.imageIn d.chip.jCur)) else d

/-- A tile that took a TILE reset is re-applied from the golden container and the active backing store, and stays held until done (R475). -/
def reapply (t : Nat) (d : Dev) : Dev :=
  let c := d.chip
  if c.committed && c.hub.held.contains t && !c.hub.bare then applyTile t (d.imageIn c.jCur) c.jCur c.jEpoch c.hub.digest d else d

/-- TILE_RESET and its other causes while a personality is committed. -/
def tileResetApply (t : Nat) (d : Dev) : Dev := reapply t (d.reset (tileReset t))

/-- The restart of the loader after a reset that keeps tile memory and GDDR7 (R475). -/
def journalRestart (d : Dev) : Dev :=
  let d := d.on (fun c => c.modHub (fun h => { h with load := none }))
  let arm (c : Chip) : Chip := c.modHub (fun h => { h with deadlineOn := true })
  let hubAgain (d : Dev) : Dev :=
    let d := (List.range 4).foldl (fun d t =>
      let r := kget {} d.chip.hub.tileRecs t
      if r.state ≠ 4 ∨ r.epoch ≠ d.chip.jEpoch then tileResetApply t d else if d.chip.hub.held.contains t then reapply t d else d) d
    d.on (fun c => extendM 3 c.hub.digest (applyHub (d.imageIn d.chip.jCur) c))
  let toActive (d : Dev) : Dev := if d.chip.jHad then hubAgain (d.on (fun c => c.setJ 4)) else d.on (fun c => arm (c.setJ 0))
  match d.chip.jState with
  | 1 | 2 => toActive d
  | 3 => d.reset (fun c => arm ((((List.range 4).foldl (fun c t => tileReset t c) c).setJ 0).modHub (fun h => { h with tileRecs := [] })))
  | 4 => hubAgain d
  | 5 =>
    let st := d.chip.store d.chip.jCur
    let d := d.chip.hub.undo.foldl (fun d x => (d.putImage (st + 512 * x.1) x.2.2).on (fun c => (List.range 4).foldl (fun c t =>
      (cacheDrop t x.1 c).modTile t (fun ti => { ti with
        gens := if x.2.1 = 0 then kdel ti.gens x.1 else kset ti.gens x.1 x.2.1
        ctxTab := if imgVersion x.2.2 = 1 then kset ti.ctxTab x.1 { (kget ⟨true, 0, 0⟩ ti.ctxTab x.1) with defined := true, firebreak := imgFirebreak x.2.2, edge := imgEdge x.2.2 }
          else kmod ⟨false, 0, 0⟩ ti.ctxTab x.1 (fun y => { y with defined := false }) })) c)) d
    toActive d
  | _ => d.on arm

/-- The bare state (R470): every tile is held in TILE reset with its PLL off and its GDDR7 in self-refresh. -/
def enterBare (c : Chip) : Chip :=
  let c := loadAbort c
  let c := (List.range 4).foldl (fun c t => (tileReset t c).modTile t (fun ti => { ti with
    pllOff := true, chans := ti.chans.map (fun (x : Nat × Chan) => (x.1, { x.2 with state := .selfRefresh })) })) c
  (c.setJ 0).modHub (fun h => { h with bare := true, deadlineOn := false, tileRecs := [], mbxState := if h.mbxState = 2 then 3 else h.mbxState })

/-- BOOT_DEADLINE (R470): it expires without a staged personality. -/
def bootDeadline (c : Chip) : Chip := if c.hub.deadlineOn then enterBare c else c

/-- Re-arming the deadline leaves the bare state (R470). -/
def setDeadline (s : Nat) (c : Chip) : Chip :=
  let c := if c.hub.bare then
    ((List.range 4).foldl (fun c t => gd7Level t (c.modTile t (fun ti => { ti with
      pllOff := false, chans := ti.chans.map (fun (x : Nat × Chan) => (x.1, { x.2 with state := .retraining })) }))) c).modHub (fun h => { h with bare := false, deadlineOn := true, mbxState := if h.mbxState = 3 then 2 else h.mbxState })
    else c
  c.modHub (fun h => { h with deadline := s, deadlineOn := h.deadlineOn || h.load.isNone && !c.committed })

end Sys2Proof.Machine
end

