-- ==== Sys2Proof/Machine/Ranger.lean ====
section
/-!
DEFINITION. The internal configuration port (R478–R483) and the ranger (R484–R488).
-/
namespace Sys2Proof.Machine

/-! ### The ranger -/

/-- The golden image of a context and whether it reads poisoned (R486). -/
def Dev.golden (d : Dev) (t n : Nat) : BitVec 4096 × Bool :=
  let a := 33554432 * d.chip.rf .ctxBackBase (.tile t) 0 25 23 + 512 * n
  (BitVec.ofNat 4096 (d.mem.load a 512), d.imagePoison a)

/-- The bits of an image that are essential (R463): the map, but for instruction words at or above n_instr. -/
def essBits (c : Chip) (t : Nat) (img : BitVec 4096) : BitVec 4096 :=
  let m : BitVec 4096 := (List.range 64).foldl (fun v n => v ||| ((BitVec.setWidth 4096 (c.reg .rgrEss (.tile t) n)) <<< (64 * n))) 0#4096
  m &&& (BitVec.ofNat 4096 (2 ^ (3392 + 32 * min 22 (imgN img)) - 1))

/-- A finding of the ranger (R495). -/
def rgrCapture (t kind src g s word idx ctx : Nat) (c : Chip) : Chip :=
  c.capture .rgrLast (.tile t) 0 (mkReg [(60, 3, kind), (59, 1, src), (51, 8, g), (48, 3, s), (42, 6, word), (30, 12, idx), (0, 16, ctx)])

/-- An image that cannot serve as golden (R486). -/
def goldErr (t src g s idx ctx : Nat) (c : Chip) : Chip := (rgrCapture t 6 src g s 0 idx ctx c).bump .rgrGoldErrCnt (.tile t)

/-- The ranger stops in fault (R487). -/
def rgrFail (t why : Nat) (c : Chip) : Chip :=
  let c := (c.setRf .rgrStat (.tile t) 0 62 2 3).setRf .rgrStat (.tile t) 0 60 2 why
  setLevel (.tile t 16) true 0 (c.modTile t (fun ti => { ti with rgrFault := true }))

/-- A suspended task's slot is found uncorrectable or different (R169): the task aborts at once and the slot is HELD. -/
def slotSuspFail (t g s : Nat) (c : Chip) : Chip :=
  match (c.grove t g).susp.find? (fun r => r.slot == s) with
  | none => c
  | some r =>
    let c := raise (.grove t g 0) (256 + 6) (c.modGrove t g (fun gr => { gr with
      susp := gr.susp.map (fun x => if x.slot = s then { x with fail := some { code := 0xD, cls := 6, held := true } } else x) }))
    abortAttempt t r.desc c

/-- The check of one slot (R485), by the ranger or by SLOTCHK (`src`). `e` is what the code finds on its words, `flip` an image bit found upset. -/
def slotCheck (t g s src : Nat) (e : Ecc) (flip : Option Nat) (d : Dev) : Dev :=
  let x := (d.chip.grove t g).slot s
  let n := imgNumber x.img
  if x.state = .empty ∨ x.state = .loading ∨ x.stale then d
  else if x.state = .held then d.on (fun c => c.modTile t (fun ti => { ti with
    rgrTried := ti.rgrTried.filter (fun y => y != (g, s)), rgrFetched := ti.rgrFetched.filter (fun y => y != (g, s)) ++ [(g, s)] }))
  else
    let gold := d.golden t n
    if gold.2 then d.on (goldErr t src g s 0 n)
    else
      let seen := match flip with
        | some b => x.img ^^^ ((1#4096) <<< b)
        | none => x.img
      let diff := seen ^^^ gold.1
      let ess := essBits d.chip t gold.1
      let word := match flip with
        | some b => b / 64 % 64
        | none => 0
      let kind : Option Nat := match e with
        | .ue _ => some 1
        | _ => if (diff &&& ess) != 0#4096 then some 2 else match e with
          | .ce _ => some 0
          | _ => if diff != 0#4096 then some 3 else none
      match kind with
      | none => d
      | some k => d.on (fun c =>
          let c := rgrCapture t k src g s word 0 n c
          let c := match e with
            | .ce _ => c.bump .rgrCeCnt (.tile t)
            | _ => c
          if x.state = .ready then
            (c.modGrove t g (fun gr => { gr with slots := kset gr.slots s { x with state := .held } })).modTile t (fun ti => { ti with
              rgrFetched := ti.rgrFetched ++ [(g, s)] })
          else if k = 1 ∨ k = 2 then
            (match (c.grove t g).run with
             | some r => if r.slot = s then heldFail t g 6 6 c
                 else slotSuspFail t g s c
             | none => slotSuspFail t g s c)
          else c.modTile t (fun ti => { ti with rgrHeld := ti.rgrHeld.filter (fun y => y != (g, s)) ++ [(g, s)] }))

/-- The check of a context-cache entry (R485, R486). -/
def cacheCheck (t i : Nat) (e : Ecc) (flip : Option Nat) (d : Dev) : Dev :=
  match kfind? (d.chip.tile t).cache i with
  | none => d
  | some x =>
    let n := imgNumber x.img
    let gold := d.golden t n
    let drop (c : Chip) : Chip := c.modTile t (fun ti => { ti with cache := kdel ti.cache i })
    let found (c : Chip) : Chip := rgrCapture t 4 0 0 0 0 i n c
    if gold.2 then d.on (fun c => drop (goldErr t 0 0 0 i n c))
    else
      let seen := match flip with
        | some b => x.img ^^^ ((1#4096) <<< b)
        | none => x.img
      let bad := (match e with
        | .ue _ => true
        | _ => false) || ((seen ^^^ gold.1) &&& essBits d.chip t gold.1) != 0#4096
      if bad then d.on (fun c => drop (found c))
      else match e with
        | .ce _ => d.on (fun c => ((found c).bump .rgrCeCnt (.tile t)).bump .rgrRewriteCnt (.tile t))
        | _ => d

/-- The check of a canopy source latch against the golden copy (R100, R485). -/
def canopyCheck (t ch : Nat) (flip : Option Nat) (c : Chip) : Chip :=
  let m : BitVec 64 := mkReg [(63, 1, 1), (16, 8, 255), (8, 8, 255), (0, 1, 1)]
  let same := (c.reg .cfgCnpSrc (.tile t) ch &&& m) == (c.reg .rgrGoldCnp (.tile t) ch &&& m)
  if (c.tile t).cnpOff.contains ch || (same && flip.isNone && !(khas (c.tile t).cnpUp ch)) then c else cnpFault t ch 13 (rgrCapture t 5 0 0 0 ch 0 0 c)

/-- Show the ranger's position in RGR_STAT (R494). -/
def rgrShow (t : Nat) (c : Chip) : Chip :=
  let p := (c.tile t).rgrPos
  let kp : Nat × Nat := if p < 1152 then (0, (allGroves.getD (p / 8) 0) * 8 + p % 8) else if p < 5248 then (1, p - 1152)
    else if p < 5312 then (2, p - 5248) else (p - 5309, 0)
  (c.setRf .rgrStat (.tile t) 0 13 3 kp.1).setRf .rgrStat (.tile t) 0 0 13 kp.2

/-- RANGER_UNIT (R484–R487): the next unit of the pass: 1,152 slots, 4,096 cache entries, 64 canopy latches, the map's scrub, the self-test. -/
def rangerUnit (t : Nat) (e : Ecc) (flip : Option Nat) (d : Dev) : Dev :=
  let c := d.chip
  let ti := c.tile t
  if !(c.rbit .rgrCtl (.tile t) 0 16) || c.rf .rgrStat (.tile t) 0 62 2 != 1 || c.hub.held.contains t || ti.pllOff then d
  else
    let p := ti.rgrPos
    let d := d.on (fun c => c.modTile t (fun ti => { ti with rgrPos := (p + 1) % 5314 }))
    let d :=
      if p < 1152 then slotCheck t (allGroves.getD (p / 8) 0) (p % 8) 0 e flip d
      else if p < 5248 then cacheCheck t (p - 1152) e flip d
      else if p < 5312 then d.on (canopyCheck t (p - 5248) flip)
      else if p = 5312 then
        match e with
        | .ue _ => d.on (rgrFail t 2)
        | .ce _ => d.on (fun c => c.bump .rgrCeCnt (.tile t))
        | .ok | .adder _ | .bytes _ => d
      else if flip.isSome then d.on (rgrFail t 3)
      else d.on (fun c => c.setRf .rgrStat (.tile t) 0 32 16 (c.rf .rgrStat (.tile t) 0 32 16 + 1))
    d.on (rgrShow t)

/-- RANGER_HELD_FETCH (R484, R486): the backing image of a slot that became HELD outside the pass is fetched; a slot whose rewrite waited until
its task left becomes HELD first. -/
def heldFetch (t : Nat) (c : Chip) : Chip :=
  let ti := c.tile t
  if c.hub.held.contains t || ti.pllOff || c.rf .rgrStat (.tile t) 0 62 2 != 1 then c
  else
    let cand := (c.tileGroves t).flatMap (fun g => (List.range 8).filterMap (fun s =>
      let st := ((c.grove t g).slot s).state
      if (st = .held && !(ti.rgrFetched.contains (g, s)) && !(ti.rgrTried.contains (g, s))) || (st = .ready && ti.rgrHeld.contains (g, s)) then some (g, s) else none))
    match cand with
    | [] => c
    | (g, s) :: _ =>
      (c.modGrove t g (fun gr => { gr with slots := kmod {} gr.slots s (fun x => { x with state := .held }) })).modTile t (fun ti => { ti with
        rgrHeld := ti.rgrHeld.filter (fun y => y != (g, s)), rgrFetched := ti.rgrFetched ++ [(g, s)] })

/-- RANGER_REWRITE (R155, R483, R485, R486): the fetched image arrives and the slot is READY with it; a poisoned one leaves the slot HELD until the
next pass. With no slot to rewrite, a disabled canopy channel is rewritten from the golden copy (R100). -/
def rangerRewrite (t : Nat) (d : Dev) : Dev :=
  if d.chip.hub.held.contains t then d
  else
  match (d.chip.tile t).rgrFetched with
  | [] =>
    (match (d.chip.tile t).cnpOff with
     | [] => d
     | ch :: r => d.on (fun c => ((c.setReg .cfgCnpSrc (.tile t) ch (setFld (c.reg .rgrGoldCnp (.tile t) ch) 62 1 (c.rf .cfgCnpSrc (.tile t) ch 62 1))).modTile t
         (fun ti => { ti with cnpOff := r, cnpUp := kdel ti.cnpUp ch })).bump .rgrRewriteCnt (.tile t)))
  | (g, s) :: rest =>
    let d := d.on (fun c => c.modTile t (fun ti => { ti with rgrFetched := rest }))
    let x := (d.chip.grove t g).slot s
    if x.state ≠ .held then d
    else
      let n := imgNumber x.img
      let gold := d.golden t n
      if gold.2 then d.on (fun c => goldErr t 0 g s 0 n (c.modTile t (fun ti => { ti with rgrTried := ti.rgrTried ++ [(g, s)] })))
      else d.on (fun c => (c.modGrove t g (fun gr => { gr with slots := kset gr.slots s { x with state := .ready, img := gold.1, frameValid := false } })).bump
        .rgrRewriteCnt (.tile t))

/-- RANGER_VOTE_UPSET (R487): a copy that disagrees with two others is corrected; with no two that agree the ranger stops. -/
def voteUpset (t reg copy : Nat) (agree : Bool) (c : Chip) : Chip :=
  if agree then raise (.tile t 15) (16 * (reg % 2) + copy % 4) c else rgrFail t 1 c

/-- RANGER_RESTART (R488): the copies are rewritten and the self-test runs; when it passes, a new pass starts. -/
def rangerRestart (t : Nat) (pass : Bool) (c : Chip) : Chip :=
  if pass then
    let c := (c.setRf .rgrStat (.tile t) 0 62 2 1).setRf .rgrStat (.tile t) 0 60 2 0
    rgrShow t (setLevel (.tile t 16) false 0 (c.modTile t (fun ti => { ti with rgrFault := false, rgrPos := 0 })))
  else rgrFail t 3 c

/-! ### The internal configuration port -/

/-- Operation, staging entry and ctx field of a command (R479). -/
def icpOp (w : Nat) : Nat := w / 2 ^ 30 % 4
/-- Staging entry of a command. -/
def icpEntry (w : Nat) : Nat := w / 2 ^ 24 % 64
/-- ctx field of a command. -/
def icpCtx (w : Nat) : Nat := w % 65536

/-- Record an outcome in CFG_ICP_STAT_s (R492). -/
def icpStat (t w state gen code : Nat) (c : Chip) : Chip :=
  c.setReg .cfgIcpStat (.tile t) (icpEntry w) (mkReg [(61, 3, state), (59, 2, icpOp w), (32, 16, gen), (16, 16, code), (0, 16, icpCtx w)])

/-- A command that ends in error. -/
def icpError (t w code : Nat) (c : Chip) : Chip := (icpStat t w 4 (kget 0 (c.tile t).gens (icpCtx w)) code c).bump .cfgIcpRejCnt (.tile t)

/-- A command that is done. -/
def icpDone (t w gen : Nat) (c : Chip) : Chip := (icpStat t w 3 gen 0 c).bump .cfgIcpCnt (.tile t)

/-- A write of CFG_ICP_CMD (R480, R491): queued, or dropped while the port is not enabled or its FIFO is full. `master` is the requester's firebreak,
256 for the management core and the debug unit. -/
def icpWrite (t w master : Nat) (c : Chip) : Chip :=
  let full := decide (16 ≤ (c.tile t).icpQ.length)
  if !(c.rbit .cfgIcpCtl (.tile t) 0 1) || full then
    (icpStat t w 5 (kget 0 (c.tile t).gens (icpCtx w)) (if full then 0x20 else 0) c).bump .cfgIcpRejCnt (.tile t)
  else icpStat t w 1 (kget 0 (c.tile t).gens (icpCtx w)) 0 (c.modTile t (fun ti => { ti with icpQ := ti.icpQ ++ [⟨w, master⟩] }))

/-- The device-local address of a staging entry (R478). -/
def Chip.stageAddr (c : Chip) (t s : Nat) : Nat := tmBase t + 4096 * c.rf .cfgIcpCtl (.tile t) 0 12 13 + 512 * s

/-- The image in a staging entry. -/
def Dev.staged (d : Dev) (t s : Nat) : BitVec 4096 := BitVec.ofNat 4096 (d.mem.load (d.chip.stageAddr t s) 512)

/-- Whether the command at the head is admitted (R480). -/
def icpAdmit (d : Dev) (t : Nat) (k : IcpCmd) : Bool :=
  if k.master = 256 then true
  else
    let f := kget ⟨false, false, 0#256, 0#64, []⟩ d.chip.hub.firebreaks k.master
    let n := icpCtx k.cmd
    let fb : Option Nat := match kfind? (d.chip.tile t).ctxTab n with
      | some ⟨true, b, _⟩ => some b
      | _ => if icpOp k.cmd = 0 then some (imgFirebreak (d.staged t (icpEntry k.cmd))) else none
    decide (icpOp k.cmd ≤ 1) && f.icpStage.getLsbD (icpEntry k.cmd) && (match fb with
      | some b => f.icpTgt.getLsbD b
      | none => false)

/-- Take the command at the head of a port's FIFO if it has an operation: `none` when there is none to perform now. -/
def icpHead (t op : Nat) (d : Dev) : Option (IcpCmd × Dev) :=
  match (d.chip.tile t).icpQ with
  | k :: rest =>
    if icpOp k.cmd ≠ op ∨ d.chip.hub.held.contains t ∨ (d.chip.tile t).pllOff ∨ d.chip.jState = 5 then none
    else some (k, d.on (fun c => c.modTile t (fun ti => { ti with icpQ := rest })))
  | [] => none

/-- ICP_REPLACE (R480, R481): the checks of the loader and of R476, the current image to the journal page, the new one to the backing store, and the
generation advance on its way to every tile. -/
def icpReplace (t : Nat) (d0 : Dev) : Dev :=
  match icpHead t 0 d0 with
  | none => d0
  | some (k, d) =>
    let n := icpCtx k.cmd
    let img := d.staged t (icpEntry k.cmd)
    let old := d.curImage n
    let code : Option Nat :=
      if !(icpAdmit d t k) then some 0x22
      else (ctxCheck img n).or (((replaceCheck d [(n, img)] true).map (fun x => x.1)).or
        (if imgVersion img = 1 ∧ imgVersion old = 1 ∧ useBits (imgRoute img) ≠ useBits (imgRoute old) then some 0x14 else none))
    match code with
    | some e => d.on (icpError t k.cmd e)
    | none =>
      let d := d.putImage (d.chip.store d.chip.jCur + 512 * n) img
      d.on (fun c => (icpStat t k.cmd 2 (imgGen old) 0 c).modHub (fun h => { h with
        undo := [(n, imgGen old, old)]
        advances := h.advances ++ (List.range 4).map (fun u => ⟨u, n, imgGen img, imgFirebreak img, imgEdge img, imgVersion img == 1, (t, k.cmd)⟩) }))

/-- ICP_READ (R482). -/
def icpRead (t : Nat) (d0 : Dev) : Dev :=
  match icpHead t 1 d0 with
  | none => d0
  | some (k, d) =>
    if !(icpAdmit d t k) then d.on (icpError t k.cmd 0x22)
    else
      let img := d.curImage (icpCtx k.cmd)
      (d.putBytes (d.chip.stageAddr t (icpEntry k.cmd)) (bytesOf img.toNat 512)).on (icpDone t k.cmd (imgGen img))

/-- ICP_SLOTCHK (R482): the ranger's check of one slot of its own tile. -/
def icpSlotchk (t : Nat) (e : Ecc) (flip : Option Nat) (d0 : Dev) : Dev :=
  match icpHead t 2 d0 with
  | none => d0
  | some (k, d) =>
    let g := icpCtx k.cmd / 256
    if k.master ≠ 256 then d.on (icpError t k.cmd 0x22)
    else
      let d := if decide (g < 188) && gpop g then slotCheck t g (icpCtx k.cmd % 8) 1 e flip d else d
      d.on (icpDone t k.cmd 0)

/-- ICP_RESTORE (R482): the backing image is rewritten; its gen must be the current one. -/
def icpRestore (t : Nat) (d0 : Dev) : Dev :=
  match icpHead t 3 d0 with
  | none => d0
  | some (k, d) =>
    let n := icpCtx k.cmd
    let img := d.staged t (icpEntry k.cmd)
    if k.master ≠ 256 then d.on (icpError t k.cmd 0x22)
    else if imgGen img ≠ kget 0 (d.chip.tile (n % 4)).gens n then d.on (icpError t k.cmd 0x19)
    else (d.putImage (d.chip.store d.chip.jCur + 512 * n) img).on (icpDone t k.cmd (imgGen img))

/-- GENERATION_ADVANCE (R481, R483): the oldest advance on its way to a tile takes effect; with the last of a REPLACE its status is done. -/
def genArrive (t : Nat) (c : Chip) : Chip :=
  if c.hub.held.contains t then c
  else
  match c.hub.advances.find? (fun a => a.tile == t) with
  | none => c
  | some a =>
    let c := genAdvance t a.ctx a.gen a.firebreak a.edge a.defined (c.modHub (fun h => { h with advances := h.advances.erase a }))
    if c.hub.advances.any (fun b => b.rep == a.rep) then c
    else if c.rf .cfgIcpStat (.tile a.rep.1) (icpEntry a.rep.2) 61 3 = 2 then icpDone a.rep.1 a.rep.2 a.gen c else c

end Sys2Proof.Machine
end

