-- ==== Sys2Proof/Machine/Power.lean ====
section
/-!
DEFINITION. Rails, adaptive voltage, power states and clocks (R544–R553), watchdogs (R557, R558), POR, WARM, HUB and full internal resets
(R555, R556), and the boot chain (R530–R532).
-/
namespace Sys2Proof.Machine

/-! ### Level events -/

/-- The rails out of range, and the AVS fault (R546). -/
def railMask (c : Chip) : Nat :=
  (List.range 8).foldl (fun m r => if c.hub.railLow.contains r then m + 2 ^ r else m) 0 + 256 * b2n (c.rbit .pwrAvs .hub 0 62)

/-- The level sources of the hub follow their conditions: PCI_LINK, LNK_DOWN, D2D_DOWN, PWR_ALERT, CLK_UNLOCK. -/
def hubLevelsAt (tick : Bool) (c : Chip) : Chip :=
  let c := c.setRf .pwrRailStat .hub 0 0 9 (railMask c)
  let c := levelAt tick (.hub 4) (!(c.rbit .pciLinkStat .hub 0 63)) 1 c
  let c := levelAt tick (.hub 12) (downMask c true != 0) (downMask c true) c
  let c := levelAt tick (.hub 15) (downMask c false != 0) (downMask c false) c
  let c := levelAt tick (.hub 19) (railMask c != 0) (railMask c) c
  levelAt tick (.hub 21) (c.rf .clkStat .hub 0 0 12 != 0) (c.rf .clkStat .hub 0 0 12) c

/-- The level sources of the hub as a command leaves them. -/
def hubLevels (c : Chip) : Chip := hubLevelsAt false c

/-- The level sources of a tile in a cycle: RGR_FAULT and GD7_TRAIN. -/
def tileLevels (t : Nat) (c : Chip) : Chip :=
  let mask := (List.range 8).foldl (fun m i => match (c.chan t i).state with
    | .untrained | .training | .zerofill | .down => m + 2 ^ i
    | _ => m) 0
  levelAt true (.tile t 28) (mask != 0) mask (levelAt true (.tile t 16) (c.tile t).rgrFault 0 c)

/-! ### Watchdogs (R557, R558) -/

/-- The period of the firmware watchdog in ACLK ticks (3.125 MHz). -/
def wdgFwPeriod (c : Chip) : Nat := 3125 * c.rf .wdgFwCtl .hub 0 0 16
/-- The period of the device watchdog in ACLK ticks. -/
def wdgDevPeriod (c : Chip) : Nat := 3125000 * c.rf .wdgDevCtl .hub 0 0 16

/-- Both counters hold their values: the core is halted, DBG_WDG_FREEZE is set, and the lifecycle state allows it. -/
def Chip.wdgFrozen (c : Chip) : Bool := c.hub.core.halted && c.rbit .dbgWdgFreeze .hub 0 0 && c.development

/-- When a freeze has ended, each counter resumes with at least 1,024 ticks left. -/
def thaw (was : Bool) (c : Chip) : Chip :=
  if was && !c.wdgFrozen then c.modHub (fun h => { h with wdgFw := max 1024 h.wdgFw, wdgDev := max 1024 h.wdgDev }) else c

/-- Reload the firmware watchdog. -/
def wdgFwLoad (c : Chip) : Chip := c.modHub (fun h => { h with wdgFw := wdgFwPeriod c, wdgWarned := (false, h.wdgWarned.2) })
/-- Reload the device watchdog. -/
def wdgDevLoad (c : Chip) : Chip := c.modHub (fun h => { h with wdgDev := wdgDevPeriod c, wdgWarned := (h.wdgWarned.1, false) })

/-- WDG_FW_SVC: only the key 0xA5C3 services. -/
def wdgFwSvc (v : BitVec 64) (c : Chip) : Chip := if fld v 0 16 = 0xA5C3 then wdgFwLoad c else c
/-- WDG_DEV_SVC. -/
def wdgDevSvc (v : BitVec 64) (c : Chip) : Chip := if fld v 0 16 = 0xA5C3 then wdgDevLoad c else c

/-- WDG_CTL_WRITE (R557, R562): a write of WDG_FW_CTL or WDG_DEV_CTL. A period that would leave the device period less than twice the firmware
period is ignored, as are values out of range; warn stays below the period; the lock bit locks both. -/
def wdgCtlWrite (dev : Bool) (v : BitVec 64) (c : Chip) : Chip :=
  let r : Reg := if dev then .wdgDevCtl else .wdgFwCtl
  let p := fld v 0 16
  let w := fld v 32 16
  let locked := c.rbit r .hub 0 63
  let ratio := if dev then decide (2 * c.rf .wdgFwCtl .hub 0 0 16 ≤ 1000 * p) else decide (2 * p ≤ 1000 * c.rf .wdgDevCtl .hub 0 0 16)
  let range := if dev then decide (2 ≤ p) && decide (p ≤ 600) else decide (100 ≤ p) && decide (p ≤ 60000)
  let c := if !locked && ratio && range then c.setRf r .hub 0 0 16 p else c
  let cur := c.rf r .hub 0 0 16
  let c := if !locked && decide (w < if dev then 10 * cur else cur) then c.setRf r .hub 0 32 16 w else c
  if fld v 63 1 = 1 then c.setRf r .hub 0 63 1 1 else c

/-- WDG_FW_WARN: the warning point, once per period. -/
def wdgFwWarn (c : Chip) : Chip :=
  if c.hub.wdgWarned.1 || c.wdgFrozen then c
  else raise (.hub 22) 0 (c.modHub (fun h => { h with wdgWarned := (true, h.wdgWarned.2), wdgFw := min h.wdgFw (3125 * c.rf .wdgFwCtl .hub 0 32 16) }))

/-- WDG_DEV_WARN. -/
def wdgDevWarn (c : Chip) : Chip :=
  if c.hub.wdgWarned.2 || c.wdgFrozen then c
  else raise (.hub 23) 0 (c.modHub (fun h => { h with wdgWarned := (h.wdgWarned.1, true), wdgDev := min h.wdgDev (312500 * c.rf .wdgDevCtl .hub 0 32 16) }))

/-- `n` ACLK ticks of both watchdogs. -/
def wdgTicks (n : Nat) (c : Chip) : Chip := if c.wdgFrozen then c else c.modHub (fun h => { h with wdgFw := h.wdgFw - n, wdgDev := h.wdgDev - n })

/-- WDG_STAT (R562). -/
def wdgStat (c : Chip) : BitVec 64 :=
  mkReg [(63, 1, b2n c.wdgFrozen), (32, 16, (c.hub.wdgFw + 3124) / 3125), (0, 32, (c.hub.wdgDev + 3124) / 3125)]

/-! ### Resets (R555, R556) -/

/-- Record a reset cause (R561). -/
def causeBit (n : Nat) (c : Chip) : Chip := c.setRf .rstCause .hub 0 n 1 1

/-- What a reset of the security block ends: a burn stops where it is, a signing leaves nothing (R527, R536). -/
def secReset (c : Chip) : Chip := (burnReset c).modHub (fun h => { h with signing := none, idKey := false })

/-- The hub when every register has its reset value and no rail or clock is yet confirmed: the tiles hold no personality. -/
def Hub.fresh : Hub := { warmHeld := [3], held := [0, 1, 2, 3], wdgFw := 3125000, wdgDev := 31250000 }

/-- The device at POR (R555): RST_CAUSE names it, memory lists nothing. -/
def Chip.fresh0 : Chip := { regs := [(Reg.addr .rstCause .hub 0, 1#64)], hub := Hub.fresh }

/-- POR: everything returns to reset; OTP, flash, pins and rails are not the device's to reset, and what left the device has left it. -/
def por (d : Dev) : Dev :=
  let c := burnReset d.chip
  let h := c.hub
  { mem := [], chip := { Chip.fresh0 with
      fresh := c.fresh, evt := { msixSent := c.evt.msixSent }
      hub := { Hub.fresh with
        otp := h.otp, flash := h.flash, padIn := h.padIn, railLow := h.railLow, reads := h.reads, hostWr := h.hostWr
        dbg := { out := h.dbg.out }, warmHeld := if h.railLow.any (fun r => decide (r < 7)) then [2, 3] else [3] } } }

/-- WARM (R291, R315, R555): everything but the always-on domain; memories are zeroed, no personality remains (R475). -/
def warm (cause : Nat) (d : Dev) : Dev :=
  let c := secReset (causeBit cause d.chip)
  let c := resetRegs (fun _ => true) [.warm, .hub, .tile, .grove] c
  let h := c.hub
  let c : Chip := { c with
    groves := [], tiles := [], gdPoison := [], evt := { msixSent := c.evt.msixSent }
    hub := { Hub.fresh with
      time := h.time, tick3 := h.tick3, otp := h.otp, flash := h.flash, padIn := h.padIn, railLow := h.railLow, avsMiss := 0
      reads := h.reads, hostWr := h.hostWr,
      dbg := { out := h.dbg.out }, warmHeld := h.warmHeld, fwDigest := h.fwDigest } }
  { mem := [], chip := hubLevels (c.setJ 0) }

/-- The host's open items and the commands that wait are cut off by a HUB reset: items go, commands stay to be answered (R508). -/
def mbxHubReset (c : Chip) : Chip :=
  c.hub.chans.foldl (fun c (x : Nat × MbxChan) =>
    let c := x.2.items.foldl (fun c q => match (c.queue q).asms.find? (fun a => a.prod == .host x.1 && !a.closed) with
      | some a => c.dropAsm q a.id
      | none => c) c
    c.modHub (fun h => { h with chans := kset h.chans x.1 { x.2 with items := [], report := none, cmds := x.2.cmds.map (fun k => { k with cut := true }) } })) c

/-- The hub logic, the core, the ports and the hub-end modules are reset (R193, R226, R366, R398, R427, R555); tiles keep running. -/
def hubReset (cause : Nat) (c : Chip) : Chip :=
  let was := c.wdgFrozen
  let c := causeBit cause c
  let c := c.setRf .rstCause .hub 0 48 16 (c.rf .rstCause .hub 0 48 16 + 1)
  let c := match c.hub.swap with
    | some s => if s.phase = 3 then swapCopyDone c else swapEnd 5 c
    | none => c
  let c := mbxHubReset (endRequests (fun _ => true) 7 c)
  let c := resetRegs (fun s => s == .hub) [.hub] c
  let c := secReset c
  let live := (List.range 8).filter (fun p => (c.link p).st != .disabled)
  let c := live.foldl (fun c p => portLost p .down c) c
  let c := if live.isEmpty then c else linkLevel true c
  let c := live.foldl (fun c p => startTraining p c) c
  let c := (List.range 8).foldl (fun c m => startTraining (16 + 2 * m) c) c
  let again := c.regs.filterMap (fun x => match regAt x.1 with
    | some (.evtSrcG, .grove t g, k) => if fld x.2 63 1 = 1 then some (EvFlight.mk (EvSrc.grove t g k).num true (x.2.extractLsb' 0 32) x.2) else none
    | some (.evtSrcT, .tile t, j) => if fld x.2 63 1 = 1 then some (EvFlight.mk (EvSrc.tile t j).num true (x.2.extractLsb' 0 32) x.2) else none
    | _ => none)
  let c := { c with evt := { c.evt with flight := again, fwq := [], fwqLost := false, irq := false } }
  let c := c.modHub (fun h => { h with
    slew := 0, rowJob := none, xlocks := [], xfifo := [], xgrants := [], xreann := [0, 1, 2, 3], rxSeq := [], txSeq := [], resync := [], xtx := [],
    remote := [], msgQ := [], sinkNotices := [], disc := none, joins := [], scan := none, portsUp := 0, xfers := [], fwIn := none, fwLoad := none,
    fwRunning := false, mbxState := 4, afterHub := true, core := { runs := h.core.runs + 1 }, hostIn := [], dbg := { h.dbg with
      result := if h.dbg.pend.isSome && h.dbg.result.isNone then some (7, 0#64) else h.dbg.result
      drop := [], wr := none, werr := h.dbg.werr || h.dbg.wr.isSome, status := if h.dbg.wr.isSome then 7 else h.dbg.status } })
  let c := if c.rbit .dbgCtl .hub 0 1 then (haltCore c).modHub (fun h => { h with core := { h.core with caught := true } }) else c
  hubLevels (thaw was (wdgFwLoad c))

/-- The full internal reset (R555): the hub and all four tiles. -/
def internalReset (cause : Nat) (c : Chip) : Chip :=
  wdgDevLoad ((List.range 4).foldl (fun c t => tileReset t c) (hubReset cause c))

/-- WDG_FW_EXPIRY (R557). -/
def wdgFwExpiry (c : Chip) : Chip := if c.wdgFrozen then c else hubReset 4 c
/-- WDG_DEV_EXPIRY (R557). -/
def wdgDevExpiry (c : Chip) : Chip := if c.wdgFrozen then c else internalReset 5 c

/-! ### The boot chain (R530, R531) -/

/-- The verification of a firmware image (R529, R531, R540): the detail code, 0 when it verifies. -/
def fwVerify (c : Chip) (bs : List Byte) : Nat :=
  let n := bs.length
  let v (o k : Nat) : Nat := leAt bs o k
  let body := n - 7856
  let so := v 0x44 4
  let head : Bool := decide (16384 ≤ n) && decide (n ≤ 4194304) && v 0 4 == 0x49505A54 && v 4 2 == 1 && v 6 1 == 3 && v 8 2 == 0x7A31 && v 10 2 == 0x9216 &&
    bitOf (v 12 4) c.stepping && v 16 4 == n && v 0x14 2 == 1 && v 0x16 2 == 0 && v 0x1C 4 == 0
  let sect : Bool := v 0x40 1 == 0x20 && v 0x41 3 == 0 && v 0x4C 4 == 0 && so % 8 == 0 && decide (0x50 ≤ so) && decide (32 ≤ v 0x48 4) && decide (so + v 0x48 4 ≤ body)
  let desc : Bool := decide (v (so + 8) 1 < 2) && v (so + 9) 23 == 0
  if !(head && sect && desc) then 0x0A
  else if v 7 1 ≠ 0 then 0x02
  else match c.signerKey 0 ((bs.drop 0x20).take 32) with
    | none => 0x02
    | some k =>
      if v 0x18 4 < c.fwFloor then 0x03
      else if Config.slhVerify 0 0 k (sha256 (bs.take body)) (bs.drop body) then 0 else 0x01

/-- Step 5 of R530: the digest is kept, M1 extended, and firmware reaches READY, or BARE in the bare state. The commands that a reset left
unanswered get MBX_E_RESET (R508); raise burns the firmware floor (R531). -/
def fwStart (bs : List Byte) (c : Chip) : Chip :=
  let dg := sha256 bs
  let so := leAt bs 0x44 4
  let c := extendM 1 dg c
  let c := if leAt bs (so + 8) 1 = 1 then floorBurn 0x80 (leAt bs 0x18 4) c else c
  c.modHub (fun h => { h with
    fwRam := bs, fwDigest := some dg, fwVersion := leAt bs 0x18 4, fwRunning := true, fwLoad := none, mbxState := if h.bare then 3 else 2
    chans := h.chans.map (fun (x : Nat × MbxChan) => (x.1, { x.2 with cmds := x.2.cmds.map (fun k =>
      if k.resp.isSome || !k.cut then k else { k with resp := some { status := 0x800A } }) })) })

/-- The bytes of a flash slot's image: its header gives the length. -/
def slotImage (f : KMap Byte) (base : Nat) : List Byte :=
  let at_ (o : Nat) : Byte := kget 0xFF#8 f (base + o)
  let n := leOf ((List.range 4).map (fun i => at_ (16 + i)))
  (List.range (min n 4194304)).map at_

/-- After step 5: the loader restarts after a HUB or full internal reset (R475), else the repair log in flash is applied (R371) and BOOT_DEADLINE
starts (R470). -/
def bootEnd (d : Dev) : Dev :=
  if d.chip.hub.afterHub then (journalRestart d).on (fun c => c.modHub (fun h => { h with afterHub := false }))
  else (if d.chip.hub.flash.isSome then rlogBoot d else d).on (fun c => (c.setJ 0).modHub (fun h => { h with deadlineOn := true }))

/-- ROM_BOOT (R443, R530): the ROM enables the ports, and the chain runs from step 1 to verified firmware, or BOOT. -/
def romBoot (d : Dev) : Dev :=
  let c := d.chip
  if c.hub.fwRunning || !(c.hub.warmHeld.isEmpty) || (c.hub.mbxState != 0 && c.hub.mbxState != 4) || c.hub.core.halted then d
  else
    let m0 := sha256 (c.otpBytes 0 0x40 ++ c.otpBytes 0x70 0x150)
    let c := (List.range 8).foldl (fun c p => lnkEnable p true c) (extendM 0 m0 c)
    let after (c : Chip) : Dev := bootEnd { d with chip := c }
    if c.hub.afterHub && c.hub.fwDigest == some (sha256 c.hub.fwRam) && !c.hub.fwRam.isEmpty then after (fwStart c.hub.fwRam c)
    else
      let cand : List (Nat × List Byte) := match c.hub.flash with
        | some f => [(0, slotImage f 0), (1, slotImage f 0x400000)]
        | none => []
      let ok := cand.filter (fun x => fwVerify c x.2 == 0)
      let c := if ok.length < cand.length then raise (.hub 18) 1 c else c
      match ok with
      | [] => { d with chip := c.modHub (fun h => { h with mbxState := 1 }) }
      | [x] => after ((raise (.hub 17) 1 (fwStart x.2 c)).modHub (fun h => { h with bootSlot := x.1 }))
      | x :: y :: _ =>
        let z := if leAt x.2 0x18 4 < leAt y.2 0x18 4 then y else x
        after ((raise (.hub 17) 1 (fwStart z.2 c)).modHub (fun h => { h with bootSlot := z.1 }))

/-! ### Rails and adaptive voltage (R545–R547) -/

/-- RAIL_FAULT (R546): a rail leaves its range; below 92 % of its low end a main rail causes WARM, VSTBY below 2.5 V POR. -/
def railFault (r : Nat) (brown : Bool) (d : Dev) : Dev :=
  let d := d.on (fun c => hubLevels (c.modHub (fun h => { h with railLow := h.railLow.filter (fun x => x != r) ++ [r] })))
  if !brown then d
  else if r = 7 then por d
  else warm 3 (d.on (fun c => c.modHub (fun h => { h with warmHeld := h.warmHeld.filter (fun x => x != 2) ++ [2] })))

/-- RAIL_IN_RANGE (R545, R546): with every main rail back, WARM is no longer held for them. -/
def railInRange (r : Nat) (c : Chip) : Chip :=
  let c := c.modHub (fun h => { h with railLow := h.railLow.filter (fun x => x != r) })
  hubLevels (if c.hub.railLow.any (fun x => decide (x < 7)) then c else c.modHub (fun h => { h with warmHeld := h.warmHeld.filter (fun x => x != 2) }))

/-- XIN_DETECT (R551). -/
def xinDetect (c : Chip) : Chip := (c.setRf .clkStat .hub 0 63 1 1).modHub (fun h => { h with warmHeld := h.warmHeld.filter (fun x => x != 3) })

/-- AVS_UPDATE (R547): the target in mV, the lowest 5 mV step with margin at or above floor, or ovr; three unanswered transactions set fault. -/
def avsUpdate (answered : Bool) (need : Nat) (c : Chip) : Chip :=
  let a := c.reg .pwrAvs .hub
  let want := if fld a 63 1 = 1 then fld a 32 16 else min 800 (max (fld a 16 16) ((need + 4) / 5 * 5))
  if answered then hubLevels ((c.setReg .pwrAvs .hub 0 (setFld (setFld a 0 16 want) 62 1 0)).modHub (fun h => { h with avsMiss := 0 }))
  else
    let c := c.modHub (fun h => { h with avsMiss := h.avsMiss + 1 })
    if 3 ≤ c.hub.avsMiss then hubLevels (c.setRf .pwrAvs .hub 0 62 1 1) else c

/-- The multiplier at which a tile's clock runs: no more than 40, 1.0 GHz, while the AVS fault stands (R547). -/
def Chip.tclkMult (c : Chip) (t : Nat) : Nat :=
  let m := c.rf .clkTile .hub t 0 6
  if c.rbit .pwrAvs .hub 0 62 then min m 40 else m

/-! ### Tile power and clocks (R548–R553) -/

/-- A link or stream may still bring words to a queue of the tile (R31). DEDUCED (log 121): a queue is the destination of an open virtual link when both are
enabled, the link may write queues, and their firebreaks are the same. -/
def tileFed (c : Chip) (t : Nat) : Bool :=
  (c.tile t).queues.any (fun q => q.2.streams.any (fun s => s.2.live && decide (0 < s.2.bal))) ||
  c.regs.any (fun x => match regAt x.1 with
    | some (.queCfg, .tile u, l) => u == t && fld x.2 63 1 == 1 && (List.range 2048).any (fun n => c.rbit .fabVl .hub n 63 && c.rbit .fabVl .hub n 0 && c.rf .fabVl .hub n 40 8 == fld (c.qcfg (4096 * t + l)) 53 8)
    | _ => false)

/-- The conditions of R549 on what the tile does. -/
def tileIdle (c : Chip) (t : Nat) : Bool :=
  let ti := c.tile t
  !ti.pllOff && ti.descs.all (fun x => x.2.state == .free) && !(tileFed c t) && ti.pageWait.isEmpty && ti.chans.all (fun x => x.2.outst == 0 && x.2.state != .retraining) &&
  c.groves.all (fun x => x.1 / 256 != t || (x.2.run.isNone && x.2.susp.isEmpty && x.2.pagein.isNone && !x.2.forcedSave && x.2.portB.isEmpty))

/-- The tile enters PLL-off: memories in retention, channels in self-refresh, PWR_STATE. -/
def pllOffEnter (t : Nat) (c : Chip) : Chip :=
  let ret (m : KMap MemPwr) (n : Nat) : KMap MemPwr := (List.range n).foldl (fun m b => if kget .on m b = .on then kset m b .retention else m) m
  let c := (c.tileGroves t).foldl (fun c g => c.modGrove t g (fun gr => { gr with spmPwr := ret gr.spmPwr 8 })) c
  raise (.hub 20) t (c.modTile t (fun ti => { ti with
    pllOff := true, waking := c.rbit .clkTile .hub t 63, tmbPwr := ret ti.tmbPwr 64
    chans := (List.range 8).map (fun i => (i, let x := kget ({} : Chan) ti.chans i; if x.state = .ready then { x with state := .selfRefresh, checks := x.checks.map (fun e => (e.1, false)) } else x)) }))

/-- TILE_PLL_OFF_ENTRY (R549, R552). -/
def tilePllOff (t : Nat) (c : Chip) : Chip :=
  if tileIdle c t && (c.rbit .pwrTile .hub t 63 || c.rbit .clkTile .hub t 63) then pllOffEnter t c else c

/-- A trigger of R550 reaches a tile. -/
def tileWake (t : Nat) (c : Chip) : Chip := c.modTile t (fun ti => if ti.pllOff && !c.hub.bare then { ti with waking := true } else ti)

/-- TILE_WAKE_DONE (R550, R552): the PLL has relocked, memories and GDDR7 are out of retention and self-refresh, and the tile resumes. -/
def tileWakeDone (t : Nat) (c : Chip) : Chip :=
  if !((c.tile t).pllOff && (c.tile t).waking) then c
  else
    let c := (c.tileGroves t).foldl (fun c g => c.modGrove t g (fun gr => { gr with spmPwr := gr.spmPwr.map (fun (x : Nat × MemPwr) =>
      if x.2 = .retention ∧ c.rf .spmPwr (.grove t g) 0 (2 * x.1) 2 = 0 then (x.1, .on) else x) })) c
    raise (.hub 20) t ((c.setRf .clkTile .hub t 63 1 0).modTile t (fun ti => { ti with
      pllOff := false, waking := false
      tmbPwr := ti.tmbPwr.map (fun (x : Nat × MemPwr) => if x.2 = .retention ∧ c.rf .tmbPwr (.tile t) (x.1 / 32) (2 * (x.1 % 32)) 2 = 0 then (x.1, .on) else x)
      chans := ti.chans.map (fun (x : Nat × Chan) => if x.2.state = .selfRefresh then (x.1, { x.2 with state := .ready }) else x) }))

/-- A request finds its tile in PLL-off: the tile wakes and the request is then served (R228, R317, R550). -/
def wakeFor (t : Nat) (c : Chip) : Chip := if (c.tile t).pllOff && !c.hub.bare then tileWakeDone t (tileWake t c) else c

/-- PWR_WAKE (R548, R550, R561). -/
def pwrWake (v : BitVec 64) (c : Chip) : Chip :=
  let t := fld v 8 2
  let g := fld v 0 8
  if fld v 63 1 = 0 then c
  else
    let c := tileWake t c
    if g ≠ 255 && gpop g then wakeGrove t g c else c

/-- CLK_TILE_WRITE (R552): a mult out of range is ignored; else the tile goes through PLL-off, at once when nothing holds it. -/
def clkTileWrite (t : Nat) (v : BitVec 64) (c : Chip) : Chip :=
  let m := fld v 0 6
  if m < 20 ∨ 60 < m then c
  else
    let c := (c.setRf .clkTile .hub t 0 6 m).setRf .clkTile .hub t 63 1 1
    if (c.tile t).pllOff then tileWake t c else tilePllOff t c

/-- GROVE_RETENTION_ENTRY (R548): an idle grove, when grv_ret_exp is not 0; its scratchpad follows. -/
def groveRetention (t g : Nat) (c : Chip) : Chip :=
  let gr := c.grove t g
  if c.rf .pwrTile .hub t 8 5 = 0 ∨ gr.run.isSome ∨ gr.pagein.isSome ∨ gr.forcedSave ∨ gr.halted ∨ !gpop g ∨
      (c.tile t).onGrove g (fun s => s == .placed || s == .resumable) then c
  else (List.range 8).foldl (fun c b => c.modGrove t g (fun gr => if kget .on gr.spmPwr b = .on then { gr with spmPwr := kset gr.spmPwr b .retention } else gr))
    (c.modGrove t g (fun gr => { gr with pwr := .retention }))

/-- Change the lock bit of a PLL and let CLK_UNLOCK follow. -/
def pllBit (n v : Nat) (c : Chip) : Chip := hubLevels (c.setRf .clkStat .hub 0 n 1 v)

/-- PLL_UNLOCK (R553). -/
def pllUnlock (n : Nat) (c : Chip) : Chip :=
  if c.rbit .clkStat .hub 0 n then c
  else
    let c := pllBit n 1 c
    match n with
    | 5 => hubLevels (c.setRf .pciLinkStat .hub 0 63 1 0)
    | 6 => [0, 1, 2, 3].foldl (fun c p => portGoesDown p c) c
    | 7 => [4, 5, 6, 7].foldl (fun c p => portGoesDown p c) c
    | _ => if 8 ≤ n ∧ n < 12 then
        (List.range 8).foldl (fun c i => if (c.chan (n - 8) i).state = .ready then c.modChan (n - 8) i (fun x => { x with state := .retraining }) else c) c
      else c

/-- PLL_RELOCK (R553): a tile takes a TILE reset, the hub a HUB reset; the channels of a GDDR7 PLL retrain, or are down when it relocked too late. -/
def pllRelock (n : Nat) (late : Bool) (d : Dev) : Dev :=
  if !(d.chip.rbit .clkStat .hub 0 n) then d
  else
    let d := d.on (pllBit n 0)
    if n < 4 then tileResetApply n d
    else if n = 4 then d.on (hubReset 10)
    else if n < 8 then d
    else d.on (fun c => gd7Level (n - 8) ((List.range 8).foldl (fun c i => match (c.chan (n - 8) i).state with
      | .retraining => if late then c.modChan (n - 8) i (fun x => { x with state := .down }) else c.bump .gd7RetrainCnt (.tile (n - 8))
      | _ => c) c))

/-- A tile's clock runs: its PLL is locked and on. -/
def Chip.tileClocked (c : Chip) (t : Nat) : Bool := !(c.tile t).pllOff && !(c.rbit .clkStat .hub 0 t)

end Sys2Proof.Machine
end

