-- ==== Sys2Proof/Machine/System.lean ====
section
/-!
DEFINITION. Multi-device systems (R436–R456): start-up messages, discovery, IDs and routes, firmware and personalities for members, and the
shared time base. The management core acts in ROM or firmware; both serve the same duties (R437).
-/
namespace Sys2Proof.Machine

/-! ### Messages -/

/-- The management core serves messages: not halted, and out of the reset states. -/
def Chip.coreUp (c : Chip) : Bool := !c.hub.core.halted && (c.hub.mbxState == 1 || c.hub.mbxState == 2 || c.hub.mbxState == 3)

/-- The device is the root of its system (R436). -/
def Chip.isRoot (c : Chip) : Bool := c.hub.fwRunning && c.idValid && c.devId == 0 && c.hub.epoch != 0 && c.hub.rootUid == c.uid

/-- The member's ID is committed (R442). -/
def Chip.memberUp (c : Chip) : Bool := c.idValid && c.rbit .fabCtl .hub 0 63 && !c.isRoot

/-- The classes of R441; 0x80–0xFF are the personality's, and 256 marks a notice. -/
def startUpClass (k : Nat) : Bool := (decide (1 ≤ k) && decide (k ≤ 0x0B)) || k == 0x10 || k == 0x12 || k == 0x20 || k == 0x30

/-- Take the first message of a class from the queue; messages of reserved classes before it are dropped (R396, R441). -/
def takeMsg (cls : Nat) (c : Chip) : Option (MsgIn × Chip) :=
  if !c.coreUp then none
  else match c.hub.msgQ.find? (fun m => m.cls == cls) with
    | none => none
    | some m => some (m, c.modHub (fun h => { h with msgQ := (h.msgQ.erase m).filter (fun x => startUpClass x.cls || decide (0x80 ≤ x.cls)) }))

/-- Word i of a payload. -/
def MsgIn.w (m : MsgIn) (i : Nat) : Nat := (m.payload.getD i 0#32).toNat
/-- A UID in four words. -/
def MsgIn.uidAt (m : MsgIn) (i : Nat) : Nat := m.w i + 2 ^ 32 * m.w (i + 1) + 2 ^ 64 * m.w (i + 2) + 2 ^ 96 * m.w (i + 3)
/-- Words of a number, least significant first. -/
def wordsN (v n : Nat) : List Word := (List.range n).map (fun i => BitVec.ofNat 32 (v / 2 ^ (32 * i)))
/-- One word from (lo, value) pairs. -/
def wordOfParts (l : List (Nat × Nat)) : Word := BitVec.ofNat 32 (l.foldl (fun a p => a + p.2 * 2 ^ p.1) 0)

/-- Bytes in 16 words. -/
def packBytes (l : List Nat) : List Word := (List.range 16).map (fun i => wordOfParts ((List.range 4).map (fun j => (8 * j, l.getD (4 * i + j) 0))))

/-- A RELAY payload (R440): hop count, index, inner class, out ports, return ports, inner payload. -/
def relayWords (h i cls : Nat) (out ret : List Nat) (inner : List Word) : List Word :=
  wordOfParts [(0, h), (8, i), (16, cls)] :: (packBytes out ++ packBytes ret ++ inner)

/-- Send a message along a path of ports as a RELAY. -/
def sendRelay (path : List Nat) (cls : Nat) (ws : List Word) (c : Chip) : Chip :=
  match path with
  | [] => c
  | p :: _ => sendLocal p 0x08 (relayWords path.length 1 cls path [] ws) c

/-- Send a routed message. -/
def sendTo (ep cls : Nat) (ws : List Word) (c : Chip) : Chip :=
  match c.route ep with
  | none => c
  | some l => sendPacket l.1 l.2 0x1A 0 ws.length ep [(74, 8, cls)] (ws.map tword) c

/-- Answer a message on the way it came. -/
def reply (m : MsgIn) (cls : Nat) (ws : List Word) (c : Chip) : Chip :=
  match m.ret with
  | some path => sendRelay path cls ws c
  | none => if m.src = 4095 then sendLocal m.port cls ws c else sendTo m.src cls ws c

/-- Answer with ACK (R441): class, status, epoch or sequence. -/
def ack (m : MsgIn) (cls st seq : Nat) (c : Chip) : Chip := reply m 0x06 [wordOfParts [(0, cls), (8, st), (16, seq % 65536)]] c

/-- Ports that are active with a TZ9216 (`false`) or a partner (`true`) as peer. -/
def peerPorts (c : Chip) (partner : Bool) : List Nat := (List.range 8).filter (fun p => !(c.portDown p) && (c.link p).peerRole == some partner)

/-- IDENT W4 and W5 (R441). -/
def identWords (c : Chip) (port : Nat) : List Word :=
  [wordOfParts [(31, b2n c.isRoot), (30, b2n c.idValid), (24, c.devId), (23, b2n c.hub.fwRunning), (22, b2n c.hub.flash.isSome), (16, port % 8), (0, c.hub.epoch)],
   wordOfParts ((peerPorts c false).map (fun p => (p, 1)) ++ (peerPorts c true).map (fun p => (8 + p, 1)))]

/-- Probe a port. -/
def sendProbe (p : Nat) (c : Chip) : Chip := sendLocal p 0x01 (wordOfParts [(0, c.hub.epoch)] :: wordsN c.hub.rootUid 4) c

/-! ### Routes (R446) -/

/-- Distances in hops to device b over the edges. -/
def distTo (edges : List (Nat × Nat × Nat × Nat)) (b : Nat) : KMap Nat :=
  (List.range 64).foldl (fun d k => edges.foldl (fun d e => if kfind? d e.2.2.1 = some k && !(khas d e.1) then kset d e.1 (k + 1) else d) d) [(b, 0)]

/-- The port of a shortest path from a to b: the lowest next-hop ID, then the lowest port. -/
def nextHop (edges : List (Nat × Nat × Nat × Nat)) (a b : Nat) : Option Nat :=
  let d := distTo edges b
  match kfind? d a with
  | none | some 0 => none
  | some n =>
    let cand := (edges.filter (fun e => e.1 == a && kfind? d e.2.2.1 == some (n - 1))).map (fun e => (e.2.2.1, e.2.1))
    (cand.mergeSort (fun x y => decide (x.1 < y.1) || (x.1 == y.1 && decide (x.2 ≤ y.2)))).head?.map (fun x => x.2)

/-- A FAB_EP entry of device a for endpoint n: en, port, virtual link. -/
def routeOf (c : Chip) (a n : Nat) : Option (Nat × Nat) :=
  if n < 64 then (nextHop c.hub.edges a n).map (fun p => (p, 0))
  else match c.hub.partners.find? (fun x => x.2.2 == n) with
    | some x =>
      if x.1 = a then
        let vl := if a = 0 then ((List.range 256).find? (fun v => c.rbit .fabVl .hub (256 * x.2.1 + v) 63 && c.rf .fabVl .hub (256 * x.2.1 + v) 28 12 == n)).getD 0 else 0
        some (x.2.1, vl)
      else (nextHop c.hub.edges a x.1).map (fun p => (p, 0))
    | none => none

/-- Write a FAB_EP entry. -/
def writeEp (n : Nat) (r : Option (Nat × Nat)) (c : Chip) : Chip :=
  c.setReg .fabEp .hub n (match r with
    | some x => mkReg [(63, 1, 1), (8, 3, x.1), (0, 8, x.2)]
    | none => 0#64)

/-- A 16-bit ROUTES entry. -/
def routeEntry (r : Option (Nat × Nat)) : Nat := match r with
  | some x => 32768 + 256 * x.1 + x.2
  | none => 0

/-- The payload of ROUTES for endpoints `first`, `first` + 1, … -/
def routesWords (first : Nat) (l : List Nat) : List Word :=
  wordOfParts [(0, first), (16, l.length)] :: (List.range ((l.length + 1) / 2)).map (fun i => wordOfParts [(0, l.getD (2 * i) 0), (16, l.getD (2 * i + 1) 0)])

/-- Send a member its routes. -/
def sendRoutes (x : DevRec) (c : Chip) : Chip :=
  match x.id with
  | none => c
  | some a =>
    let ent (n : Nat) : Nat := routeEntry (routeOf c a n)
    let c := sendRelay x.path 0x07 (routesWords 0 ((List.range 60).map ent)) c
    let c := sendRelay x.path 0x07 (routesWords 60 ((List.range 4).map (fun i => ent (60 + i)))) c
    c.hub.partners.foldl (fun c p => sendRelay x.path 0x07 (routesWords p.2.2 [ent p.2.2]) c) c

/-- Virtual link 0 of a port with a TZ9216 peer: in use, transit, messages only, bound to the peer's ID when it is known (R442). -/
def linkZero (p : Nat) (peer : Option Nat) (c : Chip) : Chip :=
  let v := setFld (setFld (setFld (c.reg .fabVl .hub (256 * p)) 63 1 1) 7 1 1) 0 7 64
  c.setReg .fabVl .hub (256 * p) (match peer with
    | some e => setFld v 28 12 e
    | none => v)

/-! ### Discovery at the root (R444, R445, R449) -/

/-- Change the record of a UID. -/
def modRec (u : Nat) (f : DevRec → DevRec) (c : Chip) : Chip :=
  c.modHub (fun h => { h with recs := h.recs.map (fun x => if x.uid = u && x.state != 2 && x.state != 4 then f x else x) })

/-- The record of a device found in this discovery. -/
def Chip.recOf (c : Chip) (p : DevRec → Bool) : Option DevRec := c.hub.recs.find? (fun x => x.state != 2 && x.state != 4 && x.state != 6 && p x)

/-- The ID of a new UID (R445): its planned one, the one recorded or kept, else the lowest that is neither planned nor assigned. -/
def chooseId (c : Chip) (r : ScanRpt) : Option Nat :=
  let taken (n : Nat) : Bool := c.hub.recs.any (fun x => x.id == some n && x.uid != r.uid)
  let planned (n : Nat) : Bool := c.hub.plan.any (fun x => x.2 == n)
  match c.hub.plan.find? (fun x => x.1 == r.uid) with
  | some x => if taken x.2 then none else some x.2
  | none =>
    let old := (c.hub.recs.find? (fun x => x.uid == r.uid)).bind (fun x => x.id)
    match (old.or r.idv) with
    | some n => if taken n || planned n || n == 0 then (List.range 64).find? (fun n => n != 0 && !(taken n) && !(planned n)) else some n
    | none => (List.range 64).find? (fun n => n != 0 && !(taken n) && !(planned n))

/-- Send ASSIGN along the path by which a UID was found. -/
def sendAssign (x : DevRec) (id : Nat) (c : Chip) : Chip :=
  let ws := wordOfParts [(0, id), (16, c.hub.epoch)] :: (wordsN c.hub.rootUid 4 ++ [BitVec.ofNat 32 (1000 * c.hub.deadline)])
  match x.path with
  | [p] => sendLocal p 0x05 ws c
  | _ => sendRelay x.path 0x05 ws c

/-- Record a new device and assign its ID. -/
def newDevice (r : ScanRpt) (c : Chip) : Chip :=
  let par := c.recOf (fun x => x.id == some r.by_)
  let path := (match par with
    | some x => x.path
    | none => []) ++ [r.port]
  let id := chooseId c r
  let x : DevRec := { uid := r.uid, id := id, parent := r.by_, pport := r.port, path := path, arrival := r.peer, state := if id.isSome then 5 else 3, needsFw := r.needsFw }
  let c := c.modHub (fun h => { h with recs := h.recs.filter (fun y => y.uid != r.uid || y.state == 2 || y.state == 4) ++ [x] })
  match id with
  | none => c
  | some n => sendAssign x n (c.modHub (fun h => { h with disc := h.disc.map (fun d => { d with waiting := d.waiting ++ [(n, 8)] }) }))

/-- The end of discovery (R444, R446, R449): routes at the root, ROUTES to every member, COMMIT to the new ones; planned devices not found are
absent. -/
def discDone (c : Chip) : Chip :=
  let c := c.modHub (fun h => { h with
    disc := none
    recs := (h.recs.map (fun x => if x.state = 6 then { x with state := 1 } else x)) ++
      (h.plan.filter (fun p => !(h.recs.any (fun x => x.uid == p.1)))).map (fun p => { uid := p.1, state := 1 }) })
  let c := c.modHub (fun h => { h with recs := h.recs.map (fun x => match x.id with
    | some n => if (x.state = 0 ∨ x.state = 5) ∧ n ≠ 0 ∧ (nextHop h.edges 0 n).isNone then { x with state := 1 } else x
    | none => x) })
  let c := (List.range 64).foldl (fun c n => if n = 0 then c else writeEp n (routeOf c 0 n) c) c
  let c := c.hub.partners.foldl (fun c p => writeEp p.2.2 (routeOf c 0 p.2.2) c) c
  let c := (peerPorts c false).foldl (fun c p => linkZero p ((c.hub.edges.find? (fun e => e.1 == 0 && e.2.1 == p)).map (fun e => e.2.2.1)) c) c
  let members := c.hub.recs.filter (fun x => (x.state == 0 || x.state == 5) && x.id != some 0)
  let c := members.foldl (fun c x => sendRoutes x c) c
  (members.filter (fun x => x.state == 5)).foldl (fun c x => sendRelay x.path 0x09 [wordOfParts [(0, c.hub.epoch)]] c) c

/-- A level ends when nothing of it is outstanding (R444): its new UIDs are assigned in the order of parent ID and port, and scanned; without a new UID
discovery ends, and joins that were held make the next level (R448). -/
def discRun : Nat → Chip → Chip
  | 0, c => c
  | n + 1, c =>
    match c.hub.disc with
    | none => c
    | some d =>
      if !d.waiting.isEmpty then c
      else
        let rs := d.reports.mergeSort (fun a b => decide (a.by_ < b.by_) || (a.by_ == b.by_ && decide (a.port ≤ b.port)))
        let c := c.modHub (fun h => { h with disc := some { waiting := [] } })
        let c := rs.foldl (fun c r => if r.uid = c.uid || (c.recOf (fun x => x.uid == r.uid)).isSome then c else newDevice r c) c
        let c := rs.foldl (fun c r => match (if r.uid = c.uid then some 0 else (c.recOf (fun x => x.uid == r.uid && x.state != 3)).bind (fun x => x.id)) with
          | some b => c.modHub (fun h => { h with edges := h.edges.filter (fun e => !(e.1 == r.by_ && e.2.1 == r.port) && !(e.1 == b && e.2.1 == r.peer)) ++
              [(r.by_, r.port, b, r.peer), (b, r.peer, r.by_, r.port)] })
          | none => c) c
        match c.hub.disc with
        | some d' =>
          if !d'.waiting.isEmpty then c
          else
            let c := discDone c
            if c.hub.joins.isEmpty then c
            else discRun n (c.modHub (fun h => { h with disc := some { waiting := [], reports := h.joins }, joins := [] }))
        | none => c

/-- Scan a device again: the root probes its own ports, another device gets SCAN (R444, R449). -/
def startScan (id : Nat) (c : Chip) : Chip :=
  let c := c.modHub (fun h => { h with
    edges := h.edges.filter (fun e => e.1 != id && e.2.2.1 != id)
    recs := h.recs.filter (fun x => !((x.state == 2 || x.state == 4) && x.parent == id)) })
  if id = 0 then
    let ps := peerPorts c false
    let c := (peerPorts c true).foldl (fun c p => match (c.link p).peerEp with
      | some e => c.modHub (fun h => { h with partners := h.partners.filter (fun x => !(x.1 == 0 && x.2.1 == p)) ++ [(0, p, e)] })
      | none => c.modHub (fun h => { h with recs := h.recs ++ [{ uid := 0, parent := 0, pport := p, state := 4 }] })) c
    let c := c.modHub (fun h => { h with disc := some { waiting := ps.map (fun p => (0, p)) } })
    discRun 8 (ps.foldl (fun c p => sendProbe p c) c)
  else match c.recOf (fun x => x.id == some id) with
    | some x => sendRelay x.path 0x03 [] (c.modHub (fun h => { h with disc := some { waiting := [(id, 8)] } }))
    | none => c

/-- DISCOVERY_START (R436, R443, R444): firmware runs and the PCIe link is up; the root takes ID 0 and a new epoch. -/
def discoveryStart (c : Chip) : Chip :=
  if !(c.hub.fwRunning && c.coreUp && c.rbit .pciLinkStat .hub 0 63) then c
  else
    let c := (c.setRf .fabCtl .hub 0 32 6 0).setRf .fabCtl .hub 0 40 1 1
    let c := c.modHub (fun h => { h with
      epoch := if h.epoch = 65535 then 1 else h.epoch + 1
      rootUid := c.uid, parentPort := none, edges := [], partners := [], conflicts := [], joins := []
      recs := { uid := c.uid, id := some 0, state := 0 } :: (h.recs.filter (fun x => x.uid != c.uid && x.state != 2 && x.state != 4)).map (fun x => { x with state := 6 }) })
    startScan 0 c

/-- One waiting item of the level is answered. -/
def unwait (x : Nat × Nat) (c : Chip) : Chip := c.modHub (fun h => { h with disc := h.disc.map (fun d => { d with waiting := d.waiting.filter (fun y => y != x) }) })

/-- A silent port is recorded for the host (R449). -/
def silentPort (by_ port : Nat) (c : Chip) : Chip := c.modHub (fun h => { h with recs := h.recs ++ [{ uid := 0, parent := by_, pport := port, state := 2 }] })

/-! ### The scanning device -/

/-- Send SCAN_RPT to d0. -/
def sendRpt (ret : List Nat) (port peer : Nat) (silent : Bool) (partner : Option Nat) (last : Bool) (u : Nat) (c : Chip) : Chip :=
  sendRelay ret 0x04 (wordOfParts [(0, port), (3, peer % 8), (8, b2n silent), (9, b2n partner.isSome), (16, partner.getD 0), (31, b2n last)] :: wordsN u 4) c

/-- SCAN (R441): partner ports are reported, every TZ9216 peer but the one on the arrival port is probed. -/
def hScan (m : MsgIn) (c : Chip) : Chip :=
  match m.ret with
  | none => c
  | some ret =>
    let ps := (peerPorts c false).filter (fun p => p != m.port)
    let qs := peerPorts c true
    let c := (qs.zipIdx).foldl (fun c q => sendRpt ret q.1 0 false (some ((c.link q.1).peerEp.getD 4095)) (ps.isEmpty && q.2 + 1 == qs.length) 0 c) c
    let c := c.modHub (fun h => { h with scan := if ps.isEmpty then none else some { ret := ret, ports := ps } })
    ps.foldl (fun c p => sendProbe p c) c

/-- A port of a member's scan has its answer. -/
def scanned (s : ScanJob) (p peer : Nat) (silent : Bool) (u : Nat) (c : Chip) : Chip :=
  let rest := s.ports.filter (fun x => x != p)
  (sendRpt s.ret p peer silent none rest.isEmpty u c).modHub (fun h => { h with scan := if rest.isEmpty then none else some { s with ports := rest } })

/-- SCAN_SILENT_TIMEOUT (R444): ports that have not answered are silent; at the root, a level's bound has passed. -/
def scanTimeout (c : Chip) : Chip :=
  if !c.coreUp then c
  else
    let c := match c.hub.scan with
      | some s => s.ports.foldl (fun (c : Chip) p => match c.hub.scan with
          | some s => scanned s p 0 true 0 c
          | none => c) c
      | none => c
    match c.hub.disc with
    | some d =>
      let c := (d.waiting.filter (fun (x : Nat × Nat) => x.1 == 0)).foldl (fun c x => silentPort 0 x.2 c) c
      discRun 8 (c.modHub (fun h => { h with disc := h.disc.map (fun d => { d with waiting := [] }) }))
    | none => c

/-! ### Messages of start-up -/

/-- PROBE: answered with IDENT; a second root is a conflict (R453). -/
def hProbe (m : MsgIn) (c : Chip) : Chip :=
  let c := if c.isRoot && m.uidAt 1 != c.uid && m.uidAt 1 != 0 then c.modHub (fun h => { h with conflicts := h.conflicts.filter (fun p => p != m.port) ++ [m.port] }) else c
  sendLocal m.port 0x02 (wordsN c.uid 4 ++ identWords c m.port) c

/-- IDENT: the scan of a member, or of the root, goes on. -/
def hIdent (m : MsgIn) (c : Chip) : Chip :=
  let u := m.uidAt 0
  let w := m.w 4
  let c := if bitOf w 30 then c.modLink m.port (fun e => { e with peerEp := some (bitsOf w 24 6) }) else c
  if c.isRoot && bitOf w 31 && u != c.uid then
    discRun 8 (unwait (0, m.port) (c.modHub (fun h => { h with conflicts := h.conflicts.filter (fun p => p != m.port) ++ [m.port] })))
  else
    let c := match c.hub.scan with
      | some s => if s.ports.contains m.port then scanned s m.port (bitsOf w 16 3) false u c else c
      | none => c
    match c.hub.disc with
    | some d =>
      if d.waiting.contains (0, m.port) then
        let r : ScanRpt := ⟨0, m.port, bitsOf w 16 3, u, if bitOf w 30 then some (bitsOf w 24 6) else none, bitOf w 31, !(bitOf w 23) && !(bitOf w 22)⟩
        discRun 8 (unwait (0, m.port) (c.modHub (fun h => { h with disc := h.disc.map (fun d => { d with reports := d.reports ++ [r] }) })))
      else c
    | none => c

/-- SCAN_RPT at the root. -/
def hScanRpt (m : MsgIn) (c : Chip) : Chip :=
  match c.hub.disc, m.ret with
  | some _, some path =>
    match c.recOf (fun x => x.path == path) with
    | none => c
    | some x =>
      let a := x.id.getD 0
      let w := m.w 0
      let c := if bitOf w 8 then silentPort a (w % 8) c
        else if bitOf w 9 then
          (if bitsOf w 16 12 = 4095 then c.modHub (fun h => { h with recs := h.recs ++ [{ uid := 0, parent := a, pport := w % 8, state := 4 }] })
           else c.modHub (fun h => { h with partners := h.partners.filter (fun y => !(y.1 == a && y.2.1 == w % 8)) ++ [(a, w % 8, bitsOf w 16 12)] }))
        else c.modHub (fun h => { h with disc := h.disc.map (fun d => { d with reports := d.reports ++ [⟨a, w % 8, bitsOf w 3 3, m.uidAt 1, none, false, false⟩] }) })
      if bitOf w 31 then discRun 8 (unwait (a, 8) c) else c
  | _, _ => c

/-- ASSIGN (R442, R453): an older epoch, or another ID while locked, is refused. -/
def hAssign (m : MsgIn) (c : Chip) : Chip :=
  let id := m.w 0 % 64
  let ep := bitsOf (m.w 0) 16 16
  if (c.hub.epoch != 0 && ep != c.hub.epoch && !(serialLater 16 ep c.hub.epoch)) || (c.rbit .fabCtl .hub 0 63 && !(c.idValid && c.devId == id)) || c.isRoot then ack m 0x05 1 ep c
  else
    let c := (c.setRf .fabCtl .hub 0 32 6 id).setRf .fabCtl .hub 0 40 1 1
    let c := writeEp 0 (some (m.port, 0)) c
    let c := c.modHub (fun h => { h with
      epoch := ep, rootUid := m.uidAt 1, parentPort := some m.port, deadline := (m.w 5 + 999) / 1000, deadlineOn := h.deadlineOn || (!c.committed && !(h.load.any (fun l => l.staged))) })
    ack m 0x05 0 ep c

/-- ROUTES (R441): entries of FAB_EP. -/
def hRoutes (m : MsgIn) (c : Chip) : Chip :=
  let first := m.w 0 % 4096
  let n := bitsOf (m.w 0) 16 8
  if n = 0 ∨ 60 < n ∨ 4096 < first + n then ack m 0x07 2 c.hub.epoch c
  else
    let c := (List.range n).foldl (fun c i =>
      let e := bitsOf (m.w (1 + i / 2)) (16 * (i % 2)) 16
      writeEp (first + i) (if bitOf e 15 then some (bitsOf e 8 3, e % 256) else none) c) c
    ack m 0x07 0 c.hub.epoch (bindRoutes c)

/-- COMMIT (R442): the ID is locked, and virtual link 0 of the ports with TZ9216 peers opens for messages. -/
def hCommit (m : MsgIn) (c : Chip) : Chip :=
  let ep := m.w 0 % 65536
  if c.hub.epoch ≠ ep ∨ !c.idValid then ack m 0x09 1 ep c
  else
    let c := c.setRf .fabCtl .hub 0 63 1 1
    let c := (peerPorts c false).foldl (fun c p => linkZero p (c.link p).peerEp c) c
    ack m 0x09 0 ep (c.modHub (fun h => { h with portsUp := 0 }))

/-- A join is a new level under its forwarder (R448); during discovery it is held. -/
def join (r : ScanRpt) (c : Chip) : Chip :=
  let c := modRec r.uid (fun x => { x with state := 6 }) c
  let c := c.modHub (fun h => { h with joins := h.joins.filter (fun x => x.uid != r.uid) ++ [r] })
  if c.hub.disc.isSome then c
  else discRun 8 (c.modHub (fun h => { h with disc := some { waiting := [], reports := h.joins }, joins := [] }))

/-- ANNOUNCE (R448): a committed neighbour forwards it to d0; the root treats it itself. -/
def hAnnounce (m : MsgIn) (c : Chip) : Option Chip :=
  let w := m.w 4
  if c.isRoot then some (join ⟨0, m.port, bitsOf w 16 3, m.uidAt 0, if bitOf w 30 then some (bitsOf w 24 6) else none, bitOf w 31, !(bitOf w 23) && !(bitOf w 22)⟩ c)
  else if c.memberUp then some (sendTo 0 0x0B (wordOfParts [(0, c.devId), (8, m.port)] :: m.payload.take 5) c)
  else none

/-- JOIN_REQ at the root. -/
def hJoin (m : MsgIn) (c : Chip) : Chip :=
  let w := m.w 5
  if c.isRoot then join ⟨m.w 0 % 64, bitsOf (m.w 0) 8 3, bitsOf w 16 3, m.uidAt 1, if bitOf w 30 then some (bitsOf w 24 6) else none, bitOf w 31, !(bitOf w 23) && !(bitOf w 22)⟩ c
  else c

/-! ### Firmware and personalities for members (R450) -/

/-- A chunk at an offset of a transfer, up to 62 words. -/
def Xfer.chunk (x : Xfer) (off : Nat) : List Byte := (x.data.drop (off - x.base)).take 248

/-- Send the chunk at an offset. -/
def sendChunk (id : Nat) (x : Xfer) (off : Nat) (c : Chip) : Chip :=
  let bs := x.chunk off
  let n := (bs.length + 3) / 4
  sendTo id x.cls (BitVec.ofNat 32 off :: wordOfParts [(0, n), (31, b2n (decide (x.total ≤ off + bs.length)))] ::
    (List.range n).map (fun i => BitVec.ofNat 32 (leAt bs (4 * i) 4))) c

/-- Send while fewer than 32 messages are unacknowledged. -/
def pump (id : Nat) : Nat → Chip → Chip
  | 0, c => c
  | n + 1, c =>
    match kfind? c.hub.xfers id with
    | none => c
    | some x =>
      if x.failed || decide (32 ≤ x.unacked.length) || decide (x.base + x.data.length ≤ x.next) then c
      else
        let y := { x with unacked := x.unacked ++ [x.next], next := x.next + (x.chunk x.next).length }
        pump id n (sendChunk id x x.next (c.modHub (fun h => { h with xfers := kset h.xfers id y })))

/-- Begin the delivery of firmware to a member. -/
def startFw (id : Nat) (c : Chip) : Chip :=
  if (kfind? c.hub.xfers id).isSome || c.hub.fwRam.isEmpty then c
  else pump id 32 (c.modHub (fun h => { h with xfers := kset h.xfers id { cls := 0x10, data := h.fwRam, total := h.fwRam.length } }))

/-- All that a transfer was given has been acknowledged. -/
def Xfer.idle (x : Xfer) : Bool := x.unacked.isEmpty && decide (x.base + x.data.length ≤ x.next)

/-- An acknowledgement of FW_DATA or PERS_DATA; its sequence is the word offset of the message. -/
def xferAck (id cls st seq : Nat) (c : Chip) : Chip :=
  match kfind? c.hub.xfers id with
  | none => c
  | some x =>
    if x.cls ≠ cls then c
    else if st ≠ 0 then c.modHub (fun h => { h with xfers := if cls = 0x10 then kdel h.xfers id else kset h.xfers id { x with failed := true } })
    else
      let y := { x with unacked := x.unacked.filter (fun o => o / 4 % 65536 != seq) }
      let c := pump id 32 (c.modHub (fun h => { h with xfers := kset h.xfers id y }))
      match kfind? c.hub.xfers id with
      | some z => if cls = 0x10 && z.idle then (modRec (((c.recOf (fun r => r.id == some id)).map (fun r => r.uid)).getD 0) (fun r => { r with needsFw := false })
            (c.modHub (fun h => { h with xfers := kdel h.xfers id }))) else c
      | none => c

/-- FW_DATA_RESEND (R453): the oldest unacknowledged message of every transfer goes again. -/
def fwResend (c : Chip) : Chip :=
  if !c.coreUp then c
  else c.hub.xfers.foldl (fun c x => match x.2.unacked with
    | o :: _ => if x.2.failed then c else sendChunk x.1 x.2 o c
    | [] => c) c

/-- ACK at the root: the answer of the device it came from. -/
def hAck (m : MsgIn) (c : Chip) : Chip :=
  let w := m.w 0
  let cls := w % 256
  let st := bitsOf w 8 4
  match c.recOf (fun x => match m.ret with
    | some path => x.path == path
    | none => if m.src = 4095 then x.path == [m.port] else x.id == some m.src) with
  | none => c
  | some x =>
    let id := x.id.getD 0
    match cls with
    | 0x05 =>
      if !(c.hub.disc.any (fun d => d.waiting.contains (id, 8))) then c
      else if st = 0 then sendRelay x.path 0x03 [] c
      else discRun 8 (unwait (id, 8) (modRec x.uid (fun x => { x with state := 3 }) c))
    | 0x09 =>
      if st = 0 then (let c := modRec x.uid (fun x => { x with state := 0 }) c; if x.needsFw then startFw id c else c)
      else modRec x.uid (fun x => { x with state := 3 }) c
    | 0x10 => xferAck id 0x10 st (bitsOf w 16 16) c
    | 0x12 => xferAck id 0x12 st (bitsOf w 16 16) c
    | _ => c

/-- The bytes of a data message: offset, bytes, last. -/
def MsgIn.chunk (m : MsgIn) : Nat × List Byte × Bool :=
  (m.w 0, (List.range (m.w 1 % 256)).flatMap (fun i => bytesOf (m.w (2 + i)) 4), bitOf (m.w 1) 31)

/-- FW_DATA at a member without firmware (R437, R450): chunks in order; with the last the ROM verifies the image and starts it. -/
def hFwData (m : MsgIn) (d : Dev) : Dev :=
  let ch := m.chunk
  let got := d.chip.hub.fwIn.getD []
  let seq := ch.1 / 4
  if d.chip.hub.mbxState ≠ 1 ∨ 62 < m.w 1 % 256 ∨ m.w 1 % 256 = 0 then d.on (ack m 0x10 2 seq)
  else if ch.1 < got.length then d.on (ack m 0x10 0 seq)
  else if got.length < ch.1 then d
  else
    let bs := got ++ ch.2.1
    if !ch.2.2 then d.on (fun c => ack m 0x10 0 seq (c.modHub (fun h => { h with fwIn := some bs })))
    else
      let img := bs.take (leAt bs 16 4)
      let d := d.on (fun c => c.modHub (fun h => { h with fwIn := none }))
      if fwVerify d.chip img = 0 then
        bootEnd (d.on (fun c => ack m 0x10 0 seq (raise (.hub 17) 1 (fwStart img c))))
      else d.on (fun c => ack m 0x10 2 seq (raise (.hub 18) 1 c))

/-- PERS_DATA at a member (R450): loaded as over its mailbox; the first message begins the load, the last ends and commits it. -/
def hPersData (m : MsgIn) (d : Dev) : Dev :=
  let ch := m.chunk
  let seq := ch.1 / 4
  let got := match d.chip.hub.load with
    | some l => if l.chan.isNone && !l.staged then some l.got else none
    | none => none
  if 62 < m.w 1 % 256 ∨ m.w 1 % 256 = 0 then d.on (ack m 0x12 2 seq)
  else
    let r : Nat × Dev := if ch.1 = 0 ∧ got.isNone then (let b := loadBegin (leAt ch.2.1 6 1) (leAt ch.2.1 16 4) true none d.chip; (b.1, { d with chip := b.2 })) else (0, d)
    if r.1 ≠ 0 then d.on (ack m 0x12 1 seq)
    else match r.2.chip.hub.load with
      | none => d.on (ack m 0x12 1 seq)
      | some l =>
        if ch.1 < l.got then d.on (ack m 0x12 0 seq)
        else if l.got < ch.1 then d
        else
          let q := loadData ch.1 (ch.2.1.take (l.length - l.got)) r.2
          if q.1 ≠ 0 then q.2.on (ack m 0x12 1 seq)
          else if !ch.2.2 then q.2.on (ack m 0x12 0 seq)
          else
            let e := loadEnd q.2
            if e.1 ≠ 0 then e.2.on (ack m 0x12 1 seq)
            else
              let z := loadCommit e.2
              z.2.on (ack m 0x12 (if z.1 = 0 then 0 else 1) seq)

/-- REPORT at the root (R449, R450): a port of the device has gone down, so it is scanned again; a device without firmware receives it. -/
def hReport (m : MsgIn) (c : Chip) : Option Chip :=
  if !c.isRoot then some c
  else if c.hub.disc.isSome then none
  else
    let c := if !(bitOf (m.w 0) 23) && !(bitOf (m.w 0) 22) && (c.recOf (fun x => x.id == some m.src && x.state == 0)).isSome then startFw m.src c else c
    if c.hub.edges.any (fun e => e.1 == m.src && !(bitOf (m.w 1) e.2.1)) then some (startScan m.src c) else some c

/-! ### Time (R452, R455, R456) -/

/-- Capture the time base for a TIME message at a port. -/
def tsCapture (r : Reg) (p seq : Nat) (c : Chip) : Chip :=
  if c.rbit .tbsSyncCtl .hub 0 p then c.capture r .hub p (mkReg [(48, 8, seq), (0, 48, c.hub.time.toNat % 2 ^ 48)]) else c

/-- Re-arm both captures of a port. -/
def tsArm (p : Nat) (c : Chip) : Chip := (c.setRf .tbsTxTs .hub p 63 1 0).setRf .tbsRxTs .hub p 63 1 0

/-- TBS_ADJ_WRITE (R455): step at once, or slew; a write during a slew replaces the remainder. -/
def tbsAdjWrite (v : BitVec 64) (c : Chip) : Chip :=
  let o := toInt 32 (fld v 0 32)
  if fld v 63 1 = 1 then c.modHub (fun h => { h with time := h.time + BitVec.ofInt 64 o }) else c.modHub (fun h => { h with slew := o })

/-- TIME_BASE_SLEW_END (R455). -/
def slewEnd (c : Chip) : Chip := c.modHub (fun h => { h with time := h.time + BitVec.ofInt 64 h.slew, slew := 0 })

/-- TIME_SYNC_PERIOD (R452): a committed member starts an exchange over the port toward its parent. -/
def timeSync (c : Chip) : Chip :=
  match c.hub.parentPort with
  | some p =>
    if c.memberUp && c.coreUp then
      let s := (c.hub.timeSeq + 1) % 256
      let c := tsCapture .tbsTxTs p s (tsArm p (c.modHub (fun h => { h with timeSeq := s })))
      sendLocal p 0x20 (wordOfParts [(0, s)] :: List.replicate 4 0#32) c
    else c
  | none => c

/-- TIME (R452): kind 0 is answered with t2 and t3; kind 1 gives the offset, which the member writes to TBS_ADJ. -/
def hTime (m : MsgIn) (c : Chip) : Chip :=
  let s := m.w 0 % 256
  let p := m.port
  let t (r : Reg) (c : Chip) : Nat := c.rf r .hub p 0 48
  if bitOf (m.w 0) 8 then
    if s ≠ c.hub.timeSeq ∨ c.hub.parentPort ≠ some p then c
    else
      let c := tsCapture .tbsRxTs p s c
      let d (a b : Nat) : Int := toInt 48 ((a + 2 ^ 48 - b) % 2 ^ 48)
      let t2 := (m.w 1 + 2 ^ 32 * m.w 2) % 2 ^ 48
      let t3 := (m.w 3 + 2 ^ 32 * m.w 4) % 2 ^ 48
      let off := (d t2 (t .tbsTxTs c) - d (t .tbsRxTs c) t3).tdiv 2
      if c.rbit .tbsSyncCtl .hub 0 p && c.rf .tbsTxTs .hub p 48 8 == s then
        tbsAdjWrite (mkReg [(63, 1, b2n (decide (1000 < off.natAbs))), (0, 32, wrapInt 32 off)]) (tsArm p c)
      else tsArm p c
  else
    let c := tsCapture .tbsTxTs p s (tsCapture .tbsRxTs p s (tsArm p c))
    let r := sendLocal p 0x20 (wordOfParts [(0, s), (8, 1)] :: (wordsN (t .tbsRxTs c) 2 ++ wordsN (t .tbsTxTs c) 2)) c
    tsArm p r

/-! ### Dispatch of messages -/

/-- What a device does with a message of a start-up class; `none` leaves it waiting. -/
def handleMsg (m : MsgIn) (d : Dev) : Option Dev :=
  match m.cls with
  | 0x01 => some (d.on (hProbe m))
  | 0x02 => some (d.on (hIdent m))
  | 0x03 => some (d.on (hScan m))
  | 0x04 => some (d.on (hScanRpt m))
  | 0x05 => some (d.on (hAssign m))
  | 0x06 => some (d.on (hAck m))
  | 0x07 => some (d.on (hRoutes m))
  | 0x09 => some (d.on (hCommit m))
  | 0x0A => (hAnnounce m d.chip).map (fun c => { d with chip := c })
  | 0x0B => some (d.on (hJoin m))
  | 0x10 => some (hFwData m d)
  | 0x12 => some (hPersData m d)
  | 0x20 => some (d.on (hTime m))
  | 0x30 => (hReport m d.chip).map (fun c => { d with chip := c })
  | _ => some d

/-- RELAY (R440): the arrival port is noted; the message goes on to its next port, or its inner message is handled. -/
def hRelay (m : MsgIn) (d : Dev) : Option Dev :=
  let h := m.w 0 % 256
  let i := bitsOf (m.w 0) 8 8
  let byte (b k : Nat) : Nat := bitsOf (m.w (b + k / 4)) (8 * (k % 4)) 8
  let ret := (List.range 64).map (fun k => if k = i then m.port else byte 17 k)
  if h = 0 ∨ 63 < h ∨ h < i ∨ m.src ≠ 4095 then some d
  else if i < h then
    let p := byte 1 i
    if 8 ≤ p then some d
    else some (d.on (sendLocal p 0x08 (relayWords h (i + 1) (bitsOf (m.w 0) 16 8) ((List.range 64).map (byte 1)) ret (m.payload.drop 33))))
  else
    let cls := bitsOf (m.w 0) 16 8
    if cls = 0x08 then some d
    else handleMsg { src := 4095, cls := cls, payload := m.payload.drop 33, port := m.port, vlink := 0, ret := some (((List.range h).map (fun k => ret.getD (k + 1) 0)).reverse) } d

/-- A MSG_… command: the first message of the class is taken and handled. -/
def msgCmd (cls : Nat) (d : Dev) : Dev :=
  match takeMsg cls d.chip with
  | none => d
  | some (m, c) => ((if cls = 8 then hRelay m { d with chip := c } else handleMsg m { d with chip := c }).getD d)

/-- The ports have changed (R448, R449): a device without an ID announces itself on a port that became active, a committed member reports to d0, and
the root scans its own ports again when one of its links is gone. -/
def portWatch (c : Chip) : Chip :=
  let now := (List.range 8).foldl (fun a p => if (c.link p).st == .active then a + 2 ^ p else a) 0
  if now = c.hub.portsUp || !c.coreUp then c
  else
    let was := c.hub.portsUp
    if c.isRoot then
      if c.hub.disc.isSome then c
      else
        let c := c.modHub (fun h => { h with portsUp := now })
        if c.hub.edges.any (fun e => e.1 == 0 && !(bitOf now e.2.1)) then startScan 0 c else c
    else
      let c := c.modHub (fun h => { h with portsUp := now })
      if c.memberUp then sendTo 0 0x30 (identWords c 0) c
      else if !c.idValid then
        ((peerPorts c false).filter (fun p => bitOf now p && !(bitOf was p))).foldl (fun c p => sendLocal p 0x0A (wordsN c.uid 4 ++ (identWords c p).take 1) c) c
      else c

/-- SYS_TOPOLOGY (R510): 32 bytes for each device, silent port and unrouted partner. -/
def topology (c : Chip) : List Byte :=
  (c.hub.recs.filter (fun x => decide (x.state < 5))).flatMap (fun x =>
    bytesOf x.uid 16 ++ [BitVec.ofNat 8 (x.id.getD 255), BitVec.ofNat 8 x.state, BitVec.ofNat 8 x.parent, BitVec.ofNat 8 x.pport] ++ bytesOf c.hub.epoch 2 ++
      bytesOf x.ep 2 ++ List.replicate 8 0#8)

/-- SYS_PLAN (R445, R510): records of 20 bytes. -/
def planOf (bs : List Byte) : Option (List (Nat × Nat)) :=
  if bs.length % 20 ≠ 0 ∨ bs.isEmpty ∨ 63 * 20 < bs.length then none
  else
    let l := (List.range (bs.length / 20)).map (fun i => (leAt bs (20 * i) 16, leAt bs (20 * i + 16) 1, leAt bs (20 * i + 17) 3))
    if l.all (fun x => decide (1 ≤ x.2.1) && decide (x.2.1 ≤ 63) && x.2.2 == 0) && (l.map (fun x => x.1)).Nodup && (l.map (fun x => x.2.1)).Nodup then
      some (l.map (fun x => (x.1, x.2.1))) else none

end Sys2Proof.Machine
end

