-- ==== Sys2Proof/Machine/Mailbox.lean ====
section
/-!
DEFINITION. The host interface: channels and rings (R498–R509, R513–R522), and the service of the mailbox commands that stay within the hub,
its queues, its events and its security block (R510, R511, R534–R541).
-/
namespace Sys2Proof.Machine

/-! ### Channels -/

/-- The function that owns a channel. -/
def Chip.chanFn (c : Chip) (k : Nat) : Nat := c.rf .mbxHdr .hub k 35 5
/-- An admin channel belongs to the PF (R501). -/
def Chip.chanAdmin (c : Chip) (k : Nat) : Bool := c.rbit .mbxHdr .hub k 34
/-- The firebreak of a VF channel. -/
def Chip.chanFb (c : Chip) (k : Nat) : Nat := c.rf .mbxHdr .hub k 40 8
/-- Counts of MBX_STAT: slots fetched, response slots written. -/
def Chip.cmdCons (c : Chip) (k : Nat) : Nat := c.rf .mbxStat .hub k 0 32
/-- Response slots written. -/
def Chip.rspProd (c : Chip) (k : Nat) : Nat := c.rf .mbxStat .hub k 32 32
/-- The function may use its channels: the PF, or a VF that is enabled (R511). -/
def Chip.fnOn (c : Chip) (fn : Nat) : Bool := fn == 0 || kget false c.evt.vfEn fn

/-- MBX_HDR as it reads (R519). -/
def mbxHdrView (c : Chip) (k : Nat) : BitVec 64 := setFld (setFld (setFld (c.reg .mbxHdr .hub k) 60 4 c.hub.mbxState) 48 8 1) 0 8 k

/-- The channel behind page `pg` of a function's BAR0 (R499). -/
def pageChan (c : Chip) (fn pg : Nat) : Option Nat :=
  if fn = 0 then (if pg < 256 ∧ c.chanFn pg = 0 then some pg else none)
  else if !(c.fnOn fn) || decide (16 ≤ pg) then none
  else ((List.range 256).filter (fun k => c.chanFn k == fn))[pg]?

/-- A ring fault (R514): err is set and MBX_MALFORMED raised. -/
def ringFault (k code : Nat) (c : Chip) : Chip := raise (.hub 1) k (c.setRf .mbxHdr .hub k 56 4 code)

/-- MBX_CMD_DB_WRITE (R502, R504, R514). -/
def cmdDb (k : Nat) (v : BitVec 64) (c : Chip) : Chip :=
  let p := fld v 0 32
  if (p + 2 ^ 32 - c.cmdCons k) % 2 ^ 32 ≤ 2 ^ c.rf .mbxCmdBase .hub k 0 4 then raise (.hub 0) k (c.modMbx k (fun m => { m with prod := p }))
  else ringFault k 1 c

/-- MBX_RSP_DB_WRITE (R502, R514): the count never moves back nor ahead of rsp_prod. -/
def rspDb (k : Nat) (v : BitVec 64) (c : Chip) : Chip :=
  let p := fld v 0 32
  let old := (c.mbx k).rspCons
  if (p + 2 ^ 32 - old) % 2 ^ 32 ≤ (c.rspProd k + 2 ^ 32 - old) % 2 ^ 32 then c.modMbx k (fun m => { m with rspCons := p })
  else ringFault k 1 c

/-- MBX_CTL_CLR (R514): err and the four counts clear, unfetched commands are discarded. -/
def ctlClr (k : Nat) (c : Chip) : Chip :=
  ((c.setRf .mbxHdr .hub k 56 4 0).setReg .mbxStat .hub k 0#64).modMbx k (fun m => { m with prod := 0, rspCons := 0 })

/-- A write of MBX_CTL (R519). -/
def mbxCtlWrite (k : Nat) (v : BitVec 64) (c : Chip) : Chip :=
  let c := if fld v 62 1 = 1 then ctlClr k c else c
  let c := if fld v 0 11 < (if c.chanFn k = 0 then 1056 else 32) then c.setRf .mbxCtl .hub k 0 11 (fld v 0 11) else c
  c.setRf .mbxCtl .hub k 63 1 (fld v 63 1)

/-- MBX_RING_BASE_WRITE (R514, R520). -/
def ringBase (rsp : Bool) (k : Nat) (v : BitVec 64) (c : Chip) : Chip :=
  let r : Reg := if rsp then .mbxRspBase else .mbxCmdBase
  if c.rbit .mbxCtl .hub k 63 then ringFault k 3 c
  else
    let c := c.setRf r .hub k 12 52 (fld v 12 52)
    if 4 ≤ fld v 0 4 ∧ fld v 0 4 ≤ 14 then c.setRf r .hub k 0 4 (fld v 0 4) else c

/-! ### Answers -/

/-- MBX_E_OPCODE, MBX_E_FORMAT and MBX_E_PARAM are counted and raise MBX_MALFORMED (R513). -/
def malformed (k st : Nat) (c : Chip) : Chip := if 0x8001 ≤ st ∧ st ≤ 0x8003 then raise (.hub 1) k (c.bump .mbxErrCnt .hub) else c

/-- Decide the response of the i-th command of a channel; one that is decided already stands (R507). -/
def decideAt (k i : Nat) (r : MbxResp) (c : Chip) : Chip :=
  match (c.mbx k).cmds[i]? with
  | none => c
  | some m =>
    if m.resp.isSome then c
    else malformed k r.status (c.modMbx k (fun x => { x with cmds := x.cmds.set i { m with resp := some r, begun := false } }))

/-- The first command of an opcode that is begun on a channel. -/
def begunAt (c : Chip) (k op : Nat) : Option Nat := (c.mbx k).cmds.findIdx? (fun m => m.begun && m.opcode == op && m.resp.isNone)

/-- Codes of R510. -/
def knownOp (o : Nat) : Bool :=
  [0x01, 0x02, 0x03, 0x04, 0x05, 0x10, 0x11, 0x12, 0x20, 0x21, 0x22, 0x23, 0x24, 0x25, 0x30, 0x31, 0x40, 0x41, 0x42, 0x43, 0x44, 0x45,
   0x50, 0x51, 0x52, 0x53, 0x54, 0x60, 0x61, 0x70, 0x71, 0x72, 0x73].contains o

/-- Opcodes for admin channels only (R510). -/
def adminOp (o : Nat) : Bool :=
  [0x03, 0x04, 0x05, 0x10, 0x11, 0x12, 0x20, 0x21, 0x22, 0x23, 0x24, 0x30, 0x31, 0x45, 0x52, 0x60, 0x61, 0x72, 0x73].contains o

/-- The opcodes served in a state (R500). -/
def stateServes (st k o : Nat) : Bool :=
  match st with
  | 1 => k == 0 && [0x01, 0x02, 0x10, 0x11, 0x12].contains o
  | 2 => true
  | 3 => [0x01, 0x02, 0x03, 0x04, 0x05, 0x25, 0x70, 0x71, 0x60, 0x61].contains o
  | _ => false

/-- COMMAND_FETCH (R503, R504, R513, R514): the packet read from host memory, or a ring read error. -/
def commandFetch (k : Nat) (pkt : List Byte) (rd : RingRead) (c : Chip) : Chip :=
  let m := c.mbx k
  let cons := c.cmdCons k
  let avail := (m.prod + 2 ^ 32 - cons) % 2 ^ 32
  let ns := leAt pkt 3 1
  let rs := leAt pkt 4 1
  let len := leAt pkt 12 4
  let lost := decide (ns = 0) || decide (64 < ns)
  let rsv := if rs = 0 ∨ 64 < rs then 1 else rs
  let used := (c.rspProd k + 2 ^ 32 - m.rspCons) % 2 ^ 32 + m.cmds.foldl (fun a x => a + x.rslots) 0
  if !(c.rbit .mbxCtl .hub k 63) || c.rf .mbxHdr .hub k 56 4 != 0 || avail == 0 || decide (64 ≤ m.cmds.length) || !(c.fnOn (c.chanFn k)) ||
      (c.hub.mbxState != 1 && c.hub.mbxState != 2 && c.hub.mbxState != 3) then c
  else if rd ≠ .ok then raise (.hub 3) (Config.aerStatus rd).toNat (ringFault k 2 c)
  else if decide (2 ^ c.rf .mbxRspBase .hub k 0 4 < used + rsv) || (!lost && decide (avail < ns)) then c
  else
    let okF := !lost && decide (leAt pkt 2 1 < 2) && decide (ns = (32 + len + 63) / 64) && decide (len ≤ 4064) && leAt pkt 5 3 == 0 && decide (1 ≤ rs) && decide (rs ≤ 64)
    let op := leAt pkt 0 2
    let cmd : MbxCmd := ⟨op, bitOf (leAt pkt 2 1) 0, rsv, leAt pkt 8 4, (pkt.drop 16).take 16, (pkt.drop 32).take len, none, false, false⟩
    let c := c.setRf .mbxStat .hub k 0 32 (if lost then m.prod else cons + ns)
    let c := c.modMbx k (fun m => { m with cmds := m.cmds ++ [cmd] })
    if !okF then decideAt k m.cmds.length { status := 0x8002 } c
    else if !(knownOp op) then decideAt k m.cmds.length { status := 0x8001 } c
    else c

/-- The device vector of a channel (R515). -/
def chanVector (c : Chip) (k : Nat) : Nat :=
  let e := c.rf .mbxCtl .hub k 0 11
  if c.chanFn k = 0 then e else 1056 + 32 * (c.chanFn k - 1) + e

/-- A response as it is written: a result larger than its reservation brings MBX_E_RESP_SIZE and no data (R512). -/
def respBytes (m : MbxCmd) (r : MbxResp) (phase : Bool) : List Byte :=
  let r : MbxResp := if 64 * m.rslots < 32 + r.data.length then { status := 0x8008 } else r
  let n := (32 + r.data.length + 63) / 64
  bytesOf m.opcode 2 ++ [BitVec.ofNat 8 (b2n phase + 2 * b2n m.unord), BitVec.ofNat 8 n] ++ List.replicate 4 0#8 ++ bytesOf m.tag 4 ++ bytesOf r.status 2 ++
    List.replicate 2 0#8 ++ bytesOf r.data.length 4 ++ (r.result ++ List.replicate 12 0#8).take 12 ++ r.data ++ List.replicate (64 * n - 32 - r.data.length) 0#8

/-- RESPONSE_WRITE (R505, R506): the next response in order, or an unordered one; data slots first, the header slot last, then the message. The
answer to a commit follows the release of the tiles and of the pins (R474). -/
def responseWrite (k : Nat) (c : Chip) : Chip :=
  let m := c.mbx k
  let ready (i : Nat) : Bool := match m.cmds[i]? with
    | some x => x.resp.isSome && (x.unord || (m.cmds.take i).all (fun y => y.unord)) &&
        !((x.opcode == 0x22 || x.opcode == 0x23) && (x.resp.any (fun r => r.status == 0)) && (!c.hub.held.isEmpty || c.hub.uioDue) && !c.hub.bare)
    | none => false
  if !(c.rbit .pciLinkStat .hub 0 63) || c.hub.mbxState == 0 || c.hub.mbxState == 4 then c
  else match (List.range m.cmds.length).find? ready with
    | none => c
    | some i =>
      match m.cmds[i]?, (m.cmds[i]?).bind (fun x => x.resp) with
      | some x, some r =>
        let h := c.rspProd k
        let b := c.reg .mbxRspBase .hub k
        let size := 2 ^ fld b 0 4
        let bs := respBytes x r (h / size % 2 == 0)
        let n := bs.length / 64
        let slot (j : Nat) : Nat × List Byte := (4096 * fld b 12 52 + 64 * ((h + j) % size), (bs.drop (64 * j)).take 64)
        let c := c.modHub (fun y => { y with hostWr := y.hostWr ++ ((List.range (n - 1)).map (fun j => slot (j + 1))) ++ [slot 0] })
        let c := (c.setRf .mbxStat .hub k 32 32 (h + n)).modMbx k (fun y => { y with cmds := y.cmds.eraseIdx i })
        let v := vecDeliver (c.bump .mbxCmdCnt .hub) (chanVector c k)
        if v.2 then v.1.bump .pciMsixDropCnt .hub else v.1
      | _, _ => c

/-- Discard the item a channel has open in a queue. -/
def dropHostItem (k q : Nat) (c : Chip) : Chip :=
  let c := match (c.queue q).asms.find? (fun a => a.prod == .host k && !a.closed) with
    | some a => c.dropAsm q a.id
    | none => c
  (c.noteWait q (.host k) false).modMbx k (fun m => { m with items := m.items.filter (fun x => x != q) })

/-- ASSEMBLY_IDLE_LIMIT (R402, R511): place 0–7 of a queue names a stream slot, place 8 + k channel k: the item that producer left open is discarded. -/
def idleLimit (q i : Nat) (c : Chip) : Chip :=
  if i < 8 then asmIdle q i c
  else if (c.queue q).asms.any (fun a => a.prod == .host (i - 8) && !a.closed) then dropHostItem (i - 8) q c
  else c

/-- COMMAND_TIMEOUT (R507): the budget of the i-th command of a channel expires. -/
def commandTimeout (k i : Nat) (c : Chip) : Chip :=
  match (c.mbx k).cmds[i]? with
  | none => c
  | some m =>
    if m.resp.isSome || m.cut then c
    else
      let c := raise (.hub 2) k ((decideAt k i { status := 0x8009 } c).bump .mbxTimeoutCnt .hub)
      if m.opcode = 0x40 then dropHostItem k (leAt m.param 0 2 % 16384) c else c

/-! ### Resets of functions (R509) -/

/-- A channel returns to its WARM values. -/
def chanReset (k : Nat) (c : Chip) : Chip :=
  let c := (c.mbx k).items.foldl (fun c q => dropHostItem k q c) c
  let c := if c.hub.load.any (fun l => l.chan == some k) then loadAbort c else c
  let c := [Reg.mbxHdr, .mbxCmdBase, .mbxRspBase, .mbxCtl, .mbxStat].foldl (fun c r => c.setReg r .hub k r.rst) c
  c.modHub (fun h => { h with
    chans := kdel h.chans k, fwLoad := h.fwLoad.filter (fun l => l.chan != k), signing := h.signing.filter (fun s => s.chan != k)
    burn := h.burn.map (fun b => if b.chan = some k then { b with chan := none } else b), xfers := h.xfers.filter (fun x => x.2.chan != some k) })

/-- PCI_FLR (R509): the function's channels and MSI-X entries return to their reset values; an FLR of the PF resets every VF. -/
def pciFlr (fn : Nat) (c : Chip) : Chip :=
  let mine (f : Nat) : Bool := fn == 0 || f == fn
  let c := ((List.range 256).filter (fun k => mine (c.chanFn k))).foldl (fun c k => chanReset k c) c
  let e := c.evt
  let c : Chip := { c with evt := { e with
    msixEn := e.msixEn.filter (fun x => !(mine x.1)), fnMask := e.fnMask.filter (fun x => !(mine x.1)), vfEn := if fn = 0 then [] else e.vfEn
    msixMask := e.msixMask.filter (fun x => !(mine (vecFn x.1))), msixPba := e.msixPba.filter (fun x => !(mine (vecFn x.1))) } }
  raise (.hub 5) fn (if fn = 0 then c.setRf .pciLinkStat .hub 0 48 6 0 else c)

/-- HOT_RESET (R509): an FLR of every function. -/
def hotReset (c : Chip) : Chip :=
  let n := c.rf .pciLinkStat .hub 0 48 6
  pciFlr 0 ((List.range n).foldl (fun c i => pciFlr (i + 1) c) c)

/-- PCI_LINK_CHANGE (R498, R517, R521): a link that forms at x2 or x1 stays down. -/
def pciLink (up flit : Bool) (rate width : Nat) (c : Chip) : Chip :=
  let up := up && (width == 4 || width == 8 || width == 16)
  hubLevels (c.setReg .pciLinkStat .hub 0 (mkReg [(63, 1, b2n up), (62, 1, b2n (up && flit)), (59, 3, if up then rate else 0), (54, 5, if up then width else 0),
    (48, 6, c.rf .pciLinkStat .hub 0 48 6)]))

/-- Send what is pending on an entry that nothing masks any more (R516). -/
def sendPending (v : Nat) (c : Chip) : Chip :=
  if kget false c.evt.msixPba v && !(kget true c.evt.msixMask v) && !(kget false c.evt.fnMask (vecFn v)) then
    let p := msixDue { c with evt := { c.evt with msixPba := kset c.evt.msixPba v false } } v
    if p.2 then p.1.bump .pciMsixDropCnt .hub else p.1
  else c

/-- MSIX_UNMASK (R516). -/
def msixUnmask (v : Nat) (c : Chip) : Chip := sendPending v { c with evt := { c.evt with msixMask := kset c.evt.msixMask v false } }

/-- CONFIGURATION_REQUEST (R498–R500, R511, R515, R516): what configuration space holds that the model names: the BARs, the VFs enabled, a
function's MSI-X enable and mask, and an entry's mask; any other request is answered without effect. -/
def configRequest (q : CfgReq) (c : Chip) : Chip :=
  match q with
  | .bar i a => c.modHub (fun h => { h with bars := kset h.bars i a })
  | .numVf n =>
    let n := min n 31
    ({ c with evt := { c.evt with vfEn := (List.range n).map (fun i => (i + 1, true)) } } : Chip).setRf .pciLinkStat .hub 0 48 6 n
  | .msix fn en mask =>
    let c : Chip := { c with evt := { c.evt with msixEn := kset c.evt.msixEn fn en, fnMask := kset c.evt.fnMask fn mask } }
    ((c.evt.msixPba.filter (fun x => x.2 && vecFn x.1 == fn)).map (fun x => x.1)).foldl (fun c v => sendPending v c) c
  | .entryMask v => { c with evt := { c.evt with msixMask := kset c.evt.msixMask v true } }
  | .other _ => c

/-! ### Service -/

/-- The outcome of serving a command: it waits, it goes on, or it is decided. -/
inductive Served where
  | wait
  | goesOn (d : Dev)
  | done (st : Nat) (data result : List Byte) (d : Dev)

/-- The command of an opcode that a channel can have served now (R506): unordered, or with no ordered one unanswered before it. -/
def pickCmd (c : Chip) (k op : Nat) : Option (Nat × MbxCmd) :=
  let l := (c.mbx k).cmds
  let ok (i : Nat) : Bool := match l[i]? with
    | some m => m.opcode == op && m.resp.isNone && !m.cut && (m.unord || (l.take i).all (fun y => y.unord || y.resp.isSome))
    | none => false
  ((List.range l.length).find? ok).bind (fun i => (l[i]?).map (fun m => (i, m)))

/-- Serve an opcode on a channel: the checks of R500 and R510, then what the command does. -/
def serve (op k : Nat) (f : MbxCmd → Dev → Served) (d : Dev) : Dev :=
  let c := d.chip
  let st := c.hub.mbxState
  if c.hub.core.halted || (st != 1 && st != 2 && st != 3) then d
  else match pickCmd c k op with
    | none => d
    | some (i, m) =>
      if !(stateServes st k op) then
        d.on (decideAt k i (if op = 0x20 ∧ st = 3 then { status := 0x800B, result := bytesOf 0x21 8 } else { status := 0x8005 }))
      else if adminOp op && !(c.chanAdmin k) then d.on (decideAt k i { status := 0x8004 })
      else match f m d with
        | .wait => d
        | .goesOn d => d.on (fun c => c.modMbx k (fun x => { x with cmds := x.cmds.modify i (fun y => { y with begun := true }) }))
        | .done st data res d => d.on (decideAt k i { status := st, data := data, result := res })

/-- Param bytes as R510 numbers them, from 16. -/
def MbxCmd.p (m : MbxCmd) (o n : Nat) : Nat := leAt m.param (o - 16) n

/-- MBX_E_CFG with the code and offset of R465. -/
def cfgError (code : Nat) (d : Dev) : Served := .done 0x800B [] (BitVec.ofNat 8 code :: (List.replicate 3 0#8 ++ bytesOf d.chip.hub.lastOff 4)) d

/-- Done, or MBX_E_CFG with a code. -/
def cfgDone (r : Nat × Dev) : Served := if r.1 = 0 then .done 0 [] [] r.2 else cfgError r.1 r.2

/-- A resource that a VF channel's firebreak does not reach (R501). -/
def Chip.fbBlocked (c : Chip) (k fb : Nat) : Bool := !(c.chanAdmin k) && c.chanFb k != fb

/-- NOP. -/
def mbxNop (k : Nat) : Dev → Dev := serve 0x01 k (fun _ d => .done 0 [] [] d)

/-- IDENTIFY (R510). -/
def identify (k : Nat) : Dev → Dev := serve 0x02 k (fun _ d =>
  let c := d.chip
  .done 0 (bytesOf c.uid 16 ++ bytesOf c.hub.fwVersion 4 ++ bytesOf 0x7A31 2 ++ bytesOf 0x9216 2 ++
    [BitVec.ofNat 8 c.stepping, BitVec.ofNat 8 (if c.idValid then c.devId else 255), BitVec.ofNat 8 c.lifecycle, BitVec.ofNat 8 c.jState] ++
    bytesOf c.jEpoch 4 ++ bytesOf c.rlogSeq 4 ++ List.replicate 28 0#8) [] d)

/-- CHAN_CONFIG (R501, R511). -/
def chanConfig (k : Nat) : Dev → Dev := serve 0x03 k (fun m d =>
  let c := d.chip
  let t := m.p 16 1
  let fn := m.p 17 1
  if t < 8 ∨ 31 < fn then .done 0x8003 [] [] d
  else if c.rbit .mbxCtl .hub t 63 || !(c.mbx t).cmds.isEmpty then .done 0x8007 [] [] d
  else if fn ≠ 0 ∧ 16 ≤ ((List.range 256).filter (fun x => c.chanFn x == fn && x != t)).length then .done 0x8003 [] [] d
  else .done 0 [] [] (d.on (fun c => ((c.setRf .mbxHdr .hub t 35 5 fn).setRf .mbxHdr .hub t 34 1 (b2n (fn == 0))).setRf .mbxHdr .hub t 40 8 (if fn = 0 then 0 else m.p 18 1))))

/-- SET_DEADLINE (R470, R511). -/
def setDeadlineCmd (k : Nat) : Dev → Dev := serve 0x04 k (fun m d =>
  let s := m.p 16 2
  if s = 0 ∨ 600 < s then .done 0x8003 [] [] d
  else .done 0 [] [] (d.on (fun c => if bitOf (m.p 18 1) 0 then setDeadline s c else c.modHub (fun h => { h with deadline := s }))))

/-- Write every response of a channel that can be written. -/
def flushResponses (k : Nat) : Nat → Chip → Chip
  | 0, c => c
  | n + 1, c => flushResponses k n (responseWrite k c)

/-- DEVICE_RESET (R510, R555): the response is written, then the reset. -/
def deviceReset (k : Nat) (d : Dev) : Dev :=
  match pickCmd d.chip k 0x05 with
  | none => d
  | some (_, m) =>
    let d' := serve 0x05 k (fun m d => if 1 < m.p 16 1 then .done 0x8003 [] [] d else .done 0 [] [] d) d
    if d'.chip.hub.mbxState < 2 || d.chip.hub.core.halted || !(stateServes d.chip.hub.mbxState k 0x05) || !(d.chip.chanAdmin k) || decide (1 < m.p 16 1) then d'
    else d'.reset (fun c => (if m.p 16 1 = 0 then hubReset 6 else internalReset 7) (flushResponses k 64 c))

/-! ### Firmware over the mailbox (R511, R532) -/

/-- FW_BEGIN (R510, R532). -/
def fwBegin (k : Nat) : Dev → Dev := serve 0x10 k (fun m d =>
  let c := d.chip
  let n := m.p 16 4
  let mode := m.p 20 1
  if n < 16384 ∨ 4194304 < n ∨ 1 < mode then .done 0x8003 [] [] d
  else if c.hub.fwLoad.any (fun l => l.chan != k) then .done 0x8007 [] [] d
  else if (mode = 0 ∧ c.hub.mbxState ≠ 1) ∨ (mode = 1 ∧ c.hub.flash.isNone) then .done 0x8005 [] [] d
  else
    let base := if c.hub.bootSlot = 0 then 0x400000 else 0
    .done 0 [] [] (d.on (fun c => c.modHub (fun h => { h with
      fwLoad := some { chan := k, mode := mode, length := n }
      flash := if mode = 1 then h.flash.map (fun f => f.filter (fun (x : Nat × Byte) => x.1 < base || base + 0x400000 ≤ x.1)) else h.flash }))))

/-- FW_DATA (R511). -/
def fwData (k : Nat) : Dev → Dev := serve 0x11 k (fun m d =>
  match d.chip.hub.fwLoad with
  | none => cfgError 0x21 d
  | some l =>
    let fail (code off : Nat) : Served := cfgError code (d.on (fun c => c.modHub (fun h => { h with fwLoad := none, lastOff := off })))
    if l.chan ≠ k then .done 0x8007 [] [] d
    else if m.p 16 4 ≠ l.got.length then fail 0x04 (m.p 16 4)
    else if l.length < l.got.length + m.data.length then fail 0x06 l.length
    else .done 0 [] [] (d.on (fun c => c.modHub (fun h => { h with fwLoad := some { l with got := l.got ++ m.data } }))))

/-- FW_END (R530, R532, R540): the security status; a verified image runs, or is in its flash slot. -/
def fwEnd (k : Nat) : Dev → Dev := fun d0 =>
  let d := serve 0x12 k (fun _ d =>
    match d.chip.hub.fwLoad with
    | none => cfgError 0x21 d
    | some l =>
      if l.chan ≠ k then .done 0x8007 [] [] d
      else if d.chip.hub.signing.isSome then .wait
      else
        let st := if l.got.length ≠ l.length then 0x0A else fwVerify d.chip l.got
        let d := d.on (fun c => raise (if st = 0 then .hub 17 else .hub 18) 1 (c.modHub (fun h => { h with fwLoad := none })))
        if st ≠ 0 then .done 0x800F [] (bytesOf st 4) d
        else if l.mode = 1 then
          let base := if d.chip.hub.bootSlot = 0 then 0x400000 else 0
          .done 0 [] (bytesOf 0 4) (d.on (fun c => c.modHub (fun h => { h with
            flash := h.flash.map (fun f => (l.got.zipIdx).foldl (fun f x => kset f (base + x.2) x.1) f) })))
        else .done 0 [] (bytesOf 0 4) (d.on (fun c => c.modHub (fun h => { h with fwRam := l.got, fwRunning := true })))) d0
  if d.chip.hub.mbxState = 1 ∧ d.chip.hub.fwRunning then bootEnd (d.on (fun c => fwStart c.hub.fwRam c)) else d

/-! ### Personalities over the mailbox (R468–R472, R511) -/

/-- The member a PERS command names; `none` for this device (R510). -/
def persTarget (m : MbxCmd) : Option Nat := if m.p 18 1 = 255 then none else some (m.p 18 1)

/-- A committed member that the root reaches. -/
def Chip.member (c : Chip) (id : Nat) : Bool := c.isRoot && (c.recOf (fun x => x.id == some id && x.state == 0)).isSome && id != 0

/-- PERS_BEGIN. -/
def persBegin (k : Nat) : Dev → Dev := serve 0x20 k (fun m d =>
  let kind := m.p 16 1
  let len := m.p 20 4
  if kind ≠ 1 ∧ kind ≠ 2 then .done 0x8003 [] [] d
  else match persTarget m with
    | none => let r := loadBegin kind len (bitOf (m.p 17 1) 0) (some k) d.chip; cfgDone (r.1, { d with chip := r.2 })
    | some id =>
      if !(d.chip.member id) then .done 0x8003 [] [] d
      else if (kfind? d.chip.hub.xfers id).isSome then cfgError 0x20 d
      else if len < 8192 ∨ (if kind = 1 then 50331648 else 16777216) < len then cfgError 0x04 d
      else .done 0 [] [] (d.on (fun c => c.modHub (fun h => { h with xfers := kset h.xfers id { cls := 0x12, data := [], total := len, chan := some k } }))))

/-- The member transfer that a channel has open. -/
def Chip.chanXfer (c : Chip) (k : Nat) : Option (Nat × Xfer) := c.hub.xfers.find? (fun x => x.2.chan == some k && x.2.cls == 0x12)

/-- PERS_DATA: a chunk for this device, or one that goes on to a member and is answered once it is acknowledged. -/
def persData (k : Nat) : Dev → Dev := serve 0x21 k (fun m d =>
  match d.chip.chanXfer k with
  | some (id, x) =>
    if x.failed then cfgError ((Config.freeWord d.chip.fresh).toNat % 256) (d.on (fun c => { (c.modHub (fun h => { h with xfers := kdel h.xfers id })) with fresh := c.fresh + 1 }))
    else if m.begun then (if x.idle then .done 0 [] [] d else .wait)
    else if m.p 16 4 ≠ x.next ∨ x.total < x.next + m.data.length then
      cfgError (if m.p 16 4 ≠ x.next then 0x04 else 0x06) (d.on (fun c => c.modHub (fun h => { h with xfers := kdel h.xfers id })))
    else .goesOn (d.on (fun c => pump id 32 (c.modHub (fun h => { h with xfers := kset h.xfers id { x with data := m.data, base := x.next } }))))
  | none =>
    match d.chip.hub.load with
    | some l => if l.chan ≠ some k then .done 0x8007 [] [] d else cfgDone (loadData (m.p 16 4) m.data d)
    | none => cfgError 0x21 d)

/-- PERS_END: MBX_S_STAGED, or MBX_S_OK once committed. -/
def persEnd (k : Nat) : Dev → Dev := serve 0x22 k (fun _ d =>
  match d.chip.chanXfer k with
  | some (id, x) =>
    if x.failed || decide (x.next < x.total) then
      cfgError (if x.failed then (Config.freeWord d.chip.fresh).toNat % 256 else 0x05) (d.on (fun c => { (c.modHub (fun h => { h with xfers := kdel h.xfers id })) with fresh := c.fresh + 1 }))
    else if x.idle then .done 0 [] [] (d.on (fun c => c.modHub (fun h => { h with xfers := kdel h.xfers id })))
    else .wait
  | none =>
    match d.chip.hub.load with
    | none => cfgError (if d.chip.hub.lastCode ≠ 0 then d.chip.hub.lastCode else 0x21) d
    | some l =>
      if l.chan ≠ some k then .done 0x8007 [] [] d
      else if d.chip.hub.signing.isSome then .wait
      else
        let r := loadEnd d
        if r.1 ≠ 0 then cfgError r.1 r.2 else if l.auto then cfgDone (loadCommit r.2) else .done 0x0004 [] [] r.2)

/-- PERS_COMMIT. -/
def persCommit (k : Nat) : Dev → Dev := serve 0x23 k (fun m d =>
  match persTarget m with
  | some id => if d.chip.member id then cfgError 0x21 d else .done 0x8003 [] [] d
  | none => if d.chip.hub.load.any (fun l => l.chan != some k) then .done 0x8007 [] [] d else cfgDone (loadCommit d))

/-- PERS_ABORT. -/
def persAbort (k : Nat) : Dev → Dev := serve 0x24 k (fun m d =>
  match persTarget m with
  | some id =>
    if !(d.chip.member id) then .done 0x8003 [] [] d
    else match d.chip.chanXfer k with
      | some (i, _) => if i = id then .done 0 [] [] (d.on (fun c => c.modHub (fun h => { h with xfers := kdel h.xfers id }))) else cfgError 0x21 d
      | none => if (kfind? d.chip.hub.xfers id).isSome then .done 0x8007 [] [] d else cfgError 0x21 d
  | none =>
    match d.chip.hub.load with
    | none => cfgError 0x21 d
    | some l => if l.chan ≠ some k then .done 0x8007 [] [] d else .done 0 [] [] (d.on loadAbort))

/-- PERS_STATUS: this device's, or a member's, of which no rule says how it reaches the root: a free value. -/
def persStatus (k : Nat) : Dev → Dev := serve 0x25 k (fun m d =>
  let c := d.chip
  match persTarget m with
  | none =>
    .done 0 ([BitVec.ofNat 8 c.jState, BitVec.ofNat 8 c.hub.lastCode] ++ bytesOf c.jEpoch 2 ++ bytesOf (c.rf .rstCfgJrnl .hub 0 0 32) 4 ++ bytesOf c.hub.lastOff 4 ++
      bytesOf ((c.hub.load.map (fun l => l.got)).getD 0) 4) [] d
  | some id =>
    if !(c.member id) then .done 0x8003 [] [] d
    else .done 0 ((List.range 4).flatMap (fun i => bytesOf (Config.freeWord (c.fresh + i)).toNat 4)) [] (d.on (fun c => { c with fresh := c.fresh + 4 })))

/-- SYS_PLAN (R445, R510). -/
def sysPlan (k : Nat) : Dev → Dev := serve 0x30 k (fun m d =>
  match planOf m.data with
  | none => .done 0x8003 [] [] d
  | some p => .done 0 [] [] (d.on (fun c => c.modHub (fun h => { h with plan := p }))))

/-- SYS_TOPOLOGY (R510). -/
def sysTopology (k : Nat) : Dev → Dev := serve 0x31 k (fun _ d => .done 0 (topology d.chip) [] d)

/-! ### Queues, tasks, events (R510, R511) -/

/-- Bytes as words, the last one padded with zeros. -/
def wordsOfBytes (bs : List Byte) : List TWord := (List.range ((bs.length + 3) / 4)).map (fun i => tword (BitVec.ofNat 32 (leAt bs (4 * i) 4)))

/-- QUEUE_WRITE (R511): the channel is a producer stream; under back-pressure it waits. -/
def queueWrite (k : Nat) : Dev → Dev := serve 0x40 k (fun m d =>
  let c := d.chip
  let q := m.p 16 2
  let fl := m.p 21 1
  let start := bitOf fl 0
  let stop := bitOf fl 1
  if 16384 ≤ q ∨ 4 ≤ fl ∨ m.data.isEmpty ∨ (!stop ∧ m.data.length % 4 ≠ 0) then .done 0x8003 [] [] d
  else if c.fbBlocked k (c.queueFb q) then .done 0x8006 [] [] d
  else
    let opened := (c.mbx k).items.contains q
    let ws := wordsOfBytes m.data
    let refused (ends : Bool) (c : Chip) : Chip := (c.bump .queRefusedCnt (qsite q) 0 ws.length).modQueue q (fun Q =>
      { Q with refusing := Q.refusing.filter (fun x => x != .host k) ++ (if ends then [] else [.host k]) })
    if start = opened then .done 0x800D [] [] (d.on (fun c => dropHostItem k q (if !start && (c.queue q).refusing.contains (.host k) then refused stop c else c)))
    else if c.hub.held.contains (q / 4096) then .goesOn d
    else if start && ((c.queue q).closed || !(c.qen q)) then .done 0x800E [] [] (d.on (refused stop))
    else match pushStream q (.host k) (BitVec.ofNat 24 (m.p 18 3)) (m.data.length % 4) stop ws start (if start then d.on (fun c => c.modQueue q (fun Q => { Q with refusing := Q.refusing.filter (fun x => x != .host k) })) else d) with
      | none => .goesOn (d.on (fun c => c.noteWait q (.host k) true))
      | some d => .done 0 [] [] (d.on (fun c => (c.noteWait q (.host k) false).modMbx k (fun x => { x with
          items := if stop then x.items.filter (fun y => y != q) else x.items.filter (fun y => y != q) ++ [q] }))))

/-- QUEUE_READ (R393, R511). A pop that finds depth 0 is counted as a glade word (R250). -/
def queueRead (k : Nat) : Dev → Dev := serve 0x41 k (fun m d =>
  let c := d.chip
  let q := m.p 16 2
  let n := m.p 18 2
  if 16384 ≤ q ∨ n = 0 ∨ 960 < n ∨ c.qmode q ≠ 3 then .done 0x8003 [] [] d
  else if c.fbBlocked k (c.queueFb q) then .done 0x8006 [] [] d
  else
    let mine := ((c.partLive q).filter (fun x => x.host && x.who == k && x.tag == m.tag)).map (fun x => x.words)
    let held := mine.getD []
    let left := ((c.queue q).front?.map (fun i => i.words.length)).getD 0
    let want := min n (held.length + left)
    if (c.queue q).depth = 0 ∧ held.isEmpty then
      .done (if (c.queue q).closed then 3 else 2) [] [] (d.on (fun c => (c.bump .queGladeCnt (qsite q)).modQueue q (fun Q => { Q with part := if mine.isSome then none else Q.part })))
    else if 64 * m.rslots < 32 + 4 * want + 4 * ((want + 31) / 32) then
      .done 0x8008 [] [] (d.on (fun c => c.modQueue q (fun Q => { Q with part := if mine.isSome then none else Q.part })))
    else match collect q true k m.tag n d with
      | (false, _, d') => .goesOn d'
      | (true, vs, d') =>
        let v0 := vs.headD 0#64
        let vl := vs.getLastD 0#64
        let ws := vs.map popWord
        let mask := (List.range ((ws.length + 31) / 32)).flatMap (fun j =>
          bytesOf ((List.range 32).foldl (fun a i => a + b2n (TWord.isPoison (ws.getD (32 * j + i) 0#35)) * 2 ^ i) 0) 4)
        let data := ws.flatMap (fun w => bytesOf (TWord.data w).toNat 4) ++ mask
        let res := bytesOf (fld v0 40 24) 3 ++ [BitVec.ofNat 8 (fld v0 38 1 + 2 * fld vl 37 1), BitVec.ofNat 8 (fld vl 35 2)] ++ bytesOf ws.length 2
        .done (if fld vl 37 1 = 1 then 0 else 1) data res d')

/-- QUEUE_CTL (R269, R510): flush, then close; close with reopen is ignored. -/
def queueCtl (k : Nat) : Dev → Dev := serve 0x42 k (fun m d =>
  let q := m.p 16 2
  let v := m.p 18 1
  if 16384 ≤ q ∨ 8 ≤ v then .done 0x8003 [] [] d
  else if d.chip.fbBlocked k (d.chip.queueFb q) then .done 0x8006 [] [] d
  else
    let d := if bitOf v 1 && bitOf v 0 then d
      else d.on (fun c =>
        let c := if bitOf v 2 then queueFlush q c else c
        let c := if bitOf v 1 then c.qclose q true else c
        if bitOf v 0 then c.qclose q false else c)
    .done 0 [] (bytesOf (min 65535 (d.chip.rf .queCtl (qsite q) (q % 4096) 16 16)) 2) d)

/-- QUEUE_STATUS (R510). -/
def queueStatusCmd (k : Nat) : Dev → Dev := serve 0x43 k (fun m d =>
  let q := m.p 16 2
  if 16384 ≤ q then .done 0x8003 [] [] d
  else if d.chip.fbBlocked k (d.chip.queueFb q) then .done 0x8006 [] [] d
  else .done 0 (bytesOf (d.chip.qstatus q).toNat 8 ++ bytesOf (d.chip.qlevel q).toNat 8) [] d)

/-- TASK_POST (R510): a VF reaches the templates whose context is of its firebreak (R501). -/
def taskPost (k : Nat) : Dev → Dev := serve 0x44 k (fun m d =>
  let t := m.p 16 1
  let n := m.p 17 1
  if 4 ≤ t then .done 0x8003 [] [] d
  else
    let fb := (kget ⟨false, 0, 0⟩ (d.chip.tile t).ctxTab (d.chip.rf .schTpl (.tile t) n 24 16)).firebreak
    if d.chip.fbBlocked k fb then .done 0x8006 [] [] d
    else .done 0 [] [] (d.on (fun c => c.addPost t { tpl := n, delay := m.p 18 3 })))

/-- TASK_CANCEL (R510): answered when the cancel is done. -/
def taskCancel (k : Nat) : Dev → Dev := serve 0x45 k (fun m d =>
  let t := m.p 16 1
  let mode := m.p 24 1
  let ans (d : Dev) : Served := .done 0 [] (bytesOf (d.chip.rf .schCancelLast (.tile t) 0 0 13) 2 ++ bytesOf (d.chip.rf .schCancelLast (.tile t) 0 61 2) 1) d
  if 4 ≤ t ∨ 2 < mode then .done 0x8003 [] [] d
  else if d.chip.rbit .schCancelLast (.tile t) 0 63 then .wait
  else if m.begun then ans d
  else
    let d := d.on (schCancel t (mkReg [(62, 2, mode), (0, 24, m.p 20 4)]))
    if d.chip.rbit .schCancelLast (.tile t) 0 63 then .goesOn d else ans d)

/-- The source's route names a vector of a function (R511). -/
def routedTo (c : Chip) (fn n : Nat) : Bool := let v := c.ev (EvSrc.ofNum n); fld v 59 1 == 1 && vecFn (fld v 48 11) == fn

/-- EVENT_PENDING (R511). -/
def eventPending (k : Nat) : Dev → Dev := serve 0x50 k (fun m d =>
  let c := d.chip
  let a := m.p 16 1
  let n := m.p 17 1
  if n = 0 ∨ 80 < a + n then .done 0x8003 [] [] d
  else
    let word (i : Nat) : BitVec 64 := let v := c.reg .evtPendSum .hub i
      if c.chanAdmin k then v else (List.range 64).foldl (fun v b => if routedTo c (c.chanFn k) (64 * i + b) then v else setFld v b 1 0) v
    .done 0 ((List.range n).flatMap (fun i => bytesOf (word (a + i)).toNat 8)) [] d)

/-- Clear pend and lost of a source; a level whose condition holds is raised again (R221). -/
def clearSource (n : Nat) (c : Chip) : Chip :=
  let e := EvSrc.ofNum n
  let v := c.ev e
  evtSrcWrite e (setFld (setFld v 63 1 1) 62 1 1) c

/-- EVENT_CLEAR (R511). -/
def eventClear (k : Nat) : Dev → Dev := serve 0x51 k (fun m d =>
  let ns := (List.range (m.data.length / 2)).map (fun i => leAt m.data (2 * i) 2)
  if m.data.length % 2 ≠ 0 ∨ ns.isEmpty ∨ 64 < ns.length ∨ ns.any (fun n => decide (5120 ≤ n)) then .done 0x8003 [] [] d
  else
    let r := ns.foldl (fun (x : List Byte × Chip) n =>
      if x.2.chanAdmin k || routedTo x.2 (x.2.chanFn k) n then
        let v := x.2.ev (EvSrc.ofNum n)
        (x.1 ++ bytesOf (mkReg [(63, 1, fld v 63 1), (62, 1, fld v 62 1), (0, 32, fld v 0 32)]).toNat 8, clearSource n x.2)
      else (x.1 ++ List.replicate 8 0#8, x.2)) ([], d.chip)
    .done 0 r.1 [] { d with chip := r.2 })

/-! ### The repair log (R369, R511) -/

/-- RLOG_GET (R511). -/
def rlogGet (k : Nat) : Dev → Dev := serve 0x60 k (fun m d =>
  let cp := m.p 16 1
  let o := m.p 20 4
  if d.chip.hub.flash.isSome then .done 0x8005 [] [] d
  else if 1 < cp ∨ 32768 ≤ o then .done 0x8003 [] [] d
  else .done 0 ((List.range (min (min 4064 (32768 - o)) (64 * m.rslots - 32))).map (fun i => d.chip.rlogByte cp (o + i))) [] d)

/-- RLOG_PUT (R511). -/
def rlogPut (k : Nat) : Dev → Dev := serve 0x61 k (fun m d =>
  let cp := m.p 16 1
  let o := m.p 20 4
  if d.chip.hub.flash.isSome then .done 0x8005 [] [] d
  else if 1 < cp ∨ 32768 < o + m.data.length then .done 0x8003 [] [] d
  else .done 0 [] [] (d.on (fun c => m.data.zipIdx.foldl (fun c x => c.rlogSet cp (o + x.2) x.1) c)))

/-! ### Attestation and records (R534–R541) -/

/-- The signed part of a report (R537). -/
def reportBody (c : Chip) (sel : Nat) (nonce : List Byte) : List Byte :=
  let regs := ((List.range 8).filter (fun i => bitOf sel i)).flatMap (fun i => c.measure i)
  let keys := if bitOf sel 8 then (List.range 4).flatMap (fun s => c.otpBytes (0x100 + 48 * s) 32 ++ bytesOf (c.slotState s) 4) else []
  let n := 128 + regs.length + keys.length
  bytesOf 0x54415A54 4 ++ bytesOf 1 2 ++ bytesOf n 2 ++ bytesOf c.uid 16 ++ (List.range 32).map Config.idKeyByte ++ nonce ++
    bytesOf (c.rf .secAttCnt .hub 0 0 32) 4 ++ bytesOf sel 4 ++
    [BitVec.ofNat 8 c.lifecycle, BitVec.ofNat 8 c.jState, BitVec.ofNat 8 (if c.idValid then c.devId else 255), BitVec.ofNat 8 c.stepping] ++
    bytesOf c.hub.fwVersion 4 ++ bytesOf c.jEpoch 4 ++ bytesOf c.fwFloor 2 ++ bytesOf c.persFloor 2 ++ bytesOf c.hub.time.toNat 8 ++ List.replicate 8 0#8 ++ regs ++ keys

/-- ATTEST (R535, R536, R541). -/
def attest (k : Nat) : Dev → Dev := serve 0x70 k (fun m d =>
  let c := d.chip
  let sel := m.p 16 4
  if m.begun then .wait
  else if 512 ≤ sel ∨ m.data.length ≠ 32 then .done 0x8003 [] [] d
  else if c.lcGroup 3 || c.lifecycle == 4 then .done 0x800F [] [0x09#8] d
  else if c.hub.signing.isSome then .done 0x8007 [] [] d
  else .goesOn (d.on (fun c =>
    let c := (c.setRf .secAttCnt .hub 0 0 32 (c.rf .secAttCnt .hub 0 0 32 + 1)).modMbx k (fun x => { x with report := none })
    c.modHub (fun h => { h with idKey := true, signing := some { chan := k, body := reportBody c sel m.data } }))))

/-- SIGNING_DONE (R536): the report is stored and its command answered. -/
def signingDone (c : Chip) : Chip :=
  match c.hub.signing with
  | none => c
  | some s =>
    let rep := s.body ++ (List.range 17088).map (fun i => Config.slhSignByte (sha256 s.body) i)
    let c := raise (.hub 17) 5 ((c.modHub (fun h => { h with signing := none })).modMbx s.chan (fun x => { x with report := some rep }))
    match begunAt c s.chan 0x70 with
    | some i => decideAt s.chan i { status := 0, result := bytesOf rep.length 4 } c
    | none => c

/-- ATTEST_READ (R510, R541). -/
def attestRead (k : Nat) : Dev → Dev := serve 0x71 k (fun m d =>
  match (d.chip.mbx k).report with
  | none => .done 0x800F [] [0x08#8] d
  | some r => if r.length ≤ m.p 16 4 then .done 0x8003 [] [] d else .done 0 ((r.drop (m.p 16 4)).take 4064) [] d)

/-- Whether the authorisations of R539 accept a record: 0, or the detail STATE. -/
def recordAllowed (c : Chip) (op slot signer : Nat) : Bool :=
  let lc := c.lifecycle
  let valid (s : Nat) : Bool := c.slotState s == 1
  let anyValid := (List.range 4).any valid
  let owner := decide (1 ≤ signer) && decide (signer ≤ 4)
  match op with
  | 1 => c.slotState slot == 0 && ((lc == 1 && !anyValid && signer == 0xFF) || (lc != 4 && owner))
  | 2 => valid slot && (List.range 4).any (fun s => s != slot && valid s) && owner && signer != slot + 1
  | _ => match slot with
    | 2 => lc == 1 && anyValid && owner
    | 3 => (lc == 1 || lc == 2) && anyValid && owner
    | 4 => lc != 4 && signer == 0
    | _ => false

/-- The signature at sig_addr (R538, R540); `none` when it reads poisoned or unmapped. -/
def recordSig (d : Dev) (a : Nat) : Option (List Byte) :=
  let inTm := decide (0x2000000000 ≤ a) && decide (a + 7856 ≤ 0x2400000000) && decide (a % 0x100000000 + 7856 ≤ 0x2000000)
  let inGd := decide (gdBase ≤ a) && decide (a + 7856 ≤ gdBase + d.chip.gdCap)
  if a % 8 ≠ 0 ∨ !(inTm || inGd) ∨ (List.range 1964).any (fun i => d.poisonAt (a + 4 * i)) then none
  else some ((List.range 7856).map (fun i => d.mem.read (a + i)))

/-- The cells that an accepted record burns, group bits last (R526–R528). -/
def recordCells (op slot : Nat) (key : List Byte) : List (Nat × Nat) :=
  match op with
  | 1 => (List.range 32).map (fun i => (0x100 + 48 * slot + i, (key.getD i 0#8).toNat)) ++ [(0x100 + 48 * slot + 32, 0x0F)]
  | 2 => [(0x100 + 48 * slot + 32, 0xF0)]
  | _ => match slot with
    | 2 => [(0x70, 0x0F)]
    | 3 => [(0x70, 0xF0)]
    | _ => [(0x71, 0x0F), (0x71, 0xF0)]

/-- A key or lifecycle record (R538–R540): checked, extended into M5, and its burn started. -/
def recordCmd (op k : Nat) : Dev → Dev := serve op k (fun m d =>
  let c := d.chip
  let r := m.data
  let v (o n : Nat) : Nat := leAt r o n
  let rop := v 4 1
  let slot := v 5 1
  let signer := v 6 1
  let sec (x : Nat) (d : Dev) : Served := .done 0x800F [] [BitVec.ofNat 8 x] d
  let refuse (x : Nat) : Served := sec x (d.on (raise (.hub 18) 3))
  if m.begun then .wait
  else if r.length ≠ 96 then .done 0x8003 [] [] d
  else if v 0 4 ≠ 0x55415A54 ∨ v 7 1 ≠ 0 ∨ v 24 8 ≠ 0 ∨ v 72 24 ≠ 0 ∨ (rop ≠ 1 ∧ v 32 32 ≠ 0) ∨ (signer = 0xFF ∧ v 64 8 ≠ 0) then sec 0x0A d
  else if !((op = 0x72 && (rop == 1 || rop == 2) && decide (slot < 4)) || (op = 0x73 && rop == 3)) || m.p 16 1 != slot then .done 0x8003 [] [] d
  else if v 8 16 ≠ c.uid then sec 0x05 d
  else if !(recordAllowed c rop slot signer) then sec 0x04 d
  else if c.hub.burn.isSome || c.hub.signing.isSome then .wait
  else
    let sigOk : Option Nat :=
      if signer = 0xFF then none
      else match c.signerKey signer ((List.range 32).map Config.vendorKeyByte) with
        | none => some 0x02
        | some key => match recordSig d (v 64 8) with
          | none => some 0x06
          | some s => if Config.slhVerify 0 2 key (sha256 (r.take 64)) s then none else some 0x01
    match sigOk with
    | some x => refuse x
    | none => .goesOn (d.on (fun c => (extendM 5 (sha256 r) (raise (.hub 17) 3 c)).modHub (fun h => { h with
        burn := some { cells := recordCells rop slot ((r.drop 32).take 32), chan := some k } }))))

/-- OTP_BURN_DONE (R527, R539, R541): the burn has completed, or failed. -/
def burnDone (ok : Bool) (c : Chip) : Chip :=
  match c.hub.burn with
  | none => c
  | some b =>
    let was := c.wdgFrozen
    let c := c.modHub (fun h => { h with burn := none })
    let c := thaw was (if ok then raise (.hub 17) 4 (burnCells b.cells c) else raise (.hub 18) 4 c)
    match b.chan with
    | some k =>
      (match (begunAt c k 0x72).or (begunAt c k 0x73) with
      | some i => decideAt k i (if ok then { status := 0 } else { status := 0x800F, result := [0x07#8] }) c
      | none => c)
    | none => c

end Sys2Proof.Machine
end

