-- ==== Sys2Proof/Machine/Pins.lean ====
section
/-!
DEFINITION. The user I/O bank (R587–R600): pin levels, GPIO, trigger inputs and outputs, time-base inputs and outputs; the probe outputs
(R579, R580).
-/
namespace Sys2Proof.Machine

/-! ### Pins -/

/-- Function of a pin (R590). -/
def Chip.pinFunc (c : Chip) (n : Nat) : Nat := c.rf .uioCfg .hub n 60 4
/-- The trigger or probe output of a pin. -/
def Chip.pinIdx (c : Chip) (n : Nat) : Nat := c.rf .uioCfg .hub n 56 4
/-- The pin is inverted at the pad. -/
def Chip.pinInv (c : Chip) (n : Nat) : Bool := c.rbit .uioCfg .hub n 54

/-- The pins carry their records (R597): a UIO section has committed, and no reset, bare state, missing personality or commit in progress
holds them at high impedance. -/
def Chip.pinsOn (c : Chip) : Bool := c.hub.uioOn && !c.hub.uioDue && !c.hub.bare && c.jState != 0

/-- The hub PLL is locked; while it is not, outputs hold their last level and no register of the bank changes (R597). -/
def Chip.hubClocked (c : Chip) : Bool := !(c.rbit .clkStat .hub 0 4)

/-- What a pin drives at its pad, if it drives it (R579, R590, R592, R594, R595). An open-drain output drives only the low level. -/
def Chip.pinDrive (c : Chip) (n : Nat) : Option Bool :=
  if !c.pinsOn then none
  else
    let f := c.pinFunc n
    let v : Option Bool :=
      if f = 1 then (if c.rbit .uioOe .hub 0 n then some (c.rbit .uioOut .hub 0 n) else none)
      else if f = 3 || f = 5 then some (c.hub.pulses.contains n)
      else if f = 6 then some (decide (0 < kget 0 c.hub.probes (c.pinIdx n)))
      else none
    match v with
    | none => none
    | some b =>
      let pad := b != c.pinInv n
      if c.rbit .uioCfg .hub n 49 && pad then none else some pad

/-- The level at a pad: what the pin drives, else what the board drives, else the pull (R590, R597). -/
def Chip.padLevel (c : Chip) (n : Nat) : Bool :=
  match c.pinDrive n with
  | some b => b
  | none => match kfind? c.hub.padIn n with
    | some b => b
    | none => if !c.pinsOn then false
      else match c.rf .uioCfg .hub n 52 2 with
        | 1 => false
        | 2 => true
        | _ => Config.floatLevel n

/-- UIO_IN (R600): the levels after inv. -/
def uioIn (c : Chip) : BitVec 64 :=
  (List.range 48).foldl (fun v n => setFld v n 1 (b2n (c.padLevel n != (c.pinsOn && c.pinInv n)))) 0#64

/-- The pin of a function and index. -/
def Chip.pinOf (c : Chip) (f idx : Nat) : Option Nat := (List.range 48).find? (fun n => c.pinFunc n == f && c.pinIdx n == idx)

/-! ### Input edges (R588, R589, R593, R596) -/

/-- The time at which an edge at a pin is captured: the time base less idly taps of 5 ps. -/
def Chip.edgeTime (c : Chip) (n : Nat) : Nat := (1000 * c.hub.time.toNat + 1000 * 2 ^ 64 - 5 * c.rf .uioCfg .hub n 42 6) / 1000 % 2 ^ 64

/-- The error of a PPS edge in ns (R596). -/
def ppsError (time : Nat) : Int :=
  let m := time % 1000000000
  if m < 500000000 then (m : Int) else (m : Int) - 1000000000

/-- A selected PPS edge (R596, R598): captured while valid is 0, TBS_PPS, the error, the correction when following; holdover clears. -/
def ppsEdge (time : Nat) (c : Chip) : Chip :=
  let c := c.capture .tbsPpsTs .hub 0 (mkReg [(0, 48, time % 2 ^ 48)])
  let c := raise (.hub 26) (time % 2 ^ 32) c
  let e := ppsError time
  let c := (c.setRf .tbsPpsErr .hub 0 0 32 (wrapInt 32 e)).setRf .tbsPpsCtl .hub 0 62 1 0
  if c.rbit .tbsPpsCtl .hub 0 63 then tbsAdjWrite (mkReg [(63, 1, b2n (decide (1000 < e.natAbs))), (0, 32, wrapInt 32 (-e))]) c else c

/-- An edge at the pad of a pin to a level: the level reaches UIO_IN, and a selected edge of a TRIG_IN or PPS_IN pin is captured. -/
def pinEdge (n : Nat) (level : Bool) (c : Chip) : Chip :=
  let c := c.modHub (fun h => { h with padIn := kset h.padIn n level })
  let rise := level != c.pinInv n
  let sel : Bool := match c.rf .uioCfg .hub n 34 2 with
    | 1 => rise
    | 2 => !rise
    | 3 => true
    | _ => false
  if !c.pinsOn || !c.hubClocked || !sel then c
  else match c.pinFunc n with
    | 4 => raise (.hub (27 + c.pinIdx n)) n (c.capture .uioTrigTs .hub (c.pinIdx n) (mkReg [(0, 48, c.edgeTime n % 2 ^ 48)]))
    | 2 => ppsEdge (c.edgeTime n) c
    | _ => c

/-- GPIO_PIN_EDGE (R589). -/
def gpioPinEdge (n : Nat) (level : Bool) (c : Chip) : Chip := if n < 48 then pinEdge n level c else c

/-- TRIG_IN_EDGE (R593): an edge at the pad of the pin of trigger input k. -/
def trigInEdge (k : Nat) (rising : Bool) (c : Chip) : Chip :=
  match c.pinOf 4 k with
  | some n => pinEdge n rising c
  | none => c

/-- PPS_IN_EDGE (R596): an edge at the pad of the PPS_IN pin. -/
def ppsInEdge (rising : Bool) (c : Chip) : Chip :=
  match (List.range 48).find? (fun n => c.pinFunc n == 2) with
  | some n => pinEdge n rising c
  | none => c

/-- PPS_HOLDOVER (R596). -/
def ppsHoldover (c : Chip) : Chip := c.setRf .tbsPpsCtl .hub 0 62 1 1

/-- DELAY_LINE_CALIBRATION (R588). -/
def delayCalibration (c : Chip) : Chip := c.modHub (fun h => { h with calibrations := h.calibrations + 1 })

/-! ### Outputs (R592, R594, R595, R598) -/

/-- A write of UIO_OUT or UIO_OE: bits of pins 0 to 47. -/
def uioWrite (r : Reg) (v : BitVec 64) (c : Chip) : Chip := if c.hubClocked then c.setRf r .hub 0 0 48 (fld v 0 48) else c

/-- UIO_OUT_SET: named bits of UIO_OUT become 1. -/
def uioSet (v : BitVec 64) (c : Chip) : Chip := uioWrite .uioOut (c.reg .uioOut .hub 0 ||| v) c

/-- UIO_OUT_CLR: named bits of UIO_OUT become 0. -/
def uioClr (v : BitVec 64) (c : Chip) : Chip := uioWrite .uioOut (c.reg .uioOut .hub 0 &&& ~~~v) c

/-- UIO_TRIG_AT_WRITE (R594, R598): a new time and arm replace the old; a time already past will start late. -/
def trigAtWrite (k : Nat) (v : BitVec 64) (c : Chip) : Chip :=
  if !c.hubClocked then c
  else
    let c := if fld v 62 1 = 1 then c.setRf .uioTrigAt .hub k 62 1 0 else c
    let c := (c.setRf .uioTrigAt .hub k 63 1 (fld v 63 1)).setRf .uioTrigAt .hub k 0 48 (fld v 0 48)
    let past := fld v 63 1 == 1 && serialLater 48 (c.hub.time.toNat % 2 ^ 48) (fld v 0 48)
    c.modHub (fun h => { h with trigLate := h.trigLate.filter (fun x => x != k) ++ (if past then [k] else []) })

/-- TRIG_OUT_PULSE_START (R594): the pulse of an armed trigger output starts; arm clears, and late is set when its time was past at the write. -/
def trigPulse (k : Nat) (c : Chip) : Chip :=
  match c.pinOf 5 k with
  | none => c
  | some n =>
    if !(c.rbit .uioTrigAt .hub k 63) || !c.hubClocked then c
    else
      let c := c.setRf .uioTrigAt .hub k 63 1 0
      let c := if c.hub.trigLate.contains k then c.setRf .uioTrigAt .hub k 62 1 1 else c
      c.modHub (fun h => { h with trigLate := h.trigLate.filter (fun x => x != k), pulses := h.pulses.filter (fun x => x != n) ++ [n] })

/-- TB_OUT_PULSE (R595): a pulse of a TB_OUT pin with a period starts. -/
def tbPulse (n : Nat) (c : Chip) : Chip :=
  if c.pinFunc n = 3 ∧ c.rf .uioCfg .hub n 5 27 ≠ 0 ∧ c.hubClocked then c.modHub (fun h => { h with pulses := h.pulses.filter (fun x => x != n) ++ [n] }) else c

/-- PULSE_END (R594, R595). -/
def pulseEnd (n : Nat) (c : Chip) : Chip := if c.hubClocked then c.modHub (fun h => { h with pulses := h.pulses.filter (fun x => x != n) }) else c

/-! ### Probes (R579, R580) -/

/-- A statistics counter has counted between two states. -/
def counted (r : Reg) (s : Site) (a b : Chip) : Bool := fld (a.reg r s 0) 0 49 != fld (b.reg r s 0) 0 49 && decide (fld (a.reg r s 0) 0 48 ≤ fld (b.reg r s 0) 0 48)

/-- An event of a source was raised between two states. -/
def raised (e : EvSrc) (a b : Chip) : Bool := (fld (a.ev e) 63 1 == 0 && fld (b.ev e) 63 1 == 1) || (fld (a.ev e) 62 1 == 0 && fld (b.ev e) 62 1 == 1)

/-- Signals of group 0 (R580), from the state before and after a command. -/
def probeGrove (t g sig : Nat) (a b : Chip) : Bool :=
  let x := a.grove t g
  let y := b.grove t g
  let s : Site := .grove t g
  let port (p : Bool) (r : Run) : Option Nat := if p then r.qw1.lastPush else r.qw0.lastPush
  let attempt (gr : Grove) : Option Nat := gr.run.map (fun r => r.desc)
  let ended := attempt x != attempt y && x.run.isSome
  let replayed := match x.run with
    | some r => (b.desc t r.desc).state != .free && (b.desc t r.desc).state != .suspended && ended
    | none => false
  match sig with
  | 0 => y.run.isSome
  | 1 => y.run.isSome && y.frozen
  | 2 => counted .seqCellChkCnt s a b || raised (.grove t g 0) a b
  | 3 => counted .seqTrapCnt s a b
  | 4 => ended && !replayed && y.susp.length == x.susp.length
  | 5 => replayed
  | 6 => y.halted
  | 7 => y.run.isSome && (attempt x != attempt y)
  | 8 | 9 | 10 => match y.run with
    | some r => bitOf r.slot (sig - 8)
    | none => false
  | 11 | 12 => match y.run with
    | some r => (port (sig == 12) r).isSome && (match x.run with
      | some r' => port (sig == 12) r' != port (sig == 12) r
      | none => true)
    | none => false
  | 13 => match y.run with
    | some r => r.qr0.valid
    | none => false
  | 14 => match y.run with
    | some r => r.qr1.valid
    | none => false
  | 15 => match y.run with
    | some r => decide (r.budget < 1024)
    | none => false
  | _ => false

/-- Signals of group 1 (R580). -/
def probeTile (t sig : Nat) (a b : Chip) : Bool :=
  let ti := b.tile t
  let s : Site := .tile t
  match sig with
  | 0 => counted .schDispatchCnt s a b
  | 1 => decide (ti.notices.length < (a.tile t).notices.length)
  | 2 => decide (0 < b.loading t)
  | 3 => counted .rgrRewriteCnt s a b
  | 4 => ti.pllOff
  | 5 => ti.queues.any (fun q => b.qfull (4096 * t + q.1))
  | 6 => ti.queues.any (fun q => q.2.stall)
  | 7 => counted .schDroppedReadyCnt s a b
  | 8 => raised (.tile t 9) a b
  | 9 => a.rf .schNow s 0 0 32 != b.rf .schNow s 0 0 32
  | 10 => ti.chans.any (fun x => x.2.state == .retraining)
  | 11 => ti.descs.any (fun x => x.2.inFifo)
  | _ => false

/-- Signals of group 2 (R580). -/
def probeHub (sig : Nat) (a b : Chip) : Bool :=
  if sig < 8 then (b.link sig).st == .active
  else match sig with
  | 8 => (List.range 8).any (fun p => fld (a.reg .lnkReplayCnt .hub p) 0 48 != fld (b.reg .lnkReplayCnt .hub p) 0 48) ||
      (List.range 12).any (fun m => fld (a.reg .d2dReplayCnt .hub m) 0 48 != fld (b.reg .d2dReplayCnt .hub m) 0 48)
  | 9 => (List.range 256).any (fun k => a.cmdCons k != b.cmdCons k)
  | 10 => decide (a.evt.msixSent.length < b.evt.msixSent.length)
  | 11 => raised (.hub 26) a b
  | 12 => !b.evt.fwq.isEmpty
  | 13 => b.hub.core.halted
  | 14 => raised (.hub 22) a b
  | 15 => raised (.hub 23) a b
  | _ => false

/-- The signal that PRB_SEL_n selects (R586). -/
def probeSignal (n : Nat) (a b : Chip) : Bool :=
  let v := b.reg .prbSel .hub n
  let sig := fld v 0 8
  if fld v 63 1 = 0 then false
  else match fld v 59 3 with
    | 0 => probeGrove (fld v 18 2) (fld v 10 8) sig a b
    | 1 => probeTile (fld v 18 2) sig a b
    | 2 => probeHub sig a b
    | 3 => decide (sig < 8) && b.hits.contains sig
    | _ => false

/-- Sample every enabled probe output after a command; a stretched 1 is held for at least 4 samples. -/
def sampleProbes (a b : Chip) : Chip :=
  let p := (List.range 16).filterMap (fun n =>
    let left := if probeSignal n a b then (if b.rbit .prbSel .hub n 62 then 4 else 1) else kget 0 b.hub.probes n - 1
    if b.rbit .prbSel .hub n 63 && decide (0 < left) then some (n, left) else none)
  if p == b.hub.probes then b else b.modHub (fun h => { h with probes := p })

end Sys2Proof.Machine
end

