-- ==== Sys2Proof/Machine/RunCtl.lean ====
section
/-!
DEFINITION. Run control (R569–R576): halts, releases and steps of groves, tiles and the management core.
-/
namespace Sys2Proof.Machine

/-- DBG_HALT_REQUEST (R569): a halt of a target is asked for; a target that is halted stays as it is. -/
def haltRequest : HaltTarget → Chip → Chip
  | .grove t g, c => if gpop g && !(c.grove t g).halted then c.modGrove t g (fun gr => { gr with haltReq := true }) else c
  | .tile t, c => c.modTile t (fun ti => { ti with haltReq := true })
  | .core, c => if c.hub.core.halted then c else c.modHub (fun h => { h with core := { h.core with haltReq := true } })

/-- HALT_TAKES_EFFECT (R569, R574): a halt that was asked for takes effect at a cycle boundary, after an acquisition in progress. -/
def haltEffect : HaltTarget → Chip → Chip
  | .grove t g, c => if (c.grove t g).haltReq && !(c.grove t g).halted then haltSoon t g c else c
  | .tile t, c => if (c.tile t).haltReq then haltTileSoon t (c.modTile t (fun ti => { ti with haltReq := false })) else c
  | .core, c => if c.hub.core.haltReq then haltCore c else c

/-- A halted grove moves again (R141, R569, R570): its budget is at least 1,024, and the completions held for it are delivered. -/
def resumeGrove (t g : Nat) (c : Chip) : Chip :=
  if !(c.grove t g).halted then c
  else
    let c := c.modGrove t g (fun gr => { gr with
      halted := false, haltReq := false, resumed := gr.run.isSome, run := gr.run.map (fun r => { r with budget := max 1024 r.budget }) })
    landHeld t g (wakeGrove t g c)

/-- The management core runs again: what its registers hold next is its own. -/
def resumeCore (steps : Nat) (c : Chip) : Chip :=
  if !c.hub.core.halted then c
  else thaw c.wdgFrozen (c.modHub (fun h => { h with core := { runs := h.core.runs + 1, stepLeft := steps } }))

/-- DBG_RELEASE (R569). -/
def release : HaltTarget → Chip → Chip
  | .grove t g, c => if (c.grove t g).halted then (gangMembers c t g).foldl (fun c g => resumeGrove t g c) c else c
  | .tile t, c => (c.tileGroves t).foldl (fun c g => resumeGrove t g c) c
  | .core, c => resumeCore 0 c

/-- DBG_STEP (R571, R584): a release for `n` cycles or instructions; ignored for a count of 0 or a target that is not halted. -/
def step_ (tgt : HaltTarget) (instr : Bool) (n : Nat) (c : Chip) : Chip :=
  let one (t g : Nat) (c : Chip) : Chip :=
    if (c.grove t g).halted then
      ((gangMembers c t g).foldl (fun c g => resumeGrove t g c) c).modGrove t g (fun gr => { gr with step := some (instr, n), resumed := false })
    else c
  if n = 0 then c
  else match tgt with
    | .grove t g => one t g c
    | .tile t => ((c.tileGroves t).filter (fun g => (c.grove t g).halted)).foldl (fun c g => one t g c) c
    | .core => resumeCore n c

/-- A step of a grove is spent (R571): in cycle mode its remaining cycles pass; in instruction mode it halts once no count is left. -/
def stepDoneGrove (t g : Nat) (d : Dev) : Dev :=
  match (d.chip.grove t g).step with
  | some (true, 0) => d.on (haltSoon t g)
  | some (false, n) => settleGrove t g (fun gr => !gr.halted) n d
  | _ => d

/-- STEP_COUNT_DONE (R571). -/
def stepDone : HaltTarget → Dev → Dev
  | .grove t g, d => stepDoneGrove t g d
  | .tile t, d => (d.chip.tileGroves t).foldl (fun d g => stepDoneGrove t g d) d
  | .core, d => if 0 < d.chip.hub.core.stepLeft then d.on haltCore else d

/-- A task that ends during a step commits, and the grove halts idle (R571). -/
def stepTaskEnd (t g : Nat) (c : Chip) : Chip :=
  if (c.grove t g).step.isSome && (c.grove t g).run.isNone then haltGrove t g c else c

/-- DBG_HALT_CMD (R584): op 0 halt, 1 release, 2 step; target 0 a grove, 1 every grove of a tile, 2 the management core. -/
def haltCmd (v : BitVec 64) (c : Chip) : Chip :=
  let t := fld v 8 2
  let g := fld v 0 8
  let tgt : Option HaltTarget := match fld v 60 2 with
    | 0 => if gpop g && decide (g < 188) then some (.grove t g) else none
    | 1 => some (.tile t)
    | 2 => some .core
    | _ => none
  match tgt, fld v 62 2 with
  | some x, 0 => haltRequest x c
  | some x, 1 => release x c
  | some x, 2 => step_ x (fld v 59 1 == 1) (fld v 32 16) c
  | _, _ => c

end Sys2Proof.Machine
end

