-- ==== Sys2Proof/Machine/Views.lean ====
section
/-!
DEFINITION. What registers read as (R6–R9): registers whose bits follow the machine's state, the views of a grove's banks (R163) and of a halted
grove (R572).
-/
namespace Sys2Proof.Machine

/-- The running task stalls in this cycle (R143): its slot stalls, or its next instruction waits or does not complete. -/
def seqStalled (c : Chip) (t g : Nat) : Bool :=
  let gr := c.grove t g
  match gr.run with
  | none => false
  | some r =>
    let w := imgInstr gr.runImg r.pc
    gr.frozen || (!gr.issued && (gr.seqBusy || (gr.canAct && decide (r.pc < imgN gr.runImg) && !(iBad (imgN gr.runImg) r.pc w) &&
      (seqWaits gr r w || seqStalls t g gr r w { chip := c }))))

/-- The state field of SEQ_STATUS (R143). -/
def statusCode (c : Chip) (t g : Nat) : Nat :=
  let gr := c.grove t g
  if gr.halted then 3 else if gr.run.isNone then 0 else if seqStalled c t g then 2 else 1

/-- SEQ_STATUS (R143). -/
def seqStatusView (c : Chip) (t g : Nat) : BitVec 64 :=
  let gr := c.grove t g
  match gr.run with
  | some r => mkReg [(33, 31, r.budget), (25, 8, gr.lastSig), (19, 6, gr.freeWin), (10, 9, r.depth), (5, 5, r.pc), (2, 3, r.slot), (0, 2, statusCode c t g)]
  | none => mkReg [(25, 8, gr.lastSig), (19, 6, gr.freeWin), (0, 2, statusCode c t g)]

/-- SEQ_SLOT_n (R171). -/
def seqSlotView (gr : Grove) (n : Nat) : BitVec 64 :=
  let s := gr.slot n
  let rank := ((List.range 8).filter (fun m => (gr.slot m).state != .empty && decide (s.recency < (gr.slot m).recency))).length
  let code := match s.state with
    | .empty => 0
    | .loading => 1
    | .ready => 2
    | .running => 3
    | .suspended => 4
    | .held => 5
  if s.state = .empty then mkReg [(63, 1, b2n s.frameValid)]
  else mkReg [(63, 1, b2n s.frameValid), (62, 1, b2n s.stale), (59, 3, code), (58, 1, b2n (imgKretain s.img)), (57, 1, b2n (imgSlotKeep s.img)), (54, 3, rank),
    (40, 8, imgFirebreak s.img), (16, 16, imgGen s.img), (0, 16, imgNumber s.img)]

/-- SEQ_BANK_MAP (R172). -/
def bankMapView (gr : Grove) : BitVec 64 :=
  gr.alloc.foldl (fun (v : BitVec 64) (p : Nat × BankAlloc) => setFld v (5 * p.1) 5 (16 + 8 * b2n p.2.committed + p.2.slot)) 0#64

/-- The state bits of SPM_PWR (R293). -/
def spmPwrView (c : Chip) (t g : Nat) : BitVec 64 :=
  (List.range 8).foldl (fun (v : BitVec 64) b => setFld v (16 + 2 * b) 2 (kget MemPwr.on (c.grove t g).spmPwr b).code) (c.reg .spmPwr (.grove t g))

/-- SCH_FREE (R213). -/
def schFreeView (ti : Tile) : BitVec 64 :=
  let n (p : DState → Bool) : Nat := (ti.descs.filter (fun x => p x.2.state)).length
  mkReg [(48, 13, n (fun s => s == .delayed)), (32, 13, n (fun s => s == .suspended || s == .resumable)), (16, 13, n (fun s => s == .placed || s == .running)),
    (0, 13, 4096 - n (fun s => s != .free))]

/-- SCH_DEPTH_p (R213). -/
def schDepthView (ti : Tile) (p : Nat) : BitVec 64 :=
  let n (s : DState) : Nat := (ti.descs.filter (fun x => x.2.state == s && x.2.prio == p)).length
  mkReg [(16, 13, n .flowwait), (0, 13, n .ready)]

/-- SCH_GROVE_n (R216): excl, suspect, load and disp are kept; busy, rsv and power follow the grove. -/
def schGroveView (c : Chip) (t g : Nat) : BitVec 64 :=
  let ti := c.tile t
  let gr := c.grove t g
  if !gpop g then 0#64
  else
    let busy := gr.occupied || ti.onGrove g (fun s => s == .placed || s == .resumable)
    let power := match gr.pwr with
      | .awake => 0
      | .gated => 1
      | .retention => 2
    setFld (setFld (setFld (c.reg .schGrove (.tile t) g) 61 1 (b2n busy)) 60 1 (b2n (khas ti.rsv g))) 58 2 power

/-- The state code of a task (R186). -/
def DState.code : DState → Nat
  | .free => 0
  | .delayed => 1
  | .ready => 2
  | .placed => 3
  | .running => 4
  | .suspended => 5
  | .resumable => 6
  | .flowwait => 7

/-- Word k of SCH_DESC_n (R185). -/
def schDescView (ti : Tile) (n k : Nat) : BitVec 64 :=
  let x := kget {} ti.descs n
  match k with
  | 0 => mkReg [(60, 4, x.state.code), (57, 3, x.prio), (55, 2, x.attempt), (54, 1, b2n x.grow), (52, 2, b2n x.post), (51, 1, b2n x.itemV),
      (50, 1, b2n x.gang.isSome), (42, 8, x.gang.getD 0), (37, 5, x.entry), (16, 16, x.ctx)]
  | 1 => mkReg [(48, 16, x.itemSeq), (32, 14, x.queue), (0, 24, x.flow.toNat)]
  | 2 => mkReg [(56, 8, x.grove.getD 255), (53, 3, x.slot), (40, 8, x.avoid.getD 255), (32, 8, x.tpl), (0, 32, x.deadline)]
  | _ => mkReg [(0, 32, x.rstamp)]

/-- GD7_CH_STAT_i (R322). -/
def chStatView (x : Chan) : BitVec 64 :=
  let code := match x.state with
    | .untrained => 0
    | .training => 1
    | .zerofill => 2
    | .ready => 3
    | .retraining => 4
    | .selfRefresh => 5
    | .down => 6
  mkReg [(61, 3, code), (59, 2, x.density), (52, 7, x.temp), (32, 10, x.outst)]

/-- A map of 64 queues by a condition (R271). -/
def queueMap (c : Chip) (t m : Nat) (p : Nat → Bool) : BitVec 64 :=
  (c.tile t).queues.foldl (fun (v : BitVec 64) (x : Nat × Queue) => if x.1 / 64 = m && p (4096 * t + x.1) then setFld v (x.1 % 64) 1 1 else v) 0#64

/-- DBG_HALTED_n (R584). -/
def haltedView (c : Chip) (n : Nat) : BitVec 64 :=
  (List.range 64).foldl (fun (v : BitVec 64) i => if (c.grove (n / 3) (64 * (n % 3) + i)).halted then setFld v i 1 1 else v) 0#64

/-- The bits of a register that a read returns: those of its fields, but not of fields that are written only (R8, R9). -/
def Reg.readMask (r : Reg) : BitVec 64 := r.fields.foldl (fun m f => if f.acc = .wo then m else setFld m f.lo f.wd (2 ^ f.wd - 1)) 0#64

/-- The value behind a register's fields. -/
def regRaw (c : Chip) (r : Reg) (s : Site) (i : Nat) : BitVec 64 :=
  match s with
  | .grove t g =>
    let gr := c.grove t g
    match r with
    | .seqStatus => seqStatusView c t g
    | .seqSlot => seqSlotView gr i
    | .seqBankMap => bankMapView gr
    | .seqAccCtl => mkReg [(1, 1, b2n gr.forcedSave)]
    | .spmPwr => spmPwrView c t g
    | _ => c.reg r s i
  | .tile t =>
    let ti := c.tile t
    match r with
    | .schFree => schFreeView ti
    | .schDepth => schDepthView ti i
    | .schGrove => schGroveView c t i
    | .schLock => c.lockView t i
    | .queStatus => c.qstatus (4096 * t + i)
    | .queLevel => c.qlevel (4096 * t + i)
    | .quePoolFree => c.qpoolFree t
    | .queStallMap => queueMap c t i (fun q => (c.queue q).stall)
    | .queFullMap => queueMap c t i (fun q => c.qfull q)
    | .cfgCnpSrc => match c.cnpSource t i with
      | some x => setFld (setFld (c.reg r s i) 8 8 x.1) 0 1 x.2
      | none => setFld (setFld (c.reg r s i) 8 8 0) 0 1 0
    | .tmbPwrSt => (List.range 32).foldl (fun (v : BitVec 64) j => setFld v (2 * j) 2 (kget MemPwr.on ti.tmbPwr (32 * i + j)).code) 0#64
    | .gd7ChStat => chStatView (c.chan t i)
    | _ => c.reg r s i
  | .hub =>
    match r with
    | .evtFwq => (fwqRead true c).1
    | .evtFwqCtl => setFld (c.reg r s i) 32 9 c.evt.fwq.length
    | .tbsNow => c.hub.time
    | .tbsAdj => mkReg [(62, 1, b2n (c.hub.slew != 0))]
    | .lnkStat => lnkStat c i
    | .d2dStat => d2dStat c i
    | .secStatus => secStatus c
    | .mbxHdr => mbxHdrView c i
    | .wdgStat => wdgStat c
    | .pwrTile => setFld (c.reg r s i) 58 2 (if (c.tile i).waking then 3 else if (c.tile i).pllOff then 2 else 0)
    | .uioIn => uioIn c
    | .dbgLevel => if c.development then setFld (c.reg r s i) 0 2 2 else c.reg r s i
    | .dbgCoreStat => mkReg [(63, 1, b2n c.hub.core.halted), (62, 1, b2n c.hub.core.caught), (0, 32, (Config.corePc c.hub.core.runs).toNat)]
    | .dbgHalted => haltedView c i
    | .dbgCoreReg => if c.hub.core.halted then kget (Config.coreReg c.hub.core.runs i) c.hub.core.regs i else 0#64
    | _ => c.reg r s i

/-- What a register reads as, without any read effect. -/
def regView (c : Chip) (r : Reg) (s : Site) (i : Nat) : BitVec 64 := regRaw c r s i &&& r.readMask

/-- The bank view of a grove (R163): register k of cell cN of bank b. -/
def bankView (gr : Grove) (o : Nat) : BitVec 64 := ((kget 0#35 gr.banks ((o - 0xC000) / 512 * 64 + o % 512 / 8)).setWidth 64)

/-- The view of a halted grove (R572). -/
def haltView (gr : Grove) (o : Nat) : BitVec 64 :=
  if !gr.halted then 0#64
  else if o < 0xE800 then
    let x := gr.cell ((o - 0xE600) / 32)
    match o % 32 / 8 with
    | 0 => x.out.setWidth 64
    | 1 => (x.par ++ x.flags).setWidth 64
    | 2 => x.acc0.val
    | _ => x.acc1.val
  else if gr.run.isSome then (kget 0#35 gr.curWin.regs ((o - 0xE800) / 8)).setWidth 64 else 0#64

/-- A 64-bit word of the register space without read effects; an unpopulated address reads 0 (R9). -/
def wordView (c : Chip) (a : Nat) : BitVec 64 :=
  match regAt a with
  | some (r, s, i) => regView c r s i
  | none =>
    match regionOf 0 a with
    | .groveReg t g o =>
      if 0xC000 ≤ o ∧ o < 0xD000 then bankView (c.grove t g) o
      else if (0xE600 ≤ o ∧ o < 0xE800) ∨ (0xE800 ≤ o ∧ o < 0xE840) then haltView (c.grove t g) o
      else 0#64
    | .tileReg t o => if 0x100000 ≤ o ∧ o < 0x120000 then schDescView (c.tile t) ((o - 0x100000) / 32) (o % 32 / 8) else 0#64
    | _ => 0#64

end Sys2Proof.Machine
end

