-- ==== Sys2Proof/Machine/RegWrite.lean ====
section
/-!
DEFINITION. Reads and writes of registers by a master: the access types of R7–R9, the masters a register admits, and the actions that writes of
particular registers start.
-/
namespace Sys2Proof.Machine

/-! ### Field by field -/

/-- A field takes a written value (R8). -/
def RField.put (f : RField) (locked : Bool) (v cur : BitVec 64) : BitVec 64 :=
  let x := fld v f.lo f.wd
  let ok := decide (f.mn ≤ x) && decide (x ≤ f.mx) && !(f.bad.contains x)
  match f.acc with
  | .rw => if ok then setFld cur f.lo f.wd x else cur
  | .rwl => if ok && !locked then setFld cur f.lo f.wd x else cur
  | .w1c => setFld cur f.lo f.wd (fld cur f.lo f.wd &&& (2 ^ f.wd - 1 - x))
  | .w1s => setFld cur f.lo f.wd (fld cur f.lo f.wd ||| x)
  | .ro | .rc | .wo => cur

/-- Write every field of a register by its access type; the lock is judged as it stood before the write. -/
def putReg (r : Reg) (s : Site) (i : Nat) (v : BitVec 64) (c : Chip) : Chip :=
  let locked := match r.lock with
    | some (l, b) => c.rbit l s (if l = r then i else 0) b
    | none => false
  c.setReg r s i (r.fields.foldl (fun cur f => f.put locked v cur) (c.reg r s i))

/-- What a 32-bit write keeps of the half it does not address: the fields that software sets, and the whole word of a register that holds one (R534, R584). -/
def keptHalf (c : Chip) (r : Reg) (s : Site) (i : Nat) : BitVec 64 :=
  match r with
  | .secExtData => c.reg r s i
  | .dbgCoreReg => kget 0#64 c.hub.core.regs i
  | _ => c.reg r s i &&& r.fields.foldl (fun m f => if f.acc = .rw || f.acc = .rwl then setFld m f.lo f.wd (2 ^ f.wd - 1) else m) 0#64

/-- A 32-bit write leaves the fields of the other half that software sets as they are, and starts nothing there (R7). DESIGN CHOICE (log 120): the
operands (WO) of an action that lie in the other half count as 0; the rule does not say what a half that carries go or op does to them. -/
def mergeHalf (c : Chip) (r : Reg) (s : Site) (i : Nat) (high : Bool) (w : BitVec 32) : BitVec 64 :=
  let half : BitVec 64 := if high then 0xFFFFFFFF00000000#64 else 0xFFFFFFFF#64
  (keptHalf c r s i &&& ~~~half) ||| (if high then (w.setWidth 64) <<< 32 else w.setWidth 64)

/-- The read effect: every RC field is cleared (R8). -/
def clearRC (r : Reg) (s : Site) (i : Nat) (c : Chip) : Chip :=
  if r.fields.any (fun f => f.acc == .rc) then
    c.setReg r s i (r.fields.foldl (fun cur f => if f.acc = .rc then setFld cur f.lo f.wd 0 else cur) (c.reg r s i))
  else c

/-! ### Who may write (R369, R433, R542, R560, R568, R584) -/

/-- Masters whose writes of a register take effect; the writes of others complete without effect. -/
def masterMay (m : Master) (r : Reg) : Bool :=
  match r with
  | .secExtCtl | .secExtData | .wdgFwCtl | .wdgFwSvc | .wdgDevCtl | .wdgDevSvc | .rstCfgJrnl | .dbgLevel => m == .core
  | .rstCtl | .rstGrove | .lnkFi | .lnkFiPat | .d2dFi | .d2dFiPat | .sprGmap => m == .core || m == .debug
  | _ => true

/-- The firebreak that contains a master (R37): none for the management core, the debug unit and the channels of an administrator. -/
def fbOf (m : Master) (c : Chip) : Option Nat :=
  match m with
  | .core | .debug => none
  | .grove t g => some (kget 0 (c.tile t).groveFb g)
  | .link n => some (c.rf .fabVl .hub n 40 8)
  | .host k => if c.chanAdmin k then none else some (c.chanFb k)

/-- A firebreak of the personality; one it does not define has no range. -/
def Chip.firebreak (c : Chip) (f : Nat) : FbInfo := kget ⟨false, false, 0#256, 0#64, []⟩ c.hub.firebreaks f

/-! ### Actions of tile and grove registers -/

/-- QUE_CTL_l (R269): flush, then close; close and reopen together are ignored. -/
def queCtlWrite (q : Nat) (v : BitVec 64) (c : Chip) : Chip :=
  if fld v 0 2 = 3 then c
  else
    let c := if fld v 2 1 = 1 then queueFlush q c else c
    let c := if fld v 1 1 = 1 then c.qclose q true else c
    if fld v 0 1 = 1 then c.qclose q false else c

/-- A write of CFG_CNP_SRC_n (R101, R111): ignored whole while the channel's gang runs or where it names an unpopulated grove; while locked it only
clears multi. A channel disabled by a fault stays so until the ranger's rewrite (R100). -/
def cnpWrite (t n : Nat) (v : BitVec 64) (c : Chip) : Chip :=
  let old := c.reg .cfgCnpSrc (.tile t) n
  if !(gpop (fld v 8 8)) || (fld old 63 1 == 1 && c.gangRuns t (fld old 16 8)) then c
  else if c.rbit .cfgCnpLock (.tile t) 0 0 then (if fld v 62 1 = 1 then c.setRf .cfgCnpSrc (.tile t) n 62 1 0 else c)
  else (putReg .cfgCnpSrc (.tile t) n v c).modTile t (fun ti => { ti with cnpUp := kdel ti.cnpUp n, cnp := kdel ti.cnp n })

/-- RGR_CTL (R488, R493): en starts and stops the ranger, restart begins its pass again. -/
def rgrCtlWrite (t : Nat) (v : BitVec 64) (c : Chip) : Chip :=
  let c := putReg .rgrCtl (.tile t) 0 v c
  let st := c.rf .rgrStat (.tile t) 0 62 2
  let on := c.rbit .rgrCtl (.tile t) 0 16
  let c := if on && st == 0 then c.setRf .rgrStat (.tile t) 0 62 2 1 else if !on && st == 1 then c.setRf .rgrStat (.tile t) 0 62 2 0 else c
  if fld v 63 1 = 1 then rangerRestart t true c else c

/-- SCH_POST (R182, R210): one post is taken, after one that an event made earlier. -/
def schPostWrite (t : Nat) (v : BitVec 64) (c : Chip) : Chip :=
  let p : PostReq := { tpl := fld v 24 8, delay := fld v 0 24 }
  if (kget [] c.evt.posts t).isEmpty && !(c.tile t).fifoFull then takePost t p c
  else { c with evt := { c.evt with posts := kset c.evt.posts t (kget [] c.evt.posts t ++ [p]) } }

/-- The requester that a command of the internal configuration port records (R478, R480): a firebreak, or 256 for one without limits. -/
def icpMaster (m : Master) (c : Chip) : Option Nat :=
  match m with
  | .core | .debug => some 256
  | .host _ => none
  | _ => (fbOf m c).bind (fun f => if (c.firebreak f).icp then some f else none)

/-- A write whose base or size is out of range: they stay, and the lock of the same write is taken (R176, R270). -/
def putLock (r : Reg) (s : Site) (i : Nat) (v : BitVec 64) (c : Chip) : Chip := putReg r s i (setFld (c.reg r s i) 0 1 (fld v 0 1)) c

/-- A write of a tile register. -/
def tileRegWrite (m : Master) (t : Nat) (r : Reg) (i : Nat) (v : BitVec 64) (d : Dev) : Dev :=
  let s : Site := .tile t
  match r with
  | .schPost => d.on (schPostWrite t v)
  | .schCancel => d.on (schCancel t v)
  | .schTick => d.on (schTickWrite t v)
  | .schHistCtl => d.on (histClear t v)
  | .queCfg => d.on (queCfgWrite (4096 * t + i) v)
  | .queTgt | .queSpill => if d.chip.qen (4096 * t + i) then d else d.on (putReg r s i v)
  | .queCtl => d.on (queCtlWrite (4096 * t + i) v)
  | .quePop | .schLock => d
  | .quePool =>
    if 512 < fld v 16 9 + fld v 32 9 then d.on (putLock r s i v) else d.on (putReg r s i v)
  | .queGd7 =>
    let a := fld v 8 28 * 2 ^ 20
    if a < gdBase ∨ gdBase + d.chip.gdCap < a + fld v 36 14 * 2 ^ 20 then d.on (putLock r s i v) else d.on (putReg r s i v)
  | .ctxSaveBase => if 33554432 < fld v 12 13 * 4096 + 294912 then d.on (putLock r s i v) else d.on (putReg r s i v)
  | .tmbCtl =>
    let c := putReg r s i v d.chip
    if c.rbit .tmbCtl s 0 1 = d.chip.rbit .tmbCtl s 0 1 then { d with chip := c } else tmbRemap t c d
  | .tmbPwr => d.on (tmbPwrWrite t i v)
  | .gd7TrainCtl => d.on (gd7TrainStart t v)
  | .cfgIcpCmd => match icpMaster m d.chip with
    | some f => d.on (icpWrite t (fld v 0 32) f)
    | none => d
  | .cfgCnpSrc => d.on (cnpWrite t i v)
  | .rgrCtl => d.on (rgrCtlWrite t v)
  | .evtSrcT => d.on (evtSrcWrite (.tile t i) v)
  | .schGrove => if gpop i then d.on (putReg r s i v) else d
  | _ => d.on (putReg r s i v)

/-- A write of a grove register. -/
def groveRegWrite (t g : Nat) (r : Reg) (i : Nat) (v : BitVec 64) (c : Chip) : Chip :=
  match r with
  | .seqCellMap => cellMapWrite t g v c
  | .seqAccCtl => if fld v 0 1 = 1 then forcedSaveReq t g c else c
  | .spmPwr => spmPwrWrite t g v c
  | .evtSrcG => evtSrcWrite (.grove t g i) v c
  | _ => putReg r (.grove t g) i v c

/-! ### Actions of hub registers -/

/-- SPR_SWAP_CTL (R373): a substitution starts or is aborted. -/
def swapCtlWrite (v : BitVec 64) (c : Chip) : Chip :=
  let c := if fld v 62 1 = 1 then swapAbort c else c
  if fld v 63 1 = 0 then c
  else match fld v 18 2 with
    | 0 => swapDirect (fld v 16 2) (fld v 8 4) (fld v 0 4) c
    | 1 => swapShift (fld v 16 2) (fld v 8 4) (fld v 0 4) c
    | _ => c

/-- LNK_CTL_p (R431). -/
def lnkCtlWrite (p : Nat) (v : BitVec 64) (c : Chip) : Chip :=
  let en := fld v 63 1 == 1
  let c := lnkEnable p en (putReg .lnkCtl .hub p (setFld v 63 1 (c.rf .lnkCtl .hub p 63 1)) c)
  let c := if fld v 62 1 = 1 then retrainReq p c else c
  let c := if fld v 61 1 = 1 then lnkDownReq p c else c
  if fld v 60 1 = 1 then moveReq p (fld v 57 3) (fld v 56 1 == 1) c else c

/-- D2D_CTL_m (R431). -/
def d2dCtlWrite (m : Nat) (v : BitVec 64) (c : Chip) : Chip :=
  let c := putReg .d2dCtl .hub m v c
  let c := if fld v 63 1 = 1 then retrainReq (16 + 2 * m) c else c
  if fld v 62 1 = 1 then moveReq (16 + 2 * m) (fld v 55 7) (fld v 54 1 == 1) c else c

/-- LNK_FI_p and D2D_FI_m (R427, R428, R433). -/
def fiWrite (r : Reg) (k i : Nat) (v : BitVec 64) (c : Chip) : Chip :=
  let c := putReg r .hub i v c
  if fld v 62 1 = 1 then fiShot k c else c

/-- RST_CTL (R556, R561). -/
def rstCtlWrite (v : BitVec 64) (d : Dev) : Dev :=
  if fld v 62 1 = 1 then d.reset (internalReset 9)
  else
    let d := (List.range 4).foldl (fun d t => if fld v t 1 = 1 then tileResetApply t d else d) d
    if fld v 63 1 = 1 then d.on (hubReset 8) else d

/-- RST_GROVE (R561). -/
def rstGroveWrite (v : BitVec 64) (c : Chip) : Chip :=
  if fld v 63 1 = 1 && gpop (fld v 0 8) && decide (fld v 0 8 < 188) then rstGrove (fld v 8 2) (fld v 0 8) c else c

/-- FAB_VL_n (R403, R408): clearing quar zeroes vcount. -/
def fabVlWrite (n : Nat) (v : BitVec 64) (c : Chip) : Chip :=
  let c := if fld v 62 1 = 1 then quarClear n c else c
  putReg .fabVl .hub n (setFld v 62 1 0) c

/-- DBG_LEVEL (R568, R584). -/
def dbgLevelWrite (v : BitVec 64) (c : Chip) : Chip :=
  if c.development then c
  else if fld v 0 2 = 3 then putReg .dbgLevel .hub 0 (setFld v 0 2 (c.rf .dbgLevel .hub 0 0 2)) c
  else putReg .dbgLevel .hub 0 v c

/-- A write of a hub register. -/
def hubRegWrite (r : Reg) (i : Nat) (v : BitVec 64) (d : Dev) : Dev :=
  match r with
  | .evtSrcH => d.on (evtSrcWrite (.hub i) v)
  | .sprSwapCtl => d.on (swapCtlWrite v)
  | .sprRowCtl => d.on (sprRowGo v)
  | .sprGmap => d.on (sprGmapWrite i v)
  | .fabVl => d.on (fabVlWrite i v)
  | .lnkCtl => d.on (lnkCtlWrite i v)
  | .d2dCtl => d.on (d2dCtlWrite i v)
  | .lnkFi => d.on (fiWrite r i i v)
  | .d2dFi => d.on (fiWrite r (16 + 2 * i) i v)
  | .tbsAdj => d.on (tbsAdjWrite v)
  | .mbxCmdBase => d.on (ringBase false i v)
  | .mbxRspBase => d.on (ringBase true i v)
  | .mbxCtl => d.on (mbxCtlWrite i v)
  | .mbxCmdDb => d.on (cmdDb i v)
  | .mbxRspDb => d.on (rspDb i v)
  | .secExtData => d.on (fun c => c.setReg r .hub i v)
  | .secExtCtl => d.on (secExtend v)
  | .rstCtl => rstCtlWrite v d
  | .rstGrove => d.on (rstGroveWrite v)
  | .pwrWake => d.on (pwrWake v)
  | .clkTile => d.on (clkTileWrite i v)
  | .wdgFwCtl => d.on (wdgCtlWrite false v)
  | .wdgDevCtl => d.on (wdgCtlWrite true v)
  | .wdgFwSvc => d.on (wdgFwSvc v)
  | .wdgDevSvc => d.on (wdgDevSvc v)
  | .dbgLevel => d.on (dbgLevelWrite v)
  | .dbgHaltCmd => d.on (haltCmd v)
  | .dbgCoreReg =>
    if d.chip.hub.core.halted then d.on (fun c => c.modHub (fun h => { h with core := { h.core with regs := kset h.core.regs i v } })) else d
  | .dbgWdgFreeze => d.on (fun c => thaw c.wdgFrozen (putReg r .hub i v c))
  | .uioOut | .uioOe => d.on (uioWrite r v)
  | .uioOutSet => d.on (uioSet v)
  | .uioOutClr => d.on (uioClr v)
  | .uioTrigAt => d.on (trigAtWrite i v)
  | _ => d.on (putReg r .hub i v)

/-- A 64-bit write of a register by a master (R8, R9, and the rule of each register). -/
def regWrite (m : Master) (r : Reg) (s : Site) (i : Nat) (v : BitVec 64) (d : Dev) : Dev :=
  if !(masterMay m r) then d
  else match s with
    | .tile t => tileRegWrite m t r i v d
    | .grove t g => d.on (groveRegWrite t g r i v)
    | .hub => hubRegWrite r i v d

/-- Registers whose action lies in the low half: a 32-bit write of the high half starts nothing (R7). -/
def Reg.lowAction (r : Reg) : Bool :=
  r == .schPost || r == .mbxCmdDb || r == .mbxRspDb || r == .cfgIcpCmd || r == .wdgFwSvc || r == .wdgDevSvc || r == .clkTile

/-- A write at a register address, of 8 or 4 bytes; an unpopulated address takes it without effect (R7, R9). -/
def wordWrite (m : Master) (a : Nat) (wide : Bool) (v : BitVec 64) (d : Dev) : Dev :=
  let high := a % 8 == 4 && !wide
  match regAt (a - a % 8) with
  | some (r, s, i) =>
    if wide then regWrite m r s i v d
    else if high && r.lowAction then d
    else regWrite m r s i (mergeHalf d.chip r s i high (v.setWidth 32)) d
  | none =>
    match regionOf 0 a with
    | .groveReg t g o => if 0xC000 ≤ o ∧ o < 0xD000 ∧ !high then d.on (bankWrite t g ((o - 0xC000) / 512) (o % 512 / 8) v) else d
    | _ => d

/-- A read at a register address: the 64-bit value, with the read effect unless the read is quiet; `none` while a pop must wait (R7, R8, R249, R567). -/
def wordRead (quiet : Bool) (a : Nat) (d : Dev) : Option (BitVec 64 × Dev) :=
  match regAt (a - a % 8) with
  | some (.quePop, .tile t, i) => if quiet then (popQuiet (4096 * t + i) d).map (fun v => (v, d)) else d.popNext (4096 * t + i)
  | some (.evtFwq, _, _) => let p := fwqRead quiet d.chip; some (p.1, { d with chip := p.2 })
  | some (r, s, i) => some (regView d.chip r s i, if quiet then d else d.on (clearRC r s i))
  | none => some (wordView d.chip (a - a % 8), d)

end Sys2Proof.Machine
end

