-- ==== Sys2Proof/Machine/Access.lean ====
section
/-!
DEFINITION. Requests to the address map from every master: firebreaks (R37, R461), the region that serves an address (R33–R36), the beats of a
request (R276, R395), statuses (R397), and what the comparators see of it (R577).
-/
namespace Sys2Proof.Machine

/-! ### Who may reach what -/

/-- The node of a master (R379); a request from Puhan-X is named by its packet's source instead. -/
def nodeOf (m : Master) : Nat :=
  match m with
  | .core => 0x811
  | .debug => 0x812
  | .grove t g => 512 * t + g
  | .link n => 0x800 + n / 256
  | .host _ => 0x810

/-- Every byte of the word at `a` lies in one range of a firebreak (R461). -/
def FbInfo.covers (f : FbInfo) (a : Nat) : Bool := f.ranges.any (fun r => decide (r.1 ≤ a) && decide (a + 3 ≤ r.2))

/-- A master may reach the word at an address (R37, R461, R478). -/
def mayReach (m : Master) (wr : Bool) (a : Nat) (c : Chip) : Bool :=
  match fbOf m c with
  | none => true
  | some n =>
    let f := c.firebreak n
    match regAt (a - a % 8) with
    | some (.cfgIcpCmd, _, _) => f.icp
    | some (.cfgIcpStat, _, i) => f.covers a || (f.icp && f.icpStage.getLsbD i && !wr)
    | _ => f.covers a

/-- A master may reach every word of a request. -/
def mayReachAll (m : Master) (wr : Bool) (a n : Nat) (c : Chip) : Bool := (List.range n).all (fun j => mayReach m wr (a + 4 * j) c)

/-- What serves an address: the remote window of the device's own number is served locally (R36). -/
def locate (c : Chip) (a : Nat) : Region :=
  match regionOf c.gdCap a with
  | .remote dv off => if c.idValid && dv == c.devId then regionOf c.gdCap off else .remote dv off
  | x => x

/-- The address that a request has inside the device. -/
def localAddr (c : Chip) (a : Nat) : Nat :=
  match regionOf c.gdCap a with
  | .remote dv off => if c.idValid && dv == c.devId then off else a
  | _ => a

/-- The tile whose interface takes a request for an address. -/
def Region.tile? : Region → Option Nat
  | .tileReg t _ => some t
  | .groveReg t _ _ => some t
  | .spad t _ _ => some t
  | .tmem t _ => some t
  | .ctxView t _ _ => some t
  | .gddr o => some (gdChan o).1
  | _ => none

/-- The tile of a place. -/
def Site.tile? : Site → Option Nat
  | .hub => none
  | .tile t => some t
  | .grove t _ => some t

/-- The grove that a master is. -/
def groveOf : Master → Option (Nat × Nat)
  | .grove t g => some (t, g)
  | _ => none

/-- A tile that cannot answer: its modules are down, its clock stands, or it is off in a bare device. -/
def tileDead (c : Chip) (t : Nat) : Bool := c.tileCut t || c.rbit .clkStat .hub 0 t || (c.tile t).pllOff

/-! ### One beat -/

/-- One access of 4 or 8 bytes. -/
structure Beat where
  a : Nat
  op : MemOp
  wide : Bool
  lo : TWord := 0#35
  hi : TWord := 0#35
  deriving DecidableEq, Repr

/-- A scratchpad beat through port B, repeated after each BUSY_B (R277). -/
def spadBeat (t g : Nat) (ecc : Ecc) : Nat → PortB → Dev → AccessOut × Dev
  | 0, p, d =>
    let r := portBTry t g p ecc (tickTile t (d.on (fun c => c.modGrove t g (fun gr => { gr with bFirst := some (spBank p.addr) }))))
    (r.1, r.2.2)
  | n + 1, p, d =>
    let r := portBTry t g p ecc d
    if r.2.1 then spadBeat t g ecc n { p with tries := p.tries + 1 } (if n = 0 then r.2.2 else tickTile t r.2.2) else (r.1, r.2.2)

/-- An image of the context cache as memory (R33, R152): entry i, byte offset o. -/
def cacheWord (c : Chip) (t i o : Nat) : TWord :=
  match kfind? (c.tile t).cache i with
  | some e => tword (BitVec.ofNat 32 (imgBits e.img (8 * (o - o % 4)) 32))
  | none => tword 0#32

/-- Serve one beat (R33–R35, R276, R280, R311). A register takes no atomic operation. -/
def serveBeat (m : Master) (src : Nat) (quiet : Bool) (b : Beat) (ecc : Ecc) (d : Dev) : AccessOut × Dev :=
  let unmapped (d : Dev) : AccessOut × Dev := ({ st := 1 }, d.on (fun c => raise (.hub 6) src (c.bump .fabUnmappedCnt .hub)))
  let dead (r : AccessOut × Dev) : AccessOut × Dev := if r.1.st = 1 then unmapped r.2 else r
  let split (v : BitVec 64) : TWord × TWord :=
    if b.wide then (tword (v.extractLsb' 0 32), tword (v.extractLsb' 32 32))
    else (tword (v.extractLsb' (if b.a % 8 = 4 then 32 else 0) 32), 0#35)
  let reg (a : Nat) : AccessOut × Dev :=
    match b.op with
    | .read =>
      match wordRead quiet a d with
      | none => ({ waits := true }, d)
      | some (v, d) => ({ lo := (split v).1, hi := (split v).2 }, d)
    | .write => ({}, wordWrite m a b.wide (TWord.data b.hi ++ TWord.data b.lo) d)
    | _ => ({ st := 10 }, d)
  match locate d.chip b.a with
  | .hubReg _ | .tileReg _ _ | .groveReg _ _ _ => reg (localAddr d.chip b.a)
  | .spad t g o => dead (spadBeat t g ecc 16 { op := b.op, addr := o, wide := b.wide, lo := b.lo, hi := b.hi, tries := 0, src := src } (portBRepeats t g 40 d))
  | .tmem t o => dead (tmemAccess t o .network b.op b.wide b.lo b.hi ecc d)
  | .ctxView t i o =>
    match b.op with
    | .read => ({ lo := cacheWord d.chip t i o, hi := if b.wide then cacheWord d.chip t i (o + 4) else 0#35 }, d)
    | .write => ({}, d)
    | _ => ({ st := 10 }, d)
  | .gddr o => gddrAccess o b.op b.wide b.lo b.hi ecc d
  | .unpopulated => if b.op = .read then ({ lo := tword 0#32, hi := tword 0#32 }, d) else if b.op = .write then ({}, d) else ({ st := 10 }, d)
  | .remote _ _ | .unmapped => unmapped d

/-! ### A whole request -/

/-- A request: operation, first address (a multiple of 4), words (those written, or how many are read) and byte enables of the first and last word. -/
structure Req where
  op : MemOp
  a : Nat
  n : Nat
  ws : List TWord := []
  fbe : Nat := 15
  lbe : Nat := 15
  deriving DecidableEq, Repr

/-- The byte enables of word j. -/
def Req.be (r : Req) (j : Nat) : Nat := if j = 0 then r.fbe else if j + 1 = r.n then r.lbe else 15

/-- What serving a request gave: the status of its first beat that failed, the words read, or that it must wait. -/
structure ReqOut where
  st : Nat := 0
  ws : List TWord := []
  waits : Bool := false
  deriving DecidableEq, Repr

/-- Serve the words of a request from word j on, in address order: aligned pairs as beats of 8 bytes, whole GDDR7 blocks at once. -/
def serveWords (m : Master) (src : Nat) (quiet : Bool) (r : Req) (ecc : Ecc) : Nat → Nat → ReqOut → Dev → ReqOut × Dev
  | 0, _, o, d => (o, d)
  | k + 1, j, o, d =>
    if r.n ≤ j || o.st != 0 || o.waits then (o, d)
    else
      let a := r.a + 4 * j
      let w (i : Nat) : TWord := r.ws.getD i 0#35
      let e : Ecc := if j = 0 then ecc else .ok
      let la := localAddr d.chip a
      let full (n : Nat) : Bool := (List.range n).all (fun i => r.be (j + i) == 15)
      if r.op = .write && decide (gdBase ≤ la) && la % 64 == 0 && decide (j + 16 ≤ r.n) && full 16 then
        match locate d.chip a with
        | .gddr off =>
          if d.chip.gdDown off then ({ o with st := 3 }, d)
          else
            let ws := ((List.range 16).map (fun i => w (j + i))).map (fun x => if TWord.bad x then poisoned (TWord.data x) else x)
            serveWords m src quiet r ecc k (j + 16) o (d.wrBlock la ws)
        | _ => ({ o with st := 1 }, d)
      else
        let wide := la % 8 == 0 && decide (j + 2 ≤ r.n) && full 2
        let old := if r.op = .write && !wide && r.be j != 15 then d.rd32 la else 0#35
        let b : Beat := { a := a, op := r.op, wide := wide, lo := mergeWord (r.be j) old (w j), hi := if wide then w (j + 1) else 0#35 }
        let x := serveBeat m src quiet b e d
        if x.1.waits then ({ o with waits := true }, x.2)
        else if x.1.st != 0 then ({ o with st := x.1.st }, x.2)
        else serveWords m src quiet r ecc k (if wide then j + 2 else j + 1) { o with ws := o.ws ++ (if wide then [x.1.lo, x.1.hi] else [x.1.lo]) } x.2

/-- A GDDR7 channel that the request needs is neither ready nor down, or has 512 transactions outstanding: the request waits (R303, R310, R315). -/
def gddrWaits (r : Req) (c : Chip) : Bool :=
  (List.range r.n).any (fun j =>
    match locate c (r.a + 4 * j) with
    | .gddr o =>
      let x := c.chan (gdChan o).1 (gdChan o).2
      match x.state with
      | .ready => decide (512 ≤ x.outst)
      | .down => false
      | _ => true
    | _ => false)

/-- The tiles whose interfaces take the words of a request, each once: the blocks of a GDDR7 request lie in several (R31, R305). -/
def Req.tiles (r : Req) (c : Chip) : List Nat := ((List.range r.n).filterMap (fun j => (locate c (r.a + 4 * j)).tile?)).foldl (fun l t => if l.contains t then l else l ++ [t]) []

/-- The GDDR7 blocks that a request transfers, as window offsets, each once. -/
def Req.blocks (r : Req) (c : Chip) : List Nat :=
  ((List.range r.n).filterMap (fun j => match locate c (r.a + 4 * j) with
    | .gddr o => some (o - o % 64)
    | _ => none)).foldl (fun l o => if l.contains o then l else l ++ [o]) []

/-- A request waits while it reaches the scratchpad or the registers of a grove that a swap copies (R363). -/
def copyWaits (r : Req) (c : Chip) : Bool :=
  (List.range r.n).any (fun j => match locate c (r.a + 4 * j) with
    | .spad t g _ | .groveReg t g _ => c.copying t g
    | _ => false)

/-- Serve a request inside the device (R33–R37, R397): the sleeping tiles that it needs wake first (R31, R550), and a tile that cannot answer lets it time
out. -/
def serveReq (m : Master) (src : Nat) (quiet : Bool) (r : Req) (ecc : Ecc) (d0 : Dev) : ReqOut × Dev :=
  let d := d0.on (fun c => (r.tiles c).foldl (fun c t => wakeFor t c) c)
  if (r.tiles d.chip).any (tileDead d.chip) then ({ st := 7 }, d)
  else if gddrWaits r d.chip || copyWaits r d.chip then ({ waits := true }, d0)
  else
    let p := serveWords m src quiet r ecc (r.n + 1) 0 {} d
    if p.1.waits then ({ waits := true }, d0)
    else
      let p := (p.1, p.2.on (fun c => (r.blocks c).foldl (fun c o => gddrIssue o (r.op != .read) c) c))
      let die := ((locate d.chip r.a).tile?).getD 4
      let x := TWord.data (if r.op = .read then p.1.ws.headD 0#35 else r.ws.headD 0#35)
      let o : Obs := { kind := 2, die := die, wr := r.op != .read, addr := localAddr d.chip r.a, data := x, who := groveOf m }
      (if p.1.st = 0 then p.1 else { p.1 with ws := [] }, p.2.on (fun c => c.see o))

end Sys2Proof.Machine
end

