-- ==== Sys2Proof/Machine/Remote.lean ====
section
/-!
DEFINITION. Requests that leave the device (R36, R380, R398), memory packets from Puhan-X (R395), the reads and writes of groves (R128, R129), and
the mailbox commands that reach memory (R510, R511).
-/
namespace Sys2Proof.Machine

/-! ### The remote-request table (R380, R398) -/

/-- How a request toward another device fares: it fails with a status, waits for room or a tag, or has left. -/
inductive Sent where
  | fail (st : Nat)
  | wait
  | sent (c : Chip)

/-- Tags that timed out more than 20 ms ago are free again (R398). -/
def pruneLate (c : Chip) : Chip :=
  c.modHub (fun h => { h with remote := h.remote.filter (fun (r : RemReq) => !(r.late && decide (r.since + 20000000 < h.time.toNat))) })

/-- Forget the oldest posted write of a kind: its tag serves a new request. -/
def dropPosted (p : RemReq → Bool) : List RemReq → List RemReq
  | [] => []
  | r :: l => if r.posted && p r then l else r :: dropPosted p l

/-- The packet type of an operation (R386). -/
def opType : MemOp → Nat
  | .read => 0x08
  | .write => 0x02
  | .fadd => 0x09
  | .swap => 0x0A

/-- Send a request to another device (R36, R380): unassigned or cut off, it fails with UNREACH, and with QUAR on a quarantined link. -/
def sendRemote (who : Requester) (r : Req) (dv off : Nat) (c0 : Chip) : Sent :=
  let c := pruneLate c0
  match c.route dv with
  | none => .fail 2
  | some (port, vl) =>
    if c.portDown port || c.hub.bare then .fail 2
    else if c.linkHeld port vl then .fail 9
    else
      let free (l : List RemReq) : Option Nat := (List.range 1024).find? (fun t => !(l.any (fun x => x.ep == dv && x.tag == t)))
      let l0 := c.hub.remote
      let l1 := if (free l0).isSome then l0 else dropPosted (fun x => x.ep == dv) l0
      let l := if l1.length < 4096 then l1 else dropPosted (fun _ => true) l1
      match free l with
      | none => .wait
      | some tag =>
        if 4096 ≤ l.length then .wait
        else
          let e : RemReq := { ep := dv, tag := tag, who := who, words := r.n, posted := r.op == .write, since := c.hub.time.toNat }
          let lbe := if r.n = 1 then 0 else r.lbe
          .sent (sendPacket port vl (opType r.op) tag r.n dv [(74, 4, r.fbe), (78, 4, lbe), (82, 46, off / 4)] (if r.op = .read then [] else r.ws)
            (c.modHub (fun h => { h with remote := l ++ [e] })))

/-- A requester gives up: the completions of its requests find nobody. -/
def abandon (p : Requester → Bool) (c : Chip) : Chip :=
  c.modHub (fun h => { h with remote := h.remote.map (fun (r : RemReq) => if p r.who && !r.late then { r with who := .nobody } else r) })

/-- A requester has a request outstanding toward another device. -/
def Chip.outstanding (c : Chip) (p : Requester → Bool) : Bool := c.hub.remote.any (fun r => p r.who && !r.late)

/-- PUHAN_CPL (R380, R397, R398, R402): matched by endpoint and tag; late ones are counted, a stranger or an inconsistent one is a violation. -/
def puhanCpl (p : Packet) (c0 : Chip) : Chip :=
  let r := arrive p (pruneLate c0)
  match r.1 with
  | .drop => r.2
  | .accept =>
    let c := r.2
    match c.hub.remote.find? (fun x => x.ep == p.src && x.tag == p.tag && !(p.f 74 4 == 11 && (drainOf c p (fun _ => true)).isSome)) with
    | none => match (if p.type = 0x10 then drainOf c p (fun q => (kget {} c.hub.drains q).used) else none) with
      | some q => drainAnswer q (p.f 74 4) c
      | none => violate p 10 c
    | some x =>
      if x.late then c.bump .fabLateCnt .hub
      else
        let st := p.f 74 4
        let good := p.f 78 29 == 0 && (if p.type = 0x11 then st == 0 && !x.posted && p.len == x.words else st != 0 && decide (st < 12))
        let c := c.modHub (fun h => { h with remote := h.remote.erase x })
        if good then remoteDone x st p.words c else remoteDone x 6 [] (violate p 10 c)

/-- REQUEST_TIMEOUT (R398): the requester is told TIMEOUT; an entry of the remote-request table keeps its tag, counted, for 20 ms. -/
def requestTimeout (q : ReqRef) (c : Chip) : Chip :=
  match q with
  | .mrd t g tag =>
    if ((c.grove t g).mrd? tag).isSome && !((c.grove t g).landHeld.any (fun x => x.1 == tag)) then
      mrdLand t g tag (.error 7) (abandon (fun w => w == .mrd t g tag) c)
    else c
  | .remote ep tag =>
    match c.hub.remote.find? (fun x => x.ep == ep && x.tag == tag && !x.late && !x.posted) with
    | none => c
    | some x =>
      let c := c.modHub (fun h => { h with remote := h.remote.map (fun (r : RemReq) => if r = x then { r with late := true, since := h.time.toNat } else r) })
      remoteDone x 7 [] (c.bump .fabTimeoutCnt .hub)
  | .debug =>
    if c.hub.dbg.pend.isSome && c.hub.dbg.result.isNone then
      (abandon (fun w => w == .debug false) c).modHub (fun h => { h with dbg := { h.dbg with result := some (7, 0#64) } })
    else c

/-! ### Memory packets from Puhan-X (R395, R402, R473) -/

/-- A memory request that arrives; `keep` is the device with the packet still waiting. -/
def puhanMem (p : Packet) (ecc : Ecc) (keep d0 : Dev) : Dev :=
  let op : MemOp := match p.type with
    | 0x02 => .write
    | 0x09 => .fadd
    | 0x0A => .swap
    | _ => .read
  let r := arrive p d0.chip
  let d : Dev := { d0 with chip := r.2 }
  match r.1 with
  | .drop => d
  | .accept =>
    let a := 4 * p.f 82 46
    let n := p.len
    let m : Master := .link p.vl
    let isReg := decide (a < 0x1000000000)
    let q : Req := { op := op, a := a, n := n, ws := p.words, fbe := p.f 74 4, lbe := p.f 78 4 }
    if isReg && !(d.chip.rbit .fabVl .hub p.vl 5) then d.on (fun c => answerViol p 5 (violate p 6 c))
    else if isReg && (decide (2 < n) || (n == 2 && a % 8 != 0) || q.fbe != 15 || (n == 2 && q.lbe != 15)) then d.on (fun c => answerViol p 6 (violate p 4 c))
    else if !(mayReachAll m (op != .read) a n d.chip) then d.on (fun c => answerViol p 5 (violate p 6 c))
    else
      let heldTile := match (regionOf d.chip.gdCap a).tile? with
        | some t => d.chip.hub.held.contains t && (match regionOf d.chip.gdCap a with
          | .gddr _ => false
          | _ => true)
        | none => false
      if heldTile then d.on (complete p 2)
      else
        let x := serveReq m p.src false q ecc d
        if x.1.waits then keep
        else if x.1.st != 0 then x.2.on (complete p x.1.st)
        else if op = .write then x.2
        else x.2.on (answerTo p 0x11 n [(74, 4, 0)] x.1.ws)

/-! ### Groves -/

/-- An MRD of a grove toward another device leaves for it, once; else nothing happens yet. -/
def sendMrd (t g tag a : Nat) (c : Chip) : Sent :=
  match locate c a with
  | .remote dv off => sendRemote (.mrd t g tag) { op := .read, a := a, n := 1, lbe := 0 } dv off c
  | _ => .wait

/-- SEQ_MRD (R128): its instruction issues, and a read of another device leaves at once where it can. -/
def seqMrd (t g : Nat) (u : SeqUpset) (d0 : Dev) : Dev :=
  let tag := (d0.chip.grove t g).mrdTag
  let d := seqIssue 0x32 t g u d0
  match (if (d.chip.grove t g).mrdTag = tag then none else (d.chip.grove t g).mrd? tag) with
  | none => d
  | some (_, m) =>
    if !(mayReach (.grove t g) false m.addr d.chip) then d
    else match sendMrd t g tag m.addr d.chip with
      | .sent c => { d with chip := c }
      | _ => d

/-- MRD_COMPLETION (R128): the read of a grove is served and its word lands, or its error does; one toward another device waits for its packet. -/
def mrdComplete (t g tag : Nat) (ecc : Ecc) (d : Dev) : Dev :=
  match (d.chip.grove t g).mrd? tag with
  | none => d
  | some (_, m) =>
    if (d.chip.grove t g).landHeld.any (fun x => x.1 == tag) || d.chip.outstanding (fun w => w == .mrd t g tag) then d
    else if !(mayReach (.grove t g) false m.addr d.chip) then d.on (mrdLand t g tag (.error 5))
    else match locate d.chip m.addr with
      | .remote _ _ =>
        match sendMrd t g tag m.addr d.chip with
        | .fail st => d.on (mrdLand t g tag (.error st))
        | .sent c => { d with chip := c }
        | .wait => d
      | _ =>
        let x := serveReq (.grove t g) (nodeOf (.grove t g)) false { op := .read, a := m.addr, n := 1 } ecc d
        if x.1.waits then d
        else if x.1.st != 0 then x.2.on (mrdLand t g tag (.error x.1.st))
        else x.2.on (mrdLand t g tag (.ok (x.1.ws.headD 0#35)))

/-- One buffered write of a grove is issued (R129): served in the device, sent to another one, or answered with an error; `none` while it waits. -/
def issueMwr (w : Nat × Nat × Nat × Nat × TWord) (d : Dev) : Option Dev :=
  let t := w.1
  let g := w.2.1
  let tag := w.2.2.1
  let a := w.2.2.2.1
  let err (st : Nat) (d : Dev) : Dev := d.on (fun c => c.modHub (fun h => { h with mwrErr := h.mwrErr ++ [(t, g, tag, st)] }))
  let r : Req := { op := .write, a := a, n := 1, ws := [w.2.2.2.2] }
  if !(mayReach (.grove t g) true a d.chip) then some (err 5 d)
  else match locate d.chip a with
    | .remote dv off =>
      match sendRemote (.mwr t g tag) r dv off d.chip with
      | .fail st => some (err st d)
      | .wait => none
      | .sent c => some { d with chip := c }
    | _ =>
      let x := serveReq (.grove t g) (nodeOf (.grove t g)) false r .ok d
      if x.1.waits then none else if x.1.st != 0 then some (err x.1.st x.2) else some x.2

/-- Issue the writes that wait, in order; one that must still wait holds the later ones of its grove (R128, R129). -/
def drainMwr : List (Nat × Nat × Nat × Nat × TWord) → List (Nat × Nat) → Dev → Dev
  | [], _, d => d
  | w :: l, blocked, d =>
    let keep (d : Dev) : Dev := d.on (fun c => c.modHub (fun h => { h with mwrOut := h.mwrOut ++ [w] }))
    if blocked.contains (w.1, w.2.1) then drainMwr l blocked (keep d)
    else match issueMwr w d with
      | some d => drainMwr l blocked d
      | none => drainMwr l (blocked ++ [(w.1, w.2.1)]) (keep d)

/-- Issue what can be issued of the buffered writes. -/
def flushMwr (d : Dev) : Dev := drainMwr d.chip.hub.mwrOut [] (d.on (fun c => c.modHub (fun h => { h with mwrOut := [] })))

/-- TASK_COMMIT (R29, R95, R129): the commit cycle; its buffered writes take their tags and leave in order. A task that ends a step halts its grove (R571). -/
def commitTask (t g : Nat) (d0 : Dev) : Dev :=
  let gs := gangMembers d0.chip t g
  let r := taskCommit t g d0
  let tagged := (r.2.foldl (fun (acc : KMap Nat × List (Nat × Nat × Nat × Nat × TWord)) (w : Nat × Nat × TWord) =>
    let k := kget (d0.chip.grove t w.1).mwrTag acc.1 w.1
    (kset acc.1 w.1 (k + 1), acc.2 ++ [(t, w.1, k, w.2.1, w.2.2)])) ([], [])).2
  let d := flushMwr (r.1.on (fun c => c.modHub (fun h => { h with mwrOut := h.mwrOut ++ tagged })))
  d.on (fun c => gs.foldl (fun c g => stepTaskEnd t g c) c)

/-- MWR_ERROR_COMPLETION (R129): the oldest error completion on its way to a grove arrives; a halted grove's waits. -/
def mwrErrorArrives (t g : Nat) (c : Chip) : Chip :=
  if (c.grove t g).halted then c
  else match c.hub.mwrErr.find? (fun x => x.1 == t && x.2.1 == g) with
    | none => c
    | some x => mwrError t g x.2.2.1 x.2.2.2 (c.modHub (fun h => { h with mwrErr := h.mwrErr.erase x }))

/-! ### Register accesses of a master -/

/-- A register of a channel's page in BAR0, by channel (R37, R501, R518). -/
def pageReg (a : Nat) : Option Nat :=
  match regAt (a - a % 8) with
  | some (.mbxHdr, _, k) | some (.mbxCmdBase, _, k) | some (.mbxRspBase, _, k) | some (.mbxCtl, _, k) | some (.mbxCmdDb, _, k)
  | some (.mbxRspDb, _, k) | some (.mbxStat, _, k) => some k
  | _ => none

/-- Whether a register access of a master is admitted (R37, R408): the host reaches the pages of its channels alone, and a link that is enabled needs reg
beside the permission to read or to write memory. -/
def mayAccess (m : Master) (wr : Bool) (a n : Nat) (c : Chip) : Bool :=
  match m with
  | .host k => pageReg a == some k && c.rbit .pciLinkStat .hub 0 63 && c.fnOn (c.chanFn k)
  | .link v => c.rbit .fabVl .hub v 63 && c.rbit .fabVl .hub v 5 && (permBit (opType (if wr then .write else .read))).all (c.rbit .fabVl .hub v) && mayReachAll m wr a n c
  | _ => mayReachAll m wr a n c

/-- A read of a register by a master, answered with its status and value. -/
def regReadCmd (m : Master) (a : Nat) (wide : Bool) (d : Dev) : Dev :=
  let n := if wide then 2 else 1
  let a := a - a % (4 * n)
  if !(mayAccess m false a n d.chip) then d.on (fun c => c.answer a 5 0#64)
  else match locate d.chip a with
    | .remote dv off =>
      match sendRemote .core { op := .read, a := a, n := n } dv off d.chip with
      | .fail st => d.on (fun c => c.answer a st 0#64)
      | .wait => d
      | .sent c => { d with chip := c }
    | _ =>
      let x := serveReq m (nodeOf m) false { op := .read, a := a, n := n } .ok d
      if x.1.waits then d
      else x.2.on (fun c => c.answer a x.1.st (TWord.data (x.1.ws.getD 1 0#35) ++ TWord.data (x.1.ws.headD 0#35)))

/-- A write of a register by a master; it is answered only when it fails (R386). -/
def regWriteCmd (m : Master) (a : Nat) (wide : Bool) (v : BitVec 64) (d : Dev) : Dev :=
  let n := if wide then 2 else 1
  let a := a - a % (4 * n)
  let ws := (if wide then [v.extractLsb' 0 32, v.extractLsb' 32 32] else [v.extractLsb' 0 32]).map tword
  if !(mayAccess m true a n d.chip) then d.on (fun c => c.answer a 5 0#64)
  else match locate d.chip a with
    | .remote dv off =>
      match sendRemote .core { op := .write, a := a, n := n, ws := ws } dv off d.chip with
      | .fail st => d.on (fun c => c.answer a st 0#64)
      | .wait => d
      | .sent c => { d with chip := c }
    | _ =>
      let x := serveReq m (nodeOf m) false { op := .write, a := a, n := n, ws := ws } .ok d
      if x.1.waits then d else if x.1.st != 0 then x.2.on (fun c => c.answer a x.1.st 0#64) else x.2

/-- A master's 64-bit write of a named register of the device (R8, R37, R550): refused with PERM, lost with TIMEOUT at a tile that cannot answer. -/
def namedWrite (m : Master) (r : Reg) (s : Site) (i : Nat) (v : BitVec 64) (d0 : Dev) : Dev :=
  let a := r.addr s i
  if !(mayAccess m true a 2 d0.chip) then d0.on (fun c => c.answer a 5 0#64)
  else if (match s with
    | .grove t g => d0.chip.copying t g
    | _ => false) then d0
  else
    let d := match s.tile? with
      | some t => d0.on (wakeFor t)
      | none => d0
    let gone := match s.tile? with
      | some t => tileDead d.chip t
      | none => false
    if gone then d.on (fun c => c.answer a 7 0#64)
    else
      let o : Obs := { kind := 2, die := s.tile?.getD 4, wr := true, addr := a, data := v.extractLsb' 0 32, who := groveOf m }
      (regWrite m r s i v d).on (fun c => c.see o)

/-- A master's write that gives some fields of a register values and writes the others back as they read. -/
def fieldWrite (m : Master) (r : Reg) (s : Site) (i : Nat) (fs : List (Nat × Nat × Nat)) (d : Dev) : Dev :=
  namedWrite m r s i (fs.foldl (fun v f => setFld v f.1 f.2.1 f.2.2) (r.fields.foldl (fun (v : BitVec 64) f =>
    if f.acc = .rw || f.acc = .rwl then setFld v f.lo f.wd (d.chip.rf r s i f.lo f.wd) else v) 0#64)) d

/-- The host writes a register of page `pg` of a function (R499, R501). -/
def hostWrites (fn pg : Nat) (f : Nat → Chip → Chip) (c : Chip) : Chip :=
  if c.rbit .pciLinkStat .hub 0 63 then (match pageChan c fn pg with
    | some k => f k c
    | none => c) else c

/-! ### Mailbox commands (R510, R511) -/

/-- COUNTER_READ: up to 64 registers, each with its read effects. -/
def counterRead (k : Nat) : Dev → Dev := serve 0x52 k (fun m d =>
  let n := m.data.length / 8
  let as := (List.range n).map (fun i => leAt m.data (8 * i) 8)
  if n = 0 ∨ 64 < n ∨ m.data.length % 8 ≠ 0 ∨ as.any (fun a => a % 8 != 0 || decide (0x1000000000 ≤ a)) then .done 0x8003 [] [] d
  else if 64 * m.rslots < 32 + 8 * n then .done 0x8008 [] [] d
  else
    let x := as.foldl (fun (acc : ReqOut × Dev) a =>
      if acc.1.st != 0 || acc.1.waits then acc
      else
        let y := serveReq (.host k) 0x810 false { op := .read, a := a, n := 2 } .ok acc.2
        ({ y.1 with ws := acc.1.ws ++ y.1.ws }, y.2)) ({}, d)
    if x.1.waits then .wait
    else if x.1.st != 0 then .done 0x800C [] [BitVec.ofNat 8 x.1.st] x.2
    else .done 0 (x.1.ws.flatMap (fun w => bytesOf (TWord.data w).toNat 4)) [] x.2)

/-- A register must be accessed as one naturally aligned 8-byte access (R511). -/
def regForm (c : Chip) (a nb : Nat) : Bool :=
  let off := match regionOf c.gdCap a with
    | .remote _ off => off
    | _ => a
  decide (off < 0x1000000000) && !(a % 8 == 0 && nb == 8)

/-- The requests of up to 64 words that carry `n` words: first word and count. -/
def chunks (n : Nat) : List (Nat × Nat) := (List.range ((n + 63) / 64)).map (fun i => (64 * i, min 64 (n - 64 * i)))

/-- The data of a memory read: the words, then their poison mask. -/
def wordsAndMask (ws : List TWord) : List Byte :=
  ws.flatMap (fun w => bytesOf (TWord.data w).toNat 4) ++ (List.range ((ws.length + 31) / 32)).flatMap (fun j =>
    bytesOf ((List.range 32).foldl (fun a i => a + b2n (TWord.isPoison (ws.getD (32 * j + i) 0#35)) * 2 ^ i) 0) 4)

/-- MEM_READ: words of memory or of a register, here or in another device. -/
def memRead (k : Nat) : Dev → Dev := serve 0x53 k (fun m d =>
  let a := m.p 16 8
  let nb := m.p 24 2
  let n := (nb + 3) / 4
  if nb < 4 ∨ 3840 < nb ∨ a % 4 ≠ 0 ∨ 4096 < a % 4096 + 4 * n ∨ regForm d.chip a nb then .done 0x8003 [] [] d
  else if !(mayReachAll (.host k) false a n d.chip) then .done 0x8006 [] [] d
  else if 64 * m.rslots < 32 + 4 * n + 4 * ((n + 31) / 32) then .done 0x8008 [] [] d
  else match locate d.chip a with
    | .remote dv off =>
      let d := if m.begun then d else d.on (fun c => (abandon (fun w => w == .host k) c).modHub (fun h => { h with hostIn := kdel h.hostIn k }))
      let x := kget (0, []) d.chip.hub.hostIn k
      let j := x.2.length
      if x.1 != 0 then .done 0x800C [] [BitVec.ofNat 8 x.1] d
      else if n ≤ j then .done 0 (wordsAndMask (x.2.take n)) [] d
      else if d.chip.outstanding (fun w => w == .host k) then .wait
      else match sendRemote (.host k) { op := .read, a := a + 4 * j, n := min 64 (n - j) } dv (off + 4 * j) d.chip with
        | .fail st => .done 0x800C [] [BitVec.ofNat 8 st] d
        | .wait => .wait
        | .sent c => .goesOn { d with chip := c }
    | _ =>
      let x := (chunks n).foldl (fun (acc : ReqOut × Dev) c =>
        if acc.1.st != 0 || acc.1.waits then acc
        else
          let y := serveReq (.host k) 0x810 false { op := .read, a := a + 4 * c.1, n := c.2 } .ok acc.2
          ({ y.1 with ws := acc.1.ws ++ y.1.ws }, y.2)) ({}, d)
      if x.1.waits then .wait
      else if x.1.st != 0 then .done 0x800C [] [BitVec.ofNat 8 x.1.st] x.2
      else .done 0 (wordsAndMask x.1.ws) [] x.2)

/-- One request of a memory write toward another device or inside this one: its status, or waiting. -/
def hostWrite (k : Nat) (r : Req) (d : Dev) : ReqOut × Dev :=
  match locate d.chip r.a with
  | .remote dv off =>
    match sendRemote .nobody r dv off d.chip with
    | .fail st => ({ st := st }, d)
    | .wait => ({ waits := true }, d)
    | .sent c => ({}, { d with chip := c })
  | _ => serveReq (.host k) 0x810 false r .ok d

/-- MEM_WRITE: bytes into memory or a register, here or in another device. -/
def memWrite (k : Nat) : Dev → Dev := serve 0x54 k (fun m d =>
  let a := m.p 16 8
  let nb := m.data.length
  let n := (nb + 3) / 4
  let last := if nb % 4 = 0 then 15 else 2 ^ (nb % 4) - 1
  let ws := wordsOfBytes m.data
  if nb < 4 ∨ 4064 < nb ∨ a % 4 ≠ 0 ∨ 4096 < a % 4096 + nb ∨ regForm d.chip a nb then .done 0x8003 [] [] d
  else if !(mayReachAll (.host k) true a n d.chip) then .done 0x8006 [] [] d
  else
    let x := (chunks n).foldl (fun (acc : ReqOut × Dev) c =>
      if acc.1.st != 0 || acc.1.waits then acc
      else
        let e := if c.1 + c.2 = n then last else 15
        hostWrite k { op := .write, a := a + 4 * c.1, n := c.2, ws := (ws.drop c.1).take c.2, fbe := if c.2 = 1 then e else 15, lbe := e } acc.2) ({}, d)
    if x.1.waits then .wait
    else if x.1.st != 0 then .done 0x800C [] [BitVec.ofNat 8 x.1.st] x.2
    else .done 0 [] [] x.2)

end Sys2Proof.Machine
end

