-- ==== Sys2Proof/Machine/Debug.lean ====
section
/-!
DEFINITION. The lookout port and the debug unit (R563–R568, R582): frames with their acks, reads that complete later, writes, port registers.
-/
namespace Sys2Proof.Machine

/-- Change the debug unit. -/
def Chip.modDbg (c : Chip) (f : DbgPort → DbgPort) : Chip := c.modHub (fun h => { h with dbg := f h.dbg })

/-- What the debugger reads as ack (0b001 OK, 0b010 WAIT, 0b100 FAULT, 0b111 when the device drives nothing) and as data. -/
def dbgOut (ack : Nat) (v : BitVec 64) (c : Chip) : Chip := c.modDbg (fun p => { p with out := p.out ++ [(ack, v)] })

/-- A FAULT with its cause: 1 PERM, 2 STATUS, 3 REMOTE, 4 FORMAT. -/
def dbgFault (cause : Nat) (c : Chip) : Chip := dbgOut 4 0#64 (c.modDbg (fun p => { p with cause := cause }))

/-- The debug level (R568): FULL outside PRODUCTION. -/
def Chip.dbgLevel (c : Chip) : Nat := if c.development then 2 else c.rf .dbgLevel .hub 0 0 2

/-- An access is permitted at the debug level (R568). -/
def dbgMay (quiet wr : Bool) (a : Nat) (c : Chip) : Bool :=
  match c.dbgLevel with
  | 2 => true
  | 1 => if wr then (match regAt (a - a % 8) with
      | some (.prbSel, _, _) => true
      | _ => false) else quiet && decide (a < 0x1000000000)
  | _ => false

/-- Whether an address lies in the window of another device. -/
def isRemote (c : Chip) (a : Nat) : Bool :=
  match locate c a with
  | .remote _ _ => true
  | _ => false

/-- The request of a read. -/
def DbgAcc.req (x : DbgAcc) : Req := { op := .read, a := x.addr, n := if x.wide then 2 else 1 }

/-- The read inside the device: its status and value, or `none` while it waits. -/
def dbgServe (x : DbgAcc) (ecc : Ecc) (d : Dev) : Option ((Nat × BitVec 64) × Dev) :=
  let y := serveReq .debug 0x812 x.quiet x.req ecc d
  if y.1.waits then none
  else some ((y.1.st, TWord.data (y.1.ws.getD 1 0#35) ++ TWord.data (y.1.ws.headD 0#35)), y.2)

/-- Move the pending read on: serve it, or send it to the device it names. -/
def dbgReadNow (ecc : Ecc) (d : Dev) : Dev :=
  match d.chip.hub.dbg.pend with
  | none => d
  | some x =>
    if d.chip.hub.dbg.result.isSome || d.chip.outstanding (fun w => w == .debug false) then d
    else match locate d.chip x.addr with
      | .remote dv off =>
        match sendRemote (.debug false) x.req dv off d.chip with
        | .fail st => d.on (fun c => c.modDbg (fun p => { p with result := some (st, 0#64) }))
        | .wait => d
        | .sent c => { d with chip := c }
      | _ =>
        match dbgServe x ecc d with
        | none => d
        | some (r, d) => d.on (fun c => c.modDbg (fun p => { p with result := some r }))

/-- DEBUG_READ_COMPLETE (R566): an aborted read completes and its result is dropped; else the pending read's access completes. -/
def dbgReadComplete (ecc : Ecc) (d : Dev) : Dev :=
  match d.chip.hub.dbg.drop with
  | x :: l =>
    match dbgServe x ecc d with
    | none => d
    | some (_, d) => d.on (fun c => c.modDbg (fun p => { p with drop := l }))
  | [] => dbgReadNow ecc d

/-- The held result goes back with the frame (R566). -/
def dbgReturn (x : DbgAcc) (c : Chip) : Chip :=
  match c.hub.dbg.result with
  | none => dbgOut 2 0#64 c
  | some (st, v) =>
    let c := c.modDbg (fun p => { p with pend := none, result := none })
    if st != 0 then dbgFault 2 (c.modDbg (fun p => { p with status := st }))
    else dbgOut 1 v (c.modDbg (fun p => { p with auto := x.addr + if x.wide then 8 else 4 }))

/-- A read frame (R566–R568). -/
def dbgRead (x : DbgAcc) (fast : Bool) (ecc : Ecc) (d : Dev) : Dev :=
  match d.chip.hub.dbg.pend with
  | some y => if y = x then d.on (dbgReturn x) else d.on (dbgOut 2 0#64)
  | none =>
    if x.quiet && isRemote d.chip x.addr then d.on (dbgFault 3)
    else
      let d := d.on (fun c => c.modDbg (fun p => { p with pend := some x }))
      if fast then (dbgReadNow ecc d).on (dbgReturn x) else (if isRemote d.chip x.addr then dbgReadNow ecc d else d).on (dbgOut 2 0#64)

/-- The write in flight moves on (R566): an error sets werr and the status. -/
def dbgWriteNow (ecc : Ecc) (d : Dev) : Dev :=
  match d.chip.hub.dbg.wr with
  | none => d
  | some (a, wide, v) =>
    let ws := (if wide then [v.extractLsb' 0 32, v.extractLsb' 32 32] else [v.extractLsb' 0 32]).map tword
    let r : Req := { op := .write, a := a, n := if wide then 2 else 1, ws := ws }
    let fin (st : Nat) (c : Chip) : Chip := c.modDbg (fun p => if st = 0 then { p with wr := none } else { p with wr := none, werr := true, status := st })
    match locate d.chip a with
    | .remote dv off =>
      match sendRemote (.debug true) r dv off d.chip with
      | .fail st => d.on (fin st)
      | .wait => d
      | .sent c => { d with chip := fin 0 c }
    | _ =>
      let y := serveReq .debug 0x812 false r ecc d
      if y.1.waits then d else y.2.on (fin y.1.st)

/-- A write frame (R564, R566). -/
def dbgWrite (a : Nat) (wide dok : Bool) (v : BitVec 64) (ecc : Ecc) (d : Dev) : Dev :=
  if d.chip.hub.dbg.wr.isSome then d.on (dbgOut 2 0#64)
  else if !dok then d.on (fun c => dbgOut 1 0#64 (c.modDbg (fun p => { p with perr := true })))
  else dbgWriteNow ecc (d.on (fun c => dbgOut 1 0#64 (c.modDbg (fun p => { p with wr := some (a, wide, v), auto := a + if wide then 8 else 4 }))))

/-- DBG_PORT_ABORT (R566, R582): the pending read is discarded; its access still completes and its result is dropped. -/
def dbgAbort (c : Chip) : Chip :=
  match c.hub.dbg.pend with
  | none => c
  | some x =>
    let busy := c.hub.dbg.result.isNone && !(c.outstanding (fun w => w == .debug false)) && !(isRemote c x.addr)
    (abandon (fun w => w == .debug false) c).modDbg (fun p => { p with pend := none, result := none, drop := if busy then p.drop ++ [x] else p.drop })

/-- DBG_PORT_CLR (R582). -/
def dbgClr (c : Chip) : Chip := c.modDbg (fun p => { p with perr := false, werr := false, cause := 0, status := 0 })

/-- The port registers (R582). -/
def portReg (c : Chip) (i : Nat) : BitVec 64 :=
  let p := c.hub.dbg
  match i with
  | 0 => mkReg [(16, 16, 0x9216), (8, 8, c.stepping), (4, 4, c.lifecycle), (2, 2, c.dbgLevel)]
  | 1 => mkReg [(31, 1, b2n p.pend.isSome), (30, 1, b2n p.result.isSome), (29, 1, b2n p.perr), (28, 1, b2n p.werr), (24, 4, p.cause), (20, 4, p.status)]
  | _ => 0#64

/-- A frame that the port receives (R564, R565): nothing while WARM is held or until the line reset after a parity failure. -/
def dbgFrame (op : Nat) (f : DbgFrame) (ecc : Ecc) (d : Dev) : Dev :=
  let p := d.chip.hub.dbg
  if !d.chip.hub.warmHeld.isEmpty || p.lost then d
  else if !f.hok then d.on (fun c => dbgOut 7 0#64 (c.modDbg (fun p => { p with perr := true, lost := true })))
  else if op = 0 ∨ 8 < op then d.on (dbgFault 4)
  else if op = 7 then (if f.wide then d.on (dbgFault 4) else d.on (fun c => dbgOut 1 (portReg c (f.operand.toNat % 16)) c))
  else if op = 8 then
    if f.wide then d.on (dbgFault 4)
    else
      let d := d.on (dbgOut 1 0#64)
      if !f.dok then d.on (fun c => c.modDbg (fun p => { p with perr := true }))
      else if f.operand.toNat % 16 = 2 then
        d.on (fun c => let c := if fld f.data 31 1 = 1 then dbgAbort c else c; if fld f.data 30 1 = 1 then dbgClr c else c)
      else d
  else
    let incr := decide (4 ≤ op)
    let kind := (op - 1) % 3
    let a := if incr then p.auto else f.operand.toNat
    if a % (if f.wide then 8 else 4) ≠ 0 then d.on (dbgFault 4)
    else if !(dbgMay (kind == 1) (kind == 2) a d.chip) then d.on (dbgFault 1)
    else if kind = 2 then dbgWrite a f.wide f.dok f.data ecc d
    else dbgRead { quiet := kind == 1, incr := incr, wide := f.wide, addr := a } f.fast ecc d

/-- LINE_RESET (R563): the port is idle again. -/
def dbgLineReset (c : Chip) : Chip := if c.hub.warmHeld.isEmpty then c.modDbg (fun p => { p with lost := false }) else c

end Sys2Proof.Machine
end

