-- ==== Sys2Proof/Machine/State.lean ====
section
/-!
DEFINITION. The state of the block: the device (its memories, and every register, FIFO, buffer, counter, mode and pin beside them) and the queue
of the commands that wait, first in, first out.
-/
namespace Sys2Proof.Machine

/-- The state: the device and the commands that wait. -/
structure State where
  dev : Dev := {}
  pending : List Instr := []
  deriving DecidableEq, Repr

/-- No command of this block ends in a fault: every access the spec calls invalid is answered with a status (R35, R397) or an event. -/
inductive Fault where
  deriving DecidableEq, Repr

/-- Why a command has no meaning. -/
inductive Refusal where
  /-- An instruction without a meaning yet, by its mnemonic; raised by no arm of this model. Safe: the model only stops. -/
  | notModelled (mnemonic : String)
  deriving DecidableEq, Repr

/-- The state after power-on reset (R555): every register at its reset value, memory with nothing listed, RST_CAUSE naming POR, WARM held until
XIN is detected, every tile without a personality, and no command waiting. -/
def State.reset : State := { dev := { mem := [], chip := Chip.fresh0 }, pending := [] }

end Sys2Proof.Machine
end

