-- ==== Sys2Proof/Machine/Command.lean ====
section
/-!
DEFINITION. What every command shares: how it starts and what follows it in the device, how it takes a packet, and the values that register
rows write. The meanings of the commands are one definition for each row, in the files of their families.
-/
namespace Sys2Proof.Machine

/-- What a command answers. -/
abbrev Answer := Host.Outcome State Fault Refusal

/-- A command starts: no comparator has matched in it yet (R577). -/
def start (d : Dev) : Dev := d.on (fun c => { c with hits := [] })

/-- What follows every command: buffered writes that waited leave (R129), a debug write moves on (R566), comparators match (R577), changes of
the ports are noticed (R448, R449), and the probes are sampled (R579). -/
def finish (a d : Dev) : Dev :=
  (((dbgWriteNow .ok (flushMwr d)).on compareAll).on portWatch).on (sampleProbes a.chip)

/-- Run an effect on the device as one command; the waiting commands stay as they are. -/
def run (f : Dev → Dev) (s : State) : Answer := .next { s with dev := finish s.dev (f (start s.dev)) }

/-- The effect of a tick without a command: one TCLK cycle of every clocked tile (R39), the time base by 2 ns every 3 ticks (R13), the watchdogs,
the levels that are watched, the page-ins that wait (R158), the posts that wait (R181, R222), the notices of sink queues (R264) and the records due in
the repair log (R369). -/
def idleEffect (d : Dev) : Dev :=
  let d := (List.range 4).foldl (fun (d : Dev) t => if d.chip.tileClocked t then (tickTile t d).startPaging t else d) d
  d.on (fun c =>
    let t0 := c.hub.time.toNat
    let c := c.modHub (fun h => { h with tick3 := (h.tick3 + 1) % 3, time := h.time + BitVec.ofNat 64 (if h.tick3 = 0 then 0 else 1) })
    let c := hubLevelsAt true (wdgTicks (c.hub.time.toNat / 320 - t0 / 320) c)
    sendSink ((List.range 4).foldl (fun (c : Chip) t => tileLevels t (takeEventPost t c)) (rlogWrite c)))

/-- The step on an empty queue: a tick. -/
def idle (s : State) : Answer := run idleEffect s

/-! ### Operands -/

/-- The grove index of a grove (R33). -/
def gOf (g : GroveId) : Nat := gidx g.x.val g.y.val

/-- The number of a link's end: 0–7 the ports, 16 + 2m and 17 + 2m the directions of module m. -/
def endOf : LinkRef → Nat
  | .port p => p.val
  | .d2d m dir => 16 + 2 * m.val + dir.val

/-- The value of DBG_HALT_CMD for an operation on a target (R584). -/
def haltValue (op : Nat) (x : HaltTarget) (instr : Bool) (n : Nat) : BitVec 64 :=
  let tgt : Nat × Nat × Nat := match x with
    | .grove t g => (0, t, g)
    | .tile t => (1, t, 0)
    | .core => (2, 0, 0)
  mkReg [(62, 2, op), (60, 2, tgt.1), (59, 1, b2n instr), (32, 16, n), (8, 2, tgt.2.1), (0, 8, tgt.2.2)]

/-- The tile that PWR_WAKE names: that of the grove to wake, else the tile alone (R561). -/
def wakeTile (t : TileId) (g : Option GroveId) : Nat := (g.map (fun x => x.t.val)).getD t.val

/-! ### Packets -/

/-- A packet is for this device: its endpoint, a link-local one, or any while the device has no ID (R400, R440). -/
def forUs (p : Packet) (c : Chip) : Bool := !c.idValid || p.dst == c.devId || p.isLocal

/-- No earlier packet of the same flow waits at its port (O4 of R19, R425): packets of one source to one destination on one channel are taken in order. -/
def inTurn (p : Packet) (c : Chip) : Bool :=
  !(((c.link p.port).rxq.takeWhile (fun x => x != p)).any (fun x => x.vc == p.vc && x.src == p.src && x.dst == p.dst))

/-- A packet waits at its port. -/
def await (p : Packet) (c : Chip) : Chip := if (c.link p.port).rxq.contains p then c else c.modLink p.port (fun e => { e with rxq := e.rxq ++ [p] })

/-- Take a packet of one of some types that is for this device, in its turn; `f` gets the device with the packet waiting, and the device without it. -/
def takePkt (ts : List Nat) (p : Packet) (f : Dev → Dev → Dev) (d : Dev) : Dev :=
  if ts.contains p.type && forUs p d.chip then
    if inTurn p d.chip then f (d.on (await p)) (d.on (takeRx p)) else d.on (await p)
  else d

/-- PUHAN_QWR: with the entry of its item uncorrectable the queue stops and the packet waits (R256). -/
def qwrCmd (p : Packet) (ue : Bool) : Dev → Dev := takePkt [0x01] p (fun keep d =>
  match ue, (arrive p d.chip).1 with
  | true, .accept => keep.on (itemTableUe (p.f 74 14))
  | _, _ => puhanQwr p keep d)

/-- PUHAN_QRD (R393): a read whose words are still to be refilled waits with those it has (R249). -/
def qrdCmd (p : Packet) : Dev → Dev := takePkt [0x0B] p (fun keep d =>
  let r := arrive p d.chip
  let d : Dev := { d with chip := r.2 }
  match r.1 with
  | .drop => d
  | .accept =>
    let q := p.f 74 14
    match fbRefuse p q d.chip with
    | some c => { d with chip := c }
    | none =>
      if d.chip.qmode q ≠ 3 then d.on (complete p 10)
      else match collect q false (8 * p.src + p.port) p.tag p.len keep with
        | (false, _, d) => d
        | (true, vs, d) => d.on (fun c => qrdAnswer p vs (arrive p (takeRx p c)).2))

/-- TRANSIT_FORWARD: a packet for another endpoint is taken and leaves on its route (R401). -/
def forwardCmd (p : Packet) (d : Dev) : Dev :=
  if forUs p d.chip then d else d.on (fun c => if inTurn p c then transitForward p (takeRx p c) else await p c)

/-- RESERVED_TYPE_PACKET: a packet of a type without a row (R381). -/
def reservedCmd (p : Packet) (d : Dev) : Dev :=
  if ((typeVc p.type).isSome && p.type != 0x1C && p.type != 0x1D) || !(forUs p d.chip) then d
  else d.on (fun c => if inTurn p c then reservedType p (takeRx p c) else await p c)

/-! ### Register rows -/

/-- EVT_SRC_WRITE: the register of a source (R231). -/
def srcWrite (m : Master) (e : EvSrc) (v : BitVec 64) : Dev → Dev := namedWrite m e.reg.1 e.reg.2.1 e.reg.2.2 v

/-- QUE_POP_READ: the read pops a word, or waits; with the front entry of the item table uncorrectable the queue stops (R249, R256). -/
def popCmd (m : Master) (q : Nat) (ue : Bool) (d0 : Dev) : Dev :=
  let a := Reg.addr .quePop (qsite q) (q % 4096)
  if !(mayAccess m false a 2 d0.chip) then d0.on (fun c => c.answer a 5 0#64)
  else
    let d := d0.on (wakeFor (q / 4096))
    if tileDead d.chip (q / 4096) then d.on (fun c => c.answer a 7 0#64)
    else
      (popRead q (if ue then d.on (itemTableUe q) else d)).on (fun c => c.see { kind := 2, die := q / 4096, addr := a, who := groveOf m })

/-- FI_SHOT: a write of shot, with the other fields as they are (R428). -/
def fiShotCmd (m : Master) (k : LinkRef) : Dev → Dev :=
  match k with
  | .port p => fieldWrite m .lnkFi .hub p.val [(62, 1, 1)]
  | .d2d n _ => fieldWrite m .d2dFi .hub n.val [(62, 1, 1)]

/-- RANGER_RESTART: a write of restart; `pass` is the result of the ranger's self-test (R488). -/
def restartCmd (m : Master) (t : Nat) (pass : Bool) (d : Dev) : Dev :=
  let d' := fieldWrite m .rgrCtl (.tile t) 0 [(63, 1, 1)] d
  if pass || !(mayAccess m true (Reg.addr .rgrCtl (.tile t) 0) 2 d.chip) || tileDead d.chip t then d' else d'.on (rangerRestart t false)

/-- LANE_MARGIN_SAMPLE: one of the 40 lanes of the ports or of the 816 of the modules (R424, R434). -/
def laneCmd (port : Bool) (n ser m0 m1 : Nat) (c : Chip) : Chip := if n < (if port then 40 else 816) then laneSample port n ser m0 m1 c else c

/-- RESERVED_FRAME: a frame whose op has no row (R565). -/
def reservedFrame (op : Nat) (f : DbgFrame) (d : Dev) : Dev := if 1 ≤ op ∧ op ≤ 8 then d else dbgFrame op f .ok d

end Sys2Proof.Machine
end

