-- ==== Sys2Proof/Machine/CellCmds.lean ====
section
/-!
DEFINITION. The meanings of the commands of one family: the cell instructions that a cell fires (R42, R63–R70), and the accumulator acquisition.
-/
namespace Sys2Proof.Machine

/-- CELL_NOP (R51). A cell fires NOP; OUT and the flags hold. -/
def execCellNop (g : GroveId) (n : Fin 16) (u : CellUpset) (s : State) : Answer := run (cellFire 0x00 g.t.val (gOf g) n.val u) s

/-- CELL_ADD (R51). A cell fires ADD over its lanes with carry-in, saturation, flags and the Res check. -/
def execCellAdd (g : GroveId) (n : Fin 16) (u : CellUpset) (s : State) : Answer := run (cellFire 0x01 g.t.val (gOf g) n.val u) s

/-- CELL_SUB (R51). A cell fires SUB with borrow-in, saturation, flags and the Res check. -/
def execCellSub (g : GroveId) (n : Fin 16) (u : CellUpset) (s : State) : Answer := run (cellFire 0x02 g.t.val (gOf g) n.val u) s

/-- CELL_NEG (R51). A cell fires NEG, computing 0 minus a per lane. -/
def execCellNeg (g : GroveId) (n : Fin 16) (u : CellUpset) (s : State) : Answer := run (cellFire 0x03 g.t.val (gOf g) n.val u) s

/-- CELL_ABS (R53). A cell fires ABS, with the range and V judged as sgn selects. -/
def execCellAbs (g : GroveId) (n : Fin 16) (u : CellUpset) (s : State) : Answer := run (cellFire 0x04 g.t.val (gOf g) n.val u) s

/-- CELL_ABSD (R51). A cell fires ABSD, the absolute difference of a and b. -/
def execCellAbsd (g : GroveId) (n : Fin 16) (u : CellUpset) (s : State) : Answer := run (cellFire 0x05 g.t.val (gOf g) n.val u) s

/-- CELL_MIN (R51). A cell fires MIN, selecting the smaller of a and b per lane. -/
def execCellMin (g : GroveId) (n : Fin 16) (u : CellUpset) (s : State) : Answer := run (cellFire 0x06 g.t.val (gOf g) n.val u) s

/-- CELL_MAX (R51). A cell fires MAX, selecting the larger of a and b per lane. -/
def execCellMax (g : GroveId) (n : Fin 16) (u : CellUpset) (s : State) : Answer := run (cellFire 0x07 g.t.val (gOf g) n.val u) s

/-- CELL_CMPEQ (R51). A cell fires CMPEQ, setting each lane to all ones when a equals b. -/
def execCellCmpeq (g : GroveId) (n : Fin 16) (u : CellUpset) (s : State) : Answer := run (cellFire 0x08 g.t.val (gOf g) n.val u) s

/-- CELL_CMPLT (R51). A cell fires CMPLT, setting each lane to all ones when a is below b. -/
def execCellCmplt (g : GroveId) (n : Fin 16) (u : CellUpset) (s : State) : Answer := run (cellFire 0x09 g.t.val (gOf g) n.val u) s

/-- CELL_CMPLE (R51). A cell fires CMPLE, setting each lane to all ones when a is at most b. -/
def execCellCmple (g : GroveId) (n : Fin 16) (u : CellUpset) (s : State) : Answer := run (cellFire 0x0A g.t.val (gOf g) n.val u) s

/-- CELL_MOV (R51). A cell fires MOV, passing a to OUT under the Pass check. -/
def execCellMov (g : GroveId) (n : Fin 16) (u : CellUpset) (s : State) : Answer := run (cellFire 0x0B g.t.val (gOf g) n.val u) s

/-- CELL_MUL (R51). A cell fires MUL, giving the low w bits of the lane product after 3 cycles. -/
def execCellMul (g : GroveId) (n : Fin 16) (u : CellUpset) (s : State) : Answer := run (cellFire 0x10 g.t.val (gOf g) n.val u) s

/-- CELL_MULH (R51). A cell fires MULH, giving the high w bits of the lane product. -/
def execCellMulh (g : GroveId) (n : Fin 16) (u : CellUpset) (s : State) : Answer := run (cellFire 0x11 g.t.val (gOf g) n.val u) s

/-- CELL_MADD (R53). A cell fires MADD, forming a times b plus c from the full product. -/
def execCellMadd (g : GroveId) (n : Fin 16) (u : CellUpset) (s : State) : Answer := run (cellFire 0x12 g.t.val (gOf g) n.val u) s

/-- CELL_MAC (R51). A cell fires MAC, adding the sum of lane products to the selected accumulator. -/
def execCellMac (g : GroveId) (n : Fin 16) (u : CellUpset) (s : State) : Answer := run (cellFire 0x13 g.t.val (gOf g) n.val u) s

/-- CELL_MSU (R51). A cell fires MSU, subtracting the sum of lane products from the selected accumulator. -/
def execCellMsu (g : GroveId) (n : Fin 16) (u : CellUpset) (s : State) : Answer := run (cellFire 0x14 g.t.val (gOf g) n.val u) s

/-- CELL_ACCADD (R51). A cell fires ACCADD, adding the extended a to the accumulator. -/
def execCellAccadd (g : GroveId) (n : Fin 16) (u : CellUpset) (s : State) : Answer := run (cellFire 0x15 g.t.val (gOf g) n.val u) s

/-- CELL_ACCLD (R51). A cell fires ACCLD, loading b:a into the accumulator. -/
def execCellAccld (g : GroveId) (n : Fin 16) (u : CellUpset) (s : State) : Answer := run (cellFire 0x16 g.t.val (gOf g) n.val u) s

/-- CELL_ACCCLR (R51). A cell fires ACCCLR, clearing the accumulator. -/
def execCellAccclr (g : GroveId) (n : Fin 16) (u : CellUpset) (s : State) : Answer := run (cellFire 0x17 g.t.val (gOf g) n.val u) s

/-- CELL_ACCRS (R55). A cell fires ACCRS, shifting, rounding and saturating the accumulator into OUT. -/
def execCellAccrs (g : GroveId) (n : Fin 16) (u : CellUpset) (s : State) : Answer := run (cellFire 0x18 g.t.val (gOf g) n.val u) s

/-- CELL_AND (R51). A cell fires AND under the Dup check. -/
def execCellAnd (g : GroveId) (n : Fin 16) (u : CellUpset) (s : State) : Answer := run (cellFire 0x20 g.t.val (gOf g) n.val u) s

/-- CELL_OR (R51). A cell fires OR under the Dup check. -/
def execCellOr (g : GroveId) (n : Fin 16) (u : CellUpset) (s : State) : Answer := run (cellFire 0x21 g.t.val (gOf g) n.val u) s

/-- CELL_XOR (R51). A cell fires XOR under the Dup check. -/
def execCellXor (g : GroveId) (n : Fin 16) (u : CellUpset) (s : State) : Answer := run (cellFire 0x22 g.t.val (gOf g) n.val u) s

/-- CELL_ANDN (R51). A cell fires ANDN, a AND NOT b. -/
def execCellAndn (g : GroveId) (n : Fin 16) (u : CellUpset) (s : State) : Answer := run (cellFire 0x23 g.t.val (gOf g) n.val u) s

/-- CELL_NOT (R51). A cell fires NOT of a. -/
def execCellNot (g : GroveId) (n : Fin 16) (u : CellUpset) (s : State) : Answer := run (cellFire 0x24 g.t.val (gOf g) n.val u) s

/-- CELL_SEL (R51). A cell fires SEL, a bitwise select of a and b under c. -/
def execCellSel (g : GroveId) (n : Fin 16) (u : CellUpset) (s : State) : Answer := run (cellFire 0x25 g.t.val (gOf g) n.val u) s

/-- CELL_SHL (R54). A cell fires SHL, shifting each lane left by the amount modulo w. -/
def execCellShl (g : GroveId) (n : Fin 16) (u : CellUpset) (s : State) : Answer := run (cellFire 0x28 g.t.val (gOf g) n.val u) s

/-- CELL_SHR (R54). A cell fires SHR, shifting each lane right with zero fill. -/
def execCellShr (g : GroveId) (n : Fin 16) (u : CellUpset) (s : State) : Answer := run (cellFire 0x29 g.t.val (gOf g) n.val u) s

/-- CELL_SRA (R54). A cell fires SRA, shifting each lane right with sign fill. -/
def execCellSra (g : GroveId) (n : Fin 16) (u : CellUpset) (s : State) : Answer := run (cellFire 0x2A g.t.val (gOf g) n.val u) s

/-- CELL_ROL (R54). A cell fires ROL, rotating each lane left. -/
def execCellRol (g : GroveId) (n : Fin 16) (u : CellUpset) (s : State) : Answer := run (cellFire 0x2B g.t.val (gOf g) n.val u) s

/-- CELL_SHUF (R54). A cell fires SHUF, choosing each output byte from the eight bytes of b:a. -/
def execCellShuf (g : GroveId) (n : Fin 16) (u : CellUpset) (s : State) : Answer := run (cellFire 0x2C g.t.val (gOf g) n.val u) s

/-- CELL_CLZ (R51). A cell fires CLZ, counting leading zeros per lane. -/
def execCellClz (g : GroveId) (n : Fin 16) (u : CellUpset) (s : State) : Answer := run (cellFire 0x2D g.t.val (gOf g) n.val u) s

/-- CELL_POPC (R51). A cell fires POPC, counting ones per lane. -/
def execCellPopc (g : GroveId) (n : Fin 16) (u : CellUpset) (s : State) : Answer := run (cellFire 0x2E g.t.val (gOf g) n.val u) s

/-- CELL_BREV (R51). A cell fires BREV, reversing the bit order per lane. -/
def execCellBrev (g : GroveId) (n : Fin 16) (u : CellUpset) (s : State) : Answer := run (cellFire 0x2F g.t.val (gOf g) n.val u) s

/-- CELL_LD (R275). A cell fires LD, reading a scratchpad word through port A with the result after 2 cycles. -/
def execCellLd (g : GroveId) (n : Fin 16) (u : CellUpset) (s : State) : Answer := run (cellFire 0x40 g.t.val (gOf g) n.val u) s

/-- CELL_ST (R275). A cell fires ST, writing a scratchpad word through port A in its access cycle. -/
def execCellSt (g : GroveId) (n : Fin 16) (u : CellUpset) (s : State) : Answer := run (cellFire 0x41 g.t.val (gOf g) n.val u) s

/-- CELL_FADD (R281). A cell fires FADD, an atomic fetch-add on a scratchpad word. -/
def execCellFadd (g : GroveId) (n : Fin 16) (u : CellUpset) (s : State) : Answer := run (cellFire 0x42 g.t.val (gOf g) n.val u) s

/-- CELL_SWAP (R281). A cell fires SWAP, an atomic swap of a scratchpad word. -/
def execCellSwap (g : GroveId) (n : Fin 16) (u : CellUpset) (s : State) : Answer := run (cellFire 0x43 g.t.val (gOf g) n.val u) s

/-- CELL_GETF (R51). A cell fires GETF, copying its flags into OUT. -/
def execCellGetf (g : GroveId) (n : Fin 16) (u : CellUpset) (s : State) : Answer := run (cellFire 0x50 g.t.val (gOf g) n.val u) s

/-- CELL_PUTF (R56). A cell fires PUTF, writing all 16 flag bits from a. -/
def execCellPutf (g : GroveId) (n : Fin 16) (u : CellUpset) (s : State) : Answer := run (cellFire 0x51 g.t.val (gOf g) n.val u) s

/-- ACC_ACQUISITION_END (R166). The save and restore end and the touching operation fires in the next cycle. -/
def execAccAcquisitionEnd (g : AcqEnd) (s : State) : Answer := run (acquisitionEnd g.g.t.val (gOf g.g) (g.i.val, g.ecc)) s

end Sys2Proof.Machine
end

