-- ==== Sys2Proof/Machine/ConfigCmds.lean ====
section
/-!
DEFINITION. The meanings of the commands of one family: loading of personalities, the internal configuration port and the ranger (R468–R488).
-/
namespace Sys2Proof.Machine

/-- CFG_RX_TIMEOUT (R468). CFG_RX_TIMEOUT expires before the image is complete and the load ends with CFG_E_SHORT. -/
def execCfgRxTimeout (s : State) : Answer := run (fun d => d.on (rxTimeout)) s

/-- BOOT_DEADLINE (R470). BOOT_DEADLINE expires without a staged personality and the device enters the bare state. -/
def execBootDeadline (s : State) : Answer := run (fun d => d.reset bootDeadline) s

/-- TILE_RELEASE (R474). After the commit point each tile releases, grants credit and starts the ranger; UIO commits. -/
def execTileRelease (t : TileId) (s : State) : Answer := run (tileRelease t.val) s

/-- ICP_REPLACE (R481). A REPLACE command checks a staged image and replaces a context with a generation advance. -/
def execIcpReplace (t : TileId) (s : State) : Answer := run (icpReplace t.val) s

/-- ICP_READ (R482). A READ command copies a backing image into a staging entry. -/
def execIcpRead (t : TileId) (s : State) : Answer := run (icpRead t.val) s

/-- ICP_SLOTCHK (R482). A SLOTCHK command checks one slot as the ranger does. -/
def execIcpSlotchk (t : TileId) (ecc : Ecc) (flip : Option (Fin 4096)) (s : State) : Answer := run (icpSlotchk t.val ecc (flip.map (fun x => x.val))) s

/-- ICP_RESTORE (R482). A RESTORE command rewrites a backing image without advancing its generation. -/
def execIcpRestore (t : TileId) (s : State) : Answer := run (icpRestore t.val) s

/-- GENERATION_ADVANCE (R481). A tile advances a context's generation, invalidates its cache entry and retires slots. -/
def execGenerationAdvance (t : TileId) (s : State) : Answer := run (fun d => d.on (genArrive t.val)) s

/-- RANGER_UNIT (R484). Every interval the ranger checks its next slot, cache entry, latch, map word or self-test. -/
def execRangerUnit (t : TileId) (ecc : Ecc) (flip : Option (Fin 4096)) (s : State) : Answer := run (rangerUnit t.val ecc (flip.map (fun x => x.val))) s

/-- RANGER_HELD_FETCH (R484). A slot that becomes HELD has its backing image fetched within 2 µs. -/
def execRangerHeldFetch (t : TileId) (s : State) : Answer := run (fun d => d.on (heldFetch t.val)) s

/-- RANGER_REWRITE (R485). The fetched golden image arrives and the slot is rewritten and made READY. -/
def execRangerRewrite (t : TileId) (s : State) : Answer := run (rangerRewrite t.val) s

/-- RANGER_VOTE_UPSET (R487). A voted ranger register copy disagrees and is corrected, or the ranger enters fault. -/
def execRangerVoteUpset (t : TileId) (reg : Fin 2) (copy : Fin 3) (agree : Bool) (s : State) : Answer := run (fun d => d.on (voteUpset t.val reg.val copy.val agree)) s

/-- RANGER_RESTART (R488). A write of restart to RGR_CTL rewrites the copies and runs the self-test. -/
def execRangerRestart (m : Master) (t : TileId) (pass : Bool) (s : State) : Answer := run (restartCmd m t.val pass) s

end Sys2Proof.Machine
end

