-- ==== Sys2Proof/Machine/DebugCmds.lean ====
section
/-!
DEFINITION. The meanings of the commands of one family: the lookout port and run control (R563–R584).
-/
namespace Sys2Proof.Machine

/-- LINE_RESET (R563). 64 clocks with DBG_IO at 1 return the lookout port to idle. -/
def execLineReset (s : State) : Answer := run (fun d => d.on (dbgLineReset)) s

/-- RD (R566). An RD frame reads an address once, returning OK, WAIT or FAULT. -/
def execRd (f : DbgFrame) (ecc : Ecc) (s : State) : Answer := run (dbgFrame 1 f ecc) s

/-- RDQ (R567). An RDQ frame performs a quiet read of an address. -/
def execRdq (f : DbgFrame) (ecc : Ecc) (s : State) : Answer := run (dbgFrame 2 f ecc) s

/-- WR (R566). A WR frame writes an address. -/
def execWr (f : DbgFrame) (ecc : Ecc) (s : State) : Answer := run (dbgFrame 3 f ecc) s

/-- RDI (R565). An RDI frame reads at the auto address. -/
def execRdi (f : DbgFrame) (ecc : Ecc) (s : State) : Answer := run (dbgFrame 4 f ecc) s

/-- RDQI (R565). An RDQI frame performs a quiet read at the auto address. -/
def execRdqi (f : DbgFrame) (ecc : Ecc) (s : State) : Answer := run (dbgFrame 5 f ecc) s

/-- WRI (R565). A WRI frame writes at the auto address. -/
def execWri (f : DbgFrame) (ecc : Ecc) (s : State) : Answer := run (dbgFrame 6 f ecc) s

/-- PRD (R582). A PRD frame reads a port register. -/
def execPrd (f : DbgFrame) (ecc : Ecc) (s : State) : Answer := run (dbgFrame 7 f ecc) s

/-- PWR (R582). A PWR frame writes a port register. -/
def execPwr (f : DbgFrame) (ecc : Ecc) (s : State) : Answer := run (dbgFrame 8 f ecc) s

/-- DEBUG_READ_COMPLETE (R566). A pending debug read completes and its result is held. -/
def execDebugReadComplete (ecc : Ecc) (s : State) : Answer := run (dbgReadComplete ecc) s

/-- DBG_PORT_ABORT (R566). A write of abort to DBG_PORT_CTL discards the pending read. -/
def execDbgPortAbort (s : State) : Answer := run (fun d => d.on (dbgAbort)) s

/-- DBG_PORT_CLR (R582). A write of clr to DBG_PORT_CTL clears the sticky errors. -/
def execDbgPortClr (s : State) : Answer := run (fun d => d.on (dbgClr)) s

/-- DBG_HALT_REQUEST (R569). DBG_HALT_CMD halt requests a halt of a grove, tile or the management core. -/
def execDbgHaltRequest (m : Master) (x : HaltTarget) (s : State) : Answer := run (namedWrite m .dbgHaltCmd .hub 0 (haltValue 0 x false 0)) s

/-- HALT_TAKES_EFFECT (R569). A requested halt takes effect at a cycle boundary with DBG_HALT. -/
def execHaltTakesEffect (x : HaltTarget) (s : State) : Answer := run (fun d => d.on (haltEffect x)) s

/-- DBG_RELEASE (R569). DBG_HALT_CMD release resumes a halted target. -/
def execDbgRelease (m : Master) (x : HaltTarget) (s : State) : Answer := run (namedWrite m .dbgHaltCmd .hub 0 (haltValue 1 x false 0)) s

/-- DBG_STEP (R571). DBG_HALT_CMD step runs a halted target for a count of cycles or instructions. -/
def execDbgStep (m : Master) (x : HaltTarget) (instr : Bool) (n : BitVec 16) (s : State) : Answer := run (namedWrite m .dbgHaltCmd .hub 0 (haltValue 2 x instr n.toNat)) s

/-- STEP_COUNT_DONE (R571). A step's count is spent and the target halts again. -/
def execStepCountDone (x : HaltTarget) (s : State) : Answer := run (stepDone x) s

end Sys2Proof.Machine
end

