-- ==== Sys2Proof/Machine/EventCmds.lean ====
section
/-!
DEFINITION. The meanings of the commands of one family: events and registers (R8, R18, R221–R225).
-/
namespace Sys2Proof.Machine

/-- EVENT_HUB_ARRIVAL (R223). A change of pend reaches the hub and is delivered to the firmware queue and MSI-X vector. -/
def execEventHubArrival (e : Fin 5120) (s : State) : Answer := run (fun d => d.on (hubArrival e.val)) s

/-- EVT_SRC_WRITE (R221). A write to EVT_SRC clears pend or lost to re-arm the source, or changes its route. -/
def execEvtSrcWrite (m : Master) (e : Fin 5120) (v : BitVec 64) (s : State) : Answer := run (srcWrite m (EvSrc.ofNum e.val) v) s

/-- EVT_FWQ_READ (R224). A read of EVT_FWQ returns and removes the oldest firmware queue entry. -/
def execEvtFwqRead (m : Master) (s : State) : Answer := run (regReadCmd m (Reg.addr .evtFwq .hub 0) true) s

/-- FWQ_HOLDOFF_EXPIRY (R224). The firmware queue holdoff expires and the management-core event interrupt is raised. -/
def execFwqHoldoffExpiry (s : State) : Answer := run (fun d => d.on (fwqHoldoff)) s

/-- VECTOR_HOLDOFF_EXPIRY (R225). An MSI-X vector's holdoff expires and its coalesced message is sent. -/
def execVectorHoldoffExpiry (v : Fin 2048) (s : State) : Answer := run (fun d => d.on (vecHoldoff v.val)) s

/-- COUNTER_RC_READ (R18). A read of a statistics counter returns and clears its count under the collision rules. -/
def execCounterRcRead (m : Master) (a : BitVec 48) (wide : Bool) (s : State) : Answer := run (regReadCmd m a.toNat wide) s

/-- REGISTER_WRITE (R8). A write to a register without a row of its own acts by field access type. -/
def execRegisterWrite (m : Master) (a : BitVec 48) (wide : Bool) (v : BitVec 64) (s : State) : Answer := run (regWriteCmd m a.toNat wide v) s

end Sys2Proof.Machine
end

