-- ==== Sys2Proof/Machine/GroveCmds.lean ====
section
/-!
DEFINITION. The meanings of the commands of one family: the life of a task in its grove, the grove's fabric and its registers (R75–R112, R132–R168, R334–R340).
-/
namespace Sys2Proof.Machine

/-- TASK_END (R132). The end conditions hold after END; the task ends, or aborts if a failure is known. -/
def execTaskEnd (g : GroveId) (s : State) : Answer := run (taskEnd g.t.val (gOf g)) s

/-- TASK_COMMIT (R29). A task or gang commits: tentative output commits, notices are raised, the input retires and the lock is released. -/
def execTaskCommit (g : GroveId) (s : State) : Answer := run (commitTask g.t.val (gOf g)) s

/-- TASK_ABORT (R334). An attempt aborts: output is discarded, the item is kept, the lock held and the replay ladder advanced. -/
def execTaskAbort (g : GroveId) (s : State) : Answer := run (fun d => d.on (taskAbort g.t.val (gOf g))) s

/-- PLACEHOLDER_DELIVERY (R340). In the poison cycle the placeholder joins its target queues, the item retires and the lock is released. -/
def execPlaceholderDelivery (t : TileId) (n : Fin 4096) (s : State) : Answer := run (placeholderDelivery t.val n.val) s

/-- SEQ_CELL_MAP_WRITE (R75). A write to SEQ_CELL_MAP remaps the cells of an idle grove, or is discarded with SEQ_MAP_BUSY. -/
def execSeqCellMapWrite (m : Master) (g : GroveId) (v : BitVec 64) (s : State) : Answer := run (namedWrite m .seqCellMap (.grove g.t.val (gOf g)) 0 v) s

/-- SELECT_LATCH_FAULT (R98). An active select latch is found multi-hot or disagreeing with its check bit, and the running task fails. -/
def execSelectLatchFault (g : GroveId) (k : Fin 86) (up : BitVec 64) (s : State) : Answer := run (fun d => d.on (selectFault g.t.val (gOf g) k.val up)) s

/-- CANOPY_LATCH_FAULT (R100). A canopy source latch faults; gangs tapping the channel abort and the channel stays disabled until rewritten. -/
def execCanopyLatchFault (t : TileId) (ch : Fin 64) (up : BitVec 288) (s : State) : Answer := run (fun d => d.on (canopyFault t.val ch.val up)) s

/-- CFG_CNP_SRC_WRITE (R111). A write to CFG_CNP_SRC_n sets a channel's source and gang unless locked, running or naming an unpopulated grove. -/
def execCfgCnpSrcWrite (m : Master) (t : TileId) (ch : Fin 64) (v : BitVec 64) (s : State) : Answer := run (namedWrite m .cfgCnpSrc (.tile t.val) ch.val v) s

/-- CFG_CNP_LOCK_WRITE (R112). A write of lock to CFG_CNP_LOCK locks the canopy source registers until a TILE reset. -/
def execCfgCnpLockWrite (m : Master) (t : TileId) (s : State) : Answer := run (fieldWrite m .cfgCnpLock (.tile t.val) 0 [(0, 1, 1)]) s

/-- BANK_WRITE (R163). A write through the bank view sets a register bank word unless its slot is RUNNING or SUSPENDED. -/
def execBankWrite (m : Master) (g : GroveId) (b : Fin 8) (i : Fin 64) (v : BitVec 64) (s : State) : Answer := run (regWriteCmd m (Site.base (.grove g.t.val (gOf g)) + 0xC000 + 512 * b.val + 8 * i.val) true v) s

/-- ACC_FORCED_SAVE_REQ (R168). A write of save to SEQ_ACC_CTL requests a forced save of every owned accumulator. -/
def execAccForcedSaveReq (m : Master) (g : GroveId) (s : State) : Answer := run (fieldWrite m .seqAccCtl (.grove g.t.val (gOf g)) 0 [(0, 1, 1)]) s

/-- ACC_FORCED_SAVE (R168). The forced save starts once no slot runs, saves owned accumulators and clears busy when done. -/
def execAccForcedSave (g : GroveId) (s : State) : Answer := run (forcedSave g.t.val (gOf g)) s

end Sys2Proof.Machine
end

