-- ==== Sys2Proof/Machine/LinkCmds.lean ====
section
/-!
DEFINITION. The meanings of the commands of one family: the links (R410–R434).
-/
namespace Sys2Proof.Machine

/-- FLIT_TRANSMIT (R413). A link transmits a data, idle, NAK or INIT flit, buffering data flits for replay. -/
def execFlitTransmit (k : LinkRef) (pkts : List (List TWord)) (s : State) : Answer := run (fun d => d.on (flitTransmit (endOf k) pkts)) s

/-- DATA_FLIT_RX (R414). A data flit arrives and is accepted or discarded with one NAK. -/
def execDataFlitRx (k : LinkRef) (fec : Fin 3) (f : Flit) (s : State) : Answer := run (fun d => d.on (dataFlitRx (endOf k) fec.val f)) s

/-- NAK_RX (R415). A NAK arrives and the transmitter replays its buffer. -/
def execNakRx (k : LinkRef) (f : Flit) (s : State) : Answer := run (fun d => d.on (nakRx (endOf k) f)) s

/-- INIT_RX (R417). An INIT flit arrives with credits, lanes and endpoint, activating the link when both have seen. -/
def execInitRx (k : LinkRef) (f : Flit) (s : State) : Answer := run (fun d => d.on (initRx (endOf k) f)) s

/-- IDLE_FLIT_RX (R414). An idle flit arrives carrying ack and credit totals. -/
def execIdleFlitRx (k : LinkRef) (f : Flit) (s : State) : Answer := run (fun d => d.on (idleFlitRx (endOf k) f)) s

/-- REPLAY_TIMEOUT (R415). The replay time passes without ack advancing; the link replays or escalates to retrain. -/
def execReplayTimeout (k : LinkRef) (s : State) : Answer := run (fun d => d.on (replayTimeout (endOf k))) s

/-- RETRAIN_COMPLETE (R415). A retrain ends; on failure lanes are substituted or the link goes down. -/
def execRetrainComplete (k : LinkRef) (f0 : List Nat) (f1 : List Nat) (s : State) : Answer := run (fun d => d.on (retrainComplete (endOf k) f0 f1)) s

/-- LOSS_OF_SIGNAL (R425). Loss of signal on lanes of a port is detected, taking it down on two or more lanes. -/
def execLossOfSignal (p : Fin 8) (lanes : Fin 9) (s : State) : Answer := run (fun d => d.on (lossOfSignal p.val lanes.val)) s

/-- PORT_TRAINED (R422). A port or module completes training and exchanges INIT. -/
def execPortTrained (k : LinkRef) (s : State) : Answer := run (fun d => d.on (portTrained (endOf k))) s

/-- LANE_MARGIN_SAMPLE (R424). Each second lanes record symbol errors and margin and raise SPR_WEAR beyond limits. -/
def execLaneMarginSample (port : Bool) (n : Nat) (ser : Nat) (m0 : BitVec 16) (m1 : BitVec 16) (s : State) : Answer := run (fun d => d.on (laneCmd port n ser m0.toNat m1.toNat)) s

/-- LNK_RETRAIN_REQ (R431). A write of retrain to LNK_CTL_p retrains the port. -/
def execLnkRetrainReq (m : Master) (p : Fin 8) (s : State) : Answer := run (fieldWrite m .lnkCtl .hub p.val [(62, 1, 1)]) s

/-- LNK_DOWN_REQ (R431). A write of down to LNK_CTL_p takes the port down. -/
def execLnkDownReq (m : Master) (p : Fin 8) (s : State) : Answer := run (fieldWrite m .lnkCtl .hub p.val [(61, 1, 1)]) s

/-- LNK_FAILOVER_REQ (R431). A write of fo_req to LNK_CTL_p requests failover of a lane. -/
def execLnkFailoverReq (m : Master) (p : Fin 8) (lane : Fin 8) (rx : Bool) (s : State) : Answer := run (fieldWrite m .lnkCtl .hub p.val [(60, 1, 1), (57, 3, lane.val), (56, 1, b2n rx)]) s

/-- LNK_ENABLE (R431). A write of en to LNK_CTL_p starts or stops port training. -/
def execLnkEnable (m : Master) (p : Fin 8) (en : Bool) (s : State) : Answer := run (fieldWrite m .lnkCtl .hub p.val [(63, 1, b2n en)]) s

/-- D2D_RETRAIN_REQ (R431). A write of retrain to D2D_CTL_m retrains the module. -/
def execD2dRetrainReq (m : Master) (k : Fin 12) (s : State) : Answer := run (fieldWrite m .d2dCtl .hub k.val [(63, 1, 1)]) s

/-- D2D_REPAIR_REQ (R431). A write of repair_req to D2D_CTL_m requests a lane repair. -/
def execD2dRepairReq (m : Master) (k : Fin 12) (lane : Fin 128) (dir : Bool) (s : State) : Answer := run (fieldWrite m .d2dCtl .hub k.val [(62, 1, 1), (55, 7, lane.val), (54, 1, b2n dir)]) s

/-- FI_SHOT (R428). A write of shot arms a single injection on the next eligible unit. -/
def execFiShot (m : Master) (k : LinkRef) (s : State) : Answer := run (fiShotCmd m k) s

end Sys2Proof.Machine
end

