-- ==== Sys2Proof/Machine/MailboxCmds.lean ====
section
/-!
DEFINITION. The meanings of the commands of one family: mailbox channels and their commands (R501–R541).
-/
namespace Sys2Proof.Machine

/-- MBX_CMD_DB_WRITE (R504). A write to MBX_CMD_DB advances the command producer count. -/
def execMbxCmdDbWrite (fn : Fin 32) (pg : Fin 256) (v : BitVec 64) (s : State) : Answer := run (fun d => d.on (hostWrites fn.val pg.val (fun k => cmdDb k v))) s

/-- MBX_RSP_DB_WRITE (R502). A write to MBX_RSP_DB advances the response consumer count. -/
def execMbxRspDbWrite (fn : Fin 32) (pg : Fin 256) (v : BitVec 64) (s : State) : Answer := run (fun d => d.on (hostWrites fn.val pg.val (fun k => rspDb k v))) s

/-- COMMAND_FETCH (R504). The device fetches a command when the channel state and ring room allow. -/
def execCommandFetch (k : Fin 256) (pkt : List Byte) (rd : RingRead) (s : State) : Answer := run (fun d => d.on (commandFetch k.val pkt rd)) s

/-- RESPONSE_WRITE (R505). A response is written data slots first, header with phase last, and MSI-X sent. -/
def execResponseWrite (k : Fin 256) (s : State) : Answer := run (fun d => d.on (responseWrite k.val)) s

/-- COMMAND_TIMEOUT (R507). A command's budget expires and MBX_E_TIMEOUT takes its place. -/
def execCommandTimeout (k : Fin 256) (i : Nat) (s : State) : Answer := run (fun d => d.on (commandTimeout k.val i)) s

/-- MBX_CTL_CLR (R514). A write of clr to MBX_CTL clears err and all counts. -/
def execMbxCtlClr (fn : Fin 32) (pg : Fin 256) (s : State) : Answer := run (fun d => d.on (hostWrites fn.val pg.val ctlClr)) s

/-- MBX_RING_BASE_WRITE (R520). A write to MBX_CMD_BASE or MBX_RSP_BASE sets a ring, or faults while enabled. -/
def execMbxRingBaseWrite (fn : Fin 32) (pg : Fin 256) (rsp : Bool) (v : BitVec 64) (s : State) : Answer := run (fun d => d.on (hostWrites fn.val pg.val (fun k => ringBase rsp k v))) s

/-- MBX_NOP (R510). The NOP command completes. -/
def execMbxNop (k : Fin 256) (s : State) : Answer := run (mbxNop k.val) s

/-- IDENTIFY (R510). IDENTIFY returns the UID, versions, IDs and states. -/
def execIdentify (k : Fin 256) (s : State) : Answer := run (identify k.val) s

/-- CHAN_CONFIG (R511). CHAN_CONFIG moves a channel to a function and firebreak. -/
def execChanConfig (k : Fin 256) (s : State) : Answer := run (chanConfig k.val) s

/-- SET_DEADLINE (R511). SET_DEADLINE sets or re-arms BOOT_DEADLINE. -/
def execSetDeadline (k : Fin 256) (s : State) : Answer := run (setDeadlineCmd k.val) s

/-- DEVICE_RESET (R510). DEVICE_RESET answers and then starts a HUB or full internal reset. -/
def execDeviceReset (k : Fin 256) (s : State) : Answer := run (deviceReset k.val) s

/-- FW_BEGIN (R532). FW_BEGIN starts a firmware delivery to run or to write to flash. -/
def execFwBegin (k : Fin 256) (s : State) : Answer := run (fwBegin k.val) s

/-- FW_DATA (R511). FW_DATA delivers a firmware chunk in order. -/
def execFwData (k : Fin 256) (s : State) : Answer := run (fwData k.val) s

/-- FW_END (R532). FW_END ends the delivery and returns the security status. -/
def execFwEnd (k : Fin 256) (s : State) : Answer := run (fwEnd k.val) s

/-- PERS_BEGIN (R468). PERS_BEGIN starts a personality or partial image load. -/
def execPersBegin (k : Fin 256) (s : State) : Answer := run (persBegin k.val) s

/-- PERS_DATA (R469). PERS_DATA delivers an image chunk that is checked and staged as it arrives. -/
def execPersData (k : Fin 256) (s : State) : Answer := run (persData k.val) s

/-- PERS_END (R469). PERS_END closes the delivery, staging the image or committing it with auto-commit. -/
def execPersEnd (k : Fin 256) (s : State) : Answer := run (persEnd k.val) s

/-- PERS_COMMIT (R472). PERS_COMMIT commits the staged image. -/
def execPersCommit (k : Fin 256) (s : State) : Answer := run (persCommit k.val) s

/-- PERS_ABORT (R510). PERS_ABORT abandons a load. -/
def execPersAbort (k : Fin 256) (s : State) : Answer := run (persAbort k.val) s

/-- PERS_STATUS (R510). PERS_STATUS returns the journal and load state. -/
def execPersStatus (k : Fin 256) (s : State) : Answer := run (persStatus k.val) s

/-- SYS_PLAN (R445). SYS_PLAN delivers the mapping of UIDs to device IDs. -/
def execSysPlan (k : Fin 256) (s : State) : Answer := run (sysPlan k.val) s

/-- SYS_TOPOLOGY (R510). SYS_TOPOLOGY returns the discovered system. -/
def execSysTopology (k : Fin 256) (s : State) : Answer := run (sysTopology k.val) s

/-- QUEUE_WRITE (R511). QUEUE_WRITE places inline words of an item into a queue as a producer stream. -/
def execQueueWrite (k : Fin 256) (s : State) : Answer := run (queueWrite k.val) s

/-- QUEUE_READ (R511). QUEUE_READ pops words of a pop-mode queue. -/
def execQueueRead (k : Fin 256) (s : State) : Answer := run (queueRead k.val) s

/-- QUEUE_CTL (R510). QUEUE_CTL flushes, closes or reopens a queue. -/
def execQueueCtl (k : Fin 256) (s : State) : Answer := run (queueCtl k.val) s

/-- QUEUE_STATUS (R510). QUEUE_STATUS returns a queue's status and level. -/
def execQueueStatus (k : Fin 256) (s : State) : Answer := run (queueStatusCmd k.val) s

/-- TASK_POST (R510). TASK_POST posts a task from a template. -/
def execTaskPost (k : Fin 256) (s : State) : Answer := run (taskPost k.val) s

/-- TASK_CANCEL (R510). TASK_CANCEL cancels tasks through SCH_CANCEL. -/
def execTaskCancel (k : Fin 256) (s : State) : Answer := run (taskCancel k.val) s

/-- EVENT_PENDING (R511). EVENT_PENDING returns pending summary words. -/
def execEventPending (k : Fin 256) (s : State) : Answer := run (eventPending k.val) s

/-- EVENT_CLEAR (R511). EVENT_CLEAR clears named sources and returns their prior state. -/
def execEventClear (k : Fin 256) (s : State) : Answer := run (eventClear k.val) s

/-- COUNTER_READ (R510). COUNTER_READ reads counters at device-local addresses. -/
def execCounterRead (k : Fin 256) (s : State) : Answer := run (counterRead k.val) s

/-- MEM_READ (R511). MEM_READ reads device memory with a poison mask. -/
def execMemRead (k : Fin 256) (s : State) : Answer := run (memRead k.val) s

/-- MEM_WRITE (R511). MEM_WRITE writes inline data to device memory. -/
def execMemWrite (k : Fin 256) (s : State) : Answer := run (memWrite k.val) s

/-- RLOG_GET (R511). RLOG_GET returns a repair-log copy to the host. -/
def execRlogGet (k : Fin 256) (s : State) : Answer := run (rlogGet k.val) s

/-- RLOG_PUT (R511). RLOG_PUT stores a repair-log copy from the host. -/
def execRlogPut (k : Fin 256) (s : State) : Answer := run (rlogPut k.val) s

/-- ATTEST (R536). ATTEST increments the attempt counter and starts signing a report. -/
def execAttest (k : Fin 256) (s : State) : Answer := run (attest k.val) s

/-- ATTEST_READ (R510). ATTEST_READ returns part of the channel's last report. -/
def execAttestRead (k : Fin 256) (s : State) : Answer := run (attestRead k.val) s

/-- KEY_PROVISION (R539). KEY_PROVISION verifies a record and provisions or revokes an owner key slot. -/
def execKeyProvision (k : Fin 256) (s : State) : Answer := run (recordCmd 0x72 k.val) s

/-- LIFECYCLE_SET (R539). LIFECYCLE_SET verifies a record and burns a lifecycle transition. -/
def execLifecycleSet (k : Fin 256) (s : State) : Answer := run (recordCmd 0x73 k.val) s

/-- SIGNING_DONE (R536). An attestation signing completes and the report is stored. -/
def execSigningDone (s : State) : Answer := run (fun d => d.on (signingDone)) s

/-- OTP_BURN_DONE (R527). An OTP burn completes or fails. -/
def execOtpBurnDone (ok : Bool) (s : State) : Answer := run (fun d => d.on (burnDone ok)) s

/-- SEC_EXTEND (R534). A write of go to SEC_EXT_CTL extends a measurement register. -/
def execSecExtend (m : Master) (r : Fin 8) (s : State) : Answer := run (namedWrite m .secExtCtl .hub 0 (mkReg [(63, 1, 1), (0, 3, r.val)])) s

/-- ROM_BOOT (R530). After release the ROM runs the boot chain to verified firmware or BOOT. -/
def execRomBoot (s : State) : Answer := run (romBoot) s

/-- PCI_FLR (R509). A Function Level Reset returns the function's channels and MSI-X entries to reset values. -/
def execPciFlr (fn : Fin 32) (s : State) : Answer := run (fun d => d.on (pciFlr fn.val)) s

/-- HOT_RESET (R509). A PCIe hot reset acts as an FLR of every function. -/
def execHotReset (s : State) : Answer := run (fun d => d.on (hotReset)) s

/-- PCI_LINK_CHANGE (R517). The PCIe link goes down or returns; device writes wait. -/
def execPciLinkChange (up : Bool) (flit : Bool) (rate : Fin 8) (width : Fin 32) (s : State) : Answer := run (fun d => d.on (pciLink up flit rate.val width.val)) s

/-- MSIX_UNMASK (R516). Unmasking an entry with its PBA bit set sends the pending message. -/
def execMsixUnmask (v : Fin 2048) (s : State) : Answer := run (fun d => d.on (msixUnmask v.val)) s

end Sys2Proof.Machine
end

