-- ==== Sys2Proof/Machine/MemoryCmds.lean ====
section
/-!
DEFINITION. The meanings of the commands of one family: scratchpads, tile memories and GDDR7 (R276–R318).
-/
namespace Sys2Proof.Machine

/-- PORT_B_ACCESS (R276). A port-B access reaches a scratchpad bank, possibly colliding with port A. -/
def execPortBAccess (m : Master) (g : GroveId) (o : BitVec 18) (op : MemOp) (b : BeatShape) (lo : TWord) (hi : TWord) (ecc : Ecc) (s : State) : Answer :=
  run (portBAccess g.t.val (gOf g) (nodeOf m) (alignTo b.wide o.toNat) op b.wide b.be.toNat lo hi ecc) s

/-- PORT_B_REPEAT (R277). A port-B access that met BUSY_B is repeated by its master in the next cycle. -/
def execPortBRepeat (g : GroveId) (ecc : Ecc) (s : State) : Answer := run (portBRepeat g.t.val (gOf g) ecc) s

/-- TMB_ACCESS (R280). A tile-memory block serves the next requester in round-robin. -/
def execTmbAccess (m : Master) (t : TileId) (o : BitVec 26) (who : TmbReq) (op : MemOp) (wide : Bool) (lo : TWord) (hi : TWord) (found : TmbFound) (s : State) : Answer :=
  run (tmbAccess t.val (nodeOf m) ⟨who, o, op, wide, lo, hi, found.ecc⟩ found.others) s

/-- ECC_WRITEBACK (R286). A corrected row is written back at the next free cycle of its bank or block. -/
def execEccWriteback (u : MemUnit) (s : State) : Answer := run (fun d => d.on (eccWriteback u)) s

/-- SPM_SCRUB_ROW (R287). The scratchpad scrubber reads its next row each interval. -/
def execSpmScrubRow (g : GroveId) (ecc : Ecc) (s : State) : Answer := run (spmScrubRow g.t.val (gOf g) ecc) s

/-- TMB_SCRUB_ROW (R287). The tile-memory scrubber reads its next row each interval. -/
def execTmbScrubRow (t : TileId) (ecc : Ecc) (s : State) : Answer := run (tmbScrubRow t.val ecc) s

/-- GD7_SCRUB_BLOCK (R318). The GDDR7 scrubber reads its next block each interval. -/
def execGd7ScrubBlock (t : TileId) (ecc : Ecc) (s : State) : Answer := run (gd7ScrubBlock t.val ecc) s

/-- SPM_PWR_WRITE (R289). A write to SPM_PWR requests bank power states, holding off while a slot runs. -/
def execSpmPwrWrite (m : Master) (g : GroveId) (v : BitVec 64) (s : State) : Answer := run (namedWrite m .spmPwr (.grove g.t.val (gOf g)) 0 v) s

/-- TMB_PWR_WRITE (R299). A write to TMB_PWR_i requests tile-memory block power states. -/
def execTmbPwrWrite (m : Master) (t : TileId) (i : Fin 2) (v : BitVec 64) (s : State) : Answer := run (namedWrite m .tmbPwr (.tile t.val) i.val v) s

/-- MEM_RETENTION_ENTRY (R288). An idle bank or block enters retention after its idle time. -/
def execMemRetentionEntry (u : MemUnit) (s : State) : Answer := run (fun d => d.on (retentionEntry u)) s

/-- MEM_POWER_TRANSITION_DONE (R288). A bank or block completes its wake, or its ramp and zeroing after off. -/
def execMemPowerTransitionDone (u : MemUnit) (s : State) : Answer := run (powerDone u) s

/-- GD7_BRINGUP_DONE (R315). A channel completes training and zero-fill and becomes ready, or is down. -/
def execGd7BringupDone (t : TileId) (i : Fin 8) (ok : Bool) (density : Fin 4) (temp : Fin 128) (s : State) : Answer := run (fun d => d.on (gd7BringupDone t.val i.val ok density.val temp.val)) s

/-- GD7_TRAIN_START (R316). A write of start to GD7_TRAIN_CTL requests retraining of channels. -/
def execGd7TrainStart (m : Master) (t : TileId) (v : BitVec 64) (s : State) : Answer := run (namedWrite m .gd7TrainCtl (.tile t.val) 0 v) s

/-- GD7_RETRAIN_PERIOD (R316). A retraining period expires and the channel retrains. -/
def execGd7RetrainPeriod (t : TileId) (i : Fin 8) (s : State) : Answer := run (fun d => d.on (gd7Period t.val i.val)) s

/-- GD7_RETRAIN_DONE (R316). A retraining completes and held accesses proceed, or the channel is down. -/
def execGd7RetrainDone (t : TileId) (i : Fin 8) (ok : Bool) (s : State) : Answer := run (fun d => d.on (gd7RetrainDone t.val i.val ok)) s

/-- GD7_TRANSFER_DONE (R312). A GDDR7 transfer completes with its CRC and ECC outcome, retrying on mismatch. -/
def execGd7TransferDone (o : BitVec 40) (crc : Nat) (ode : Nat) (ecc : Ecc) (s : State) : Answer := run (gd7TransferDone o.toNat crc ode ecc) s

/-- GD7_POWER_DOWN (R317). A channel idle for 2^pd_exp cycles enters power-down. -/
def execGd7PowerDown (t : TileId) (i : Fin 8) (s : State) : Answer := run (fun d => d.on (gd7PowerDown t.val i.val)) s

/-- GD7_REFRESH (R317). A per-bank refresh interval expires and the bank is refreshed. -/
def execGd7Refresh (t : TileId) (u : RefreshUnit) (s : State) : Answer := run (fun d => d.on (gd7Refresh t.val u.i.val u.bank.val u.hot)) s

end Sys2Proof.Machine
end

