-- ==== Sys2Proof/Machine/PinCmds.lean ====
section
/-!
DEFINITION. The meanings of the commands of one family: user pins, triggers and pulse per second (R586–R598).
-/
namespace Sys2Proof.Machine

/-- UIO_OUT_WRITE (R592). A write to UIO_OUT sets GPIO output values. -/
def execUioOutWrite (m : Master) (v : BitVec 64) (s : State) : Answer := run (namedWrite m .uioOut .hub 0 v) s

/-- UIO_OUT_SET (R592). A write to UIO_OUT_SET sets named output bits. -/
def execUioOutSet (m : Master) (v : BitVec 64) (s : State) : Answer := run (namedWrite m .uioOutSet .hub 0 v) s

/-- UIO_OUT_CLR (R592). A write to UIO_OUT_CLR clears named output bits. -/
def execUioOutClr (m : Master) (v : BitVec 64) (s : State) : Answer := run (namedWrite m .uioOutClr .hub 0 v) s

/-- UIO_OE_WRITE (R592). A write to UIO_OE sets GPIO output enables. -/
def execUioOeWrite (m : Master) (v : BitVec 64) (s : State) : Answer := run (namedWrite m .uioOe .hub 0 v) s

/-- UIO_TRIG_AT_WRITE (R594). A write to UIO_TRIG_AT_k arms a trigger pulse at a time. -/
def execUioTrigAtWrite (m : Master) (k : Fin 8) (v : BitVec 64) (s : State) : Answer := run (namedWrite m .uioTrigAt .hub k.val v) s

/-- TRIG_OUT_PULSE_START (R594). The time base reaches an armed trigger time and the pulse starts. -/
def execTrigOutPulseStart (k : Fin 8) (s : State) : Answer := run (fun d => d.on (trigPulse k.val)) s

/-- PULSE_END (R594). A trigger or TB_OUT pulse ends after its width. -/
def execPulseEnd (n : Fin 48) (s : State) : Answer := run (fun d => d.on (pulseEnd n.val)) s

/-- TB_OUT_PULSE (R595). The time base reaches a multiple of the period and a TB_OUT pulse starts. -/
def execTbOutPulse (n : Fin 48) (s : State) : Answer := run (fun d => d.on (tbPulse n.val)) s

/-- TRIG_IN_EDGE (R593). A selected edge on a TRIG_IN pin is captured and raises UIO_TRIG_k. -/
def execTrigInEdge (k : Fin 16) (rising : Bool) (s : State) : Answer := run (fun d => d.on (trigInEdge k.val rising)) s

/-- PPS_IN_EDGE (R596). A PPS edge is captured, its error computed and the time base corrected when following. -/
def execPpsInEdge (rising : Bool) (s : State) : Answer := run (fun d => d.on (ppsInEdge rising)) s

/-- PPS_HOLDOVER (R596). No PPS edge for 1.5 s sets holdover. -/
def execPpsHoldover (s : State) : Answer := run (fun d => d.on (ppsHoldover)) s

/-- DELAY_LINE_CALIBRATION (R588). Every 100 ms the pin delay lines are calibrated against UCLK. -/
def execDelayLineCalibration (s : State) : Answer := run (fun d => d.on (delayCalibration)) s

end Sys2Proof.Machine
end

