-- ==== Sys2Proof/Machine/PowerCmds.lean ====
section
/-!
DEFINITION. The meanings of the commands of one family: resets, rails, clocks, power and watchdogs (R545–R562).
-/
namespace Sys2Proof.Machine

/-- POR (R555). VSTBY enters its range or falls below 2.5 V and everything resets. -/
def execPor (s : State) : Answer := run (por) s

/-- WARM_RESET (R555). PERST#, RESET_N or a brown-out resets all but the always-on domain. -/
def execWarmReset (cause : Fin 3) (s : State) : Answer := run (warm (cause.val + 1)) s

/-- RAIL_FAULT (R546). A rail leaves its range; PWR_ALERT holds and a brown-out causes WARM. -/
def execRailFault (r : Fin 8) (brown : Bool) (s : State) : Answer := run (railFault r.val brown) s

/-- XIN_DETECT (R551). XIN is detected and ACLK moves from the internal oscillator. -/
def execXinDetect (s : State) : Answer := run (fun d => d.on (xinDetect)) s

/-- HUB_RESET (R555). RST_CTL hub resets the hub logic, management core and ports. -/
def execHubReset (m : Master) (s : State) : Answer := run (namedWrite m .rstCtl .hub 0 (mkReg [(63, 1, 1)])) s

/-- INTERNAL_RESET (R555). RST_CTL internal performs a full internal reset with the PCIe link up. -/
def execInternalReset (m : Master) (s : State) : Answer := run (namedWrite m .rstCtl .hub 0 (mkReg [(62, 1, 1)])) s

/-- TILE_RESET (R555). RST_CTL tile resets one tile's logic, keeping memory contents. -/
def execTileReset (m : Master) (t : TileId) (s : State) : Answer := run (namedWrite m .rstCtl .hub 0 (mkReg [(t.val, 1, 1)])) s

/-- RST_GROVE (R555). A write of go to RST_GROVE resets one grove; its tasks abort and repeat. -/
def execRstGrove (m : Master) (g : GroveId) (s : State) : Answer := run (namedWrite m .rstGrove .hub 0 (mkReg [(63, 1, 1), (8, 2, g.t.val), (0, 8, (gOf g))])) s

/-- AVS_UPDATE (R547). Once per millisecond the device sets the VDD target over AVSBus. -/
def execAvsUpdate (answered : Bool) (need : Nat) (s : State) : Answer := run (fun d => d.on (avsUpdate answered need)) s

/-- PLL_UNLOCK (R553). A PLL loses lock with the outcome for its kind. -/
def execPllUnlock (n : Fin 12) (s : State) : Answer := run (fun d => d.on (pllUnlock n.val)) s

/-- TILE_PLL_OFF_ENTRY (R549). An idle tile enters PLL-off after 2^idle_exp µs. -/
def execTilePllOffEntry (t : TileId) (s : State) : Answer := run (fun d => d.on (tilePllOff t.val)) s

/-- TILE_WAKE_DONE (R550). A tile completes its wake from PLL-off and resumes. -/
def execTileWakeDone (t : TileId) (s : State) : Answer := run (fun d => d.on (tileWakeDone t.val)) s

/-- PWR_WAKE (R550). A write to PWR_WAKE wakes a grove or tile. -/
def execPwrWake (m : Master) (t : TileId) (g : Option GroveId) (s : State) : Answer := run (namedWrite m .pwrWake .hub 0 (mkReg [(63, 1, 1), (8, 2, wakeTile t g), (0, 8, (g.map gOf).getD 255)])) s

/-- CLK_TILE_WRITE (R552). A write of mult to CLK_TILE_t relocks the tile at a new frequency. -/
def execClkTileWrite (m : Master) (t : TileId) (v : BitVec 64) (s : State) : Answer := run (namedWrite m .clkTile .hub t.val v) s

/-- GROVE_RETENTION_ENTRY (R548). A grove idle for 2^grv_ret_exp cycles enters retention. -/
def execGroveRetentionEntry (g : GroveId) (s : State) : Answer := run (fun d => d.on (groveRetention g.t.val (gOf g))) s

/-- WDG_FW_SVC (R557). A write of the key to WDG_FW_SVC reloads the firmware watchdog. -/
def execWdgFwSvc (m : Master) (v : BitVec 64) (s : State) : Answer := run (namedWrite m .wdgFwSvc .hub 0 v) s

/-- WDG_DEV_SVC (R557). A write of the key to WDG_DEV_SVC reloads the device watchdog. -/
def execWdgDevSvc (m : Master) (v : BitVec 64) (s : State) : Answer := run (namedWrite m .wdgDevSvc .hub 0 v) s

/-- WDG_CTL_WRITE (R557). A write of a watchdog period is ignored if it breaks the ratio between the watchdogs. -/
def execWdgCtlWrite (m : Master) (dev : Bool) (v : BitVec 64) (s : State) : Answer := run (namedWrite m (if dev then .wdgDevCtl else .wdgFwCtl) .hub 0 v) s

/-- WDG_FW_WARN (R557). The firmware watchdog reaches its warning point. -/
def execWdgFwWarn (s : State) : Answer := run (fun d => d.on (wdgFwWarn)) s

/-- WDG_DEV_WARN (R557). The device watchdog reaches its warning point. -/
def execWdgDevWarn (s : State) : Answer := run (fun d => d.on (wdgDevWarn)) s

/-- WDG_FW_EXPIRY (R557). The firmware watchdog expires into a HUB reset. -/
def execWdgFwExpiry (s : State) : Answer := run (fun d => d.on (wdgFwExpiry)) s

/-- WDG_DEV_EXPIRY (R557). The device watchdog expires into a full internal reset. -/
def execWdgDevExpiry (s : State) : Answer := run (fun d => d.reset wdgDevExpiry) s

end Sys2Proof.Machine
end

