-- ==== Sys2Proof/Machine/PuhanCmds.lean ====
section
/-!
DEFINITION. The meanings of the commands of one family: packets of Puhan-X and what their streams and drains do (R379–R408, R607).
-/
namespace Sys2Proof.Machine

/-- PUHAN_QWR (R392). A QWR packet arrives at a queue and its words join an item under credit and epoch checks. -/
def execPuhanQwr (p : Packet) (ue : Bool) (s : State) : Answer := run (qwrCmd p ue) s

/-- PUHAN_MWR (R395). An MWR packet arrives and writes memory or registers. -/
def execPuhanMwr (p : Packet) (ecc : Ecc) (s : State) : Answer := run (takePkt [0x02] p (fun keep d => puhanMem p ecc keep d)) s

/-- PUHAN_NTC (R394). An NTC packet arrives and goes to the management core's message queue. -/
def execPuhanNtc (p : Packet) (s : State) : Answer := run (takePkt [0x03] p (fun _ d => d.on (puhanNtc p))) s

/-- PUHAN_MRD (R395). An MRD packet arrives and is answered with data or an error completion. -/
def execPuhanMrd (p : Packet) (ecc : Ecc) (s : State) : Answer := run (takePkt [0x08] p (fun keep d => puhanMem p ecc keep d)) s

/-- PUHAN_FADD (R395). A FADD packet performs an atomic fetch-add and returns the old value. -/
def execPuhanFadd (p : Packet) (ecc : Ecc) (s : State) : Answer := run (takePkt [0x09] p (fun keep d => puhanMem p ecc keep d)) s

/-- PUHAN_SWAP (R395). A SWAP packet performs an atomic swap and returns the old value. -/
def execPuhanSwap (p : Packet) (ecc : Ecc) (s : State) : Answer := run (takePkt [0x0A] p (fun keep d => puhanMem p ecc keep d)) s

/-- PUHAN_QRD (R393). A QRD packet pops words of a pop-mode queue. -/
def execPuhanQrd (p : Packet) (s : State) : Answer := run (qrdCmd p) s

/-- PUHAN_CPL (R380). A CPL or CPLD completion arrives and is matched by endpoint and tag. -/
def execPuhanCpl (p : Packet) (s : State) : Answer := run (takePkt [0x10, 0x11] p (fun _ d => d.on (puhanCpl p))) s

/-- PUHAN_QCQ (R390). A QCQ credit request arrives, returning credit or waiting for a grant. -/
def execPuhanQcq (p : Packet) (s : State) : Answer := run (takePkt [0x18] p (fun _ d => d.on (puhanQcq p))) s

/-- PUHAN_QCG (R607). A QCG grant arrives at a drain of the device and sets its credit. -/
def execPuhanQcg (p : Packet) (s : State) : Answer := run (takePkt [0x19] p (fun _ d => d.on (puhanQcg p))) s

/-- PUHAN_MSG (R396). An MSG packet enters the management core's message queue or is dropped when full. -/
def execPuhanMsg (p : Packet) (s : State) : Answer := run (takePkt [0x1A] p (fun _ d => d.on (puhanMsg p))) s

/-- PUHAN_EVT (R223). An internal EVT packet carries a change of pend to the hub. -/
def execPuhanEvt (e : Fin 5120) (s : State) : Answer := run (fun d => d.on (hubArrival e.val)) s

/-- PUHAN_LCK (R192). An internal LCK packet carries a flow-lock exchange. -/
def execPuhanLck (t : TileId) (op : Fin 4) (s : State) : Answer := run (fun d => d.on (puhanLck t.val op.val)) s

/-- QUEUE_CREDIT_GRANT (R390). A waiting QCQ is answered with a QCG once blocks can be reserved. -/
def execQueueCreditGrant (q : Fin 16384) (s : State) : Answer := run (fun d => d.on (creditGrant q.val)) s

/-- STREAM_RECLAIM (R391). A stream idle beyond asm_limit without an open item is reclaimed and its epoch advanced. -/
def execStreamReclaim (q : Fin 16384) (i : Fin 8) (s : State) : Answer := run (fun d => d.on (streamReclaim q.val i.val)) s

/-- ASSEMBLY_IDLE_LIMIT (R402, R511). An open item idle beyond asm_limit is discarded: of a stream as an ASM violation, or of a mailbox channel. -/
def execAssemblyIdleLimit (q : Fin 16384) (i : Fin 264) (s : State) : Answer := run (fun d => d.on (idleLimit q.val i.val)) s

/-- REQUEST_TIMEOUT (R398). An NP request without completion for 100 µs completes with TIMEOUT. -/
def execRequestTimeout (r : ReqRef) (s : State) : Answer := run (fun d => d.on (requestTimeout r)) s

/-- VCOUNT_DECAY (R403). Every decay ms the violation count of a virtual link falls by 1. -/
def execVcountDecay (n : Fin 2048) (s : State) : Answer := run (fun d => d.on (vcountDecay n.val)) s

/-- QUARANTINE_CLEAR (R403). Clearing quar zeroes vcount and releases held traffic in order. -/
def execQuarantineClear (m : Master) (n : Fin 2048) (s : State) : Answer := run (fieldWrite m .fabVl .hub n.val [(62, 1, 1)]) s

/-- DRAIN_SEND (R607). A drain queue sends committed item words under credit toward its destination. -/
def execDrainSend (q : Fin 16384) (s : State) : Answer := run (drainSend q.val) s

/-- DRAIN_CREDIT_RETRY (R607). A drain refused with CLOSED or PERM repeats its QCQ after 1 ms. -/
def execDrainCreditRetry (q : Fin 16384) (s : State) : Answer := run (fun d => d.on (drainRetry q.val)) s

/-- TRANSIT_FORWARD (R401). A packet for another endpoint is forwarded in transit on its egress link. -/
def execTransitForward (p : Packet) (s : State) : Answer := run (forwardCmd p) s

end Sys2Proof.Machine
end

