-- ==== Sys2Proof/Machine/QueueCmds.lean ====
section
/-!
DEFINITION. The meanings of the commands of one family: queues (R242–R259).
-/
namespace Sys2Proof.Machine

/-- QUEUE_SPILL (R245). A full tail spills a 16-word block to the pool or the GDDR7 region. -/
def execQueueSpill (q : Fin 16384) (bad : Option (Fin 64)) (s : State) : Answer := run (queueSpill q.val (bad.map (fun x => x.val))) s

/-- QUEUE_REFILL_LAND (R246). A refill block lands in the head and waiting pops are served. -/
def execQueueRefillLand (q : Fin 16384) (found : RefillFound) (s : State) : Answer := run (refillLand q.val found.row.val found.ecc) s

/-- QUE_POP_READ (R249). A read of QUE_POP_l pops the front word or returns the glade word. -/
def execQuePopRead (m : Master) (q : Fin 16384) (ue : Bool) (s : State) : Answer := run (popCmd m q.val ue) s

/-- QUEUE_FLUSH (R257). A write of flush discards unheld items and assemblies and cancels their tasks. -/
def execQueueFlush (m : Master) (q : Fin 16384) (s : State) : Answer := run (fieldWrite m .queCtl (.tile (q.val / 4096)) (q.val % 4096) [(2, 1, 1)]) s

/-- FLUSH_BLOCK_RETURN (R257). Blocks freed by a flush return to the free lists and busy clears. -/
def execFlushBlockReturn (q : Fin 16384) (s : State) : Answer := run (fun d => d.on (flushReturn q.val)) s

/-- QUEUE_CLOSE (R251). A write of close makes the queue refuse new items. -/
def execQueueClose (m : Master) (q : Fin 16384) (s : State) : Answer := run (fieldWrite m .queCtl (.tile (q.val / 4096)) (q.val % 4096) [(1, 1, 1)]) s

/-- QUEUE_REOPEN (R251). A write of reopen reopens a closed queue. -/
def execQueueReopen (m : Master) (q : Fin 16384) (s : State) : Answer := run (fieldWrite m .queCtl (.tile (q.val / 4096)) (q.val % 4096) [(0, 1, 1)]) s

/-- QUE_CFG_WRITE (R259). A write to QUE_CFG_l sets configuration while disabled; an enable advances every slot epoch. -/
def execQueCfgWrite (m : Master) (q : Fin 16384) (v : BitVec 64) (s : State) : Answer := run (namedWrite m .queCfg (.tile (q.val / 4096)) (q.val % 4096) v) s

/-- QUEUE_STALL_LIMIT (R248). A producer has waited beyond QUE_STALL_LIMIT; stall is set and QUE_STALL raised. -/
def execQueueStallLimit (q : Fin 16384) (s : State) : Answer := run (fun d => d.on (stallLimit q.val)) s

end Sys2Proof.Machine
end

