-- ==== Sys2Proof/Machine/RestCmds.lean ====
section
/-!
DEFINITION. The meanings of the commands of one family: happenings that return a clock or a rail, and what arrives with no row of a family (R381, R511, R546, R553, R565, R589).
-/
namespace Sys2Proof.Machine

/-- PLL_RELOCK (R553). An unlocked PLL locks again, leading to a TILE or HUB reset, the return of a PCIe or SerDes link, or GDDR7 retraining. -/
def execPllRelock (n : Fin 12) (late : Bool) (s : State) : Answer := run (pllRelock n.val late) s

/-- RAIL_IN_RANGE (R546). A supply rail returns within its range, clearing its bit of PWR_ALERT and, after 2 ms in range, releasing a brown-out WARM. -/
def execRailInRange (r : Fin 8) (s : State) : Answer := run (fun d => d.on (railInRange r.val)) s

/-- GPIO_PIN_EDGE (R589). The level at a user I/O pin changes and reaches UIO_IN 5 ns later. -/
def execGpioPinEdge (n : Fin 48) (level : Bool) (s : State) : Answer := run (fun d => d.on (gpioPinEdge n.val level)) s

/-- CONFIGURATION_REQUEST (R511). The host writes PCIe configuration space, assigning BARs, enabling VFs or enabling and disabling MSI-X of a function. -/
def execConfigurationRequest (q : CfgReq) (s : State) : Answer := run (fun d => d.on (configRequest q)) s

/-- RESERVED_FRAME (R565). A lookout frame with a reserved op arrives and receives FAULT with cause FORMAT. -/
def execReservedFrame (op : BitVec 4) (f : DbgFrame) (s : State) : Answer := run (reservedFrame op.toNat f) s

/-- RESERVED_TYPE_PACKET (R381). A packet of a reserved type arrives on Puhan-X, is delimited by len and psn and, when its CRC passes, is a TYPE violation. -/
def execReservedTypePacket (p : Packet) (s : State) : Answer := run (reservedCmd p) s

/-- TIME_BASE_SLEW_END (R455). A slew of the time base spends its offset and busy in TBS_ADJ clears. -/
def execTimeBaseSlewEnd (s : State) : Answer := run (fun d => d.on (slewEnd)) s

end Sys2Proof.Machine
end

