-- ==== Sys2Proof/Machine/SchedCmds.lean ====
section
/-!
DEFINITION. The meanings of the commands of one family: the scheduler of a tile and the inter-tile forwarder (R181–R207).
-/
namespace Sys2Proof.Machine

/-- NOTICE_INTAKE (R181). The scheduler takes up to two notices, filling descriptors from queue templates. -/
def execNoticeIntake (t : TileId) (s : State) : Answer := run (fun d => d.on (noticeIntake t.val 2)) s

/-- SCH_POST (R182). A write to SCH_POST creates a task from a template, immediately ready or delayed, or loses it. -/
def execSchPost (m : Master) (t : TileId) (tpl : BitVec 8) (delay : BitVec 24) (s : State) : Answer := run (namedWrite m .schPost (.tile t.val) 0 (mkReg [(24, 8, tpl.toNat), (0, 24, delay.toNat)])) s

/-- TICK (R194). The tick count advances when the time base crosses a further multiple of the tick period. -/
def execTick (t : TileId) (s : State) : Answer := run (fun d => d.on (schTickOnce t.val)) s

/-- DELAY_EXPIRY (R195). Timers whose deadline equals the new tick expire and their tasks become due. -/
def execDelayExpiry (t : TileId) (s : State) : Answer := run (fun d => d.on (delayExpiry t.val)) s

/-- DUE_TASK_READY (R195). Due delayed tasks become ready at up to four per cycle in deadline order once the table or FIFO has room. -/
def execDueTaskReady (t : TileId) (s : State) : Answer := run (fun d => d.on (dueReady t.val)) s

/-- FLOW_CHAIN_ADVANCE (R190). In the cycle after a lock release, the first task of the flow's chain becomes READY. -/
def execFlowChainAdvance (t : TileId) (f : Flow) (s : State) : Answer := run (fun d => d.on (chainAdvance t.val f)) s

/-- LOCK_OVERFLOW_DRAIN (R191). A task leaves the lock overflow FIFO in order as a way of its set frees. -/
def execLockOverflowDrain (t : TileId) (s : State) : Answer := run (fun d => d.on (fifoDrain t.val)) s

/-- FLOW_ENTRY_FREE (R188). A flow-lock entry with no remaining tasks and no lock is freed. -/
def execFlowEntryFree (t : TileId) (f : Flow) (s : State) : Answer := run (fun d => d.on (entryFree t.val f)) s

/-- DISPATCH_DECISION (R197). The scheduler places one READY task on a grove, taking its flow lock and starting any page-in. -/
def execDispatchDecision (t : TileId) (s : State) : Answer := run (dispatch t.val) s

/-- GANG_RESERVATION (R200). A member grove of the first gang in dispatch order is reserved as it becomes a candidate. -/
def execGangReservation (g : GroveId) (s : State) : Answer := run (gangReserve g.t.val (gOf g)) s

/-- GANG_START (R200). All members of a gang placement switch in one cycle and its channels and lanes are enabled. -/
def execGangStart (t : TileId) (s : State) : Answer := run (gangStart t.val) s

/-- PAGE_IN_COMPLETE (R159). A page-in ends with its header check: READY, reissue on a generation mismatch, or a page-in fault. -/
def execPageInComplete (g : GroveId) (ue : Bool) (s : State) : Answer := run (pageInComplete g.t.val (gOf g) ue) s

/-- SWITCH_CYCLE (R156). A READY or SUSPENDED slot becomes the running slot, loading latches and preparing its bank. -/
def execSwitchCycle (g : GroveId) (s : State) : Answer := run (fun d => d.on (switchCycle g.t.val (gOf g))) s

/-- RESUMPTION (R201). A RESUMABLE task resumes on its own grove when the grove has no running slot. -/
def execResumption (g : GroveId) (s : State) : Answer := run (fun d => d.on (resumeTask g.t.val (gOf g))) s

/-- CANCEL_DESCRIPTOR (R202). SCH_CANCEL by descriptor removes one task, or is refused. -/
def execCancelDescriptor (m : Master) (t : TileId) (n : Fin 4096) (s : State) : Answer := run (namedWrite m .schCancel (.tile t.val) 0 (mkReg [(62, 2, 0), (0, 12, n.val)])) s

/-- CANCEL_FLOW (R202). SCH_CANCEL by flow marks every eligible task of a flow in the tile. -/
def execCancelFlow (m : Master) (t : TileId) (f : Flow) (s : State) : Answer := run (namedWrite m .schCancel (.tile t.val) 0 (mkReg [(62, 2, 1), (0, 24, f.toNat)])) s

/-- CANCEL_TEMPLATE (R202). SCH_CANCEL by template marks every eligible task posted from a template. -/
def execCancelTemplate (m : Master) (t : TileId) (tpl : BitVec 8) (s : State) : Answer := run (namedWrite m .schCancel (.tile t.val) 0 (mkReg [(62, 2, 2), (0, 8, tpl.toNat)])) s

/-- CANCEL_WALK (R203). The descriptor walk removes a marked task with the effects of a cancel. -/
def execCancelWalk (t : TileId) (s : State) : Answer := run (fun d => d.on (cancelWalk t.val)) s

/-- XLOCK_REQUEST (R192). The inter-tile forwarder receives a tile's request or release for a flow-spanning grant. -/
def execXlockRequest (t : TileId) (s : State) : Answer := run (fun d => d.on (xlockRequest t.val)) s

/-- XLOCK_GRANT (R192). A flow-spanning grant arrives at a tile and its task becomes placeable. -/
def execXlockGrant (t : TileId) (s : State) : Answer := run (fun d => d.on (xlockGrant t.val)) s

/-- XLOCK_ERROR (R193). A forwarder exchange receives an error completion and is sent again with SCH_XLOCK_ERR. -/
def execXlockError (t : TileId) (s : State) : Answer := run (fun d => d.on (xlockError t.val)) s

/-- XLOCK_REANNOUNCE (R193). After a HUB reset each tile re-announces its grants and requests to the forwarder. -/
def execXlockReannounce (t : TileId) (s : State) : Answer := run (fun d => d.on (xlockReannounce t.val)) s

/-- SCH_TICK_WRITE (R194). A write to SCH_TICK sets the period from the next tick. -/
def execSchTickWrite (m : Master) (t : TileId) (v : BitVec 64) (s : State) : Answer := run (namedWrite m .schTick (.tile t.val) 0 v) s

/-- HISTOGRAM_CLEAR (R206). A write of clr to SCH_HIST_CTL zeroes one histogram's buckets. -/
def execHistogramClear (m : Master) (t : TileId) (v : BitVec 64) (s : State) : Answer := run (namedWrite m .schHistCtl (.tile t.val) 0 v) s

/-- LOAD_WINDOW_END (R207). At the end of each load window every SCH_GROVE_n receives load and disp. -/
def execLoadWindowEnd (t : TileId) (s : State) : Answer := run (fun d => d.on (loadWindowEnd t.val)) s

end Sys2Proof.Machine
end

