-- ==== Sys2Proof/Machine/SeqCmds.lean ====
section
/-!
DEFINITION. The meanings of the commands of one family: the sequencer instructions (R117–R132) and what ends them.
-/
namespace Sys2Proof.Machine

/-- SEQ_NOP (R121). The sequencer issues NOP. -/
def execSeqNop (g : GroveId) (u : SeqUpset) (s : State) : Answer := run (seqIssue 0x00 g.t.val (gOf g) u) s

/-- SEQ_ADD (R121). The sequencer issues ADD of two registers. -/
def execSeqAdd (g : GroveId) (u : SeqUpset) (s : State) : Answer := run (seqIssue 0x01 g.t.val (gOf g) u) s

/-- SEQ_SUB (R121). The sequencer issues SUB of two registers. -/
def execSeqSub (g : GroveId) (u : SeqUpset) (s : State) : Answer := run (seqIssue 0x02 g.t.val (gOf g) u) s

/-- SEQ_AND (R121). The sequencer issues AND of two registers. -/
def execSeqAnd (g : GroveId) (u : SeqUpset) (s : State) : Answer := run (seqIssue 0x03 g.t.val (gOf g) u) s

/-- SEQ_OR (R121). The sequencer issues OR of two registers. -/
def execSeqOr (g : GroveId) (u : SeqUpset) (s : State) : Answer := run (seqIssue 0x04 g.t.val (gOf g) u) s

/-- SEQ_XOR (R121). The sequencer issues XOR of two registers. -/
def execSeqXor (g : GroveId) (u : SeqUpset) (s : State) : Answer := run (seqIssue 0x05 g.t.val (gOf g) u) s

/-- SEQ_SLT (R121). The sequencer issues SLT, a signed comparison. -/
def execSeqSlt (g : GroveId) (u : SeqUpset) (s : State) : Answer := run (seqIssue 0x06 g.t.val (gOf g) u) s

/-- SEQ_SLTU (R121). The sequencer issues SLTU, an unsigned comparison. -/
def execSeqSltu (g : GroveId) (u : SeqUpset) (s : State) : Answer := run (seqIssue 0x07 g.t.val (gOf g) u) s

/-- SEQ_ADDI (R121). The sequencer issues ADDI with a sign-extended immediate. -/
def execSeqAddi (g : GroveId) (u : SeqUpset) (s : State) : Answer := run (seqIssue 0x08 g.t.val (gOf g) u) s

/-- SEQ_ANDI (R121). The sequencer issues ANDI with a zero-extended immediate. -/
def execSeqAndi (g : GroveId) (u : SeqUpset) (s : State) : Answer := run (seqIssue 0x09 g.t.val (gOf g) u) s

/-- SEQ_ORI (R121). The sequencer issues ORI with a zero-extended immediate. -/
def execSeqOri (g : GroveId) (u : SeqUpset) (s : State) : Answer := run (seqIssue 0x0A g.t.val (gOf g) u) s

/-- SEQ_SHLI (R121). The sequencer issues SHLI. -/
def execSeqShli (g : GroveId) (u : SeqUpset) (s : State) : Answer := run (seqIssue 0x0B g.t.val (gOf g) u) s

/-- SEQ_SHRI (R121). The sequencer issues SHRI with zero fill. -/
def execSeqShri (g : GroveId) (u : SeqUpset) (s : State) : Answer := run (seqIssue 0x0C g.t.val (gOf g) u) s

/-- SEQ_SRAI (R121). The sequencer issues SRAI with sign fill. -/
def execSeqSrai (g : GroveId) (u : SeqUpset) (s : State) : Answer := run (seqIssue 0x0D g.t.val (gOf g) u) s

/-- SEQ_BR (R121). The sequencer issues BR, going to its target. -/
def execSeqBr (g : GroveId) (u : SeqUpset) (s : State) : Answer := run (seqIssue 0x10 g.t.val (gOf g) u) s

/-- SEQ_BC (R122). The sequencer issues BC, branching when cond XOR inv is 1. -/
def execSeqBc (g : GroveId) (u : SeqUpset) (s : State) : Answer := run (seqIssue 0x11 g.t.val (gOf g) u) s

/-- SEQ_BZ (R121). The sequencer issues BZ, branching when a register is zero. -/
def execSeqBz (g : GroveId) (u : SeqUpset) (s : State) : Answer := run (seqIssue 0x12 g.t.val (gOf g) u) s

/-- SEQ_BNZ (R121). The sequencer issues BNZ, branching when a register is non-zero. -/
def execSeqBnz (g : GroveId) (u : SeqUpset) (s : State) : Answer := run (seqIssue 0x13 g.t.val (gOf g) u) s

/-- SEQ_LOOP (R125). The sequencer issues LOOP, opening a loop level with an immediate count. -/
def execSeqLoop (g : GroveId) (u : SeqUpset) (s : State) : Answer := run (seqIssue 0x14 g.t.val (gOf g) u) s

/-- SEQ_LOOPR (R125). The sequencer issues LOOPR, opening a loop level with a register count. -/
def execSeqLoopr (g : GroveId) (u : SeqUpset) (s : State) : Answer := run (seqIssue 0x15 g.t.val (gOf g) u) s

/-- SEQ_CALL (R135). The sequencer issues CALL, opening a window at depth + 1 or raising SEQ_SPILL_FULL. -/
def execSeqCall (g : GroveId) (u : SeqUpset) (s : State) : Answer := run (seqIssue 0x16 g.t.val (gOf g) u) s

/-- SEQ_RET (R135). The sequencer issues RET, releasing the window and returning. -/
def execSeqRet (g : GroveId) (u : SeqUpset) (s : State) : Answer := run (seqIssue 0x17 g.t.val (gOf g) u) s

/-- SEQ_END (R132). The sequencer issues END; no cell of the slot fires from the next cycle. -/
def execSeqEnd (g : GroveId) (u : SeqUpset) (s : State) : Answer := run (seqIssue 0x18 g.t.val (gOf g) u) s

/-- SEQ_WAITC (R121). The sequencer issues WAITC, stalling until cond XOR inv is 1. -/
def execSeqWaitc (g : GroveId) (u : SeqUpset) (s : State) : Answer := run (seqIssue 0x19 g.t.val (gOf g) u) s

/-- SEQ_WAITN (R121). The sequencer issues WAITN, stalling imm + 1 cycles. -/
def execSeqWaitn (g : GroveId) (u : SeqUpset) (s : State) : Answer := run (seqIssue 0x1A g.t.val (gOf g) u) s

/-- SEQ_SUSP (R130). The sequencer issues SUSP, suspending the task while a read is outstanding. -/
def execSeqSusp (g : GroveId) (u : SeqUpset) (s : State) : Answer := run (seqIssue 0x1B g.t.val (gOf g) u) s

/-- SEQ_BRK (R131). The sequencer issues BRK, halting the grove when run control permits. -/
def execSeqBrk (g : GroveId) (u : SeqUpset) (s : State) : Answer := run (seqIssue 0x1C g.t.val (gOf g) u) s

/-- SEQ_STEP (R121). The sequencer issues STEP, asserting the step strobe for imm + 1 cycles. -/
def execSeqStep (g : GroveId) (u : SeqUpset) (s : State) : Answer := run (seqIssue 0x20 g.t.val (gOf g) u) s

/-- SEQ_STEPR (R121). The sequencer issues STEPR, asserting the step strobe for a register count of cycles. -/
def execSeqStepr (g : GroveId) (u : SeqUpset) (s : State) : Answer := run (seqIssue 0x21 g.t.val (gOf g) u) s

/-- SEQ_SQO (R121). The sequencer issues SQO, driving the operand bus from the next cycle. -/
def execSeqSqo (g : GroveId) (u : SeqUpset) (s : State) : Answer := run (seqIssue 0x22 g.t.val (gOf g) u) s

/-- SEQ_GETC (R121). The sequencer issues GETC, reading the condition bits of all cells. -/
def execSeqGetc (g : GroveId) (u : SeqUpset) (s : State) : Answer := run (seqIssue 0x23 g.t.val (gOf g) u) s

/-- SEQ_GETO (R121). The sequencer issues GETO, reading the OUT of one cell. -/
def execSeqGeto (g : GroveId) (u : SeqUpset) (s : State) : Answer := run (seqIssue 0x24 g.t.val (gOf g) u) s

/-- SEQ_SETK (R121). The sequencer issues SETK, writing a cell register k. -/
def execSeqSetk (g : GroveId) (u : SeqUpset) (s : State) : Answer := run (seqIssue 0x25 g.t.val (gOf g) u) s

/-- SEQ_QBIND (R121). The sequencer issues QBIND, binding a write port to a queue and output flow. -/
def execSeqQbind (g : GroveId) (u : SeqUpset) (s : State) : Answer := run (seqIssue 0x28 g.t.val (gOf g) u) s

/-- SEQ_QSOI (R127). The sequencer issues QSOI, opening an item on a write port. -/
def execSeqQsoi (g : GroveId) (u : SeqUpset) (s : State) : Answer := run (seqIssue 0x29 g.t.val (gOf g) u) s

/-- SEQ_QEOI (R127). The sequencer issues QEOI, closing the item and setting the end mark. -/
def execSeqQeoi (g : GroveId) (u : SeqUpset) (s : State) : Answer := run (seqIssue 0x2A g.t.val (gOf g) u) s

/-- SEQ_QREAD (R126). The sequencer issues QREAD, requesting delivery of imm + 1 input words. -/
def execSeqQread (g : GroveId) (u : SeqUpset) (s : State) : Answer := run (seqIssue 0x2B g.t.val (gOf g) u) s

/-- SEQ_QREADR (R126). The sequencer issues QREADR, requesting delivery of a register count of words. -/
def execSeqQreadr (g : GroveId) (u : SeqUpset) (s : State) : Answer := run (seqIssue 0x2C g.t.val (gOf g) u) s

/-- SEQ_QSEEK (R126). The sequencer issues QSEEK, positioning a read port. -/
def execSeqQseek (g : GroveId) (u : SeqUpset) (s : State) : Answer := run (seqIssue 0x2D g.t.val (gOf g) u) s

/-- SEQ_SLD (R128). The sequencer issues SLD, reading a scratchpad word into a register. -/
def execSeqSld (g : GroveId) (u : SeqUpset) (s : State) : Answer := run (seqIssue 0x30 g.t.val (gOf g) u) s

/-- SEQ_SST (R128). The sequencer issues SST, writing a scratchpad word. -/
def execSeqSst (g : GroveId) (u : SeqUpset) (s : State) : Answer := run (seqIssue 0x31 g.t.val (gOf g) u) s

/-- SEQ_MRD (R128). The sequencer issues MRD, reading a device-local word over the network. -/
def execSeqMrd (g : GroveId) (u : SeqUpset) (s : State) : Answer := run (seqMrd g.t.val (gOf g) u) s

/-- SEQ_MWR (R128). The sequencer issues MWR, buffering a write for the commit cycle. -/
def execSeqMwr (g : GroveId) (u : SeqUpset) (s : State) : Answer := run (seqIssue 0x33 g.t.val (gOf g) u) s

/-- SEQ_SIG (R128). The sequencer issues SIG, recording a signal code. -/
def execSeqSig (g : GroveId) (u : SeqUpset) (s : State) : Answer := run (seqIssue 0x38 g.t.val (gOf g) u) s

/-- MRD_COMPLETION (R124). The completion of an MRD arrives; its register is written, or an error completion causes the MEM trap. -/
def execMrdCompletion (g : GroveId) (tag : Fin 64) (ecc : Ecc) (s : State) : Answer := run (mrdComplete g.t.val (gOf g) tag.val ecc) s

/-- BUDGET_EXPIRY (R140). The cycle budget reaches 0 before the task ends and the BUDGET trap is taken. -/
def execBudgetExpiry (g : GroveId) (s : State) : Answer := run (fun d => d.on (budgetExpiry g.t.val (gOf g))) s

/-- WINDOW_SPILL (R136). The spill engine spills a victim window to its frame while free windows are below low_water. -/
def execWindowSpill (g : GroveId) (ue : Bool) (s : State) : Answer := run (windowSpill g.t.val (gOf g) ue) s

/-- WINDOW_REFILL (R136). The spill engine refills a window demanded by RET or resumption, or prefetches one. -/
def execWindowRefill (g : GroveId) (ecc : Ecc) (s : State) : Answer := run (windowRefill g.t.val (gOf g) ecc) s

/-- MWR_ERROR_COMPLETION (R129). An error completion to a buffered write arrives and is counted, captured and raised as SEQ_MWR_ERR. -/
def execMwrErrorCompletion (g : GroveId) (s : State) : Answer := run (fun d => d.on (mwrErrorArrives g.t.val (gOf g))) s

/-- QR_FETCH_ARRIVAL (R242). Words fetched for a read port arrive in its fetch buffer and delivery resumes. -/
def execQrFetchArrival (g : GroveId) (u : Fin 2) (n : Nat) (found : FetchFound) (s : State) : Answer :=
  run (qrFetch g.t.val (gOf g) u.val n found.ecc (found.hit.map (fun x => x.val))) s

/-- QW_PUSH (R127). A write port pushes the valid word on its track into the open item, or stalls under back-pressure. -/
def execQwPush (g : GroveId) (p : Fin 2) (up : BitVec 35) (rail : Bool) (s : State) : Answer := run (qwPush g.t.val (gOf g) p.val up rail) s

/-- QW_WORD_ACCEPTED (R247). A queue accepts a word held by a stalled write port and the slot resumes. -/
def execQwWordAccepted (g : GroveId) (p : Fin 2) (s : State) : Answer := run (qwAccepted g.t.val (gOf g) p.val) s

end Sys2Proof.Machine
end

