-- ==== Sys2Proof/Machine/SpareCmds.lean ====
section
/-!
DEFINITION. The meanings of the commands of one family: grove substitution, row spares and aging (R357–R374).
-/
namespace Sys2Proof.Machine

/-- SWAP_DIRECT (R361). A write of go with op direct starts a direct grove substitution. -/
def execSwapDirect (m : Master) (t : TileId) (x : Fin 12) (y : Fin 12) (s : State) : Answer := run (namedWrite m .sprSwapCtl .hub 0 (mkReg [(63, 1, 1), (18, 2, 0), (16, 2, t.val), (8, 4, x.val), (0, 4, y.val)])) s

/-- SWAP_SHIFT (R365). A write of go with op shift starts a shift repair in a maintenance window. -/
def execSwapShift (m : Master) (t : TileId) (f : Fin 13) (y : Fin 12) (s : State) : Answer := run (namedWrite m .sprSwapCtl .hub 0 (mkReg [(63, 1, 1), (18, 2, 1), (16, 2, t.val), (8, 4, f.val), (0, 4, y.val)])) s

/-- SWAP_ABORT (R366). A write of abort ends a swap in prepare or drain. -/
def execSwapAbort (m : Master) (s : State) : Answer := run (namedWrite m .sprSwapCtl .hub 0 (mkReg [(62, 1, 1)])) s

/-- SWAP_PREPARE_DONE (R361). The spare passes or fails its built-in test and the swap drains or ends. -/
def execSwapPrepareDone (ok : Bool) (s : State) : Answer := run (fun d => d.on (swapPrepareDone ok)) s

/-- SWAP_DRAIN_DONE (R361). The grove drains and the copy starts with accesses held. -/
def execSwapDrainDone (s : State) : Answer := run (fun d => d.on (swapDrainDone)) s

/-- SWAP_COPY_DONE (R361). The copy ends and the grove map remaps in one cycle with SPR_SWAP. -/
def execSwapCopyDone (s : State) : Answer := run (fun d => d.on (swapCopyDone)) s

/-- SPR_ROW_CTL_GO (R367). A write of go to SPR_ROW_CTL requests a spare row or cache entry. -/
def execSprRowCtlGo (m : Master) (v : BitVec 64) (s : State) : Answer := run (namedWrite m .sprRowCtl .hub 0 (setFld v 63 1 1)) s

/-- ROW_SPARE_COPY (R367). The target copies the old row into the spare in its next free cycle. -/
def execRowSpareCopy (ecc : Ecc) (s : State) : Answer := run (rowCopy ecc) s

/-- SPR_GMAP_WRITE (R374). A firmware write to SPR_GMAP_n takes effect only while the row is drained. -/
def execSprGmapWrite (m : Master) (n : Fin 48) (v : BitVec 64) (s : State) : Answer := run (namedWrite m .sprGmap .hub n.val v) s

/-- AGE_SAMPLE (R357). Once per second the aging monitors update SPR_AGE_n and raise SPR_WEAR at the threshold. -/
def execAgeSample (n : Fin 624) (slow : BitVec 16) (s : State) : Answer := run (fun d => d.on (ageSample n.val slow.toNat)) s

end Sys2Proof.Machine
end

