-- ==== Sys2Proof/Machine/SystemCmds.lean ====
section
/-!
DEFINITION. The meanings of the commands of one family: start-up of a multi-device system and the time base (R436–R456).
-/
namespace Sys2Proof.Machine

/-- DISCOVERY_START (R444). Root firmware starts breadth-first discovery under a new epoch. -/
def execDiscoveryStart (s : State) : Answer := run (fun d => d.on (discoveryStart)) s

/-- SCAN_SILENT_TIMEOUT (R444). A port whose peer has not answered PROBE within 40 ms is reported silent. -/
def execScanSilentTimeout (s : State) : Answer := run (fun d => d.on (scanTimeout)) s

/-- MSG_PROBE (R441). A PROBE arrives and is answered with IDENT. -/
def execMsgProbe (s : State) : Answer := run (msgCmd 0x01) s

/-- MSG_IDENT (R441). An IDENT answer to PROBE arrives. -/
def execMsgIdent (s : State) : Answer := run (msgCmd 0x02) s

/-- MSG_SCAN (R441). A SCAN arrives and the device probes its ports with TZ9216 peers. -/
def execMsgScan (s : State) : Answer := run (msgCmd 0x03) s

/-- MSG_SCAN_RPT (R441). A SCAN_RPT arrives at the root reporting a probed or partner port. -/
def execMsgScanRpt (s : State) : Answer := run (msgCmd 0x04) s

/-- MSG_ASSIGN (R442). An ASSIGN arrives; the member takes its device ID and answers ACK. -/
def execMsgAssign (s : State) : Answer := run (msgCmd 0x05) s

/-- MSG_ACK (R441). An ACK arrives answering a start-up message. -/
def execMsgAck (s : State) : Answer := run (msgCmd 0x06) s

/-- MSG_ROUTES (R441). A ROUTES message writes FAB_EP_n entries. -/
def execMsgRoutes (s : State) : Answer := run (msgCmd 0x07) s

/-- MSG_RELAY (R440). A RELAY arrives; it is forwarded on its next hop or its inner message handled. -/
def execMsgRelay (s : State) : Answer := run (msgCmd 0x08) s

/-- MSG_COMMIT (R442). A COMMIT arrives; the member locks its ID, sets link 0 and answers ACK. -/
def execMsgCommit (s : State) : Answer := run (msgCmd 0x09) s

/-- MSG_ANNOUNCE (R448). An ANNOUNCE from a late device arrives and is forwarded as JOIN_REQ. -/
def execMsgAnnounce (s : State) : Answer := run (msgCmd 0x0A) s

/-- MSG_JOIN_REQ (R448). A JOIN_REQ reaches the root, which probes, assigns and routes the late device. -/
def execMsgJoinReq (s : State) : Answer := run (msgCmd 0x0B) s

/-- MSG_FW_DATA (R450). A FW_DATA message delivers a firmware chunk to a member. -/
def execMsgFwData (s : State) : Answer := run (msgCmd 0x10) s

/-- MSG_PERS_DATA (R450). A PERS_DATA message delivers a personality chunk to a member. -/
def execMsgPersData (s : State) : Answer := run (msgCmd 0x12) s

/-- MSG_TIME (R452). A TIME message is exchanged and captured for time-base synchronisation. -/
def execMsgTime (s : State) : Answer := run (msgCmd 0x20) s

/-- MSG_REPORT (R449). A REPORT of a member's port change reaches the root and starts a rescan. -/
def execMsgReport (s : State) : Answer := run (msgCmd 0x30) s

/-- TIME_SYNC_PERIOD (R452). Every 125 ms a member starts a TIME exchange with its parent. -/
def execTimeSyncPeriod (s : State) : Answer := run (fun d => d.on (timeSync)) s

/-- FW_DATA_RESEND (R453). An unacknowledged FW_DATA is resent after 10 ms. -/
def execFwDataResend (s : State) : Answer := run (fun d => d.on (fwResend)) s

/-- TBS_ADJ_WRITE (R455). A write to TBS_ADJ steps or slews the time base. -/
def execTbsAdjWrite (m : Master) (v : BitVec 64) (s : State) : Answer := run (namedWrite m .tbsAdj .hub 0 v) s

end Sys2Proof.Machine
end

