-- ==== Sys2Proof/Machine/Dispatch.lean ====
section
/-!
DEFINITION. The arm of every command: one direct call of its meaning.
-/
namespace Sys2Proof.Machine

def exec (i : Instr) (s : State) : Host.Outcome State Fault Refusal :=
  match i with
  | .cellNop g n u => Sys2Proof.Machine.execCellNop g n u s
  | .cellAdd g n u => Sys2Proof.Machine.execCellAdd g n u s
  | .cellSub g n u => Sys2Proof.Machine.execCellSub g n u s
  | .cellNeg g n u => Sys2Proof.Machine.execCellNeg g n u s
  | .cellAbs g n u => Sys2Proof.Machine.execCellAbs g n u s
  | .cellAbsd g n u => Sys2Proof.Machine.execCellAbsd g n u s
  | .cellMin g n u => Sys2Proof.Machine.execCellMin g n u s
  | .cellMax g n u => Sys2Proof.Machine.execCellMax g n u s
  | .cellCmpeq g n u => Sys2Proof.Machine.execCellCmpeq g n u s
  | .cellCmplt g n u => Sys2Proof.Machine.execCellCmplt g n u s
  | .cellCmple g n u => Sys2Proof.Machine.execCellCmple g n u s
  | .cellMov g n u => Sys2Proof.Machine.execCellMov g n u s
  | .cellMul g n u => Sys2Proof.Machine.execCellMul g n u s
  | .cellMulh g n u => Sys2Proof.Machine.execCellMulh g n u s
  | .cellMadd g n u => Sys2Proof.Machine.execCellMadd g n u s
  | .cellMac g n u => Sys2Proof.Machine.execCellMac g n u s
  | .cellMsu g n u => Sys2Proof.Machine.execCellMsu g n u s
  | .cellAccadd g n u => Sys2Proof.Machine.execCellAccadd g n u s
  | .cellAccld g n u => Sys2Proof.Machine.execCellAccld g n u s
  | .cellAccclr g n u => Sys2Proof.Machine.execCellAccclr g n u s
  | .cellAccrs g n u => Sys2Proof.Machine.execCellAccrs g n u s
  | .cellAnd g n u => Sys2Proof.Machine.execCellAnd g n u s
  | .cellOr g n u => Sys2Proof.Machine.execCellOr g n u s
  | .cellXor g n u => Sys2Proof.Machine.execCellXor g n u s
  | .cellAndn g n u => Sys2Proof.Machine.execCellAndn g n u s
  | .cellNot g n u => Sys2Proof.Machine.execCellNot g n u s
  | .cellSel g n u => Sys2Proof.Machine.execCellSel g n u s
  | .cellShl g n u => Sys2Proof.Machine.execCellShl g n u s
  | .cellShr g n u => Sys2Proof.Machine.execCellShr g n u s
  | .cellSra g n u => Sys2Proof.Machine.execCellSra g n u s
  | .cellRol g n u => Sys2Proof.Machine.execCellRol g n u s
  | .cellShuf g n u => Sys2Proof.Machine.execCellShuf g n u s
  | .cellClz g n u => Sys2Proof.Machine.execCellClz g n u s
  | .cellPopc g n u => Sys2Proof.Machine.execCellPopc g n u s
  | .cellBrev g n u => Sys2Proof.Machine.execCellBrev g n u s
  | .cellLd g n u => Sys2Proof.Machine.execCellLd g n u s
  | .cellSt g n u => Sys2Proof.Machine.execCellSt g n u s
  | .cellFadd g n u => Sys2Proof.Machine.execCellFadd g n u s
  | .cellSwap g n u => Sys2Proof.Machine.execCellSwap g n u s
  | .cellGetf g n u => Sys2Proof.Machine.execCellGetf g n u s
  | .cellPutf g n u => Sys2Proof.Machine.execCellPutf g n u s
  | .accAcquisitionEnd g => Sys2Proof.Machine.execAccAcquisitionEnd g s
  | .seqNop g u => Sys2Proof.Machine.execSeqNop g u s
  | .seqAdd g u => Sys2Proof.Machine.execSeqAdd g u s
  | .seqSub g u => Sys2Proof.Machine.execSeqSub g u s
  | .seqAnd g u => Sys2Proof.Machine.execSeqAnd g u s
  | .seqOr g u => Sys2Proof.Machine.execSeqOr g u s
  | .seqXor g u => Sys2Proof.Machine.execSeqXor g u s
  | .seqSlt g u => Sys2Proof.Machine.execSeqSlt g u s
  | .seqSltu g u => Sys2Proof.Machine.execSeqSltu g u s
  | .seqAddi g u => Sys2Proof.Machine.execSeqAddi g u s
  | .seqAndi g u => Sys2Proof.Machine.execSeqAndi g u s
  | .seqOri g u => Sys2Proof.Machine.execSeqOri g u s
  | .seqShli g u => Sys2Proof.Machine.execSeqShli g u s
  | .seqShri g u => Sys2Proof.Machine.execSeqShri g u s
  | .seqSrai g u => Sys2Proof.Machine.execSeqSrai g u s
  | .seqBr g u => Sys2Proof.Machine.execSeqBr g u s
  | .seqBc g u => Sys2Proof.Machine.execSeqBc g u s
  | .seqBz g u => Sys2Proof.Machine.execSeqBz g u s
  | .seqBnz g u => Sys2Proof.Machine.execSeqBnz g u s
  | .seqLoop g u => Sys2Proof.Machine.execSeqLoop g u s
  | .seqLoopr g u => Sys2Proof.Machine.execSeqLoopr g u s
  | .seqCall g u => Sys2Proof.Machine.execSeqCall g u s
  | .seqRet g u => Sys2Proof.Machine.execSeqRet g u s
  | .seqEnd g u => Sys2Proof.Machine.execSeqEnd g u s
  | .seqWaitc g u => Sys2Proof.Machine.execSeqWaitc g u s
  | .seqWaitn g u => Sys2Proof.Machine.execSeqWaitn g u s
  | .seqSusp g u => Sys2Proof.Machine.execSeqSusp g u s
  | .seqBrk g u => Sys2Proof.Machine.execSeqBrk g u s
  | .seqStep g u => Sys2Proof.Machine.execSeqStep g u s
  | .seqStepr g u => Sys2Proof.Machine.execSeqStepr g u s
  | .seqSqo g u => Sys2Proof.Machine.execSeqSqo g u s
  | .seqGetc g u => Sys2Proof.Machine.execSeqGetc g u s
  | .seqGeto g u => Sys2Proof.Machine.execSeqGeto g u s
  | .seqSetk g u => Sys2Proof.Machine.execSeqSetk g u s
  | .seqQbind g u => Sys2Proof.Machine.execSeqQbind g u s
  | .seqQsoi g u => Sys2Proof.Machine.execSeqQsoi g u s
  | .seqQeoi g u => Sys2Proof.Machine.execSeqQeoi g u s
  | .seqQread g u => Sys2Proof.Machine.execSeqQread g u s
  | .seqQreadr g u => Sys2Proof.Machine.execSeqQreadr g u s
  | .seqQseek g u => Sys2Proof.Machine.execSeqQseek g u s
  | .seqSld g u => Sys2Proof.Machine.execSeqSld g u s
  | .seqSst g u => Sys2Proof.Machine.execSeqSst g u s
  | .seqMrd g u => Sys2Proof.Machine.execSeqMrd g u s
  | .seqMwr g u => Sys2Proof.Machine.execSeqMwr g u s
  | .seqSig g u => Sys2Proof.Machine.execSeqSig g u s
  | .mrdCompletion g tag ecc => Sys2Proof.Machine.execMrdCompletion g tag ecc s
  | .budgetExpiry g => Sys2Proof.Machine.execBudgetExpiry g s
  | .windowSpill g ue => Sys2Proof.Machine.execWindowSpill g ue s
  | .windowRefill g ecc => Sys2Proof.Machine.execWindowRefill g ecc s
  | .mwrErrorCompletion g => Sys2Proof.Machine.execMwrErrorCompletion g s
  | .qrFetchArrival g u n found => Sys2Proof.Machine.execQrFetchArrival g u n found s
  | .qwPush g p up rail => Sys2Proof.Machine.execQwPush g p up rail s
  | .qwWordAccepted g p => Sys2Proof.Machine.execQwWordAccepted g p s
  | .taskEnd g => Sys2Proof.Machine.execTaskEnd g s
  | .taskCommit g => Sys2Proof.Machine.execTaskCommit g s
  | .taskAbort g => Sys2Proof.Machine.execTaskAbort g s
  | .placeholderDelivery t n => Sys2Proof.Machine.execPlaceholderDelivery t n s
  | .seqCellMapWrite m g v => Sys2Proof.Machine.execSeqCellMapWrite m g v s
  | .selectLatchFault g k up => Sys2Proof.Machine.execSelectLatchFault g k up s
  | .canopyLatchFault t ch up => Sys2Proof.Machine.execCanopyLatchFault t ch up s
  | .cfgCnpSrcWrite m t ch v => Sys2Proof.Machine.execCfgCnpSrcWrite m t ch v s
  | .cfgCnpLockWrite m t => Sys2Proof.Machine.execCfgCnpLockWrite m t s
  | .bankWrite m g b j v => Sys2Proof.Machine.execBankWrite m g b j v s
  | .accForcedSaveReq m g => Sys2Proof.Machine.execAccForcedSaveReq m g s
  | .accForcedSave g => Sys2Proof.Machine.execAccForcedSave g s
  | .noticeIntake t => Sys2Proof.Machine.execNoticeIntake t s
  | .schPost m t tpl delay => Sys2Proof.Machine.execSchPost m t tpl delay s
  | .tick t => Sys2Proof.Machine.execTick t s
  | .delayExpiry t => Sys2Proof.Machine.execDelayExpiry t s
  | .dueTaskReady t => Sys2Proof.Machine.execDueTaskReady t s
  | .flowChainAdvance t f => Sys2Proof.Machine.execFlowChainAdvance t f s
  | .lockOverflowDrain t => Sys2Proof.Machine.execLockOverflowDrain t s
  | .flowEntryFree t f => Sys2Proof.Machine.execFlowEntryFree t f s
  | .dispatchDecision t => Sys2Proof.Machine.execDispatchDecision t s
  | .gangReservation g => Sys2Proof.Machine.execGangReservation g s
  | .gangStart t => Sys2Proof.Machine.execGangStart t s
  | .pageInComplete g ue => Sys2Proof.Machine.execPageInComplete g ue s
  | .switchCycle g => Sys2Proof.Machine.execSwitchCycle g s
  | .resumption g => Sys2Proof.Machine.execResumption g s
  | .cancelDescriptor m t n => Sys2Proof.Machine.execCancelDescriptor m t n s
  | .cancelFlow m t f => Sys2Proof.Machine.execCancelFlow m t f s
  | .cancelTemplate m t tpl => Sys2Proof.Machine.execCancelTemplate m t tpl s
  | .cancelWalk t => Sys2Proof.Machine.execCancelWalk t s
  | .xlockRequest t => Sys2Proof.Machine.execXlockRequest t s
  | .xlockGrant t => Sys2Proof.Machine.execXlockGrant t s
  | .xlockError t => Sys2Proof.Machine.execXlockError t s
  | .xlockReannounce t => Sys2Proof.Machine.execXlockReannounce t s
  | .schTickWrite m t v => Sys2Proof.Machine.execSchTickWrite m t v s
  | .histogramClear m t v => Sys2Proof.Machine.execHistogramClear m t v s
  | .loadWindowEnd t => Sys2Proof.Machine.execLoadWindowEnd t s
  | .eventHubArrival e => Sys2Proof.Machine.execEventHubArrival e s
  | .evtSrcWrite m e v => Sys2Proof.Machine.execEvtSrcWrite m e v s
  | .evtFwqRead m => Sys2Proof.Machine.execEvtFwqRead m s
  | .fwqHoldoffExpiry => Sys2Proof.Machine.execFwqHoldoffExpiry s
  | .vectorHoldoffExpiry v => Sys2Proof.Machine.execVectorHoldoffExpiry v s
  | .counterRcRead m a wide => Sys2Proof.Machine.execCounterRcRead m a wide s
  | .registerWrite m a wide v => Sys2Proof.Machine.execRegisterWrite m a wide v s
  | .queueSpill q bad => Sys2Proof.Machine.execQueueSpill q bad s
  | .queueRefillLand q found => Sys2Proof.Machine.execQueueRefillLand q found s
  | .quePopRead m q ue => Sys2Proof.Machine.execQuePopRead m q ue s
  | .queueFlush m q => Sys2Proof.Machine.execQueueFlush m q s
  | .flushBlockReturn q => Sys2Proof.Machine.execFlushBlockReturn q s
  | .queueClose m q => Sys2Proof.Machine.execQueueClose m q s
  | .queueReopen m q => Sys2Proof.Machine.execQueueReopen m q s
  | .queCfgWrite m q v => Sys2Proof.Machine.execQueCfgWrite m q v s
  | .queueStallLimit q => Sys2Proof.Machine.execQueueStallLimit q s
  | .portBAccess m g o op b lo hi ecc => Sys2Proof.Machine.execPortBAccess m g o op b lo hi ecc s
  | .portBRepeat g ecc => Sys2Proof.Machine.execPortBRepeat g ecc s
  | .tmbAccess m t o who op wide lo hi found => Sys2Proof.Machine.execTmbAccess m t o who op wide lo hi found s
  | .eccWriteback u => Sys2Proof.Machine.execEccWriteback u s
  | .spmScrubRow g ecc => Sys2Proof.Machine.execSpmScrubRow g ecc s
  | .tmbScrubRow t ecc => Sys2Proof.Machine.execTmbScrubRow t ecc s
  | .gd7ScrubBlock t ecc => Sys2Proof.Machine.execGd7ScrubBlock t ecc s
  | .spmPwrWrite m g v => Sys2Proof.Machine.execSpmPwrWrite m g v s
  | .tmbPwrWrite m t j v => Sys2Proof.Machine.execTmbPwrWrite m t j v s
  | .memRetentionEntry u => Sys2Proof.Machine.execMemRetentionEntry u s
  | .memPowerTransitionDone u => Sys2Proof.Machine.execMemPowerTransitionDone u s
  | .gd7BringupDone t j ok density temp => Sys2Proof.Machine.execGd7BringupDone t j ok density temp s
  | .gd7TrainStart m t v => Sys2Proof.Machine.execGd7TrainStart m t v s
  | .gd7RetrainPeriod t j => Sys2Proof.Machine.execGd7RetrainPeriod t j s
  | .gd7RetrainDone t j ok => Sys2Proof.Machine.execGd7RetrainDone t j ok s
  | .gd7TransferDone o crc ode ecc => Sys2Proof.Machine.execGd7TransferDone o crc ode ecc s
  | .gd7PowerDown t j => Sys2Proof.Machine.execGd7PowerDown t j s
  | .gd7Refresh t u => Sys2Proof.Machine.execGd7Refresh t u s
  | .swapDirect m t x y => Sys2Proof.Machine.execSwapDirect m t x y s
  | .swapShift m t f y => Sys2Proof.Machine.execSwapShift m t f y s
  | .swapAbort m => Sys2Proof.Machine.execSwapAbort m s
  | .swapPrepareDone ok => Sys2Proof.Machine.execSwapPrepareDone ok s
  | .swapDrainDone => Sys2Proof.Machine.execSwapDrainDone s
  | .swapCopyDone => Sys2Proof.Machine.execSwapCopyDone s
  | .sprRowCtlGo m v => Sys2Proof.Machine.execSprRowCtlGo m v s
  | .rowSpareCopy ecc => Sys2Proof.Machine.execRowSpareCopy ecc s
  | .sprGmapWrite m n v => Sys2Proof.Machine.execSprGmapWrite m n v s
  | .ageSample n slow => Sys2Proof.Machine.execAgeSample n slow s
  | .puhanQwr p ue => Sys2Proof.Machine.execPuhanQwr p ue s
  | .puhanMwr p ecc => Sys2Proof.Machine.execPuhanMwr p ecc s
  | .puhanNtc p => Sys2Proof.Machine.execPuhanNtc p s
  | .puhanMrd p ecc => Sys2Proof.Machine.execPuhanMrd p ecc s
  | .puhanFadd p ecc => Sys2Proof.Machine.execPuhanFadd p ecc s
  | .puhanSwap p ecc => Sys2Proof.Machine.execPuhanSwap p ecc s
  | .puhanQrd p => Sys2Proof.Machine.execPuhanQrd p s
  | .puhanCpl p => Sys2Proof.Machine.execPuhanCpl p s
  | .puhanQcq p => Sys2Proof.Machine.execPuhanQcq p s
  | .puhanQcg p => Sys2Proof.Machine.execPuhanQcg p s
  | .puhanMsg p => Sys2Proof.Machine.execPuhanMsg p s
  | .puhanEvt e => Sys2Proof.Machine.execPuhanEvt e s
  | .puhanLck t op => Sys2Proof.Machine.execPuhanLck t op s
  | .queueCreditGrant q => Sys2Proof.Machine.execQueueCreditGrant q s
  | .streamReclaim q j => Sys2Proof.Machine.execStreamReclaim q j s
  | .assemblyIdleLimit q j => Sys2Proof.Machine.execAssemblyIdleLimit q j s
  | .requestTimeout r => Sys2Proof.Machine.execRequestTimeout r s
  | .vcountDecay n => Sys2Proof.Machine.execVcountDecay n s
  | .quarantineClear m n => Sys2Proof.Machine.execQuarantineClear m n s
  | .drainSend q => Sys2Proof.Machine.execDrainSend q s
  | .drainCreditRetry q => Sys2Proof.Machine.execDrainCreditRetry q s
  | .transitForward p => Sys2Proof.Machine.execTransitForward p s
  | .flitTransmit k pkts => Sys2Proof.Machine.execFlitTransmit k pkts s
  | .dataFlitRx k fec f => Sys2Proof.Machine.execDataFlitRx k fec f s
  | .nakRx k f => Sys2Proof.Machine.execNakRx k f s
  | .initRx k f => Sys2Proof.Machine.execInitRx k f s
  | .idleFlitRx k f => Sys2Proof.Machine.execIdleFlitRx k f s
  | .replayTimeout k => Sys2Proof.Machine.execReplayTimeout k s
  | .retrainComplete k f0 f1 => Sys2Proof.Machine.execRetrainComplete k f0 f1 s
  | .lossOfSignal p lanes => Sys2Proof.Machine.execLossOfSignal p lanes s
  | .portTrained k => Sys2Proof.Machine.execPortTrained k s
  | .laneMarginSample port n ser m0 m1 => Sys2Proof.Machine.execLaneMarginSample port n ser m0 m1 s
  | .lnkRetrainReq m p => Sys2Proof.Machine.execLnkRetrainReq m p s
  | .lnkDownReq m p => Sys2Proof.Machine.execLnkDownReq m p s
  | .lnkFailoverReq m p lane rx => Sys2Proof.Machine.execLnkFailoverReq m p lane rx s
  | .lnkEnable m p en => Sys2Proof.Machine.execLnkEnable m p en s
  | .d2dRetrainReq m k => Sys2Proof.Machine.execD2dRetrainReq m k s
  | .d2dRepairReq m k lane dir => Sys2Proof.Machine.execD2dRepairReq m k lane dir s
  | .fiShot m k => Sys2Proof.Machine.execFiShot m k s
  | .discoveryStart => Sys2Proof.Machine.execDiscoveryStart s
  | .scanSilentTimeout => Sys2Proof.Machine.execScanSilentTimeout s
  | .msgProbe => Sys2Proof.Machine.execMsgProbe s
  | .msgIdent => Sys2Proof.Machine.execMsgIdent s
  | .msgScan => Sys2Proof.Machine.execMsgScan s
  | .msgScanRpt => Sys2Proof.Machine.execMsgScanRpt s
  | .msgAssign => Sys2Proof.Machine.execMsgAssign s
  | .msgAck => Sys2Proof.Machine.execMsgAck s
  | .msgRoutes => Sys2Proof.Machine.execMsgRoutes s
  | .msgRelay => Sys2Proof.Machine.execMsgRelay s
  | .msgCommit => Sys2Proof.Machine.execMsgCommit s
  | .msgAnnounce => Sys2Proof.Machine.execMsgAnnounce s
  | .msgJoinReq => Sys2Proof.Machine.execMsgJoinReq s
  | .msgFwData => Sys2Proof.Machine.execMsgFwData s
  | .msgPersData => Sys2Proof.Machine.execMsgPersData s
  | .msgTime => Sys2Proof.Machine.execMsgTime s
  | .msgReport => Sys2Proof.Machine.execMsgReport s
  | .timeSyncPeriod => Sys2Proof.Machine.execTimeSyncPeriod s
  | .fwDataResend => Sys2Proof.Machine.execFwDataResend s
  | .tbsAdjWrite m v => Sys2Proof.Machine.execTbsAdjWrite m v s
  | .cfgRxTimeout => Sys2Proof.Machine.execCfgRxTimeout s
  | .bootDeadline => Sys2Proof.Machine.execBootDeadline s
  | .tileRelease t => Sys2Proof.Machine.execTileRelease t s
  | .icpReplace t => Sys2Proof.Machine.execIcpReplace t s
  | .icpRead t => Sys2Proof.Machine.execIcpRead t s
  | .icpSlotchk t ecc flip => Sys2Proof.Machine.execIcpSlotchk t ecc flip s
  | .icpRestore t => Sys2Proof.Machine.execIcpRestore t s
  | .generationAdvance t => Sys2Proof.Machine.execGenerationAdvance t s
  | .rangerUnit t ecc flip => Sys2Proof.Machine.execRangerUnit t ecc flip s
  | .rangerHeldFetch t => Sys2Proof.Machine.execRangerHeldFetch t s
  | .rangerRewrite t => Sys2Proof.Machine.execRangerRewrite t s
  | .rangerVoteUpset t reg copy agree => Sys2Proof.Machine.execRangerVoteUpset t reg copy agree s
  | .rangerRestart m t pass => Sys2Proof.Machine.execRangerRestart m t pass s
  | .mbxCmdDbWrite fn pg v => Sys2Proof.Machine.execMbxCmdDbWrite fn pg v s
  | .mbxRspDbWrite fn pg v => Sys2Proof.Machine.execMbxRspDbWrite fn pg v s
  | .commandFetch k pkt rd => Sys2Proof.Machine.execCommandFetch k pkt rd s
  | .responseWrite k => Sys2Proof.Machine.execResponseWrite k s
  | .commandTimeout k j => Sys2Proof.Machine.execCommandTimeout k j s
  | .mbxCtlClr fn pg => Sys2Proof.Machine.execMbxCtlClr fn pg s
  | .mbxRingBaseWrite fn pg rsp v => Sys2Proof.Machine.execMbxRingBaseWrite fn pg rsp v s
  | .mbxNop k => Sys2Proof.Machine.execMbxNop k s
  | .identify k => Sys2Proof.Machine.execIdentify k s
  | .chanConfig k => Sys2Proof.Machine.execChanConfig k s
  | .setDeadline k => Sys2Proof.Machine.execSetDeadline k s
  | .deviceReset k => Sys2Proof.Machine.execDeviceReset k s
  | .fwBegin k => Sys2Proof.Machine.execFwBegin k s
  | .fwData k => Sys2Proof.Machine.execFwData k s
  | .fwEnd k => Sys2Proof.Machine.execFwEnd k s
  | .persBegin k => Sys2Proof.Machine.execPersBegin k s
  | .persData k => Sys2Proof.Machine.execPersData k s
  | .persEnd k => Sys2Proof.Machine.execPersEnd k s
  | .persCommit k => Sys2Proof.Machine.execPersCommit k s
  | .persAbort k => Sys2Proof.Machine.execPersAbort k s
  | .persStatus k => Sys2Proof.Machine.execPersStatus k s
  | .sysPlan k => Sys2Proof.Machine.execSysPlan k s
  | .sysTopology k => Sys2Proof.Machine.execSysTopology k s
  | .queueWrite k => Sys2Proof.Machine.execQueueWrite k s
  | .queueRead k => Sys2Proof.Machine.execQueueRead k s
  | .queueCtl k => Sys2Proof.Machine.execQueueCtl k s
  | .queueStatus k => Sys2Proof.Machine.execQueueStatus k s
  | .taskPost k => Sys2Proof.Machine.execTaskPost k s
  | .taskCancel k => Sys2Proof.Machine.execTaskCancel k s
  | .eventPending k => Sys2Proof.Machine.execEventPending k s
  | .eventClear k => Sys2Proof.Machine.execEventClear k s
  | .counterRead k => Sys2Proof.Machine.execCounterRead k s
  | .memRead k => Sys2Proof.Machine.execMemRead k s
  | .memWrite k => Sys2Proof.Machine.execMemWrite k s
  | .rlogGet k => Sys2Proof.Machine.execRlogGet k s
  | .rlogPut k => Sys2Proof.Machine.execRlogPut k s
  | .attest k => Sys2Proof.Machine.execAttest k s
  | .attestRead k => Sys2Proof.Machine.execAttestRead k s
  | .keyProvision k => Sys2Proof.Machine.execKeyProvision k s
  | .lifecycleSet k => Sys2Proof.Machine.execLifecycleSet k s
  | .signingDone => Sys2Proof.Machine.execSigningDone s
  | .otpBurnDone ok => Sys2Proof.Machine.execOtpBurnDone ok s
  | .secExtend m r => Sys2Proof.Machine.execSecExtend m r s
  | .romBoot => Sys2Proof.Machine.execRomBoot s
  | .pciFlr fn => Sys2Proof.Machine.execPciFlr fn s
  | .hotReset => Sys2Proof.Machine.execHotReset s
  | .pciLinkChange up flit rate width => Sys2Proof.Machine.execPciLinkChange up flit rate width s
  | .msixUnmask v => Sys2Proof.Machine.execMsixUnmask v s
  | .por => Sys2Proof.Machine.execPor s
  | .warmReset cause => Sys2Proof.Machine.execWarmReset cause s
  | .railFault r brown => Sys2Proof.Machine.execRailFault r brown s
  | .xinDetect => Sys2Proof.Machine.execXinDetect s
  | .hubReset m => Sys2Proof.Machine.execHubReset m s
  | .internalReset m => Sys2Proof.Machine.execInternalReset m s
  | .tileReset m t => Sys2Proof.Machine.execTileReset m t s
  | .rstGrove m g => Sys2Proof.Machine.execRstGrove m g s
  | .avsUpdate answered need => Sys2Proof.Machine.execAvsUpdate answered need s
  | .pllUnlock n => Sys2Proof.Machine.execPllUnlock n s
  | .tilePllOffEntry t => Sys2Proof.Machine.execTilePllOffEntry t s
  | .tileWakeDone t => Sys2Proof.Machine.execTileWakeDone t s
  | .pwrWake m t g => Sys2Proof.Machine.execPwrWake m t g s
  | .clkTileWrite m t v => Sys2Proof.Machine.execClkTileWrite m t v s
  | .groveRetentionEntry g => Sys2Proof.Machine.execGroveRetentionEntry g s
  | .wdgFwSvc m v => Sys2Proof.Machine.execWdgFwSvc m v s
  | .wdgDevSvc m v => Sys2Proof.Machine.execWdgDevSvc m v s
  | .wdgCtlWrite m dev v => Sys2Proof.Machine.execWdgCtlWrite m dev v s
  | .wdgFwWarn => Sys2Proof.Machine.execWdgFwWarn s
  | .wdgDevWarn => Sys2Proof.Machine.execWdgDevWarn s
  | .wdgFwExpiry => Sys2Proof.Machine.execWdgFwExpiry s
  | .wdgDevExpiry => Sys2Proof.Machine.execWdgDevExpiry s
  | .lineReset => Sys2Proof.Machine.execLineReset s
  | .rd f ecc => Sys2Proof.Machine.execRd f ecc s
  | .rdq f ecc => Sys2Proof.Machine.execRdq f ecc s
  | .wr f ecc => Sys2Proof.Machine.execWr f ecc s
  | .rdi f ecc => Sys2Proof.Machine.execRdi f ecc s
  | .rdqi f ecc => Sys2Proof.Machine.execRdqi f ecc s
  | .wri f ecc => Sys2Proof.Machine.execWri f ecc s
  | .prd f ecc => Sys2Proof.Machine.execPrd f ecc s
  | .pwr f ecc => Sys2Proof.Machine.execPwr f ecc s
  | .debugReadComplete ecc => Sys2Proof.Machine.execDebugReadComplete ecc s
  | .dbgPortAbort => Sys2Proof.Machine.execDbgPortAbort s
  | .dbgPortClr => Sys2Proof.Machine.execDbgPortClr s
  | .dbgHaltRequest m x => Sys2Proof.Machine.execDbgHaltRequest m x s
  | .haltTakesEffect x => Sys2Proof.Machine.execHaltTakesEffect x s
  | .dbgRelease m x => Sys2Proof.Machine.execDbgRelease m x s
  | .dbgStep m x instr n => Sys2Proof.Machine.execDbgStep m x instr n s
  | .stepCountDone x => Sys2Proof.Machine.execStepCountDone x s
  | .uioOutWrite m v => Sys2Proof.Machine.execUioOutWrite m v s
  | .uioOutSet m v => Sys2Proof.Machine.execUioOutSet m v s
  | .uioOutClr m v => Sys2Proof.Machine.execUioOutClr m v s
  | .uioOeWrite m v => Sys2Proof.Machine.execUioOeWrite m v s
  | .uioTrigAtWrite m k v => Sys2Proof.Machine.execUioTrigAtWrite m k v s
  | .trigOutPulseStart k => Sys2Proof.Machine.execTrigOutPulseStart k s
  | .pulseEnd n => Sys2Proof.Machine.execPulseEnd n s
  | .tbOutPulse n => Sys2Proof.Machine.execTbOutPulse n s
  | .trigInEdge k rising => Sys2Proof.Machine.execTrigInEdge k rising s
  | .ppsInEdge rising => Sys2Proof.Machine.execPpsInEdge rising s
  | .ppsHoldover => Sys2Proof.Machine.execPpsHoldover s
  | .delayLineCalibration => Sys2Proof.Machine.execDelayLineCalibration s
  | .pllRelock n late => Sys2Proof.Machine.execPllRelock n late s
  | .railInRange r => Sys2Proof.Machine.execRailInRange r s
  | .gpioPinEdge n level => Sys2Proof.Machine.execGpioPinEdge n level s
  | .configurationRequest q => Sys2Proof.Machine.execConfigurationRequest q s
  | .reservedFrame op f => Sys2Proof.Machine.execReservedFrame op f s
  | .reservedTypePacket p => Sys2Proof.Machine.execReservedTypePacket p s
  | .timeBaseSlewEnd => Sys2Proof.Machine.execTimeBaseSlewEnd s

end Sys2Proof.Machine
end

