-- ==== Sys2Proof/Safety.lean ====
section
/-!
DEFINITION. The terms in which the statements speak: what a command does to a device, a settled device, the invariant of the memory, and when a
cell or a sequencer is ready to act.
-/
namespace Sys2Proof.Machine

/-- The state after a command whose effect on the device is `d`: what follows every command is done, and the waiting commands are as they were. -/
def after (s : State) (d : Dev) : State := { s with dev := finish s.dev d }

/-- In every state whose device, as the command finds it, meets `hyp`, the command `i` answers a next state, and its effect is `eff`. -/
def Does (i : Instr) (hyp : Dev → Prop) (eff : Dev → Dev) : Prop :=
  ∀ s : State, hyp (start s.dev) → exec i s = .next (after s (eff (start s.dev)))

/-- In every state whose device, as the command finds it, meets `hyp`, the command `i` answers a next state, and its effect, before what follows every
command, has the property `post` of the device before and after. -/
def Brings (i : Instr) (hyp : Dev → Prop) (post : Dev → Dev → Prop) : Prop :=
  ∀ s : State, hyp (start s.dev) → ∃ d, exec i s = .next (after s d) ∧ post (start s.dev) d

/-- The ports that are active, as the device keeps them for comparison (R448). -/
def Chip.portMask (c : Chip) : Nat := (List.range 8).foldl (fun a p => if (c.link p).st == .active then a + 2 ^ p else a) 0

/-- Nothing is left to follow a command: no buffered write waits (R129), no debug write is in flight (R566), no comparator has seen or matched
anything (R577), the ports are as the device has noticed them (R448), and no probe is enabled (R579). -/
def settled (d : Dev) : Bool :=
  let c := d.chip
  c.hub.mwrOut.isEmpty && c.hub.dbg.wr.isNone && c.obs.isEmpty && c.hits.isEmpty && (c.portMask == c.hub.portsUp || !c.coreUp) &&
    c.hub.probes.isEmpty && (List.range 16).all (fun n => !(c.rbit .prbSel .hub n 63))

/-- The invariant of the memory: its canonical form. -/
def State.inv (s : State) : Prop := s.dev.mem.wf = true

/-- The running slot of a grove has cell `n` ready to fire operation `op` now: the slot runs and nothing holds it, the cell has not fired in this
cycle, its field holds the operation and is not reserved, its fire condition holds (R47), and the accumulators are the slot's if it touches them. -/
def cellReady (op t g n : Nat) (d : Dev) : Bool :=
  let gr := d.chip.grove t g
  match gr.run with
  | none => false
  | some r =>
    let f := cellField (imgCell gr.runImg n)
    gr.cellCan && !(khas gr.fired n) && r.stall == 0 && f.opcode == op && !f.reserved && fireOk (d.chip.tile t) gr r n f &&
      (!(opTouches f) || (r.touched && !(gr.slot r.slot).frameValid))

/-- The field of cell `n` of the running slot. -/
def cellF (t g n : Nat) (d : Dev) : CellField := cellField (imgCell (d.chip.grove t g).runImg n)

/-- The operands of cell `n` in this cycle. -/
def cellA (t g n : Nat) (d : Dev) : TWord := (operand (d.chip.tile t) (d.chip.grove t g) n (cellF t g n d) (cellF t g n d).srcA).1
/-- The second operand. -/
def cellB (t g n : Nat) (d : Dev) : TWord := (operand (d.chip.tile t) (d.chip.grove t g) n (cellF t g n d) (cellF t g n d).srcB).1
/-- The third operand. -/
def cellC (t g n : Nat) (d : Dev) : TWord := (operand (d.chip.tile t) (d.chip.grove t g) n (cellF t g n d) (cellF t g n d).srcC).1

/-- An operand that the operation reads is poison (R57). -/
def cellPoison (t g n : Nat) (d : Dev) : Bool :=
  let f := cellF t g n d
  (opReadsA f.opcode && TWord.isPoison (cellA t g n d)) || (opReadsB f && TWord.isPoison (cellB t g n d)) ||
    (opReadsC f.opcode && TWord.isPoison (cellC t g n d))

/-- The operation sees poison in its operands, or in the accumulator that it takes (R63, R66). -/
def cellSeesPoison (t g n : Nat) (d : Dev) : Bool :=
  cellPoison t g n d || (opReadsAcc (cellF t g n d).opcode && (((d.chip.grove t g).cell n).accu (cellF t g n d).accSel).res == 7#3)

/-- The operands that the operation reads hold their residues (R58), an accumulator of which it reads a half holds its own (R64), and so do the
flags that a carry is taken from (R56). -/
def cellSound (t g n : Nat) (d : Dev) : Bool :=
  let f := cellF t g n d
  let x := (d.chip.grove t g).cell n
  !(opReadsA f.opcode && TWord.bad (cellA t g n d)) && !(opReadsB f && TWord.bad (cellB t g n d)) &&
    !(opReadsC f.opcode && TWord.bad (cellC t g n d)) && (f.cin != 2 || x.par == flagPar x.flags) &&
    (!(opReadsHalf f) || (x.accu f.accSel).res == 7#3 || (x.accu f.accSel).res == res64 (x.accu f.accSel).val)

/-- A pipeline entry of a cell without a check failure. -/
def cleanFlight (n due : Nat) (e : Flight) (f : CellField) : InFlight := ⟨n, due, e, none, f.opcode, f.lane, 0⟩

/-- A cell has fired in this cycle: its result, if it has one, is in the pipeline, and the task has seen poison if an operand is poison. -/
def cellFired (t g n : Nat) (fl : Option InFlight) (d : Dev) : Dev :=
  d.on (fun c =>
    let c := c.modGrove t g (fun gr => { gr with fired := kset gr.fired n true })
    let c := if cellSeesPoison t g n d then c.modRun t g (fun r => { r with poisonSeen := true }) else c
    match fl with
    | some x => c.modGrove t g (fun gr => gr.push x)
    | none => c)

/-- The operations on lanes, with their opcodes (R51). -/
def laneOps : List (Nat × (GroveId → Fin 16 → CellUpset → Instr)) :=
  [(0x01, .cellAdd), (0x02, .cellSub), (0x03, .cellNeg), (0x04, .cellAbs), (0x05, .cellAbsd), (0x06, .cellMin), (0x07, .cellMax),
   (0x08, .cellCmpeq), (0x09, .cellCmplt), (0x0A, .cellCmple), (0x0B, .cellMov), (0x10, .cellMul), (0x11, .cellMulh), (0x12, .cellMadd)] ++
  [(0x20, .cellAnd), (0x21, .cellOr), (0x22, .cellXor), (0x23, .cellAndn), (0x24, .cellNot), (0x25, .cellSel), (0x28, .cellShl), (0x29, .cellShr),
   (0x2A, .cellSra), (0x2B, .cellRol), (0x2C, .cellShuf), (0x2D, .cellClz), (0x2E, .cellPopc), (0x2F, .cellBrev)]

/-- A lane of width `w` holds the exact result `e` (R53): modulo 2^w, or, with sat set and `e` outside the range that sgn selects, the nearest end of
that range. -/
def laneHolds (f : CellField) (w y : Nat) (e : Int) : Prop :=
  y < 2 ^ w ∧
  ((f.sat = false ∨ (laneMin f.sgn w ≤ e ∧ e ≤ laneMax f.sgn w)) → (y : Int) % ((2 ^ w : Nat) : Int) = e % ((2 ^ w : Nat) : Int)) ∧
  (f.sat = true → e < laneMin f.sgn w → laneInt f.sgn w y = laneMin f.sgn w) ∧
  (f.sat = true → laneMax f.sgn w < e → laneInt f.sgn w y = laneMax f.sgn w)

/-- The carry that enters lane 0 of an ADD or SUB (R67, R68). -/
def carryIn (ti : Tile) (gr : Grove) (n : Nat) (f : CellField) : Nat :=
  match f.cin with
  | 0 => 0
  | 1 => b2n (chainIn ti gr n).1
  | 2 => b2n ((gr.cell n).flags.getLsbD 0)
  | _ => 1

/-- The word that a pipeline entry writes to OUT. -/
def InFlight.outWord (x : InFlight) : Option TWord :=
  match x.eff with
  | .out w _ _ _ _ => some w
  | _ => none

/-! ### The sequencer -/

/-- The instruction at the program index of the running slot. -/
def seqWord (t g : Nat) (d : Dev) : Word :=
  match (d.chip.grove t g).run with
  | some r => imgInstr (d.chip.grove t g).runImg r.pc
  | none => 0#32

/-- The task in the running slot. -/
def runOf (t g : Nat) (d : Dev) : Run := ((d.chip.grove t g).run).getD { slot := 0, desc := 0 }

/-- The first register that the instruction names. -/
def seqA (t g : Nat) (d : Dev) : TWord := seqReg (d.chip.grove t g) (iA (seqWord t g d))
/-- The second register that the instruction names. -/
def seqB (t g : Nat) (d : Dev) : TWord := seqReg (d.chip.grove t g) (iB (seqWord t g d))

/-- The sequencer is ready to issue `op` now: the slot runs and nothing holds it (R47, R124), the word at the program index is `op`, inside the program
and well formed (R123), no register it names waits for a read, its window is present (R135), and no step count or comparator is set (R571, R577). -/
def seqReady (op t g : Nat) (d : Dev) : Bool :=
  let gr := d.chip.grove t g
  match gr.run with
  | none => false
  | some r =>
    let w := imgInstr gr.runImg r.pc
    gr.canAct && !gr.seqBusy && r.qw0.held.isNone && r.qw1.held.isNone && decide (r.pc < imgN gr.runImg) && iOp w == op && !(iBad (imgN gr.runImg) r.pc w) &&
      !(r.mrds.any (fun m => (r.uses w).contains (m.depth, m.dest))) && (gr.window? r.slot r.depth).isSome && !(r.qrWaits w) && gr.step.isNone && !d.chip.armed

/-- The words read have their residues: the first if the instruction reads it, and the second (R118). -/
def seqSound (ua ub : Bool) (t g : Nat) (d : Dev) : Bool := !(ua && TWord.bad (seqA t g d)) && !(ub && TWord.bad (seqB t g d))

/-- The same, and neither is poison. -/
def seqClean (ua ub : Bool) (t g : Nat) (d : Dev) : Bool :=
  seqSound ua ub t g d && !(ua && TWord.isPoison (seqA t g d)) && !(ub && TWord.isPoison (seqB t g d))

/-- The sequencer has issued in this cycle. -/
def seqIssued (t g : Nat) (d : Dev) : Dev :=
  d.on (fun c => (c.modGrove t g (fun gr => { gr with issued := true, resumed := false })).modRun t g (fun r => { r with started := true }))

/-- The sequencer has issued an instruction that reads its first register (`ua`) or its second (`ub`), does `f`, and goes on to the next instruction; the
task has seen poison if a word read is poison. -/
def seqGo (ua ub : Bool) (t g : Nat) (f : Chip → Chip) (d : Dev) : Dev :=
  (seqIssued t g d).on (fun c => goNext t g (f (if (ua && TWord.isPoison (seqA t g d)) || (ub && TWord.isPoison (seqB t g d)) then
    c.modRun t g (fun r => { r with poisonSeen := true }) else c)))

/-- The operations of the sequencer's ALU on two registers: opcode, command, result (R121). -/
def seqAluOps : List (Nat × (GroveId → SeqUpset → Instr) × (Word → Word → Word)) :=
  [(0x01, .seqAdd, fun x y => x + y), (0x02, .seqSub, fun x y => x - y), (0x03, .seqAnd, fun x y => x &&& y), (0x04, .seqOr, fun x y => x ||| y),
   (0x05, .seqXor, fun x y => x ^^^ y), (0x06, .seqSlt, fun x y => if x.slt y then 1#32 else 0#32), (0x07, .seqSltu, fun x y => if x.ult y then 1#32 else 0#32)]

/-- The operations of the sequencer's ALU on a register and the 14-bit immediate (R121). -/
def seqImmOps : List (Nat × (GroveId → SeqUpset → Instr) × (Word → BitVec 14 → Word)) :=
  [(0x08, .seqAddi, fun x i => x + i.signExtend 32), (0x09, .seqAndi, fun x i => x &&& i.setWidth 32), (0x0A, .seqOri, fun x i => x ||| i.setWidth 32),
   (0x0B, .seqShli, fun x i => x <<< (i.toNat % 32)), (0x0C, .seqShri, fun x i => x >>> (i.toNat % 32)), (0x0D, .seqSrai, fun x i => x.sshiftRight (i.toNat % 32))]

/-! ### Packets -/

/-- A packet of type `ty` for this device comes in its turn (R400, R425) and passes the checks of R385 and R402. -/
def comes (ty : Nat) (p : Packet) (d : Dev) : Prop :=
  p.type = ty ∧ forUs p d.chip = true ∧ inTurn p d.chip = true ∧ (arrive p (takeRx p d.chip)).1 = .accept

/-- The device that has taken such a packet: its credits are given back and its sequence number is noted. -/
def received (p : Packet) (d : Dev) : Dev := d.on (fun c => (arrive p (takeRx p c)).2)

/-! ### Mailbox commands -/

/-- Command `m`, at place `i` of channel `k`, is the next with opcode `op` that is served: the device serves it in its state (R503, R530), and the channel
may give it (R508). -/
def asks (op k i : Nat) (m : MbxCmd) (d : Dev) : Prop :=
  d.chip.hub.core.halted = false ∧ stateServes d.chip.hub.mbxState k op = true ∧ pickCmd d.chip k op = some (i, m) ∧
    (adminOp op = true → d.chip.chanAdmin k = true)

/-- The command at place `i` of channel `k` has its answer. -/
def answered (k i st : Nat) (data res : List Byte) (d : Dev) : Dev := d.on (decideAt k i { status := st, data := data, result := res })

/-- The command at place `i` of channel `k` has begun and answers later. -/
def begun (k i : Nat) (d : Dev) : Dev :=
  d.on (fun c => c.modMbx k (fun x => { x with cmds := x.cmds.modify i (fun y => { y with begun := true }) }))

/-! ### Registers -/

/-- A tile whose registers answer now: it is not cut, its PLL is locked and runs (R559). -/
def tileUp (t : Nat) (d : Dev) : Bool := !(d.chip.tile t).pllOff && !(tileDead d.chip t)

/-- The die of a register block answers now, and no swap copies the grove (R363). -/
def siteUp (s : Site) (d : Dev) : Bool :=
  match s with
  | .hub => true
  | .tile t => tileUp t d
  | .grove t g => tileUp t d && !(d.chip.copying t g)

/-- A write of a register by a master takes effect (R37, R369, R433, R542, R560, R568, R584): the register admits the master, the master's firebreak reaches
its address, and its die answers. -/
def writable (m : Master) (r : Reg) (s : Site) (i : Nat) (d : Dev) : Bool :=
  masterMay m r && mayAccess m true (r.addr s i) 2 d.chip && siteUp s d

/-- The write of a register as the comparators see it (R577). -/
def noted (m : Master) (r : Reg) (s : Site) (i : Nat) (v : BitVec 64) (d : Dev) : Dev :=
  d.on (fun c => c.see ⟨2, s.tile?.getD 4, 0, true, r.addr s i, v.extractLsb' 0 32, groveOf m⟩)

/-- The value that a command writes which sets the fields `fs` and writes every other field that software sets back as it reads. -/
def fieldValue (r : Reg) (s : Site) (i : Nat) (fs : List (Nat × Nat × Nat)) (d : Dev) : BitVec 64 :=
  fs.foldl (fun v f => setFld v f.1 f.2.1 f.2.2) (r.fields.foldl (fun (v : BitVec 64) f =>
    if f.acc = .rw || f.acc = .rwl then setFld v f.lo f.wd (d.chip.rf r s i f.lo f.wd) else v) 0#64)

/-- Instance `i` of register `r` at a site that the map of registers names (R1, R33). -/
def Reg.named (r : Reg) (s : Site) (i : Nat) : Bool :=
  decide (i < r.info.cnt) && (match s with
    | .hub => decide (r.info.loc = .hub)
    | .tile t => decide (r.info.loc = .tile) && decide (t < 4)
    | .grove t g => decide (r.info.loc = .grove) && decide (t < 4) && gpop g && decide (g < 188))

/-- A statistics counter (R14). -/
def Reg.counter (r : Reg) : Bool := r.fields.any (fun f => f.lo == 48 && f.wd == 1 && f.acc == .w1c) && r.fields.any (fun f => f.lo == 0 && f.wd == 48)

/-- An address within a block at which nothing lies (R9): a grove position without a grove, or a place in a register block without a register, a bank
view (R163), a halt view (R572) or a descriptor view. -/
def unpopulated (c : Chip) (a : Nat) : Bool :=
  let l := localAddr c a
  let none_ := (regAt (l - l % 8)).isNone
  match locate c a with
  | .unpopulated => true
  | .hubReg _ => none_
  | .tileReg _ o => none_ && !(decide (0x100000 ≤ o) && decide (o < 0x120000))
  | .groveReg _ _ o => none_ && !(decide (0xC000 ≤ o) && decide (o < 0xD000)) && !(decide (0xE600 ≤ o) && decide (o < 0xE840))
  | _ => false

/-- Two devices agree but for one grove: the frame of what a grove does inside itself. -/
def sameBeside (t g : Nat) (d e : Dev) : Prop :=
  e.mem = d.mem ∧ e.chip.regs = d.chip.regs ∧ e.chip.tiles = d.chip.tiles ∧ e.chip.hub = d.chip.hub ∧ e.chip.evt = d.chip.evt ∧
    e.chip.gdPoison = d.chip.gdPoison ∧ e.chip.fresh = d.chip.fresh ∧ ∀ k, k ≠ gkey t g → kfind? e.chip.groves k = kfind? d.chip.groves k

end Sys2Proof.Machine
end

