-- ==== Sys2Proof/Certificates/Slice0/Obligations.lean ====
section
/-!
DEFINITION. The statements for the provers.
-/
open Sys2Proof Sys2Proof.Machine

/-! ### The block as a whole -/

/-- The block takes its commands first in, first out: a step takes the command at the front of the queue and is exec of it on the state with the queue's
rest; an empty queue leaves the queue empty, and the block idles. -/
def Obligations.StepTakesTheFrontCommand : Prop :=
  (∀ (i : Instr) (l : List Instr) (s : State), s.pending = i :: l → step s = exec i { s with pending := l }) ∧
  (∀ s : State, s.pending = [] → ∃ d, step s = .next { s with dev := d })

/-- Every command answers a next state, in every state: no command faults and none is refused; the commands that wait are as they were. -/
def Obligations.EveryCommandCompletes : Prop :=
  ∀ (i : Instr) (s : State), ∃ d, exec i s = .next { s with dev := d }

/-- From R500, R545, R551, R555, R561: after power-on reset the memory lists nothing and has its canonical form, no command waits, every register holds the reset
value of its table but RST_CAUSE, which names POR; no grove has a task, no tile a personality; the mailbox is resetting, and WARM is held for XIN. -/
def Obligations.ResetLeavesTheTablesValues : Prop :=
  State.reset.inv ∧ State.reset.pending = [] ∧
  (∀ (r : Reg) (s : Site) (i : Nat), r.named s i = true → State.reset.dev.chip.reg r s i = if r = .rstCause then 1#64 else r.rst) ∧
  (∀ t g : Nat, (State.reset.dev.chip.grove t g).run = none ∧ (State.reset.dev.chip.grove t g).slots = []) ∧
  State.reset.dev.chip.hub.held = [0, 1, 2, 3] ∧ State.reset.dev.chip.hub.mbxState = 0 ∧ State.reset.dev.chip.hub.warmHeld = [3] ∧
  State.reset.dev.chip.hub.time = 0#64

/-- A step that answers a next state keeps the memory in its canonical form: addresses strictly rising, and no entry that equals what an unlisted address reads as. -/
def Obligations.StepKeepsTheMemoryForm : Prop :=
  ∀ s t : State, s.inv → step s = .next t → t.inv

/-- From R7, R33, R600: every register of the map is found at its own address with its place and index, and no two registers share one: a write of one register
leaves every other as it was. The eight pin records that R599 covers with UIO_TRIG_AT_0 to 7 are found under keys of their own (the model's choice, log
entry 7). -/
def Obligations.RegisterAddressesAreDecoded : Prop :=
  (∀ (r : Reg) (s : Site) (i : Nat), r.named s i = true →
    regKey (r.addr s i) = some (r, s, i) ∧ (r.covered i = false → regAt (r.addr s i) = some (r, s, i) ∧ r.addr s i % 8 = 0)) ∧
  (∀ (r q : Reg) (s u : Site) (i j : Nat) (v : BitVec 64) (c : Chip), r.named s i = true → q.named u j = true → (r, s, i) ≠ (q, u, j) →
    (c.setReg r s i v).reg q u j = c.reg q u j)

/-- From R8: what a write does to a field of each access type, with x the value written, o the value before and n the value after: RW and an unlocked RWL take a
value that the field admits and keep theirs for any other; a locked RWL, RO, RC and WO keep theirs; W1C clears and W1S sets the bits written as 1. A
read returns every field but WO, which reads as 0, and a read that clears leaves RC fields 0 and every other field as it was. -/
def Obligations.FieldsFollowTheirAccessType : Prop :=
  ∀ (r : Reg) (s : Site) (i : Nat) (v : BitVec 64) (c : Chip), ∀ f ∈ r.fields,
    let x := fld v f.lo f.wd
    let o := fld (c.reg r s i) f.lo f.wd
    let n := fld ((putReg r s i v c).reg r s i) f.lo f.wd
    let admits : Prop := f.mn ≤ x ∧ x ≤ f.mx ∧ x ∉ f.bad
    let lock : Bool := match r.lock with
      | some (l, b) => c.rbit l s (if l = r then i else 0) b
      | none => false
    (f.acc = .rw → (admits → n = x) ∧ (¬admits → n = o)) ∧
    (f.acc = .rwl → (admits ∧ lock = false → n = x) ∧ (¬admits ∨ lock = true → n = o)) ∧
    (f.acc = .ro ∨ f.acc = .rc ∨ f.acc = .wo → n = o) ∧
    (f.acc = .w1c → ∀ k, n.testBit k = (o.testBit k && !x.testBit k)) ∧
    (f.acc = .w1s → ∀ k, n.testBit k = (o.testBit k || x.testBit k)) ∧
    fld (regView c r s i) f.lo f.wd = (if f.acc = .wo then 0 else fld (regRaw c r s i) f.lo f.wd) ∧
    fld ((clearRC r s i c).reg r s i) f.lo f.wd = (if f.acc = .rc then 0 else o)

/-- From R9: reserved fields read as 0; a write at an unpopulated address completes without effect, a read of one returns 0, and neither has an error status. -/
def Obligations.ReservedAndUnpopulatedReadZero : Prop :=
  (∀ (c : Chip) (r : Reg) (s : Site) (i k : Nat), (∀ f ∈ r.fields, ¬(f.lo ≤ k ∧ k < f.lo + f.wd)) → (regView c r s i).getLsbD k = false) ∧
  (∀ (m : Master) (src : Nat) (quiet : Bool) (b : Beat) (ecc : Ecc) (d : Dev), unpopulated d.chip b.a = true →
    (b.op = .write → serveBeat m src quiet b ecc d = ({}, d)) ∧
    (b.op = .read → (serveBeat m src quiet b ecc d).2 = d ∧ (serveBeat m src quiet b ecc d).1.st = 0 ∧
      TWord.data (serveBeat m src quiet b ecc d).1.lo = 0#32 ∧ (b.wide = true → TWord.data (serveBeat m src quiet b ecc d).1.hi = 0#32)))

/-- R14: a statistics counter is 48 bits wide, counts up and holds at its largest value; its sticky bit is set when it reaches it, clears when 1 is written
to it, and the overflow event is raised only when the sticky bit goes from 0 to 1; a reader sees the count as it is. -/
def Obligations.CountersSaturateOnce : Prop :=
  (∀ (v : BitVec 64) (n : Nat), let p := cntAdd v n; let mx := 2 ^ 48 - 1
    fld p.1 0 48 = min (fld v 0 48 + n) mx ∧
    (fld p.1 48 1 = 1 ↔ fld v 48 1 = 1 ∨ (fld v 0 48 < mx ∧ mx ≤ fld v 0 48 + n)) ∧
    (p.2 = true ↔ fld v 48 1 = 0 ∧ fld p.1 48 1 = 1)) ∧
  (∀ (c : Chip) (r : Reg) (s : Site) (i n : Nat), let p := cntAdd (c.reg r s i) n
    (p.2 = false → c.bump r s i n = c.setReg r s i p.1) ∧ (p.2 = true → c.bump r s i n = raise (r.ovfEv s) (r.addr s i) (c.setReg r s i p.1))) ∧
  (∀ (c : Chip) (r : Reg) (s : Site) (i : Nat) (v : BitVec 64), r.counter = true → let o := c.reg r s i; let w := (putReg r s i v c).reg r s i
    fld w 0 48 = fld o 0 48 ∧ fld w 48 1 = (if fld v 48 1 = 1 then 0 else fld o 48 1) ∧ fld (regView c r s i) 0 48 = fld (regRaw c r s i) 0 48)

/-- R15: a sequence number in a field wraps from its largest value to 0, and nothing is raised; of two, a is later than b when (a - b) mod 2^n lies in 1 to
2^(n-1) - 1. -/
def Obligations.SequenceNumbersCompareSerially : Prop :=
  (∀ (c : Chip) (r : Reg) (s : Site) (i lo w : Nat), lo + w ≤ 64 → let e := c.setRf r s i lo w (c.rf r s i lo w + 1)
    e.rf r s i lo w = (if c.rf r s i lo w = 2 ^ w - 1 then 0 else c.rf r s i lo w + 1) ∧ e.evt = c.evt) ∧
  (∀ n a b : Nat, 0 < n → a < 2 ^ n → b < 2 ^ n → let d : Int := ((a : Int) - (b : Int)) % ((2 ^ n : Nat) : Int)
    (serialLater n a b = true ↔ 1 ≤ d ∧ d ≤ ((2 ^ (n - 1) : Nat) : Int) - 1))

/-- A command on a device that is left quiet has its own effect and no other: no buffered write, debug write, comparator, port change or probe follows. -/
def Obligations.QuietCommandsHaveTheirEffectOnly : Prop :=
  ∀ (i : Instr) (hyp : Dev → Prop) (eff : Dev → Dev), Does i hyp eff → ∀ s : State, hyp (start s.dev) → settled (eff (start s.dev)) = true →
    exec i s = .next { s with dev := eff (start s.dev) }

/-- The frames of three shapes of command, before what follows every command. A cell that fires an operation on lanes leaves every byte of memory, every
register, every tile, the hub and every other grove, and in its own grove every cell, bank, slot and window. An ALU instruction of the sequencer leaves
them too, and every register of its window but the destination. A write of UIO_OE leaves memory, groves, tiles and hub, and every register but UIO_OE. -/
def Obligations.CommandsLeaveTheRest : Prop :=
  (∀ x ∈ laneOps, ∀ (g : GroveId) (n : Fin 16), let t := g.t.val; let k := gOf g
    Brings (x.2 g n {}) (fun d => cellReady x.1 t k n.val d = true ∧ cellSound t k n.val d = true) (fun d e => sameBeside t k d e ∧
      (e.chip.grove t k).cells = (d.chip.grove t k).cells ∧ (e.chip.grove t k).banks = (d.chip.grove t k).banks ∧
      (e.chip.grove t k).slots = (d.chip.grove t k).slots ∧ (e.chip.grove t k).windows = (d.chip.grove t k).windows)) ∧
  (∀ x ∈ seqAluOps, ∀ g : GroveId, let t := g.t.val; let k := gOf g
    Brings (x.2.1 g {}) (fun d => seqReady x.1 t k d = true ∧ seqSound true true t k d = true) (fun d e => sameBeside t k d e ∧
      (e.chip.grove t k).cells = (d.chip.grove t k).cells ∧ (e.chip.grove t k).banks = (d.chip.grove t k).banks ∧
      (e.chip.grove t k).slots = (d.chip.grove t k).slots ∧
      ∀ j, j < 8 → j ≠ iD (seqWord t k d) → seqReg (e.chip.grove t k) j = seqReg (d.chip.grove t k) j)) ∧
  (∀ (m : Master) (v : BitVec 64), Brings (.uioOeWrite m v) (fun d => writable m .uioOe .hub 0 d = true) (fun d e =>
    e.mem = d.mem ∧ e.chip.groves = d.chip.groves ∧ e.chip.tiles = d.chip.tiles ∧ e.chip.hub = d.chip.hub ∧ e.chip.evt = d.chip.evt ∧
      ∀ (q : Reg) (u : Site) (j : Nat), q.named u j = true → q ≠ .uioOe → e.chip.reg q u j = d.chip.reg q u j))

/-! ### Cells -/

/-- From R47, R51: a cell of the running slot whose fire condition holds fires its operation on lanes (each of the 28 is named): the command answers a next
state, in which the result has entered the pipeline, to land after the operation's latency, and the cell has fired in this cycle; nothing else changes but
the task's mark that it has seen poison.
And: From R58 to R61: the checker finds no failure in the result of an operation that no upset has touched. -/
def Obligations.CellLaneOpsFire : Prop :=
  (
  ∀ (g : GroveId) (n : Fin 16),
    let t := g.t.val
    let k := gOf g
    let landing (d : Dev) : InFlight := laneFlight (d.chip.tile t) (d.chip.grove t k) n.val (d.chip.grove t k).cycle (cellF t k n.val d) {}
      (TWord.data (cellA t k n.val d)).toNat (TWord.data (cellB t k n.val d)).toNat (TWord.data (cellC t k n.val d)).toNat (cellPoison t k n.val d)
    let fires (op : Nat) (i : Instr) : Prop := ∀ s : State,
      cellReady op t k n.val (start s.dev) = true → cellSound t k n.val (start s.dev) = true →
        exec i s = .next (after s (cellFired t k n.val (some (landing (start s.dev))) (start s.dev)))
    fires 0x01 (.cellAdd g n {}) ∧ fires 0x02 (.cellSub g n {}) ∧ fires 0x03 (.cellNeg g n {}) ∧ fires 0x04 (.cellAbs g n {}) ∧
    fires 0x05 (.cellAbsd g n {}) ∧ fires 0x06 (.cellMin g n {}) ∧ fires 0x07 (.cellMax g n {}) ∧ fires 0x08 (.cellCmpeq g n {}) ∧
    fires 0x09 (.cellCmplt g n {}) ∧ fires 0x0A (.cellCmple g n {}) ∧ fires 0x0B (.cellMov g n {}) ∧ fires 0x10 (.cellMul g n {}) ∧
    fires 0x11 (.cellMulh g n {}) ∧ fires 0x12 (.cellMadd g n {}) ∧ fires 0x20 (.cellAnd g n {}) ∧ fires 0x21 (.cellOr g n {}) ∧
    fires 0x22 (.cellXor g n {}) ∧ fires 0x23 (.cellAndn g n {}) ∧ fires 0x24 (.cellNot g n {}) ∧ fires 0x25 (.cellSel g n {}) ∧
    fires 0x28 (.cellShl g n {}) ∧ fires 0x29 (.cellShr g n {}) ∧ fires 0x2A (.cellSra g n {}) ∧ fires 0x2B (.cellRol g n {}) ∧
    fires 0x2C (.cellShuf g n {}) ∧ fires 0x2D (.cellClz g n {}) ∧ fires 0x2E (.cellPopc g n {}) ∧ fires 0x2F (.cellBrev g n {})
  ) ∧
  (
  ∀ (ti : Tile) (gr : Grove) (n now : Nat) (f : CellField) (a b c : Nat) (p : Bool), f.lane ≤ 2 → (∃ x ∈ laneOps, x.1 = f.opcode) →
    (laneFlight ti gr n now f {} a b c p).bad = none
  )

/-- From R51, R53, R68: the lanes of the result of ADD, SUB, NEG, ABS, ABSD, MUL, MULH and MADD, as integers in the interpretation that sgn selects. The
carry enters lane 0 only.
And: From R51: the lanes of the result of MIN, MAX, CMPEQ, CMPLT, CMPLE, MOV and SEL. A compare writes all ones for true and 0 for false. -/
def Obligations.CellArithmeticAndCompareLanes : Prop :=
  (
  ∀ (ti : Tile) (gr : Grove) (n now : Nat) (f : CellField) (a b c : Nat) (p : Bool), f.lane ≤ 2 → ∃ word,
    (laneFlight ti gr n now f {} a b c p).outWord = some word ∧ (TWord.isPoison word = true ↔ p = true) ∧
    ∀ l ∈ lanesOf f.lane,
      let y := laneOf (TWord.data word).toNat l.1 l.2
      let A := laneInt f.sgn l.2 (laneOf a l.1 l.2)
      let B := laneInt f.sgn l.2 (laneOf b l.1 l.2)
      let C := laneInt f.sgn l.2 (laneOf c l.1 l.2)
      let cin : Int := if l.1 = 0 then ((carryIn ti gr n f : Nat) : Int) else 0
      (f.opcode = 0x01 → laneHolds f l.2 y (A + B + cin)) ∧
      (f.opcode = 0x02 → laneHolds f l.2 y (A - B - cin)) ∧
      (f.opcode = 0x03 → laneHolds f l.2 y (-A)) ∧
      (f.opcode = 0x04 → laneHolds f l.2 y ((toInt l.2 (laneOf a l.1 l.2)).natAbs : Int)) ∧
      (f.opcode = 0x05 → laneHolds f l.2 y ((A - B).natAbs : Int)) ∧
      (f.opcode = 0x10 → laneHolds f l.2 y (A * B)) ∧
      (f.opcode = 0x11 → laneInt f.sgn l.2 y = A * B / ((2 ^ l.2 : Nat) : Int)) ∧
      (f.opcode = 0x12 → laneHolds f l.2 y (A * B + C))
  ) ∧
  (
  ∀ (ti : Tile) (gr : Grove) (n now : Nat) (f : CellField) (a b c : Nat) (p : Bool), f.lane ≤ 2 → ∃ word,
    (laneFlight ti gr n now f {} a b c p).outWord = some word ∧
    ∀ l ∈ lanesOf f.lane,
      let y := laneOf (TWord.data word).toNat l.1 l.2
      let A := laneInt f.sgn l.2 (laneOf a l.1 l.2)
      let B := laneInt f.sgn l.2 (laneOf b l.1 l.2)
      (f.opcode = 0x06 → laneInt f.sgn l.2 y = min A B) ∧
      (f.opcode = 0x07 → laneInt f.sgn l.2 y = max A B) ∧
      (f.opcode = 0x08 → y = if A = B then 2 ^ l.2 - 1 else 0) ∧
      (f.opcode = 0x09 → y = if A < B then 2 ^ l.2 - 1 else 0) ∧
      (f.opcode = 0x0A → y = if A ≤ B then 2 ^ l.2 - 1 else 0) ∧
      (f.opcode = 0x0B → y = laneOf a l.1 l.2) ∧
      (f.opcode = 0x25 → ∀ i < l.2, bitOf y i = if bitOf (laneOf c l.1 l.2) i then bitOf (laneOf a l.1 l.2) i else bitOf (laneOf b l.1 l.2) i)
  )

/-- From R51, R54: the lanes of the result of AND, OR, XOR, ANDN, NOT, of the shifts SHL, SHR, SRA and ROL, and of CLZ, POPC and BREV, bit by bit; the amount
of a shift is taken modulo the lane width. SHUF takes byte k of the result from byte shuf_k of b:a. -/
def Obligations.CellBitLanes : Prop :=
  ∀ (ti : Tile) (gr : Grove) (n now : Nat) (f : CellField) (a b c : Nat) (p : Bool), f.lane ≤ 2 → ∃ word,
    (laneFlight ti gr n now f {} a b c p).outWord = some word ∧
    (f.opcode = 0x2C → f.lane = 0 → ∀ k < 4, laneOf (TWord.data word).toNat (8 * k) 8 =
      if bitsOf f.shuf (3 * k) 3 < 4 then laneOf a (8 * bitsOf f.shuf (3 * k) 3) 8 else laneOf b (8 * (bitsOf f.shuf (3 * k) 3 - 4)) 8) ∧
    ∀ l ∈ lanesOf f.lane,
      let y := laneOf (TWord.data word).toNat l.1 l.2
      let x := laneOf a l.1 l.2
      let z := laneOf b l.1 l.2
      let amt := (if f.shamtSrc then z else f.shamt) % l.2
      (f.opcode = 0x20 → ∀ i < l.2, bitOf y i = (bitOf x i && bitOf z i)) ∧
      (f.opcode = 0x21 → ∀ i < l.2, bitOf y i = (bitOf x i || bitOf z i)) ∧
      (f.opcode = 0x22 → ∀ i < l.2, bitOf y i = xor (bitOf x i) (bitOf z i)) ∧
      (f.opcode = 0x23 → ∀ i < l.2, bitOf y i = (bitOf x i && !(bitOf z i))) ∧
      (f.opcode = 0x24 → ∀ i < l.2, bitOf y i = !(bitOf x i)) ∧
      (f.opcode = 0x28 → y = x * 2 ^ amt % 2 ^ l.2) ∧
      (f.opcode = 0x29 → y = x / 2 ^ amt) ∧
      (f.opcode = 0x2A → toInt l.2 y = toInt l.2 x / ((2 ^ amt : Nat) : Int)) ∧
      (f.opcode = 0x2B → ∀ i < l.2, bitOf y ((i + amt) % l.2) = bitOf x i) ∧
      (f.opcode = 0x2D → y ≤ l.2 ∧ (∀ i < l.2, l.2 - y ≤ i → bitOf x i = false) ∧ (y < l.2 → bitOf x (l.2 - 1 - y) = true)) ∧
      (f.opcode = 0x2E → y = ((List.range l.2).filter (fun i => bitOf x i)).length) ∧
      (f.opcode = 0x2F → ∀ i < l.2, bitOf y i = bitOf x (l.2 - 1 - i))

/-- From R51, R64, R66: MAC, MSU, ACCADD, ACCLD and ACCCLR enter their accumulator write into the pipeline, to land in the third cycle.
And: From R64, R66: an accumulator after MAC, MSU, ACCADD, ACCLD or ACCCLR lands: the 64-bit value, its residue, and 0b111 for as long as it is poisoned. -/
def Obligations.CellAccumulatorOpsFire : Prop :=
  (
  ∀ (g : GroveId) (n : Fin 16),
    let t := g.t.val
    let k := gOf g
    let F (d : Dev) := cellF t k n.val d
    let fl (d : Dev) (op : AccOp) : Option InFlight := some (cleanFlight n.val ((d.chip.grove t k).cycle + 3)
      (.acc (F d).accSel op (F d).sgn ((F d).flagEn && ((F d).laneMask == 0 || bitOf (F d).laneMask 0)) 0#64) (F d))
    let dot (d : Dev) : BitVec 64 := BitVec.ofInt 64 (dotLanes (cellF t k n.val d) (TWord.data (cellA t k n.val d)).toNat (TWord.data (cellB t k n.val d)).toNat)
    let ok (op : Nat) (d : Dev) : Prop := cellReady op t k n.val d = true ∧ cellSound t k n.val d = true
    Does (.cellMac g n {}) (ok 0x13) (fun d => cellFired t k n.val (fl d (.add (dot d) (cellPoison t k n.val d))) d) ∧
    Does (.cellMsu g n {}) (ok 0x14) (fun d => cellFired t k n.val (fl d (.sub (dot d) (cellPoison t k n.val d))) d) ∧
    Does (.cellAccadd g n {}) (ok 0x15) (fun d => cellFired t k n.val
      (fl d (.add (BitVec.ofInt 64 (laneInt (cellF t k n.val d).sgn 32 (TWord.data (cellA t k n.val d)).toNat)) (cellPoison t k n.val d))) d) ∧
    Does (.cellAccld g n {}) (ok 0x16) (fun d => cellFired t k n.val
      (fl d (.load (TWord.data (cellB t k n.val d) ++ TWord.data (cellA t k n.val d)) (cellPoison t k n.val d))) d) ∧
    Does (.cellAccclr g n {}) (ok 0x17) (fun d => cellFired t k n.val (fl d .clear) d)
  ) ∧
  (
  ∀ (a : Accu) (s : BitVec 64) (p sgn : Bool), (a.res = 7#3 ∨ a.res = res64 a.val) →
    (∀ op ∈ [AccOp.add s p, AccOp.sub s p, AccOp.load s p, AccOp.clear],
      let r := accWrite a op sgn
      r.1.val = (match op with | .add s _ => a.val + s | .sub s _ => a.val - s | .load s _ => s | .clear => 0#64) ∧
      (r.1.res = 7#3 ∨ (r.1.res = res64 r.1.val ∧ r.1.res.toNat < 7)) ∧
      (r.1.res = 7#3 ↔ match op with | .add _ p => p = true ∨ a.res = 7#3 | .sub _ p => p = true ∨ a.res = 7#3 | .load _ p => p = true | .clear => False) ∧
      (r.1.res ≠ 7#3 → r.2.2 = r.1.res.toNat) ∧ r.1.tag = a.tag ∧ r.1.ownerValid = a.ownerValid)
  )

/-- From R55, R56, R51: ACCRS enters the shifted, rounded and saturated accumulator as its result, GETF the flag register; PUTF enters its operand for the flags;
NOP only fires. -/
def Obligations.CellReadAndFlagOpsFire : Prop :=
  ∀ (g : GroveId) (n : Fin 16),
    let t := g.t.val
    let k := gOf g
    let F (d : Dev) := cellF t k n.val d
    let x (d : Dev) := (d.chip.grove t k).cell n.val
    let acc (d : Dev) := (x d).accu (F d).accSel
    let wb (d : Dev) : Option Nat := if (F d).wbEn then some (F d).wbK else none
    let ok (op : Nat) (d : Dev) : Prop := cellReady op t k n.val d = true ∧ cellSound t k n.val d = true
    let out (d : Dev) (e : Flight) : Option InFlight := some (cleanFlight n.val ((d.chip.grove t k).cycle + 1) e (F d))
    Does (.cellNop g n {}) (ok 0x00) (cellFired t k n.val none) ∧
    Does (.cellAccrs g n {}) (fun d => ok 0x18 d ∧ ((acc d).res = 7#3 ∨ (acc d).res = res64 (acc d).val))
      (fun d => let r := accrs (F d) (acc d).val
        cellFired t k n.val (out d (.out (twordP ((acc d).res == 7#3) (BitVec.ofNat 32 r.1)) 0xFFFFFFFF#32 (wb d)
          (BitVec.ofNat 16 (2 * b2n r.2 + 4 * b2n (r.1 == 0) + 8 * b2n (bitOf r.1 31))) (if (F d).flagEn then 0xFFFF#16 else 0#16))) d) ∧
    Does (.cellGetf g n {}) (fun d => ok 0x50 d ∧ (x d).par = flagPar (x d).flags)
      (fun d => cellFired t k n.val (out d (.out (tword (BitVec.ofNat 32 (x d).flags.toNat)) 0xFFFFFFFF#32 (wb d) 0#16 0#16)) d) ∧
    Does (.cellPutf g n {}) (ok 0x51)
      (fun d => cellFired t k n.val (out d (.out 0#35 0#32 none (BitVec.ofNat 16 (TWord.data (cellA t k n.val d)).toNat) 0xFFFF#16)) d)

/-- From R54, R275: LD, ST, FADD and SWAP at an address inside a scratchpad that holds its data enter their access into the pipeline, to reach its bank in the
next cycle; the address is a plus the immediate, modulo 2^32, with its two low bits ignored. A poisoned address makes a load's word and a store's data
poison.
And: From R133: an access outside the 128 KiB of a scratchpad takes the address trap and makes no access. -/
def Obligations.CellMemoryOpsFireOrTrap : Prop :=
  (
  ∀ (g : GroveId) (n : Fin 16),
    let t := g.t.val
    let k := gOf g
    let F (d : Dev) := cellF t k n.val d
    let sum (d : Dev) : Nat := ((TWord.data (cellA t k n.val d)).toNat + (immWord (F d)).toNat) % 2 ^ 32
    let pa (d : Dev) : Bool := TWord.isPoison (cellA t k n.val d)
    let store (d : Dev) : TWord := if pa d then poisoned (TWord.data (cellB t k n.val d)) else cellB t k n.val d
    let ok (op : Nat) (d : Dev) : Prop := cellReady op t k n.val d = true ∧ cellSound t k n.val d = true ∧ sum d < 2 ^ 17 ∧
      (d.chip.spPwr t k (sum d)).dead = false
    let fl (d : Dev) (m : MemKind) (w : TWord) : Option InFlight := some (cleanFlight n.val ((d.chip.grove t k).cycle + 1)
      (.mem m (sum d - sum d % 4) w .ok (if (F d).wbEn then some (F d).wbK else none)) (F d))
    Does (.cellLd g n {}) (ok 0x40) (fun d => cellFired t k n.val (fl d .ld (if pa d then poisoned 0#32 else 0#35)) d) ∧
    Does (.cellSt g n {}) (ok 0x41) (fun d => cellFired t k n.val (fl d .st (store d)) d) ∧
    Does (.cellFadd g n {}) (ok 0x42) (fun d => cellFired t k n.val (fl d .fadd (store d)) d) ∧
    Does (.cellSwap g n {}) (ok 0x43) (fun d => cellFired t k n.val (fl d .swap (store d)) d)
  ) ∧
  (
  ∀ (g : GroveId) (n : Fin 16),
    let t := g.t.val
    let k := gOf g
    let sum (d : Dev) : Nat := ((TWord.data (cellA t k n.val d)).toNat + (immWord (cellF t k n.val d)).toNat) % 2 ^ 32
    let pc (d : Dev) : Nat := match (d.chip.grove t k).run with | some r => r.pc | none => 0
    let ok (op : Nat) (d : Dev) : Prop := cellReady op t k n.val d = true ∧ cellSound t k n.val d = true ∧ 2 ^ 17 ≤ sum d
    ∀ x ∈ [(0x40, Instr.cellLd g n {}), (0x41, Instr.cellSt g n {}), (0x42, Instr.cellFadd g n {}), (0x43, Instr.cellSwap g n {})],
      Does x.2 (ok x.1) (fun d => (cellFired t k n.val none d).on (takeTrap t k .addr (pc d) (sum d % 2 ^ 26)))
  )

/-! ### The sequencer -/

/-- From R118, R121: an ALU instruction writes its 32-bit result, poison if a word it reads is poison, to register d and goes on to the next instruction: the command of each of the 13 answers that next state. -/
def Obligations.SeqAluOpsIssue : Prop :=
  ∀ g : GroveId, let t := g.t.val; let k := gOf g
    let alu (op : Nat) (i : Instr) (f : Word → Word → Word) : Prop := ∀ s : State, let d := start s.dev
      seqReady op t k d = true → seqSound true true t k d = true →
        exec i s = .next (after s (seqGo true true t k (fun c => c.modGrove t k (fun gr => gr.setW (iD (seqWord t k d))
          (twordP (TWord.isPoison (seqA t k d) || TWord.isPoison (seqB t k d)) (f (TWord.data (seqA t k d)) (TWord.data (seqB t k d)))))) d))
    let imm (op : Nat) (i : Instr) (f : Word → BitVec 14 → Word) : Prop := ∀ s : State, let d := start s.dev
      seqReady op t k d = true → seqSound true false t k d = true →
        exec i s = .next (after s (seqGo true false t k (fun c => c.modGrove t k (fun gr => gr.setW (iD (seqWord t k d))
          (twordP (TWord.isPoison (seqA t k d)) (f (TWord.data (seqA t k d)) (BitVec.ofNat 14 (iImm (seqWord t k d))))))) d))
    alu 0x01 (.seqAdd g {}) (fun x y => x + y) ∧ alu 0x02 (.seqSub g {}) (fun x y => x - y) ∧ alu 0x03 (.seqAnd g {}) (fun x y => x &&& y) ∧
    alu 0x04 (.seqOr g {}) (fun x y => x ||| y) ∧ alu 0x05 (.seqXor g {}) (fun x y => x ^^^ y) ∧
    alu 0x06 (.seqSlt g {}) (fun x y => if x.slt y then 1#32 else 0#32) ∧ alu 0x07 (.seqSltu g {}) (fun x y => if x.ult y then 1#32 else 0#32) ∧
    imm 0x08 (.seqAddi g {}) (fun x i => x + i.signExtend 32) ∧ imm 0x09 (.seqAndi g {}) (fun x i => x &&& i.setWidth 32) ∧
    imm 0x0A (.seqOri g {}) (fun x i => x ||| i.setWidth 32) ∧ imm 0x0B (.seqShli g {}) (fun x i => x <<< (i.toNat % 32)) ∧
    imm 0x0C (.seqShri g {}) (fun x i => x >>> (i.toNat % 32)) ∧ imm 0x0D (.seqSrai g {}) (fun x i => x.sshiftRight (i.toNat % 32))

/-- From R121, R125: NOP goes on; BR goes to its target; BC, BZ and BNZ go to it when their condition holds, else on; WAITC goes on when its condition holds, else
it issues again.
And: From R121, R125: LOOP and LOOPR open a level over the instructions from the next one to their end, or skip them for a count of 0; standing at the end of an
open level they also count it down and return (`goLoop`; the order of the two is the model's choice, log entry 131); with two levels open they take the
LOOP trap. END ends the task in this cycle. BRK goes on, and halts the grove with DBG_CTL.brk set (R570). -/
def Obligations.SeqControlFlowIssues : Prop :=
  (
  ∀ g : GroveId, let t := g.t.val; let k := gOf g
    let w (d : Dev) : Word := seqWord t k d
    let jump (d : Dev) : Dev := (seqIssued t k d).on (goTo t k (iTgt (w d)))
    let holds (d : Dev) : Bool := match (d.chip.grove t k).run with
      | some r => xor (seqCond (d.chip.grove t k) r (iCond (w d)) r.words) (iInv (w d))
      | none => false
    let zero (d : Dev) : Prop := TWord.data (seqA t k d) = 0#32
    let ok (op : Nat) (d : Dev) : Prop := seqReady op t k d = true
    Does (.seqNop g {}) (ok 0x00) (seqGo false false t k id) ∧
    Does (.seqBr g {}) (ok 0x10) jump ∧
    Does (.seqBc g {}) (fun d => ok 0x11 d ∧ holds d = true) jump ∧
    Does (.seqBc g {}) (fun d => ok 0x11 d ∧ holds d = false) (seqGo false false t k id) ∧
    Does (.seqBz g {}) (fun d => ok 0x12 d ∧ seqClean true false t k d = true ∧ zero d) jump ∧
    Does (.seqBz g {}) (fun d => ok 0x12 d ∧ seqClean true false t k d = true ∧ ¬zero d) (seqGo false false t k id) ∧
    Does (.seqBnz g {}) (fun d => ok 0x13 d ∧ seqClean true false t k d = true ∧ ¬zero d) jump ∧
    Does (.seqBnz g {}) (fun d => ok 0x13 d ∧ seqClean true false t k d = true ∧ zero d) (seqGo false false t k id) ∧
    Does (.seqWaitc g {}) (fun d => ok 0x19 d ∧ holds d = true) (seqGo false false t k id) ∧
    Does (.seqWaitc g {}) (fun d => ok 0x19 d ∧ holds d = false) (seqIssued t k)
  ) ∧
  (
  ∀ g : GroveId, let t := g.t.val; let k := gOf g
    let w (d : Dev) : Word := seqWord t k d
    let run (d : Dev) : Run := runOf t k d
    let enter (count : Dev → Nat) (d : Dev) : Dev := (seqIssued t k d).on (stepPc t k ((run d).pc + 1) (⟨(run d).pc + 1, iTgt (w d), count d⟩ :: (run d).loops))
    let skip (d : Dev) : Dev := (seqIssued t k d).on (stepPc t k (iTgt (w d) + 1) (run d).loops)
    let n (d : Dev) : Nat := (TWord.data (seqA t k d)).toNat
    let free (d : Dev) : Prop := (run d).loops.length < 2
    let within (d : Dev) : Prop := ∀ l ∈ (run d).loops, (run d).pc ≠ l.last
    Does (.seqLoop g {}) (fun d => seqReady 0x14 t k d = true ∧ free d ∧ within d ∧ iCount (w d) ≠ 0) (enter (fun d => iCount (w d))) ∧
    Does (.seqLoop g {}) (fun d => seqReady 0x14 t k d = true ∧ free d ∧ within d ∧ iCount (w d) = 0) skip ∧
    Does (.seqLoop g {}) (fun d => seqReady 0x14 t k d = true ∧ ¬free d) (fun d => (seqIssued t k d).on (takeTrap t k .loop (run d).pc 0)) ∧
    Does (.seqLoopr g {}) (fun d => seqReady 0x15 t k d = true ∧ seqClean true false t k d = true ∧ free d ∧ within d ∧ n d ≠ 0) (enter n) ∧
    Does (.seqLoopr g {}) (fun d => seqReady 0x15 t k d = true ∧ seqClean true false t k d = true ∧ free d ∧ within d ∧ n d = 0) skip ∧
    Does (.seqLoopr g {}) (fun d => seqReady 0x15 t k d = true ∧ seqClean true false t k d = true ∧ ¬free d)
      (fun d => (seqIssued t k d).on (takeTrap t k .loop (run d).pc 0)) ∧
    Does (.seqLoop g {}) (fun d => seqReady 0x14 t k d = true ∧ free d) (fun d => (seqIssued t k d).on (goLoop t k (iTgt (w d)) (iCount (w d)))) ∧
    Does (.seqLoopr g {}) (fun d => seqReady 0x15 t k d = true ∧ seqClean true false t k d = true ∧ free d)
      (fun d => (seqIssued t k d).on (goLoop t k (iTgt (w d)) (n d))) ∧
    Does (.seqEnd g {}) (fun d => seqReady 0x18 t k d = true)
      (fun d => (seqIssued t k d).on (fun c => c.modRun t k (fun r => { r with ended := true, endAt := (d.chip.grove t k).cycle }))) ∧
    Does (.seqBrk g {}) (fun d => seqReady 0x1C t k d = true ∧ d.chip.rbit .dbgCtl .hub 0 0 = false) (seqGo false false t k id) ∧
    Does (.seqBrk g {}) (fun d => seqReady 0x1C t k d = true ∧ d.chip.rbit .dbgCtl .hub 0 0 = true) (fun d => (seqGo false false t k id d).on (haltGrove t k))
  )

/-- From R134, R135: CALL opens a window, whose w0 to w3 are the caller's w4 to w7, and keeps the index of the next instruction in it; RET closes the window,
gives its w0 to w3 back as w4 to w7 of the caller, and goes to that index; data still on its way to the closed window finds none. At the depth limit CALL takes the SPILL trap, at depth 1 RET takes the RET trap. -/
def Obligations.SeqCallAndReturnIssue : Prop :=
  ∀ g : GroveId, let t := g.t.val; let k := gOf g
    let gr (d : Dev) : Grove := d.chip.grove t k
    let run (d : Dev) : Run := runOf t k d
    let limit (d : Dev) : Nat := if (run d).doubled then 2 * imgSpillLen (gr d).runImg else imgSpillLen (gr d).runImg
    let lower (d : Dev) (r : KMap TWord) : KMap TWord := (List.range 4).foldl (fun m i => kset m (i + 4) (kget 0#35 (gr d).curWin.regs i)) r
    Does (.seqCall g {}) (fun d => seqReady 0x16 t k d = true ∧ (run d).depth < limit d ∧ (gr d).freeWin ≠ 0)
      (fun d => (seqIssued t k d).on (fun c => (c.modGrove t k (fun x => { x with windows := x.windows ++ [⟨(run d).slot, (run d).depth + 1,
          (List.range 4).foldl (fun m i => kset m i (kget 0#35 (gr d).curWin.regs (i + 4))) [], (run d).pc + 1⟩] })).modRun t k
        (fun r => { r with depth := r.depth + 1, pc := iTgt (seqWord t k d) }))) ∧
    Does (.seqCall g {}) (fun d => seqReady 0x16 t k d = true ∧ limit d ≤ (run d).depth)
      (fun d => (seqIssued t k d).on (takeTrap t k .spill (run d).pc 0)) ∧
    Does (.seqRet g {}) (fun d => seqReady 0x17 t k d = true ∧ 2 ≤ (run d).depth ∧ ((gr d).window? (run d).slot ((run d).depth - 1)).isSome = true)
      (fun d => (seqIssued t k d).on (fun c => (c.modGrove t k (fun x => { x with
          inflight := x.inflight.map (fun f => if f.depth = (run d).depth then { f with depth := 0 } else f)
          windows := (x.windows.filter (fun y => !(y.slot == (run d).slot && y.depth == (run d).depth))).map (fun y =>
            if y.slot == (run d).slot && y.depth == (run d).depth - 1 then { y with regs := lower d y.regs } else y) })).modRun t k
        (fun r => { r with
          depth := r.depth - 1
          pc := (gr d).curWin.ret
          mrds := r.mrds.map (fun m => if m.depth = (run d).depth then { m with depth := 0 } else m) }))) ∧
    Does (.seqRet g {}) (fun d => seqReady 0x17 t k d = true ∧ (run d).depth ≤ 1)
      (fun d => (seqIssued t k d).on (takeTrap t k .ret (run d).pc 0))

/-- From R121, R130: WAITN and STEP hold the sequencer for imm + 1 cycles, STEPR for a cycles, STEP and STEPR strobing the cells meanwhile; SQO drives the word
that the cells read as SQ; GETC reads the 16 condition bits, GETO a cell's OUT; SETK enters a write of a cell's register k; SIG sets the task's signal. -/
def Obligations.SeqCellOpsIssue : Prop :=
  ∀ g : GroveId, let t := g.t.val; let k := gOf g
    let w (d : Dev) : Word := seqWord t k d
    let gr (d : Dev) : Grove := d.chip.grove t k
    let a (d : Dev) : TWord := seqA t k d
    let n (d : Dev) : Nat := (TWord.data (a d)).toNat
    let o (d : Dev) : TWord := ((gr d).cell (iImm (w d) % 16)).out
    let conds (d : Dev) : Nat := (List.range 16).foldl (fun n i => n + b2n (condBit ((gr d).cell i) (cellF t k i d)) * 2 ^ i) 0
    let set (d : Dev) (x : TWord) (c : Chip) : Chip := c.modGrove t k (fun y => y.setW (iD (w d)) x)
    let aok (d : Dev) : Prop := seqSound true false t k d = true
    Does (.seqWaitn g {}) (fun d => seqReady 0x1A t k d = true) (fun d => seqGo false false t k (fun c => c.modRun t k (fun r => { r with wait := iImm (w d) + 1 })) d) ∧
    Does (.seqStep g {}) (fun d => seqReady 0x20 t k d = true)
      (fun d => seqGo false false t k (fun c => c.modRun t k (fun r => { r with strobe := iImm (w d) + 1, wait := iImm (w d) + 1 })) d) ∧
    Does (.seqStepr g {}) (fun d => seqReady 0x21 t k d = true ∧ seqClean true false t k d = true)
      (fun d => seqGo true false t k (fun c => c.modRun t k (fun r => { r with strobe := n d, wait := n d })) d) ∧
    Does (.seqSqo g {}) (fun d => seqReady 0x22 t k d = true ∧ aok d) (fun d => seqGo true false t k (fun c => c.modRun t k (fun r => { r with sqNext := some (a d) })) d) ∧
    Does (.seqGetc g {}) (fun d => seqReady 0x23 t k d = true) (fun d => seqGo false false t k (set d (tword (BitVec.ofNat 32 (conds d)))) d) ∧
    Does (.seqGeto g {}) (fun d => seqReady 0x24 t k d = true ∧ TWord.bad (o d) = false) (fun d => seqGo false false t k (set d (o d)) d) ∧
    Does (.seqSetk g {}) (fun d => seqReady 0x25 t k d = true ∧ aok d)
      (fun d => seqGo true false t k (fun c => c.modGrove t k (fun y => y.push ⟨iImm (w d) % 16, y.cycle + 1, .setk (iImm (w d) / 16 % 4) (a d), none, 0, 0, 0⟩)) d) ∧
    Does (.seqSig g {}) (fun d => seqReady 0x38 t k d = true) (fun d => seqGo false false t k (fun c => c.modRun t k (fun r => { r with sig := some (iImm (w d) % 256) })) d)

/-- From R130, R155, R187: SUSP with no read outstanding goes on, with reads outstanding it suspends the task: slot and descriptor are SUSPENDED and the grove
is free; a task that may not suspend takes the SUSP trap.
And: From R121, R123, R133: a word that R123 calls a fault takes the ILLEGAL trap, whatever it would be, also one of a reserved opcode, and an index beyond the program takes the TARGET trap: the
counter and the capture of traps, the event, and the task has failed with the trap's code. -/
def Obligations.SeqSuspendsAndTraps : Prop :=
  (
  ∀ g : GroveId, let t := g.t.val; let k := gOf g
    let gr (d : Dev) : Grove := d.chip.grove t k
    let run (d : Dev) : Run := runOf t k d
    let may (d : Dev) : Prop := imgSuspEn (gr d).runImg = true ∧ (run d).gang = none
    let quiet (d : Dev) : Prop := (run d).qr0.left = 0 ∧ (run d).qr1.left = 0 ∧ (gr d).inflight = []
    Does (.seqSusp g {}) (fun d => seqReady 0x1B t k d = true ∧ may d ∧ quiet d ∧ (run d).mrds = []) (seqGo false false t k id) ∧
    Does (.seqSusp g {}) (fun d => seqReady 0x1B t k d = true ∧ may d ∧ quiet d ∧ (run d).mrds ≠ []) (fun d => (seqIssued t k d).on (suspendRun t k)) ∧
    Does (.seqSusp g {}) (fun d => seqReady 0x1B t k d = true ∧ ¬may d) (fun d => (seqIssued t k d).on (takeTrap t k .susp (run d).pc 0))
  ) ∧
  (
  ∀ (g : GroveId) (r : Run), let t := g.t.val; let k := gOf g
    let idle (d : Dev) : Prop := (d.chip.grove t k).run = some r ∧ (d.chip.grove t k).canAct = true ∧ (d.chip.grove t k).seqBusy = false ∧ r.qw0.held = none ∧
      r.qw1.held = none ∧ (d.chip.grove t k).step = none ∧ d.chip.armed = false
    Does (.seqAdd g {}) (fun d => idle d ∧ r.pc < imgN (d.chip.grove t k).runImg ∧ iOp (imgInstr (d.chip.grove t k).runImg r.pc) = 0x01 ∧
        iBad (imgN (d.chip.grove t k).runImg) r.pc (imgInstr (d.chip.grove t k).runImg r.pc) = true)
      (fun d => (seqIssued t k d).on (takeTrap t k .illegal r.pc 0)) ∧
    Does (.seqNop g {}) (fun d => idle d ∧ r.pc < imgN (d.chip.grove t k).runImg ∧ iForm (iOp (imgInstr (d.chip.grove t k).runImg r.pc)) = none)
      (fun d => (seqIssued t k d).on (takeTrap t k .illegal r.pc 0)) ∧
    Does (.seqNop g {}) (fun d => idle d ∧ imgN (d.chip.grove t k).runImg ≤ r.pc) (fun d => (seqIssued t k d).on (takeTrap t k .target r.pc 0))
  )

/-- From R126, R133, R262: QREAD and QREADR start the delivery of words on a read port, QSEEK moves its place in the item, for a task that has an item; QBIND binds
a queue of its own firebreak and a flow to a write port without an open item; QSOI opens an item in the queue bound to the port; QEOI closes it with its valid
bytes (of a queue without check values). -/
def Obligations.SeqPortOpsIssue : Prop :=
  ∀ g : GroveId, let t := g.t.val; let k := gOf g
    let w (d : Dev) : Word := seqWord t k d
    let p (d : Dev) : Nat := iD (w d)
    let run (d : Dev) : Run := runOf t k d
    let n (d : Dev) : Nat := (TWord.data (seqA t k d)).toNat
    let item (d : Dev) : Prop := (run d).member = 0 ∧ (run d).hasItem = true
    let left (d : Dev) (m : Nat) (x : QRPort) : QRPort := { x with left := if (run d).words ≤ x.pos then 0 else m }
    Does (.seqQread g {}) (fun d => seqReady 0x2B t k d = true ∧ item d)
      (fun d => seqGo false false t k (fun c => c.modRun t k (fun r => r.modQr (p d) (left d (iImm (w d) + 1)) id)) d) ∧
    Does (.seqQreadr g {}) (fun d => seqReady 0x2C t k d = true ∧ item d ∧ seqClean true false t k d = true)
      (fun d => seqGo true false t k (fun c => c.modRun t k (fun r => r.modQr (p d) (left d (n d)) id)) d) ∧
    Does (.seqQseek g {}) (fun d => seqReady 0x2D t k d = true ∧ item d ∧ seqClean true false t k d = true)
      (fun d => seqGo true false t k (fun c => c.modRun t k (fun r => r.modQr (p d) (fun x => { x with pos := min (n d) (run d).words, buf := [] })
        (fun v => { v with crc := 0xFFFFFFFF#32, next := 0, valid := true }))) d) ∧
    Does (.seqQbind g {}) (fun d => seqReady 0x28 t k d = true ∧ seqClean true true t k d = true ∧
        fld (d.chip.qcfg (n d % 16384)) 53 8 = kget 0 (d.chip.tile t).groveFb k ∧ ((run d).qw (p d)).openAsm = none ∧
        boundElsewhere (seqIssued t k d).chip t k (p d) { run d with started := true } (n d % 16384) = false)
      (fun d => seqGo true true t k (fun c => c.modRun t k (fun r => r.modQw (p d) (fun x =>
        { x with queue := some (n d % 16384), flow := BitVec.ofNat 24 (TWord.data (seqB t k d)).toNat }))) d) ∧
    (∀ q id : Nat, ∀ c' : Chip,
      Does (.seqQsoi g {}) (fun d => seqReady 0x29 t k d = true ∧ ((run d).qw (p d)).queue = some q ∧ ((run d).qw (p d)).openAsm = none ∧
          (d.chip.queue q).err = false ∧ (d.chip.queue q).closed = false ∧ d.chip.qen q = true ∧
          (seqIssued t k d).chip.openAsm q (.grove (gkey t k) (p d)) ((run d).qw (p d)).flow = some (c', id))
        (fun d => { seqIssued t k d with chip := goNext t k (((c'.noteWait q (.grove (gkey t k) (p d)) false).modRun t k (fun r =>
          (r.modQw (p d) (fun x => { x with openAsm := some id, pushed := 0 })).modCv (p d) (fun v => { v with crc := 0xFFFFFFFF#32, next := 0 })))) }) ∧
      Does (.seqQeoi g {}) (fun d => seqReady 0x2A t k d = true ∧ ((run d).qw (p d)).queue = some q ∧ ((run d).qw (p d)).openAsm = some id ∧
          seqClean true false t k d = true ∧ ((run d).qw (p d)).pushed ≠ 0 ∧ fld (d.chip.qcfg q) 51 2 ≠ 1)
        (fun d => seqGo true false t k (fun c => (c.modQueue q (fun Q => { Q with asms := Q.asms.map (fun x =>
            if x.id = id then { x with vb := n d % 4, closed := true } else x) })).modRun t k
          (fun r => { (r.modQw (p d) (fun x => { x with openAsm := none })) with closed := r.closed ++ [(q, id)] })) d))

/-- From R128, R129: SLD and SST enter an access of the scratchpad at a plus the immediate into the pipeline; MRD notes a read of the 48-bit address b:a for
the register of its window with the next tag; MWR puts its word into the task's store buffer of eight. -/
def Obligations.SeqMemoryOpsIssue : Prop :=
  ∀ g : GroveId, let t := g.t.val; let k := gOf g
    let w (d : Dev) : Word := seqWord t k d
    let run (d : Dev) : Run := runOf t k d
    let n (d : Dev) : Nat := (TWord.data (seqA t k d)).toNat
    let addr (d : Dev) : Nat := (TWord.data (seqA t k d) + iSImm (w d)).toNat
    let far (d : Dev) : Nat := (TWord.data (seqB t k d)).toNat % 65536 * 2 ^ 32 + (n d - n d % 4)
    let inside (d : Dev) : Prop := addr d < 2 ^ 17 ∧ (d.chip.spPwr t k (addr d)).dead = false
    let access (d : Dev) (m : MemKind) (x : TWord) (wb : Option Nat) (depth : Nat) (c : Chip) : Chip :=
      c.modGrove t k (fun y => y.push ⟨16, y.cycle + 1, .mem m (addr d - addr d % 4) x .ok wb, none, 0, 0, depth⟩)
    Does (.seqSld g {}) (fun d => seqReady 0x30 t k d = true ∧ seqClean true false t k d = true ∧ inside d)
      (fun d => seqGo true false t k (access d .sld 0#35 (some (iD (w d))) (run d).depth) d) ∧
    Does (.seqSst g {}) (fun d => seqReady 0x31 t k d = true ∧ seqSound true true t k d = true ∧ seqClean true false t k d = true ∧ inside d)
      (fun d => seqGo true true t k (access d .sst (seqB t k d) none 0) d) ∧
    Does (.seqMrd g {}) (fun d => seqReady 0x32 t k d = true ∧ seqClean true true t k d = true ∧ (run d).mrds.length < 4)
      (fun d => seqGo true true t k (fun c => (c.modGrove t k (fun y => { y with mrdTag := (y.mrdTag + 1) % 64 })).modRun t k
        (fun r => { r with mrds := r.mrds ++ [⟨(run d).depth, iD (w d), (run d).pc, far d, (d.chip.grove t k).mrdTag⟩] })) d) ∧
    Does (.seqMwr g {}) (fun d => seqReady 0x33 t k d = true ∧ seqClean true true t k d = true ∧ (run d).store.length < 8 ∧
        TWord.bad (seqReg (d.chip.grove t k) (iD (w d))) = false)
      (fun d => seqGo true true t k (fun c => c.modRun t k (fun r => { r with
        store := r.store ++ [(far d, seqReg (d.chip.grove t k) (iD (w d)))]
        poisonSeen := r.poisonSeen || TWord.isPoison (seqReg (d.chip.grove t k) (iD (w d))) })) d)

/-! ### Groves and tasks -/

/-- From R124, R128, R136, R137, R146: the grove's engines. A read that completes lands its word, or its error; a window that must make room is stored in its
frame, and one that is wanted is loaded back, with the data that came for it meanwhile; a buffered write that failed raises its error; words fetched for a read port enter its buffer, each
checked where it was stored; a queue that is stopped gives none (R256). -/
def Obligations.GroveEnginesRun : Prop :=
  ∀ g : GroveId, let t := g.t.val; let k := gOf g
    let gr (d : Dev) : Grove := d.chip.grove t k
    (∀ (tag : Fin 64) (r : Run) (m : MrdOut),
      Does (.mrdCompletion g tag .ok) (fun d => (gr d).mrd? tag.val = some (r, m) ∧ (gr d).landHeld.any (fun x => x.1 == tag.val) = false ∧
          d.chip.outstanding (fun w => w == .mrd t k tag.val) = false ∧ mayReach (.grove t k) false m.addr d.chip = false)
        (fun d => d.on (mrdLand t k tag.val (.error 5))) ∧
      (∀ x : ReqOut × Dev, x.1.waits = false →
        Does (.mrdCompletion g tag .ok) (fun d => (gr d).mrd? tag.val = some (r, m) ∧ (gr d).landHeld.any (fun x => x.1 == tag.val) = false ∧
            d.chip.outstanding (fun w => w == .mrd t k tag.val) = false ∧ mayReach (.grove t k) false m.addr d.chip = true ∧
            (∀ dv off, locate d.chip m.addr ≠ .remote dv off) ∧
            serveReq (.grove t k) (nodeOf (.grove t k)) false { op := .read, a := m.addr, n := 1 } .ok d = x)
          (fun _ => x.2.on (mrdLand t k tag.val (if x.1.st = 0 then .ok (x.1.ws.headD 0#35) else .error x.1.st))))) ∧
    (∀ s depth : Nat,
      Does (.windowSpill g false) (fun d => (gr d).halted = false ∧ (gr d).freeWin < d.chip.rf .seqWinCtl (.grove t k) 0 0 3 ∧
          (refillDemand d.chip t k = none ∨ (gr d).freeWin = 0) ∧ (gr d).spillVictim = some (s, depth))
        (fun d =>
          let w := ((gr d).window? s depth).getD { slot := s, depth := depth }
          let d1 := (d.on (fun c => c.spWake t k ((gr d).frameOf s depth))).wrWords (spBase t k + (gr d).frameOf s depth)
            ((List.range 8).map (fun i => kget 0#35 w.regs i) ++
              [tword (BitVec.ofNat 32 ((gr d).taskCtx s * 2 ^ 16 + depth % 512 * 2 ^ 5 + w.ret % 32)), 0#35])
          d1.on (fun c => (c.modGrove t k (fun x => ({ x with windows := x.windows.filter (fun y => !(y.slot == s && y.depth == depth)) }).openFirst)).bump
            .seqSpillCnt (.grove t k))) ∧
      Does (.windowRefill g .ok) (fun d => refillWant d.chip t k = some (s, depth) ∧ (gr d).halted = false ∧ (gr d).freeWin ≠ 0 ∧
          TWord.isPoison ((((d.on (fun c => c.spWake t k ((gr d).frameOf s depth))).spmEcc t k ((gr d).frameOf s depth) .ok 1).rdWords
            (spBase t k + (gr d).frameOf s depth) 10).getD 8 0#35) = false)
        (fun d =>
          let d1 := (d.on (fun c => c.spWake t k ((gr d).frameOf s depth))).spmEcc t k ((gr d).frameOf s depth) .ok 1
          let ws := d1.rdWords (spBase t k + (gr d).frameOf s depth) 10
          let late := (runOf t k d).late.filter (fun x => x.1 == depth)
          d1.on (fun c => (c.modGrove t k (fun x => { x with windows := x.windows ++
            [⟨s, depth, late.foldl (fun m x => kset m x.2.1 x.2.2) ((List.range 8).map (fun i => (i, ws.getD i 0#35))), (TWord.data (ws.getD 8 0#35)).toNat % 32⟩] })).modRun t k
              (fun r => { r with late := r.late.filter (fun x => x.1 != depth) })))) ∧
    (∀ tag st : Nat, Does (.mwrErrorCompletion g)
      (fun d => (gr d).halted = false ∧ d.chip.hub.mwrErr.find? (fun x => x.1 == t && x.2.1 == k) = some (t, k, tag, st))
      (fun d => d.on (fun c => mwrError t k tag st (c.modHub (fun h => { h with mwrErr := h.mwrErr.erase (t, k, tag, st) }))))) ∧
    (∀ (u : Fin 2) (n : Nat) (ecc : Ecc) (hit : Option (Fin 16)) (r : Run) (it : Item),
      Does (.qrFetchArrival g u n ⟨ecc, hit⟩) (fun d => (gr d).run = some r ∧ r.hasItem = true ∧ r.member = 0 ∧ (d.chip.queue r.queue).err = false ∧
          (d.chip.queue r.queue).item? r.itemSeq = some it)
        (fun d =>
          let p := r.qr u.val
          let want := ((List.range it.words.length).filter (fun i => decide (p.pos ≤ i) && !((p.buf.map (fun b => b.1)).contains i) &&
            (match it.words[i]? with | some w => !w.lvl.isHead | none => false))).take (min n (16 - p.buf.length))
          let mids := want.filterMap (fun i => (it.words[i]?).bind (fun w => if w.lvl.isMid then some w else none))
          let e := (mids.head?.map (fun w => d.lvlEcc (r.queue / 4096) w.lvl ecc)).getD d
          let newly := (mids.filter (fun w => !(TWord.isPoison (d.qword r.queue w)) && TWord.isPoison (e.qword r.queue w))).length
          let got := want.filterMap (fun i => (it.words[i]?).map (fun w => (i, ({ w := if w.lvl.isMid then e.qword r.queue w else w.checked.w, lvl := .head } : QWord))))
          (e.on (fun c => c.shiftQueue r.queue (fun Q => { Q.readAt r.itemSeq want with found := (Q.readAt r.itemSeq want).found + newly }))).on
            (fun c => c.modRun t k (fun y => y.modQr u.val (fun p =>
              { p with buf := (p.buf ++ got).zipIdx.map (fun x => if hit.map Fin.val = some x.2 then (x.1.1, { x.1.2 with bad := true }) else x.1) }) id))))

/-- From R126, R127, R262: a valid word on the track of a write port with an open item is pushed into the item's queue; a word that the queue had no place for
enters it when it has; a word with a wrong residue fails the task.
And: From R334, R344: a placeholder that is due is pushed into the error queue of its flow; its item retires, its lock is released, its descriptor is free. -/
def Obligations.WritePortsPushAndPlaceholdersLand : Prop :=
  (
  ∀ (g : GroveId) (p : Fin 2) (r : Run) (q id : Nat), let t := g.t.val; let k := gOf g
    let gr (d : Dev) : Grove := d.chip.grove t k
    let track (d : Dev) : TWord × Bool := outTrack (gr d) (64 + p.val)
    let mark (d : Dev) : Dev := d.on (fun c => c.modRun t k (fun r => r.modQw p.val (fun x => { x with lastPush := some (gr d).cycle })))
    let pushing (d : Dev) : Prop := (gr d).run = some r ∧ (r.qw p.val).queue = some q ∧ (r.qw p.val).openAsm = some id ∧ (r.qw p.val).held = none ∧
      r.fail = none ∧ (gr d).halted = false ∧ (r.qw p.val).lastPush ≠ some (gr d).cycle ∧ (track d).2 = true
    Does (.qwPush g p 0#35 false) (fun d => pushing d ∧ TWord.bad (track d).1 = false ∧ (r.qw p.val).pushed < 16384)
      (fun d => pushWord t k p.val q id (track d).1 (mark d)) ∧
    Does (.qwPush g p 0#35 false) (fun d => pushing d ∧ TWord.bad (track d).1 = false ∧ 16384 ≤ (r.qw p.val).pushed)
      (fun d => (mark d).on (takeTrap t k .item r.pc 0)) ∧
    Does (.qwPush g p 0#35 false) (fun d => pushing d ∧ TWord.bad (track d).1 = true) (fun d => (mark d).on (outerFail t k 5 2)) ∧
    (∀ w : TWord, Does (.qwWordAccepted g p)
      (fun d => (gr d).run = some r ∧ (r.qw p.val).held = some w ∧ (r.qw p.val).queue = some q ∧ (r.qw p.val).openAsm = some id)
      (fun d => pushWord t k p.val q id w (mark d)))
  ) ∧
  (
  ∀ (t : TileId) (n : Fin 4096) (k : Nat) (q : Nat) (d' : Dev),
    Does (.placeholderDelivery t n)
      (fun d => (d.chip.desc t.val n.val).poisonDue = some k ∧ phTargets d.chip t.val (d.chip.desc t.val n.val).flow = [q] ∧
        d.pushItem q .sched (some (d.chip.desc t.val n.val).flow) 0 (phWords (d.chip.desc t.val n.val)
          (match (d.chip.queue (d.chip.desc t.val n.val).queue).item? (d.chip.desc t.val n.val).itemSeq with | some it => it.ilen | none => 1)) true = some d')
      (fun d => d'.on (fun c => ((((c.noteWait q .sched false).retire (d.chip.desc t.val n.val).queue (d.chip.desc t.val n.val).itemSeq).releaseLock t.val n.val).freeTask
        t.val n.val).bump .schPhCnt (.tile t.val)))
  )

/-- From R65, R132, R152, R165 to R167, R333: an acquisition that waited ends and its cell fires; a forced save saves the accumulators that have an owner; a task
whose budget is used up takes the BUDGET trap; a task that meets the end conditions is done; a task of one grove
that is done, with no check outstanding, commits: its output items join, by queue number (R181), its item retires and its lock is released, and its
buffered writes go out; a task that
failed is aborted. -/
def Obligations.TaskCommandsRun : Prop :=
  ∀ (g : GroveId) (r : Run), let t := g.t.val; let k := gOf g
    let gr (d : Dev) : Grove := d.chip.grove t k
    (∀ (n op : Nat) (u : CellUpset) (i : Fin 32) (ecc : Ecc), Does (.accAcquisitionEnd ⟨g, i, ecc⟩) (fun d => (gr d).acqWait = some (n, op, u) ∧ (gr d).run = some r)
      (fun d =>
        let d1 := acquire t k r.slot (i.val, ecc) ((tickTile t d).on (fun c => c.modGrove t k (fun gr => { gr with acqWait := none })))
        fireNow t k n (cellField (imgCell (d1.chip.grove t k).runImg n ^^^ u.fieldMask)) u d1)) ∧
    Does (.accForcedSave g) (fun d => (gr d).forcedSave = true ∧ (gr d).run = none ∧ pendingSwitch d.chip t k = none ∧
        (d.chip.tile t).onGrove k (fun s => s == .resumable) = false)
      (fun d => ((List.range 32).foldl (fun d i => if ((d.chip.grove t k).acc i).ownerValid then saveAcc t k i d else d) d).on
        (fun c => c.modGrove t k (fun gr => { gr with forcedSave := false }))) ∧
    Does (.budgetExpiry g) (fun d => (gr d).run = some r ∧ r.started = true ∧ r.budget = 0 ∧ r.done = false ∧ r.fail = none ∧ (gr d).halted = false)
      (fun d => d.on (takeTrap t k .budget r.pc 0)) ∧
    Does (.taskEnd g) (fun d => (gr d).run = some r ∧ (gr d).endsNow = true ∧ d.chip.rbit .schIntegCtl (.tile t) 0 0 = false)
      (fun d => d.on (fun c => c.modRun t k (fun r => { r with done := true }))) ∧
    Does (.taskCommit g) (fun d => (gr d).run = some r ∧ attemptOf d.chip t r.desc = [(k, r, false)] ∧ gangMembers d.chip t k = [k] ∧ r.done = true ∧ r.fail = none ∧
        (gr d).verdicts = [] ∧ r.closed.all (fun o => !(d.chip.queue o.1).err) = true ∧ r.store = [] ∧ (d.chip.desc t r.desc).itemV = true)
      (fun d => (flushMwr ((commitMember t (k, r, false) (joinOutputs r.closed d)).on (fun c =>
        ((c.retire (d.chip.desc t r.desc).queue (d.chip.desc t r.desc).itemSeq).releaseLock t r.desc).freeTask t r.desc))).on (stepTaskEnd t k)) ∧
    Does (.taskAbort g) (fun d => (gr d).run = some r ∧ (attemptOf d.chip t r.desc).any (fun m => m.2.1.fail.isSome) = true)
      (fun d => d.on (abortAttempt t r.desc))

/-- From R77, R111, R150, R163, R165: writes of the cell map, of a canopy source and its lock, of a bank word and of the forced save, by a master that
may make them. A bank word is written while the slot that it is allocated to neither runs nor is suspended.
And: From R61, R98, R99, R100: an active select latch found multi-hot, or at odds with its check bit, is counted, captured and raised, and its verdict reaches the
grove sequencer, which fails the running task and holds the slot, at the start of the next cycle; a canopy channel whose source latch fails is recorded,
raises its event and no longer drives, and the verdict reaches the groves that run and tap it. -/
def Obligations.GroveRegistersAndLatches : Prop :=
  (
  ∀ (m : Master) (g : GroveId) (v : BitVec 64), let t := g.t.val; let k := gOf g; let s : Site := .grove t k
    Does (.seqCellMapWrite m g v) (fun d => writable m .seqCellMap s 0 d = true ∧ (d.chip.grove t k).run.isSome = true)
      (fun d => noted m .seqCellMap s 0 v (d.on (raise (.tile t 11) k))) ∧
    Does (.seqCellMapWrite m g v) (fun d => writable m .seqCellMap s 0 d = true) (fun d => noted m .seqCellMap s 0 v (d.on (cellMapWrite t k v))) ∧
    Does (.accForcedSaveReq m g) (fun d => writable m .seqAccCtl s 0 d = true)
      (fun d => noted m .seqAccCtl s 0 (fieldValue .seqAccCtl s 0 [(0, 1, 1)] d) (d.on (fun c => c.modGrove t k (fun gr => { gr with forcedSave := true })))) ∧
    (∀ ch : Fin 64, Does (.cfgCnpSrcWrite m g.t ch v) (fun d => writable m .cfgCnpSrc (.tile t) ch.val d = true)
      (fun d => noted m .cfgCnpSrc (.tile t) ch.val v (d.on (cnpWrite t ch.val v)))) ∧
    Does (.cfgCnpLockWrite m g.t) (fun d => writable m .cfgCnpLock (.tile t) 0 d = true)
      (fun d => noted m .cfgCnpLock (.tile t) 0 (fieldValue .cfgCnpLock (.tile t) 0 [(0, 1, 1)] d)
        (d.on (putReg .cfgCnpLock (.tile t) 0 (fieldValue .cfgCnpLock (.tile t) 0 [(0, 1, 1)] d)))) ∧
    (∀ (b : Fin 8) (i : Fin 64), let a := 0x18000000 + t * 0x10000000 + k * 0x10000 + 0xC000 + 512 * b.val + 8 * i.val
      let ok (d : Dev) : Prop := mayAccess m true a 2 d.chip = true ∧ tileUp t d = true
      let seen (d : Dev) : Dev := d.on (fun c => c.see ⟨2, t, 0, true, a, v.extractLsb' 0 32, groveOf m⟩)
      Does (.bankWrite m g b i v) (fun d => ok d ∧ kfind? (d.chip.grove t k).alloc b.val = none) seen ∧
      (∀ x, Does (.bankWrite m g b i v)
        (fun d => ok d ∧ kfind? (d.chip.grove t k).alloc b.val = some x ∧ ((d.chip.grove t k).slot x.slot).state ≠ .running ∧
          ((d.chip.grove t k).slot x.slot).state ≠ .suspended)
        (fun d => seen (d.on (fun c => c.modGrove t k (fun gr => { gr with banks := kset gr.banks (b.val * 64 + i.val) (tword (v.extractLsb' 0 32)) }))))) ∧
      (∀ x, Does (.bankWrite m g b i v)
        (fun d => ok d ∧ kfind? (d.chip.grove t k).alloc b.val = some x ∧ ((d.chip.grove t k).slot x.slot).state = .running) seen))
  ) ∧
  (
  (∀ (g : GroveId) (k : Fin 86) (up : BitVec 64) (r : Run), let t := g.t.val; let n := gOf g
    let hit (d : Dev) : Chip := d.chip.modGrove t n (fun gr => { gr with latches := gr.latches ^^^ ((BitVec.setWidth 1024 (up.extractLsb' 0 (trackSel k.val).2)) <<< (trackSel k.val).1) })
    let sel (d : Dev) : Nat := ((hit d).grove t n).sel k.val
    let ones (d : Dev) : Nat := popBits (sel d) (trackSel k.val).2
    let src (d : Dev) : Nat := (lowBit (sel d) (trackSel k.val).2).getD 0
    let told (c : Chip) : Chip := c.modGrove t n (fun gr => gr.verdict gr.cycle (latchVerdict true))
    Does (.selectLatchFault g k up) (fun d => (d.chip.grove t n).run = some r ∧ 2 ≤ ones d)
      (fun d => d.on (fun _ => told (raise (.grove t n 6) k.val (routeFault t n 0 k.val (src d) (ones d) (hit d))))) ∧
    Does (.selectLatchFault g k up) (fun d => (d.chip.grove t n).run = some r ∧ ones d < 2 ∧ (sel d != 0) ≠ kget false (d.chip.grove t n).latchChk k.val)
      (fun d => d.on (fun _ => told (raise (.grove t n 7) k.val (routeFault t n 1 k.val (src d) (ones d) (hit d)))))) ∧
  (∀ (g : GroveId) (v : Verdict) (c : Chip) (r : Run), (c.grove g.t.val (gOf g)).run = some r → r.fail = none → v.cell = 17 →
    ∃ r', ((verdictArrives g.t.val (gOf g) v c).grove g.t.val (gOf g)).run = some r' ∧ r'.fail = some { code := 0xD, cls := 6, held := true }) ∧
  (∀ (t : TileId) (ch : Fin 64) (up : BitVec 288),
    let hit (d : Dev) : Chip := d.chip.modTile t.val (fun ti => { ti with cnpUp := kset ti.cnpUp ch.val (kget 0#288 ti.cnpUp ch.val ^^^ up) })
    let ones (d : Dev) : Nat := popBits ((hit d).cnpLatch t.val ch.val) 288
    let off (ev : Nat) (d : Dev) : Dev := d.on (fun _ =>
      let c1 := raise (.tile t.val ev) ch.val (((hit d).setRf .cfgCnpSrc (.tile t.val) ch.val 62 1 1).bump .cfgCnpUpsetCnt (.tile t.val))
      let c2 := (c1.tileGroves t.val).foldl (fun c g =>
        if (c.grove t.val g).run.isSome && (lowBit ((c.grove t.val g).sel 84) 64 == some ch.val || lowBit ((c.grove t.val g).sel 85) 64 == some ch.val) then
          c.modGrove t.val g (fun gr => gr.verdict gr.cycle (latchVerdict false)) else c) c1
      c2.modTile t.val (fun ti => { ti with cnpOff := if ti.cnpOff.contains ch.val then ti.cnpOff else ti.cnpOff ++ [ch.val], cnp := kdel ti.cnp ch.val }))
    Does (.canopyLatchFault t ch up) (fun d => 2 ≤ ones d) (off 12) ∧
    Does (.canopyLatchFault t ch up) (fun d => (hit d).cnpLatch t.val ch.val = 0) (off 13) ∧
    Does (.canopyLatchFault t ch up) (fun d => ones d < 2 ∧ (hit d).cnpLatch t.val ch.val ≠ 0) (fun d => d.on (fun _ => hit d)))
  )

/-! ### The scheduler -/

/-- From R181, R182, R184, R194, R195: a notice fills a free descriptor from its queue's target and its task becomes ready, or with none free raises SCH_NO_DESC once and waits; a post with a delay is entered
with its deadline, a post without one becomes ready, a post to a disabled template is
lost, and one that finds the overflow FIFO full or earlier posts waiting waits; the tick count advances by 1; tasks whose deadline is
reached become due, and up to four due tasks become ready in the order of their deadlines. -/
def Obligations.TasksAreCreated : Prop :=
  ∀ tt : TileId, let t := tt.val
    let ti (d : Dev) : Tile := d.chip.tile t
    (∀ (nt : Notice) (n : Nat), Does (.noticeIntake tt)
      (fun d => (ti d).notices = [nt] ∧ (ti d).fifoFull = false ∧ d.chip.rf .schCtl (.tile t) 0 8 8 < (ti d).nfree ∧ (ti d).freeDesc = some n)
      (fun d =>
        let tg := d.chip.qtgt nt.queue
        let new : Desc := { prio := fld tg 40 3, entry := fld tg 43 5, ctx := fld tg 48 16, itemV := true, itemSeq := nt.seq, queue := nt.queue, flow := nt.flow, gang := d.chip.ctxGang t (fld tg 48 16) }
        d.on (fun c =>
          let c1 := (c.modTile t (fun x => { x with notices := [], descs := kset x.descs n new })).becomeReady t n
          if (c1.tile t).fifoFull then c1 else c1.modTile t (fun x => { x with noDescEpisode := false })))) ∧
    (∀ (nt : Notice) (r : List Notice), Does (.noticeIntake tt)
      (fun d => (ti d).notices = nt :: r ∧ (ti d).fifoFull = false ∧ (ti d).nfree ≤ d.chip.rf .schCtl (.tile t) 0 8 8 ∧ (ti d).noDescEpisode = false)
      (fun d => d.on (fun c => raise (.tile t 1) nt.queue (c.modTile t (fun x => { x with noDescEpisode := true }))))) ∧
    (∀ (m : Master) (tpl : BitVec 8) (delay : BitVec 24) (n : Nat), let v : BitVec 64 := mkReg [(24, 8, tpl.toNat), (0, 24, delay.toNat)]
      let tv (d : Dev) : BitVec 64 := d.chip.reg .schTpl (.tile t) tpl.toNat
      let new (d : Dev) : Desc := { prio := fld (tv d) 60 3, entry := fld (tv d) 54 5, ctx := fld (tv d) 24 16, post := true, tpl := tpl.toNat, flow := BitVec.ofNat 24 (fld (tv d) 0 24), gang := d.chip.ctxGang t (fld (tv d) 24 16) }
      let posting (d : Dev) : Prop := writable m .schPost (.tile t) 0 d = true ∧ kget [] d.chip.evt.posts t = [] ∧ (ti d).freeDesc = some n ∧
        (ti d).fifoFull = false ∧ fld (tv d) 59 1 = 0
      Does (.schPost m tt tpl delay) (fun d => posting d ∧ fld (tv d) 63 1 = 1 ∧ delay = 0#24)
        (fun d => noted m .schPost (.tile t) 0 v (d.on (fun c => (c.modTile t (fun x => { x with descs := kset x.descs n (new d) })).becomeReady t n))) ∧
      Does (.schPost m tt tpl delay) (fun d => posting d ∧ fld (tv d) 63 1 = 1 ∧ delay ≠ 0#24)
        (fun d => noted m .schPost (.tile t) 0 v (d.on (fun c => c.modTile t (fun x => { x with
          descs := kset x.descs n { (new d) with state := .delayed, deadline := (c.rf .schNow (.tile t) 0 0 32 + delay.toNat) % 2 ^ 32, ord := x.ord }
          ord := x.ord + 1 })))) ∧
      Does (.schPost m tt tpl delay) (fun d => posting d ∧ fld (tv d) 63 1 = 0)
        (fun d => noted m .schPost (.tile t) 0 v (d.on (lostPost t tpl.toNat))) ∧
      Does (.schPost m tt tpl delay) (fun d => writable m .schPost (.tile t) 0 d = true ∧ ((ti d).fifoFull = true ∨ kget [] d.chip.evt.posts t ≠ []))
        (fun d => noted m .schPost (.tile t) 0 v (d.on (fun c => c.addPost t { tpl := tpl.toNat, delay := delay.toNat })))) ∧
    Does (.tick tt) (fun _ => True) (fun d => d.on (fun c => c.setRf .schNow (.tile t) 0 0 32 (c.rf .schNow (.tile t) 0 0 32 + 1))) ∧
    Does (.delayExpiry tt) (fun _ => True) (fun d => d.on (fun c => c.modTile t (fun x => { x with descs := x.descs.map (fun p =>
      if p.2.state = .delayed ∧ serialLater 32 p.2.deadline (c.rf .schNow (.tile t) 0 0 32) = false then (p.1, { p.2 with due := true }) else p) }))) ∧
    (∀ n : Nat, Does (.dueTaskReady tt) (fun d => dueOrder (ti d) (d.chip.rf .schNow (.tile t) 0 0 32) = [n] ∧ (ti d).fifoFull = false)
      (fun d => d.on (postReady t n)))

/-- From R188, R190 to R193: after a release the first task of the chain becomes ready; a task leaves the overflow FIFO when a way of its set is free; an entry
without tasks and lock is freed, a grant that it holds released; a grant that no task waits for is given back; requests, releases and grants of flows that span tiles. -/
def Obligations.FlowLocksMove : Prop :=
  ∀ tt : TileId, let t := tt.val
    let ti (d : Dev) : Tile := d.chip.tile t
    let entry (d : Dev) (f : Flow) (k : Nat) : LockE := kget { flow := f } (ti d).locks k
    (∀ (f : Flow) (k n : Nat), Does (.flowChainAdvance tt f)
      (fun d => (ti d).lockOf f = some k ∧ (entry d f k).holder = none ∧ (ti d).anyTask f (fun x => x.state == .ready || x.state == .placed) = false ∧
        (ti d).chainHead f = some n)
      (fun d => d.on (fun c => ((c.modTile t (fun x => { x with releaseQ := x.releaseQ.filter (fun y => y != f), ord := x.ord + 1 })).modDesc t n
        (fun x => { x with state := .ready, ord := (ti d).ord })).askGrant t f))) ∧
    (∀ (n k : Nat) (x : Desc) (r : List (Nat × Desc)), Does (.lockOverflowDrain tt)
      (fun d => (ti d).fifo = (n, x) :: r ∧ ((ti d).lockOf x.flow = some k ∨ ((ti d).lockOf x.flow = none ∧ (ti d).freeWay x.flow = some k)))
      (fun d => d.on (fun c => c.enterTable t n k x.flow))) ∧
    (∀ (f : Flow) (k : Nat), Does (.flowEntryFree tt f)
      (fun d => (ti d).lockOf f = some k ∧ (entry d f k).holder = none ∧ (ti d).anyTask f (fun x => x.state.live) = false)
      (fun d => d.on (fun c => c.modTile t (fun x => { x with locks := kdel x.locks k, xreq := if (entry d f k).xgrant then x.xreq ++ [(f, false)] else x.xreq })))) ∧
    (∀ (f : Flow) (e : XEntry) (r : List (Flow × Bool)),
      Does (.xlockRequest tt) (fun d => (ti d).xreq = (f, false) :: r ∧ d.chip.hub.xlocks.find? (fun x => x.flow == f) = some e ∧ e.holder = some t)
        (fun d => d.on (fun c => xdrainAll 256 (xgrantNext f ((c.modTile t (fun x => { x with xreq := r })).modHub
          (fun h => { h with xlocks := xput h.xlocks f (some { e with holder := none }) }))))) ∧
      Does (.xlockRequest tt) (fun d => (ti d).xreq = (f, true) :: r ∧ d.chip.hub.xlocks.find? (fun x => x.flow == f) = some e ∧ e.holder ≠ some t ∧
          e.queue.contains t = false)
        (fun d => d.on (fun c => (xgrantNext f (c.modHub (fun h => { h with xlocks := xput h.xlocks f (some { e with queue := e.queue ++ [t] }) }))).modTile t
          (fun x => { x with xreq := r })))) ∧
    (∀ (f : Flow) (k : Nat), Does (.xlockGrant tt)
      (fun d => d.chip.hub.xgrants.find? (fun x => x.1 == t) = some (t, f) ∧ (ti d).lockOf f = some k ∧
        (ti d).anyTask f (fun x => x.state.live && !x.marked) = true)
      (fun d => d.on (fun c => (c.modHub (fun h => { h with xgrants := h.xgrants.erase (t, f) })).modLock t f (fun e => { e with xgrant := true, asked := false })))) ∧
    (∀ f : Flow, Does (.xlockGrant tt)
      (fun d => d.chip.hub.xgrants.find? (fun x => x.1 == t) = some (t, f) ∧ (ti d).lockOf f = none)
      (fun d => d.on (fun c => ((c.modHub (fun h => { h with xgrants := h.xgrants.erase (t, f) })).modLock t f (fun e => { e with asked := false })).modTile t
        (fun x => { x with xreq := x.xreq ++ [(f, false)] })))) ∧
    (∀ (f : Flow) (b : Bool) (r : List (Flow × Bool)), Does (.xlockError tt) (fun d => (ti d).xreq = (f, b) :: r)
      (fun d => d.on (raise (.tile t 4) f.toNat))) ∧
    Does (.xlockReannounce tt) (fun d => d.chip.hub.xreann.contains t = true ∧ (d.chip.hub.xreann.filter (fun x => x != t)).isEmpty = false ∧
        (ti d).locks = [] ∧ (ti d).descs = [])
      (fun d => d.on (fun c => (c.modTile t (fun x => { x with xreq := [] })).modHub (fun h => { h with xreann := h.xreann.filter (fun x => x != t) })))

/-- From R156, R159, R197, R200, R201: the first task in dispatch order that a grove takes is placed there; a member grove is reserved for the first gang and its
context paged in; a gang starts when every member is ready; a page-in that passes its checks makes its slot ready; a placed task starts in its
slot; a suspended task whose reads are complete resumes. -/
def Obligations.TasksArePlacedAndStart : Prop :=
  ∀ g : GroveId, let t := g.t.val; let k := gOf g
    let gr (d : Dev) : Grove := d.chip.grove t k
    (∀ n at_ : Nat, Does (.dispatchDecision g.t)
      (fun d => d.chip.rf .schCtl (.tile t) 0 0 1 = 1 ∧ (d.chip.tile t).readyOrder = [n] ∧ (d.chip.desc t n).gang = none ∧ d.chip.granted t n = true ∧
        d.chip.ctxDefined t (d.chip.desc t n).ctx = true ∧ chooseGrove d t n = some at_)
      (fun d => placeTask t n at_ d)) ∧
    (∀ (n ctx gang : Nat) (pl : List (Nat × Nat)) (alt : Bool), Does (.gangReservation g)
      (fun d => (d.chip.tile t).readyOrder = [n] ∧ (d.chip.desc t n).gang = some gang ∧ d.chip.ctxDefined t (d.chip.desc t n).ctx = true ∧
        gangPlacement d.chip t n = some (pl, alt) ∧ (kget { firebreak := 0, primary := [] } (d.chip.tile t).gangs gang).parked = false ∧
        pl.head?.map (fun p => kget 0 (d.chip.tile t).groveFb p.1) = some (kget 0 (d.chip.tile t).groveFb k) ∧
        pl.find? (fun p => p.1 == k) = some (k, ctx) ∧ khas (d.chip.tile t).rsv k = false ∧ candidate d t k (kget 0 (d.chip.tile t).groveFb k) = true ∧ ((gr d).holds ctx).isSome = true)
      (fun d => d.on (fun c => c.modTile t (fun x => { x with
        rsv := kset (x.rsv.filter (fun p => p.2 != .gang n || pl.any (fun q => q.1 == p.1))) k (.gang n) })))) ∧
    (∀ (n gang : Nat) (pl : List (Nat × Nat)) (alt : Bool), Brings (.gangStart g.t)
      (fun d => (d.chip.tile t).readyOrder = [n] ∧ (d.chip.desc t n).gang = some gang ∧ d.chip.ctxDefined t (d.chip.desc t n).ctx = true ∧
        d.chip.granted t n = true ∧ gangPlacement d.chip t n = some (pl, alt) ∧ d.chip.rf .schCtl (.tile t) 0 0 1 = 1 ∧ (d.chip.tile t).cnpOff = [] ∧
        ∀ p ∈ pl, let x := d.chip.grove t p.1
          kfind? (d.chip.tile t).rsv p.1 = some (.gang n) ∧ x.run = none ∧ (x.holds p.2).isSome = true ∧ x.pagein = none ∧ x.halted = false ∧
            (d.chip.tile t).onGrove p.1 (fun s => s == .resumable) = false)
      (fun _ e => (e.chip.desc t n).state = .running ∧ ∀ p ∈ pl, ((e.chip.grove t p.1).run.map (fun r => r.desc)) = some n)) ∧
    (∀ (p : PageIn) (img : BitVec 4096) (e : Dev), Does (.pageInComplete g false)
      (fun d => (gr d).pagein = some p ∧ pageImage t p d = (img, true, e) ∧ imgNumber img = p.ctx ∧ imgGen img = kget 0 (e.chip.tile t).gens p.ctx ∧
        imgVersion img = 1 ∧ imgFirebreak img = kget 0 (e.chip.tile t).groveFb k)
      (fun _ => (e.on (fun c => c.modGrove t k (fun x => { x with
        slots := kset x.slots p.slot { state := .ready, img := img, recency := x.nextRecency }, pagein := none }))).startPaging t)) ∧
    (∀ (n s : Nat) (x : Desc), Does (.switchCycle g)
      (fun d => (d.chip.tile t).descs.find? (fun y => y.2.state == .placed && y.2.grove == some k && y.2.gang.isNone && !y.2.marked) = some (n, x) ∧
        (gr d).run = none ∧ (gr d).halted = false ∧ (gr d).pagein = none ∧ (gr d).holds x.ctx = some s)
      (fun d => d.on (fun c => (startRun t k n s none c).modDesc t n (fun y => { y with state := .running, slot := s })))) ∧
    (∀ r : Run, Does (.resumption g)
      (fun d => (gr d).susp = [r] ∧ (d.chip.desc t r.desc).state = .resumable ∧ (gr d).run = none ∧ (gr d).halted = false ∧
        d.chip.rf .schCtl (.tile t) 0 0 1 ≠ 0 ∧ pendingSwitch d.chip t k = none ∧ r.fail = none)
      (fun d => d.on (fun c => (wakeGrove t k (c.modGrove t k (fun x => { (x.switchTo r.slot) with
        run := some { r with sq := 0#35, sqNext := none }, susp := x.susp.filter (fun y => y.slot != r.slot), dispCnt := x.dispCnt + 1 }))).modDesc t
          r.desc (fun y => { y with state := .running }))))

/-- From R194, R202, R203, R206, R207: a cancel by descriptor removes a task that is not running, and is refused for one that is; a cancel by flow or by template
marks the tasks that the walk then removes one by one; a task that became ready in this cycle is counted and raised as dropped; during a walk a write waits; the tick period, the histograms and the load of each grove. -/
def Obligations.CancelsAndLoadAccounts : Prop :=
  ∀ (tt : TileId) (m : Master), let t := tt.val
    let ready (d : Dev) : Prop := writable m .schCancel (.tile t) 0 d = true ∧ d.chip.rbit .schCancelLast (.tile t) 0 63 = false
    let dropped (p : Desc → Bool) (c : Chip) : Chip :=
      (((c.tile t).descs.filter (fun y => y.2.state.cancellable && p y.2)).map (fun y => y.1)).foldl (fun c n => dropReady t n c) c
    (∀ n : Fin 4096, let v := mkReg [(62, 2, 0), (0, 12, n.val)]
      Does (.cancelDescriptor m tt n) (fun d => ready d ∧ (d.chip.desc t n.val).state.cancellable = true)
        (fun d => noted m .schCancel (.tile t) 0 v (d.on (fun c => cancelReport t false false 1 (cancelTask t n.val (dropReady t n.val c))))) ∧
      Does (.cancelDescriptor m tt n) (fun d => ready d ∧ (d.chip.desc t n.val).state.cancellable = false)
        (fun d => noted m .schCancel (.tile t) 0 v (d.on (cancelReport t false true 0))) ∧
      Does (.cancelDescriptor m tt n) (fun d => writable m .schCancel (.tile t) 0 d = true ∧ d.chip.rbit .schCancelLast (.tile t) 0 63 = true)
        (fun d => noted m .schCancel (.tile t) 0 v (d.on (fun c => c.modTile t (fun x => { x with cancelQ := x.cancelQ ++ [v] }))))) ∧
    (∀ f : Flow, Does (.cancelFlow m tt f) ready
      (fun d => noted m .schCancel (.tile t) 0 (mkReg [(62, 2, 1), (0, 24, f.toNat)]) (d.on (fun c => cancelReport t true false 0 ((dropped (fun x => x.flow.toNat == f.toNat) c).modTile t (fun x => { x with
        descs := x.descs.map (fun y => if y.2.state.cancellable && y.2.flow.toNat == f.toNat then (y.1, { y.2 with marked := true }) else y) })))))) ∧
    (∀ tpl : BitVec 8, Does (.cancelTemplate m tt tpl) ready
      (fun d => noted m .schCancel (.tile t) 0 (mkReg [(62, 2, 2), (0, 8, tpl.toNat)]) (d.on (fun c => cancelReport t true false 0 ((dropped (fun x => x.post && x.tpl == tpl.toNat) c).modTile t (fun x => { x with
        descs := x.descs.map (fun y => if y.2.state.cancellable && (y.2.post && y.2.tpl == tpl.toNat) then (y.1, { y.2 with marked := true }) else y) })))))) ∧
    (∀ (n : Nat) (x : Desc), Does (.cancelWalk tt) (fun d => (d.chip.tile t).descs.find? (fun y => y.2.marked) = some (n, x))
      (fun d => d.on (fun c => cancelReport t true false (c.rf .schCancelLast (.tile t) 0 0 13 + 1) (cancelTask t n c)))) ∧
    (∀ v : BitVec 64, Does (.schTickWrite m tt v) (fun d => writable m .schTick (.tile t) 0 d = true)
      (fun d => noted m .schTick (.tile t) 0 v
        (if 20 ≤ fld v 0 20 ∧ fld v 0 20 ≤ 1000000 then d.on (fun c => c.setRf .schTick (.tile t) 0 0 20 (fld v 0 20)) else d))) ∧
    (∀ v : BitVec 64, Does (.histogramClear m tt v) (fun d => writable m .schHistCtl (.tile t) 0 d = true)
      (fun d => noted m .schHistCtl (.tile t) 0 v (d.on (histClear t v)))) ∧
    Brings (.loadWindowEnd tt) (fun _ => True)
      (fun d e => (∀ g ∈ allGroves,
          e.chip.rf .schGrove (.tile t) g 16 16 = min 65535 (65536 * (d.chip.grove t g).busyCnt / 2 ^ d.chip.rf .schLoadCtl (.tile t) 0 0 5) ∧
          e.chip.rf .schGrove (.tile t) g 0 16 = min 65535 (d.chip.grove t g).dispCnt ∧ (e.chip.grove t g).busyCnt = 0 ∧ (e.chip.grove t g).dispCnt = 0) ∧
        (e.chip.tile t).loadCycles = 0)

/-! ### Events and registers -/

/-- From R221 to R225: a change of pend that reaches the hub sets its summary bit and joins the firmware queue, or clears the bit; the oldest entry of the
firmware queue is read and removed; the holdoffs of the firmware queue and of a vector expire; a source takes its routes, and is cleared by its own bit. -/
def Obligations.EventsReachTheHub : Prop :=
  (∀ (e : Fin 5120) (f : EvFlight),
    Does (.eventHubArrival e) (fun d => d.chip.evt.flight.find? (fun x => x.num == e.val) = some f ∧ f.num = e.val ∧ f.pend = true ∧
        fld f.route 60 1 = 1 ∧ fld f.route 59 1 = 0 ∧ d.chip.evt.fwq.length < 256)
      (fun d => d.on (fun c =>
        let c1 := ({ c with evt := { c.evt with flight := c.evt.flight.erase f } } : Chip).setRf .evtPendSum .hub (e.val / 64) (e.val % 64) 1 1
        let q := c.evt.fwq ++ [(e.val, f.info)]
        { c1 with evt := { c1.evt with fwq := q, irq := c.evt.irq || decide (c.rf .evtFwqCtl .hub 0 8 8 ≤ q.length) || c.rf .evtFwqCtl .hub 0 16 16 == 0 } })) ∧
    Does (.eventHubArrival e) (fun d => d.chip.evt.flight.find? (fun x => x.num == e.val) = some f ∧ f.num = e.val ∧ f.pend = false)
      (fun d => d.on (fun c => ({ c with evt := { c.evt with flight := c.evt.flight.erase f } } : Chip).setRf .evtPendSum .hub (e.val / 64) (e.val % 64) 1 0))) ∧
  (∀ (n : Nat) (i : BitVec 32) (r : List (Nat × BitVec 32)), let a := Reg.addr .evtFwq .hub 0
    Does (.evtFwqRead .core) (fun d => d.chip.evt.fwq = (n, i) :: r)
      (fun d => d.on (fun c =>
        let v : BitVec 64 := mkReg [(63, 1, 1), (32, 13, n), (0, 32, i.toNat)]
        let w : BitVec 64 := v.extractLsb' 32 32 ++ v.extractLsb' 0 32
        (({ c with evt := { c.evt with fwq := r, fwqLost := false, irq := c.evt.irq && !r.isEmpty } } : Chip).see ⟨2, 4, 0, false, a, v.extractLsb' 0 32, none⟩).answer a 0 w))) ∧
  Does .fwqHoldoffExpiry (fun d => d.chip.evt.fwq ≠ []) (fun d => d.on (fun c => { c with evt := { c.evt with irq := true } })) ∧
  (∀ v : Fin 2048, Does (.vectorHoldoffExpiry v) (fun d => d.chip.rf .evtVec .hub v.val 0 8 ≠ 0 ∧ kget false d.chip.evt.msixEn (vecFn v.val) = true ∧
      (vecFn v.val = 0 ∨ kget false d.chip.evt.vfEn (vecFn v.val) = true) ∧ kget true d.chip.evt.msixMask v.val = false ∧ kget false d.chip.evt.fnMask (vecFn v.val) = false)
    (fun d => d.on (fun c =>
      let c1 := c.setRf .evtVec .hub v.val 0 8 0
      { c1 with evt := { c1.evt with msixSent := c1.evt.msixSent ++ [(v.val, vecFn v.val)] } }))) ∧
  (∀ (m : Master) (k : Fin 5120) (v : BitVec 64), let e := EvSrc.ofNum k.val
    Does (.evtSrcWrite m k v) (fun d => writable m e.reg.1 e.reg.2.1 e.reg.2.2 d = true ∧ fld v 63 1 = 0 ∧ fld v 62 1 = 0)
      (fun d => noted m e.reg.1 e.reg.2.1 e.reg.2.2 v (d.on (fun c => c.setEv e ([(36, 8), (44, 2), (46, 1), (47, 1), (48, 11), (59, 1), (60, 1)].foldl
        (fun x f => setFld x f.1 f.2 (fld v f.1 f.2)) (c.ev e))))) ∧
    Does (.evtSrcWrite m k v) (fun d => writable m e.reg.1 e.reg.2.1 e.reg.2.2 d = true)
      (fun d => noted m e.reg.1 e.reg.2.1 e.reg.2.2 v (d.on (evtSrcWrite e v))))

/-- From R7, R8, R18: a 64-bit write of the management core at the address of a hub register writes that register; a read of a counter answers with its count
and clears the fields that a read clears. -/
def Obligations.RegisterAddressesReachRegisters : Prop :=
  ∀ (r : Reg) (i : Nat) (a : BitVec 48),
    (∀ v : BitVec 64, Does (.registerWrite .core a true v)
      (fun d => a.toNat % 8 = 0 ∧ a.toNat < gdBase ∧ locate d.chip a.toNat = .hubReg a.toNat ∧ regAt a.toNat = some (r, .hub, i))
      (fun d => (regWrite .core r .hub i v d).on (fun c => c.see ⟨2, 4, 0, true, a.toNat, v.extractLsb' 0 32, none⟩))) ∧
    Does (.counterRcRead .core a true)
      (fun d => a.toNat % 8 = 0 ∧ a.toNat < gdBase ∧ locate d.chip a.toNat = .hubReg a.toNat ∧ regAt a.toNat = some (r, .hub, i) ∧ r ≠ .quePop ∧ r ≠ .evtFwq)
      (fun d => d.on (fun c => ((clearRC r .hub i c).see ⟨2, 4, 0, false, a.toNat, (regView c r .hub i).extractLsb' 0 32, none⟩).answer a.toNat 0
        ((regView c r .hub i).extractLsb' 32 32 ++ (regView c r .hub i).extractLsb' 0 32)))

/-! ### Queues -/

/-- From R242, R245, R246, R248, R249, R251, R257: a full tail is spilled as a block, its words checked as they are read; a block lands in the head, its code
checked, and the pops that wait are served; a read of QUE_POP takes the front word, waits for it, or takes the glade word of an empty queue; flush (a further
one waits for the first), close and reopen; a producer that waited too long sets stall.
And: From R259: a write of QUE_CFG sets every field of a disabled queue, and only the fields that may change at any time of an enabled one; enabling a queue
advances the epoch of every stream slot; a reserved mode is not written. -/
def Obligations.QueuesMoveWordsAsConfigured : Prop :=
  (
  ∀ (m : Master) (q : Fin 16384), let s : Site := .tile (q.val / 4096); let l := q.val % 4096; let t := q.val / 4096
    let Q (d : Dev) : Queue := d.chip.queue q.val
    let a := Reg.addr .quePop s l
    let ctl (n : Nat) (d d' : Dev) : Dev := noted m .queCtl s l (fieldValue .queCtl s l [(n, 1, 1)] d) d'
    let popping (d : Dev) : Prop := mayAccess m false a 2 d.chip = true ∧ tileUp t d = true ∧ d.chip.qmode q.val = 3 ∧ (Q d).err = false ∧
      (Q d).popWait = 0 ∧ d.chip.partLive q.val = none
    let seen (c : Chip) : Chip := c.see { kind := 2, die := t, addr := a, who := groveOf m }
    Does (.queueSpill q none) (fun d => 16 ≤ (Q d).countLvl Level.isTail ∧ (d.chip.takeBlock q.val).isSome = true)
      (fun d => (d.spillTail q.val).1) ∧
    (∀ k : Fin 64, Does (.queueSpill q (some k)) (fun _ => True) (fun d => ((d.on (fun c => c.modQueue q.val (fun x => x.strike k.val))).spillTail q.val).1)) ∧
    (∀ (row : Fin 8) (ecc : Ecc), let R (d : Dev) : Dev := (refillCode q.val row.val ecc d).refill q.val
      Does (.queueRefillLand q ⟨row, ecc⟩) (fun d => ((R d).chip.queue q.val).popWait = 0) R ∧
      (∀ (v : BitVec 64) (e : Dev), Does (.queueRefillLand q ⟨row, ecc⟩)
        (fun d => ((R d).chip.queue q.val).popWait ≠ 0 ∧ (R d).chip.partLive q.val = none ∧ (R d).pop q.val = some (v, e) ∧ (e.chip.queue q.val).popWait = 1)
        (fun _ => e.on (fun c => (c.modQueue q.val (fun x => { x with popWait := 0 })).answer a 0 v)))) ∧
    (∀ v : BitVec 64, Does (.quePopRead m q false) (fun d => popping d ∧ (Q d).depth ≠ 0 ∧ (Q d).popPeek = some v)
      (fun d => d.on (fun c => seen ((c.shiftQueue q.val Queue.popFront).answer a 0 v)))) ∧
    Does (.quePopRead m q false) (fun d => popping d ∧ (Q d).depth ≠ 0 ∧ (Q d).popPeek = none)
      (fun d => d.on (fun c => seen (c.modQueue q.val (fun x => { x with popWait := x.popWait + 1 })))) ∧
    Does (.quePopRead m q false) (fun d => popping d ∧ (Q d).depth = 0)
      (fun d => d.on (fun c => seen ((c.bump .queGladeCnt s).answer a 0 (gladeWord (Q d).closed)))) ∧
    Does (.queueFlush m q) (fun d => writable m .queCtl s l d = true) (fun d => ctl 2 d (d.on (queueFlush q.val))) ∧
    (∀ c : Chip, (c.queue q.val).busy = true → queueFlush q.val c = c.modQueue q.val (fun x => { x with flushWait := true })) ∧
    Does (.flushBlockReturn q) (fun d => (Q d).flushWait = false)
      (fun d => d.on (fun c => c.modQueue q.val (fun x => { x with busy := false, freeing := [], flushWait := false }))) ∧
    Does (.flushBlockReturn q) (fun d => (Q d).flushWait = true)
      (fun d => d.on (fun c => flushNow q.val (c.modQueue q.val (fun x => { x with busy := false, freeing := [], flushWait := false })))) ∧
    Does (.queueClose m q) (fun d => writable m .queCtl s l d = true) (fun d => ctl 1 d (d.on (fun c => c.modQueue q.val (fun x => { x with closed := true })))) ∧
    Does (.queueReopen m q) (fun d => writable m .queCtl s l d = true) (fun d => ctl 0 d (d.on (fun c => c.modQueue q.val (fun x => { x with closed := false })))) ∧
    Does (.queueStallLimit q) (fun d => (Q d).waiting ≠ [] ∧ (Q d).stall = false)
      (fun d => d.on (fun c => raise (.tile t 19) q.val (c.modQueue q.val (fun x => { x with stall := true }))))
  ) ∧
  (
  ∀ (m : Master) (q : Fin 16384) (v : BitVec 64), let s : Site := .tile (q.val / 4096); let l := q.val % 4096
    let always : List (Nat × Nat) := [(63, 1), (46, 1), (47, 1), (48, 1), (24, 17)]
    let idle : List (Nat × Nat) := [(61, 2), (53, 8), (51, 2), (50, 1), (49, 1), (0, 24)]
    let merge (fs : List (Nat × Nat)) (d : Dev) : BitVec 64 := fs.foldl (fun r f => setFld r f.1 f.2 (fld v f.1 f.2)) (d.chip.reg .queCfg s l)
    let wr (d : Dev) : Prop := writable m .queCfg s l d = true ∧ fld v 51 2 ≠ 3
    Does (.queCfgWrite m q v) (fun d => wr d ∧ d.chip.qen q.val = true)
      (fun d => noted m .queCfg s l v (d.on (fun c => c.setReg .queCfg s l (merge always d)))) ∧
    Does (.queCfgWrite m q v) (fun d => wr d ∧ d.chip.qen q.val = false ∧ fld v 63 1 = 0)
      (fun d => noted m .queCfg s l v (d.on (fun c => c.setReg .queCfg s l (merge (always ++ idle) d)))) ∧
    Does (.queCfgWrite m q v) (fun d => wr d ∧ d.chip.qen q.val = false ∧ fld v 63 1 = 1)
      (fun d => noted m .queCfg s l v (d.on (fun c => enableEpochs q.val (c.setReg .queCfg s l (merge (always ++ idle) d))))) ∧
    Does (.queCfgWrite m q v) (fun d => writable m .queCfg s l d = true ∧ fld v 51 2 = 3) (fun d => noted m .queCfg s l v d)
  )

/-! ### Memories -/

/-- From R276, R277, R280, R284 to R286: an access through port B of a powered scratchpad row that meets no access of port A, and an access of a powered
tile-memory row: a read answers with the stored words, a write of sound words stores them, FADD and SWAP of sound words answer with the old words and
store the sum or the new ones. A port-B access that met BUSY_B is repeated in the next cycle, and after
sixteen tries goes ahead of port A. Of two requesters of one block of tile memory the one whose turn comes first in the round is served first. A write-back
ends.
And: From R280, R284, R285: what a served access does with the words of a memory: READ leaves them; WRITE stores the words given, or poisons the row if one
has a wrong residue; FADD stores the sum; SWAP stores the words given; both poison the row if a word is poison. -/
def Obligations.MemoryAccessesAreServed : Prop :=
  (
  (∀ (m : Master) (g : GroveId) (o : BitVec 18) (op : MemOp) (wide : Bool) (be : BitVec 8) (lo hi : TWord) (ecc : Ecc), let t := g.t.val; let k := gOf g
    let off := alignTo wide o.toNat
    let p : PortB := { op := op, addr := off, wide := wide, lo := lo, hi := hi, tries := 0, src := nodeOf m, be := be.toNat }
    let d1 (d : Dev) : Dev := (d.on (fun c => c.see { kind := 1, die := t, g := k, wr := op != .read, addr := off, data := TWord.data (if op = .read then d.rd32 (spBase t k + off) else lo) })).on (fun c => c.modGrove t k (fun gr => { gr with portBAt := some gr.cycle }))
    let x (d : Dev) : AccessOut × Dev := spadAccess t k p ecc (d1 d)
    let served (d : Dev) : Prop := (d.chip.grove t k).accA = [] ∧ (d.chip.spPwr t k off).dead = false ∧ d.chip.copying t k = false
    Does (.portBAccess m g o op ⟨wide, be⟩ lo hi ecc)
      (fun d => (d.chip.grove t k).portB = [] ∧ (d.chip.grove t k).portBAt ≠ some (d.chip.grove t k).cycle ∧ served d ∧ (x d).1.st ≠ 1)
      (fun d => if op = .write ∧ (x d).1.st = 0 then (x d).2 else (x d).2.on (fun c => c.answer (spBase t k + off) (x d).1.st (TWord.data (x d).1.hi ++ TWord.data (x d).1.lo))) ∧
    (∀ e : Dev, e.chip.spPwr t k off = .on → spadAccess t k { p with be := 255 } .ok e =
      serveAccess (spBase t k + off) op wide lo hi (fun c => c.bump .spmPoisonCnt (.grove t k)) (fun c => c.bump .spmUeCnt (.grove t k)) e) ∧
    (∀ (p : PortB), Does (.portBRepeat g ecc) (fun d => (d.chip.grove t k).portB = [p])
      (fun d =>
        let e := tickTile t (d.on (fun c => c.modGrove t k (fun gr => { gr with portB := [], bFirst := if 16 ≤ p.tries then some (spBank p.addr) else none })))
        portBDone t k p (portBTry t k p ecc e)))) ∧
  (∀ (m : Master) (tt : TileId) (a : TmbAcc), let t := tt.val
    let off := alignTo a.wide a.off.toNat
    let d1 (d : Dev) : Dev := d.on (fun c => c.modTile t (fun ti => { ti with tmbLast := kset ti.tmbLast (c.tmBlock t off) (tmbCode a.who) }))
    let x (d : Dev) : AccessOut × Dev := serveAccess (tmBase t + off) a.op a.wide a.lo a.hi (if a.who = .network then fun c => c.bump .tmbPoisonCnt (.tile t) else id)
      (fun c => c.bump .tmbUeCnt (.tile t)) (d1 d)
    Does (.tmbAccess m tt a.off a.who a.op a.wide a.lo a.hi ⟨a.ecc, []⟩) (fun d => a.ecc = .ok ∧ d.chip.tmPwr t off = .on)
      (fun d => if a.op = .write then (x d).2 else (x d).2.on (fun c => c.answer (tmBase t + off) (x d).1.st (TWord.data (x d).1.hi ++ TWord.data (x d).1.lo)))) ∧
  (∀ (m : Master) (tt : TileId) (a b : TmbAcc), let t := tt.val
    let last (d : Dev) : Nat := kget 2 (d.chip.tile t).tmbLast (d.chip.tmBlock t (alignTo a.wide a.off.toNat))
    let turn (d : Dev) (y : TmbAcc) : Nat := (tmbCode y.who + 2 - last d % 3) % 3
    Does (.tmbAccess m tt a.off a.who a.op a.wide a.lo a.hi ⟨a.ecc, [b]⟩) (fun d => turn d a < turn d b) (fun d => tmbServe t (nodeOf m) b (tmbServe t (nodeOf m) a d)) ∧
    Does (.tmbAccess m tt a.off a.who a.op a.wide a.lo a.hi ⟨a.ecc, [b]⟩) (fun d => turn d b < turn d a) (fun d => tmbServe t (nodeOf m) a (tmbServe t (nodeOf m) b d))) ∧
  (∀ (t : TileId) (g : GroveId) (b : Fin 8) (j : Fin 64),
    Does (.eccWriteback (.bank g.t.val (gOf g) b.val)) (fun _ => True)
      (fun d => d.on (fun c => c.modGrove g.t.val (gOf g) (fun gr => { gr with spmWb := kdel gr.spmWb b.val }))) ∧
    Does (.eccWriteback (.block t.val j.val)) (fun _ => True)
      (fun d => d.on (fun c => c.modTile t.val (fun ti => { ti with tmbWb := kdel ti.tmbWb j.val }))))
  ) ∧
  (
  ∀ (a : Nat) (wide : Bool) (lo hi : TWord) (pc uc : Chip → Chip) (d : Dev), let b := a - a % (if wide then 8 else 4)
    let bad : Bool := TWord.bad lo || (wide && TWord.bad hi)
    let psn : Bool := TWord.isPoison lo || (wide && TWord.isPoison hi) || TWord.isPoison (d.rdW b wide).1 || (wide && TWord.isPoison (d.rdW b wide).2)
    let sum : TWord × TWord := wsplit wide (wval wide (d.rdW b wide).1 (d.rdW b wide).2 + wval wide lo hi)
    (serveAccess a .read wide lo hi pc uc d = ({ lo := (d.rdW b wide).1, hi := (d.rdW b wide).2 }, d)) ∧
    (bad = false → (serveAccess a .write wide lo hi pc uc d).2 = d.wrW b wide lo hi ∧
      (psn = false → (serveAccess a .fadd wide lo hi pc uc d).2 = d.wrW b wide sum.1 sum.2 ∧ (serveAccess a .swap wide lo hi pc uc d).2 = d.wrW b wide lo hi) ∧
      (psn = true → (serveAccess a .fadd wide lo hi pc uc d).2 = d.poison b ∧ (serveAccess a .swap wide lo hi pc uc d).2 = d.poison b)) ∧
    (bad = true → (serveAccess a .write wide lo hi pc uc d).2 = (d.poison b).on pc ∧ (serveAccess a .fadd wide lo hi pc uc d).1.st = 8 ∧
      (serveAccess a .swap wide lo hi pc uc d).1.st = 8 ∧ (serveAccess a .fadd wide lo hi pc uc d).2.mem = d.mem ∧
      (serveAccess a .swap wide lo hi pc uc d).2.mem = d.mem) ∧
    (∀ x : Nat, x < b - b % 8 ∨ b - b % 8 + 8 ≤ x → (d.wrW b wide lo hi).mem.read x = d.mem.read x)
  )

/-- From R287 to R289, R299, R318: the scrubbers check a row and step on; banks and blocks enter retention, and end a transition with zeroed contents; the
requests for their power states. -/
def Obligations.ScrubbersAndMemoryPower : Prop :=
  (∀ (g : GroveId) (ecc : Ecc), let t := g.t.val; let k := gOf g
    let pos (d : Dev) : Nat := (d.chip.grove t k).spmPos
    let a (d : Dev) : Nat := pos d % 2048 * 64 + pos d / 2048 * 8
    Does (.spmScrubRow g ecc) (fun d => d.chip.rbit .spmScrub (.grove t k) 0 16 = true ∧ pos d < 16383 ∧ d.chip.spPwr t k (a d) = .on ∧
        (d.chip.grove t k).portB = [] ∧ (d.chip.grove t k).portBAt ≠ some (d.chip.grove t k).cycle)
      (fun d => (d.spmEcc t k (a d) ecc 2).on (fun c => c.modGrove t k (fun gr => { gr with spmPos := pos d + 1 })))) ∧
  (∀ (tt : TileId) (ecc : Ecc), let t := tt.val
    let pos (d : Dev) : Nat := (d.chip.tile t).tmbPos
    let a (d : Dev) : Nat := d.chip.tmOffset t (pos d / 65536) (pos d % 65536)
    let nb (d : Dev) : Nat := d.chip.gdCap / 2048
    let gp (d : Dev) : Nat := (d.chip.tile t).gd7Pos
    Does (.tmbScrubRow tt ecc) (fun d => d.chip.rbit .tmbScrub (.tile t) 0 16 = true ∧ pos d < 4194303 ∧ d.chip.tmPwr t (a d) = .on)
      (fun d => (d.tmbEcc t (a d) ecc 3).on (fun c => c.modTile t (fun ti => { ti with tmbPos := pos d + 1 }))) ∧
    Does (.gd7ScrubBlock tt ecc) (fun d => d.chip.rbit .gd7Scrub (.tile t) 0 16 = true ∧ gp d + 1 < 8 * nb d ∧ (d.chip.chan t (gp d / nb d)).state = .ready)
      (fun d => (d.gd7Ecc (gdOffset t (gp d / nb d) (gp d % nb d)) ecc 3).on (fun c => c.modTile t (fun ti => { ti with gd7Pos := gp d + 1 })))) ∧
  (∀ (g : GroveId) (b : Fin 8), let t := g.t.val; let k := gOf g; let u : MemUnit := .bank t k b.val
    Does (.memRetentionEntry u) (fun d => kget .on (d.chip.grove t k).spmPwr b.val = .on ∧ d.chip.rf .spmPwr (.grove t k) 0 (2 * b.val) 2 = 1 ∧
        (d.chip.grove t k).spmWoken.contains b.val = false)
      (fun d => d.on (fun c => c.modGrove t k (fun gr => { gr with spmPwr := kset gr.spmPwr b.val .retention }))) ∧
    Does (.memPowerTransitionDone u) (fun d => kget .on ((spmApply t k d.chip).grove t k).spmPwr b.val = .transition)
      (fun d => (zeroBank t k b.val (d.on (spmApply t k))).on (fun c => c.modGrove t k (fun gr => { gr with spmPwr := kset gr.spmPwr b.val .on })))) ∧
  (∀ (tt : TileId) (j : Fin 64), let t := tt.val; let u : MemUnit := .block t j.val
    Does (.memRetentionEntry u) (fun d => kget .on (d.chip.tile t).tmbPwr j.val = .on ∧ d.chip.rf .tmbPwr (.tile t) (j.val / 32) (2 * (j.val % 32)) 2 = 1 ∧
        (d.chip.tile t).tmbWoken.contains j.val = false)
      (fun d => d.on (fun c => c.modTile t (fun ti => { ti with tmbPwr := kset ti.tmbPwr j.val .retention }))) ∧
    Does (.memPowerTransitionDone u) (fun d => kget .on (d.chip.tile t).tmbPwr j.val = .transition)
      (fun d => (zeroBlock t j.val d).on (fun c => c.modTile t (fun ti => { ti with tmbPwr := kset ti.tmbPwr j.val .on })))) ∧
  (∀ (m : Master) (g : GroveId) (v : BitVec 64), let s : Site := .grove g.t.val (gOf g)
    Does (.spmPwrWrite m g v) (fun d => writable m .spmPwr s 0 d = true) (fun d => noted m .spmPwr s 0 v (d.on (spmPwrWrite g.t.val (gOf g) v)))) ∧
  (∀ (m : Master) (t : TileId) (i : Fin 2) (v : BitVec 64),
    Does (.tmbPwrWrite m t i v) (fun d => writable m .tmbPwr (.tile t.val) i.val d = true)
      (fun d => noted m .tmbPwr (.tile t.val) i.val v (d.on (tmbPwrWrite t.val i.val v))))

/-- From R312, R315 to R317: a channel of GDDR7 completes its bring-up and its retraining as ready or down; a period or a request retrains it; a transfer counts
its retries, and is poisoned after the fifth mismatch; an idle channel enters power-down, and a refresh is counted for
its bank, or for every bank while the channel trains, twice when the device is hot and GD7_CTL asks for it. -/
def Obligations.Gddr7ChannelsRun : Prop :=
  ∀ (tt : TileId) (j : Fin 8), let t := tt.val; let i := j.val
    let st (d : Dev) : ChState := (d.chip.chan t i).state
    (∀ (ok : Bool) (density : Fin 4) (temp : Fin 128), Does (.gd7BringupDone tt j ok density temp) (fun d => st d = .training ∨ st d = .zerofill ∨ st d = .untrained)
      (fun d => d.on (fun c => gd7Level t (c.modChan t i (fun x => { x with state := if ok then .ready else .down, density := density.val, temp := temp.val }))))) ∧
    (∀ (m : Master) (v : BitVec 64), Does (.gd7TrainStart m tt v) (fun d => writable m .gd7TrainCtl (.tile t) 0 d = true)
      (fun d => noted m .gd7TrainCtl (.tile t) 0 v (d.on (fun c => (List.range 8).foldl (fun c n => if fld v n 1 = 1 then gd7Retrain t n c else c)
        ((c.setRf .gd7TrainCtl (.tile t) 0 24 8 (fld v 24 8)).setRf .gd7TrainCtl (.tile t) 0 16 8 (fld v 16 8)))))) ∧
    Does (.gd7RetrainPeriod tt j) (fun d => d.chip.rf .gd7TrainCtl (.tile t) 0 16 8 ≠ 0 ∧ st d = .ready)
      (fun d => d.on (fun c => gd7Level t ((c.modChan t i (fun x => { x with crcInPeriod := 0, state := .retraining })).bump .gd7RetrainCnt (.tile t)))) ∧
    (∀ ok : Bool, Does (.gd7RetrainDone tt j ok) (fun d => st d = .retraining)
      (fun d => d.on (fun c => gd7Level t (c.modChan t i (fun x => { x with state := if ok then .ready else .down, crcInPeriod := 0 }))))) ∧
    (∀ (o : BitVec 40) (crc ode : Nat), let n := (gdChan o.toNat).2; let u := (gdChan o.toNat).1
      let count (d : Dev) : Dev := d.on (fun c => ((c.bump .gd7CrcCnt (.tile u) 0 crc).bump .gd7OdeCnt (.tile u) 0 ode).modChan u n
        (fun x => { x with crcInPeriod := x.crcInPeriod + crc, pdown := false, outst := x.outst - 1 }))
      Does (.gd7TransferDone o crc ode .ok) (fun d => crc < 4 ∧ (count d).chip.rf .gd7TrainCtl (.tile u) 0 24 8 = 0) count ∧
      Does (.gd7TransferDone o crc ode .ok) (fun d => 5 ≤ crc ∧ ((count d).chip.chan u n).state = .ready)
        (fun d => (((count d).poison (gdBase + o.toNat)).on (fun c => raise (.tile u 27) n (c.bump .gd7UeCnt (.tile u)))).on (gd7Retrain u n))) ∧
    Does (.gd7PowerDown tt j) (fun d => d.chip.rbit .gd7Ctl (.tile t) 0 9 = true ∧ st d = .ready)
      (fun d => d.on (fun c => c.modChan t i (fun x => { x with pdown := true }))) ∧
    (∀ (b : Fin 16) (hot : Bool), let n (d : Dev) : Nat := if hot && d.chip.rbit .gd7Ctl (.tile t) 0 8 then 2 else 1
      Does (.gd7Refresh tt ⟨j, b, hot⟩) (fun d => st d ≠ .training ∧ st d ≠ .retraining)
        (fun d => d.on (fun c => c.modChan t i (fun x => { x with refreshed := kmod 0 x.refreshed b.val (fun k => k + n d) }))) ∧
      Does (.gd7Refresh tt ⟨j, b, hot⟩) (fun d => st d = .training ∨ st d = .retraining)
        (fun d => d.on (fun c => c.modChan t i (fun x => { x with refreshed := (List.range 16).foldl (fun m k => kmod 0 m k (fun y => y + n d)) x.refreshed }))))

/-! ### Grove substitution, row spares and aging -/

/-- From R361, R365, R366, R373: a direct substitution of an undrained row that is free of one begins in its first phase and excludes the grove; a shift repair
begins in a maintenance window; a substitution that passed its test goes on to drain, one that is drained to copy, and the copy ends with the map of the
row changed and the repair due in the repair log; an abort in the first two phases, and a failed test, end it. A command while one runs changes nothing.
And: From R357, R367, R374: a spare row is requested and copied, which ends busy and counts the spare used; the map of a drained row is written; each repair is due in
the repair log (its cause is firmware's, a free value: log entry 148); an aging sample
is recorded, and a monitor that reaches the threshold for the first time is marked and raises its event. -/
def Obligations.GroveAndRowSparesSubstitute : Prop :=
  (
  (∀ (m : Master) (tt : TileId) (x y : Fin 12), let t := tt.val; let g := gidx x.val y.val; let n := 12 * t + y.val
    let w (e : Dev) : Dev := noted m .sprSwapCtl .hub 0 (mkReg [(63, 1, 1), (18, 2, 0), (16, 2, t), (8, 4, x.val), (0, 4, y.val)]) e
    let ok (d : Dev) : Prop := writable m .sprSwapCtl .hub 0 d = true
    Does (.swapDirect m tt x y) (fun d => ok d ∧ d.chip.hub.swap = none ∧ d.chip.rf .sprGmap .hub n 4 2 = 0 ∧ d.chip.rf .sprGmap .hub n 0 4 ≠ 15 ∧
        (d.chip.grove t g).usesEdge = false)
      (fun d => w (d.on (fun c => swapPhase 1 ((c.setRf .schGrove (.tile t) g 63 1 1).modHub (fun h =>
        { h with swap := some ⟨1, false, t, x.val, y.val, c.rbit .schGrove (.tile t) g 63⟩ }))))) ∧
    Does (.swapDirect m tt x y) (fun d => ok d ∧ d.chip.hub.swap.isSome = true) w) ∧
  (∀ (m : Master) (tt : TileId) (f : Fin 13) (y : Fin 12), let t := tt.val; let n := 12 * t + y.val
    Does (.swapShift m tt f y) (fun d => writable m .sprSwapCtl .hub 0 d = true ∧ f.val < 12 ∧ d.chip.hub.swap = none ∧
        d.chip.rf .sprGmap .hub n 4 2 = 0 ∧ d.chip.rf .sprGmap .hub n 0 4 ≠ 15 ∧ maintWindow d.chip t y.val = true)
      (fun d => noted m .sprSwapCtl .hub 0 (mkReg [(63, 1, 1), (18, 2, 1), (16, 2, t), (8, 4, f.val), (0, 4, y.val)])
        (d.on (fun c => swapPhase 1 (c.modHub (fun h => { h with swap := some ⟨1, true, t, f.val, y.val, false⟩ })))))) ∧
  (∀ (m : Master) (s : SwapSt),
    Does (.swapAbort m) (fun d => writable m .sprSwapCtl .hub 0 d = true ∧ d.chip.hub.swap = some s ∧ s.phase ≤ 2)
      (fun d => noted m .sprSwapCtl .hub 0 (mkReg [(62, 1, 1)]) (d.on (swapEnd 4))) ∧
    Does (.swapPrepareDone true) (fun d => d.chip.hub.swap = some s ∧ s.phase = 1) (fun d => d.on (swapPhase 2)) ∧
    Does (.swapPrepareDone false) (fun d => d.chip.hub.swap = some s ∧ s.phase = 1)
      (fun d => d.on (fun c => swapEnd 6 (c.setRf .sprGmap .hub (12 * s.tile + s.row) 0 4 15))) ∧
    Does .swapDrainDone (fun d => d.chip.hub.swap = some s ∧ s.phase = 2 ∧ s.shift = false ∧ groveDrained d.chip s.tile (gidx s.col s.row) = true ∧
        (d.chip.grove s.tile (gidx s.col s.row)).halted = false)
      (fun d => d.on (swapPhase 3)) ∧
    Does .swapCopyDone (fun d => d.chip.hub.swap = some s ∧ s.phase = 3 ∧ s.shift = false)
      (fun d => d.on (fun c =>
        let g := gidx s.col s.row
        let n := 12 * s.tile + s.row
        let c := ((moveGrove s.tile g c).setRf .sprGmap .hub n 4 2 1).setRf .sprGmap .hub n 0 4 s.col
        let loc := s.tile * 2 ^ 30 + g * 2 ^ 22 + s.col * 2 ^ 16
        swapEnd 0 (((raise (.hub 35) (s.tile * 256 + g) c).bump .sprSwapCnt .hub).logRepair 2 (Config.repairCause 2 loc) loc))))
  ) ∧
  (
  (∀ (m : Master) (v : BitVec 64), let w := setFld v 63 1 1
    let j : RowJob := ⟨fld v 56 2, fld v 54 2, fld v 46 8, fld v 40 6, fld v 0 16⟩
    Does (.sprRowCtlGo m v) (fun d => writable m .sprRowCtl .hub 0 d = true ∧ d.chip.hub.rowJob = none ∧ rowValid j = true ∧
        kget 0 d.chip.hub.rowUsed (rowUnit j) < rowSpares j.kind)
      (fun d => noted m .sprRowCtl .hub 0 w (d.on (fun c => (c.setReg .sprRowCtl .hub 0
        (setFld (setFld (setFld (w &&& 0x03FFFF000000FFFF#64) 63 1 0) 62 1 1) 58 4 0)).modHub (fun h => { h with rowJob := some j }))))) ∧
  (∀ j : RowJob, Does (.rowSpareCopy .ok) (fun d => d.chip.hub.rowJob = some j ∧ j.kind < 2)
    (fun d => d.on (fun c =>
      let loc := j.tile * 2 ^ 30 + (if j.kind = 0 then j.grove * 2 ^ 22 else 0) + j.part * 2 ^ 16 + j.row
      ((c.setRf .sprRowCtl .hub 0 62 1 0).modHub (fun h =>
        { h with rowJob := none, rowUsed := kmod 0 h.rowUsed (rowUnit j) (fun n => n + 1) })).logRepair (5 + j.kind) (Config.repairCause (5 + j.kind) loc) loc))) ∧
  (∀ (m : Master) (n : Fin 48) (v : BitVec 64), let t := n.val / 12; let y := n.val % 12
    let drained (d : Dev) : Bool := (List.range 12).all (fun x => d.chip.rbit .schGrove (.tile t) (gidx x y) 63 && groveDrained d.chip t (gidx x y))
    Does (.sprGmapWrite m n v) (fun d => writable m .sprGmap .hub n.val d = true ∧ drained d = true)
      (fun d => noted m .sprGmap .hub n.val v (d.on (fun c =>
        let x := fld v 8 4
        let loc := t * 2 ^ 30 + gidx x y * 2 ^ 22 + c.physCol n.val x * 2 ^ 16
        let c := if c.rf .sprGmap .hub n.val 8 4 ≠ x ∧ x < 12 then c.logRepair 4 (Config.repairCause 4 loc) loc else c
        ((c.setRf .sprGmap .hub n.val 8 4 x).setRf .sprGmap .hub n.val 4 2 (fld v 4 2)).setRf .sprGmap .hub n.val 0 4 (fld v 0 4)))) ∧
    Does (.sprGmapWrite m n v) (fun d => writable m .sprGmap .hub n.val d = true ∧ drained d = false) (fun d => noted m .sprGmap .hub n.val v d)) ∧
  (∀ (n : Fin 624) (slow : BitVec 16), let set (c : Chip) : Chip := c.setRf .sprAge .hub n.val 0 16 slow.toNat
    let past (d : Dev) : Prop := (set d.chip).rf .sprAgeThr .hub 0 0 16 ≤ slow.toNat ∧ (set d.chip).rbit .sprAge .hub n.val 63 = false
    Does (.ageSample n slow) (fun d => ¬past d) (fun d => d.on set) ∧
    Does (.ageSample n slow) past (fun d => d.on (fun c => raise (.hub 36) n.val ((set c).setRf .sprAge .hub n.val 63 1 1))))
  )

/-! ### Packets of Puhan-X -/

/-- From R385, R402, R403: a packet of a device with an ID passes with the right CRC for its expected sequence number, on its channel, well formed, from the
source of its virtual link, which is enabled and has its permission, and only its sequence number is noted; a packet with a wrong CRC is counted and
dropped as a violation; a packet of a reserved type is dropped as a violation of its type, and answered as its channel says. -/
def Obligations.PacketsAreChecked : Prop :=
  (∀ (p : Packet) (b : Nat) (c : Chip), c.idValid = true → c.hub.bare = false → p.isLocal = false → c.hub.resync = [] → c.rbit .fabVl .hub p.vl 62 = false →
    let k := p.src * 4 + p.vc
    let exp := if p.seq = 0 then 0 else kget 0 c.hub.rxSeq k
    let crcOk : Bool := packetCrc p.hdr p.payload p.mask exp p.vc c.devId == p.crc
    let noted_ : Chip := c.modHub (fun h => { h with rxSeq := kset h.rxSeq k ((p.seq + 1) % 65536), resync := [] })
    (crcOk = true → typeVc p.type = some p.vc → formatBad p = false → p.src = c.rf .fabVl .hub p.vl 28 12 → c.rbit .fabVl .hub p.vl 63 = true →
      permBit p.type = some b → c.rbit .fabVl .hub p.vl b = true → p.type ≠ 0x1A ∧ p.type ≠ 0x1C ∧ p.type ≠ 0x1D →
      arrive p c = (.accept, noted_)) ∧
    (crcOk = true → typeVc p.type = none → arrive p c = (.drop, answerViol p 6 (violate p 3 noted_))) ∧
    (p.type ≠ 0x1A → crcOk = false → (packetCrc p.hdr p.payload p.mask p.seq p.vc p.dst == p.crc) = false →
      arrive p c = (.drop, violate p 1 (c.bump .fabCrcCnt .hub)))) ∧
  (∀ p : Packet, Does (.reservedTypePacket p) (fun d => typeVc p.type = none ∧ forUs p d.chip = true ∧ inTurn p d.chip = true)
    (fun d => d.on (fun c => (arrive p (takeRx p c)).2)))

/-- From R390 to R396, R607: what the packets do that pass their checks: QWR pushes its words into its item under its balance; NTC and MSG enter the message
queue; QRD answers with the words it pops; QCQ waits for credit, or is answered CLOSED by a closed queue; QCG gives a drain its credit. -/
def Obligations.QueuePacketsAreServed : Prop :=
  ∀ p : Packet, let q := p.f 74 14; let sid := p.tag % 8
    let pr : Producer := .stream p.src q sid
    let here (ty : Nat) (d : Dev) : Prop := comes ty p d ∧ fbRefuse p q (received p d).chip = none ∧ (received p d).chip.hub.held.contains (q / 4096) = false
    let Q (d : Dev) : Queue := (received p d).chip.queue q
    (∀ (i : Nat) (s : StreamSlot) (e : Dev), Does (.puhanQwr p false)
      (fun d => here 0x01 d ∧ (Q d).streams.filter (fun x => x.2.src == p.src && x.2.sid == sid) = [(i, s)] ∧ s.live = true ∧
        p.f 116 4 = (received p d).chip.epochOf q i ∧ p.len ≤ s.bal ∧ p.f 88 1 = 1 ∧ (Q d).closed = false ∧ (received p d).chip.qen q = true ∧
        (Q d).asms.find? (fun a => a.prod == pr && !a.closed) = none ∧ p.len ≤ 16384 ∧
        pushStream q pr (BitVec.ofNat 24 (p.f 92 24)) (p.f 90 2) (p.f 89 1 == 1) p.words true (((received p d).on (fun c => c.modQueue q (fun Q => { Q with
          silent := Q.silent.filter (fun x => x != pr), lost := Q.lost.filter (fun x => x != pr), refusing := Q.refusing.filter (fun x => x != pr) }))).on
            (useBalance q i p.len)) = some e)
      (fun _ => e.on (fun c => c.noteWait q pr false))) ∧
    Does (.puhanNtc p) (fun d => comes 0x03 p d ∧ (received p d).chip.hub.msgQ.length < 64)
      (fun d => (received p d).on (fun c => c.modHub (fun h => { h with msgQ := h.msgQ ++
        [⟨p.src, 256, [BitVec.ofNat 32 (p.f 74 32), BitVec.ofNat 32 (p.f 106 22)], p.port, p.vlink, none⟩] }))) ∧
    Does (.puhanMsg p) (fun d => comes 0x1A p d ∧ (received p d).chip.hub.msgQ.length < 64)
      (fun d => (received p d).on (fun c => c.modHub (fun h => { h with msgQ := h.msgQ ++ [⟨p.src, p.f 74 8, p.payload, p.port, p.vlink, none⟩] }))) ∧
    (∀ (vs : List (BitVec 64)) (e : Dev), Does (.puhanQrd p)
      (fun d => comes 0x0B p d ∧ fbRefuse p q (received p d).chip = none ∧ (received p d).chip.qmode q = 3 ∧
        collect q false (8 * p.src + p.port) p.tag p.len (d.on (await p)) = (true, vs, e))
      (fun _ => e.on (fun c => qrdAnswer p vs (arrive p (takeRx p c)).2))) ∧
    Does (.puhanQcq p) (fun d => here 0x18 d ∧ p.f 88 10 ≠ 0 ∧ (Q d).closed = false ∧ (received p d).chip.qen q = true ∧
        (Q d).streams.find? (fun x => x.2.live && x.2.src == p.src && x.2.sid == sid) = none)
      (fun d => (received p d).on (askCredit q ⟨p.src, sid, p.f 88 10, p.tag, p.port, p.vlink⟩)) ∧
    Does (.puhanQcq p) (fun d => here 0x18 d ∧ p.f 88 10 ≠ 0 ∧ (Q d).closed = true)
      (fun d => (received p d).on (sendQcg ⟨p.src, sid, p.f 88 10, p.tag, p.port, p.vlink⟩ q 0 0 4)) ∧
    (∀ k : Nat, Does (.puhanQcg p) (fun d => comes 0x19 p d ∧
        drainOf (received p d).chip p (fun x => (drainTo (received p d).chip x).2.2.2.1 == q) = some k ∧ p.f 102 4 = 0 ∧
        (kget {} (received p d).chip.hub.drains k).asked = true)
      (fun d => (received p d).on (fun c => c.modDrain k (fun x => { x with bal := min 16368 (x.bal + 16 * p.f 88 10), epoch := p.f 98 4, asked := false }))))

/-- From R380, R383, R395, R398: a request for memory that passes its checks is served, and READ, FADD and SWAP are answered with the words read; a completion
that matches a request ends it, and one that matches none is a violation; a request without a completion ends with TIMEOUT; a packet for another device
is forwarded on its route. -/
def Obligations.RequestPacketsAreServed : Prop :=
  ∀ p : Packet, let a := 4 * p.f 82 46
    (∀ z ∈ [((0x02 : Nat), MemOp.write, Instr.puhanMwr p .ok), (0x08, .read, .puhanMrd p .ok), (0x09, .fadd, .puhanFadd p .ok), (0x0A, .swap, .puhanSwap p .ok)],
      ∀ x : ReqOut × Dev, Does z.2.2
        (fun d => comes z.1 p d ∧ 0x1000000000 ≤ a ∧ (received p d).chip.hub.held = [] ∧ mayReachAll (.link p.vl) (z.2.1 != .read) a p.len (received p d).chip = true ∧
          serveReq (.link p.vl) p.src false { op := z.2.1, a := a, n := p.len, ws := p.words, fbe := p.f 74 4, lbe := p.f 78 4 } .ok (received p d) = x ∧
          x.1.waits = false ∧ x.1.st = 0)
        (fun _ => if z.2.1 = .write then x.2 else x.2.on (answerTo p 0x11 p.len [(74, 4, 0)] x.1.ws))) ∧
    (let back (d : Dev) : Chip := (arrive p (pruneLate (takeRx p d.chip))).2
     let ok (d : Dev) : Prop := (p.type = 0x10 ∨ p.type = 0x11) ∧ forUs p d.chip = true ∧ inTurn p d.chip = true ∧
       (arrive p (pruneLate (takeRx p d.chip))).1 = .accept
     let found (d : Dev) : Option RemReq := (back d).hub.remote.find? (fun x => x.ep == p.src && x.tag == p.tag &&
       !(p.f 74 4 == 11 && (drainOf (back d) p (fun _ => true)).isSome))
     (∀ r : RemReq, Does (.puhanCpl p) (fun d => ok d ∧ found d = some r ∧ r.late = false ∧ r.posted = false ∧ p.f 78 29 = 0 ∧ p.type = 0x11 ∧ p.f 74 4 = 0 ∧
         p.len = r.words)
       (fun d => d.on (fun _ => remoteDone r 0 p.words ((back d).modHub (fun h => { h with remote := h.remote.erase r }))))) ∧
     Does (.puhanCpl p) (fun d => ok d ∧ found d = none ∧ p.type = 0x11) (fun d => d.on (fun _ => violate p 10 (back d)))) ∧
    (∀ (ep tag : Nat) (r : RemReq), Does (.requestTimeout (.remote ep tag))
      (fun d => d.chip.hub.remote.find? (fun x => x.ep == ep && x.tag == tag && !x.late && !x.posted) = some r)
      (fun d => d.on (fun c => remoteDone r 7 [] ((c.modHub (fun h => { h with remote := h.remote.map (fun x =>
        if x = r then { x with late := true, since := h.time.toNat } else x) })).bump .fabTimeoutCnt .hub)))) ∧
    (∀ l : Nat × Nat, Does (.transitForward p) (fun d => forUs p d.chip = false ∧ inTurn p d.chip = true ∧
        ((takeRx p d.chip).hub.bare = false ∨ p.type = 0x1A) ∧ (takeRx p d.chip).rbit .fabVl .hub p.vl 62 = false ∧
        packetCrc p.hdr p.payload p.mask p.seq p.vc p.dst = p.crc ∧ (takeRx p d.chip).route p.dst = some l ∧ (takeRx p d.chip).portDown l.1 = false)
      (fun d => d.on (fun c => ((takeRx p c).bump .fabTransitCnt .hub).modHub (fun x => { x with xtx := kmod [] x.xtx l.1 (fun q => q ++
        [{ p with port := l.1, hdr := (p.hdr &&& ~~~((255#128) <<< 48)) ||| ((BitVec.ofNat 128 l.2) <<< 48) }]) })))) ∧
    (∀ e : Fin 5120, Does (.puhanEvt e) (fun _ => True) (fun d => d.on (hubArrival e.val))) ∧
    (∀ (t : TileId) (f : Flow) (k : Nat), Does (.puhanLck t 1)
      (fun d => d.chip.hub.xgrants.find? (fun x => x.1 == t.val) = some (t.val, f) ∧ (d.chip.tile t.val).lockOf f = some k)
      (fun d => d.on (fun c => (c.modHub (fun h => { h with xgrants := h.xgrants.erase (t.val, f) })).modLock t.val f (fun e => { e with xgrant := true }))))

/-- From R390, R391, R402, R403, R511, R607: credit is granted in blocks up to what the queue can reserve; an idle stream without an open item is reclaimed, and an open
item that is idle is discarded, of a stream as a violation; the count of violations decays, and clearing a quarantine zeroes it; a drain asks for credit, sends the
words of its item under it, and asks again after a refusal. -/
def Obligations.CreditsAndStreamsMove : Prop :=
  ∀ q : Fin 16384, let Q (d : Dev) : Queue := d.chip.queue q.val
    (∀ (r : CreditReq) (rest : List CreditReq) (i : Nat) (s : StreamSlot),
      let n (d : Dev) : Nat := min (min r.blocks (reservable d.chip q.val)) (1023 - (s.bal + 15) / 16)
      Does (.queueCreditGrant q) (fun d => (Q d).creditQ = r :: rest ∧ d.chip.hub.held.contains (q.val / 4096) = false ∧ (Q d).closed = false ∧
          d.chip.qen q.val = true ∧ d.chip.rf .fabVl .hub (256 * r.port + r.vlink) 40 8 = d.chip.queueFb q.val ∧
          (Q d).streams.find? (fun x => x.2.live && x.2.src == r.src && x.2.sid == r.sid) = some (i, s) ∧ n d ≠ 0)
        (fun d => d.on (fun c =>
          let c := ((c.modQueue q.val (fun x => { x with creditQ := rest })).noteWait q.val (.stream r.src q.val r.sid) false).modQueue q.val (fun x => { x with
            streams := kset x.streams i ⟨r.src, r.sid, s.bal + 16 * n d, true⟩, reserved := x.reserved + 16 * n d })
          sendQcg r q.val (n d) (c.epochOf q.val i) 0 c))) ∧
    (∀ (j : Fin 8) (s : StreamSlot), Does (.streamReclaim q j) (fun d => kfind? (Q d).streams j.val = some s ∧ s.live = true ∧
        (Q d).asms.any (fun a => a.prod == .stream s.src q.val s.sid && !a.closed) = false)
      (fun d => d.on (fun c => freeSlot q.val j.val (sendReclaim q.val j.val c)))) ∧
    (∀ (j : Fin 264) (s : StreamSlot) (v : Nat), Does (.assemblyIdleLimit q j) (fun d => j.val < 8 ∧ kfind? (Q d).streams j.val = some s ∧
        (Q d).asms.any (fun a => a.prod == .stream s.src q.val s.sid && !a.closed) = true ∧
        (List.range 2048).find? (fun n => d.chip.rbit .fabVl .hub n 63 && d.chip.rf .fabVl .hub n 28 12 == s.src) = some v)
      (fun d => d.on (fun c => violate { port := v / 256, hdr := mkHdr [(48, 8, v % 256), (20, 12, s.src), (74, 14, q.val), (64, 10, s.sid)] } 9
        (discardOpen q.val s.src s.sid c)))) ∧
    (∀ j : Fin 264, Does (.assemblyIdleLimit q j) (fun d => 8 ≤ j.val ∧ (Q d).asms.any (fun a => a.prod == .host (j.val - 8) && !a.closed) = true)
      (fun d => d.on (dropHostItem (j.val - 8) q.val))) ∧
    (∀ n : Fin 2048, Does (.vcountDecay n) (fun d => d.chip.rf .fabViolLimit .hub 0 16 16 ≠ 0)
      (fun d => d.on (fun c => c.setRf .fabVl .hub n.val 54 8 (c.rf .fabVl .hub n.val 54 8 - 1)))) ∧
    (∀ (m : Master) (n : Fin 2048), let v (d : Dev) : BitVec 64 := fieldValue .fabVl .hub n.val [(62, 1, 1)] d
      Does (.quarantineClear m n) (fun d => writable m .fabVl .hub n.val d = true)
        (fun d => noted m .fabVl .hub n.val (v d) (d.on (fabVlWrite n.val (v d))))) ∧
    (∀ it : Item, let dr (d : Dev) : Drain := kget {} d.chip.hub.drains q.val; let to_ (d : Dev) := drainTo d.chip q.val
      let next (d : Dev) : Prop := d.chip.qmode q.val = 2 ∧ (Q d).err = false ∧ (Q d).items.find? (fun i => !i.gone && !i.waitAck) = some it ∧
        d.chip.linkHeld (to_ d).1 (to_ d).2.1 = false ∧ (dr d).held = false
      Does (.drainSend q) (fun d => next d ∧ (dr d).bal = 0 ∧ (dr d).asked = false)
        (fun d => d.on (fun c => (sendPacket (to_ d).1 (to_ d).2.1 0x18 (to_ d).2.2.2.2 0 (to_ d).2.2.1
          [(74, 14, (to_ d).2.2.2.1), (88, 10, min 1023 ((it.words.length - (dr d).sent + 15) / 16))] [] c).modDrain q.val (fun x => { x with asked := true }))) ∧
      Does (.drainSend q) (fun d => next d ∧ it.words.length = 1 ∧ (dr d).bal ≠ 0 ∧ (dr d).sent = 0)
        (fun d => (d.on (fun c => (sendPacket (to_ d).1 (to_ d).2.1 0x01 (to_ d).2.2.2.2 1 (to_ d).2.2.1
          [(74, 14, (to_ d).2.2.2.1), (88, 1, 1), (89, 1, 1), (90, 2, it.vb), (92, 24, it.flow.toNat), (116, 4, (dr d).epoch)]
          (it.words.map (fun w => d.qword q.val w.checked)) c).modDrain q.val (fun x => { x with used := true, bal := x.bal - 1, sent := 0 }))).on
            (fun c => (c.shiftQueue q.val (fun x => x.readAt it.seq [0])).modQueue q.val (fun x => { x with items := x.items.map (fun i => if i.seq = it.seq then { i with sending := true, waitAck := true } else i) })))) ∧
    Does (.drainCreditRetry q) (fun d => (kget {} d.chip.hub.drains q.val).held = true)
      (fun d => d.on (fun c => c.modDrain q.val (fun x => { x with held := false, asked := false })))

/-! ### Links -/

/-- From R413 to R417, R422, R424, R425: what a link end sends and does with what it receives. An active link sends the NAK it owes, then the flits it
replays, then an idle flit when it has nothing else; a data flit in sequence is accepted with its credits and acknowledgement, and one with a wrong CRC is
counted and answered with one NAK; a NAK replays; a timeout without progress replays, and after the eighth retrains; lanes and ports that fail. -/
def Obligations.LinksMoveFlits : Prop :=
  ∀ k : LinkRef, let n := endOf k
    let e (d : Dev) : LinkEnd := d.chip.link n
    let on (d : Dev) : Prop := (e d).st = .active
    let port : Bool := isPort n
    (∀ f : Flit,
      Does (.dataFlitRx k 0 f) (fun d => on d ∧ flitOk f = true ∧ f.kind = 0 ∧
          f.c 2 12 = (((takeCredits n f (ackUpTo n (f.c 14 12) d.chip)).link n).rxLast + 1) % 4096)
        (fun d => d.on (fun c => receiveUnits n (f.stream.zipIdx.map (fun x => ((if port then 0#3 else f.side.extractLsb' (3 * x.2) 3) ++ x.1 : BitVec 35)))
          ((takeCredits n f (ackUpTo n (f.c 14 12) c)).modLink n (fun x => { x with rxLast := f.c 2 12, nakSent := false })))) ∧
      Does (.dataFlitRx k 0 f) (fun d => on d ∧ flitOk f = false) (fun d => d.on (fun c => nakOnce n (linkBump n .lnkCrcCnt .d2dCrcCnt c))) ∧
      Does (.nakRx k f) (fun d => on d ∧ flitOk f = true ∧ f.kind = 2) (fun d => d.on (fun c => replayAll n (takeCredits n f (ackUpTo n (f.c 14 12) c)))) ∧
      Does (.idleFlitRx k f) (fun d => on d ∧ flitOk f = true ∧ f.kind = 1) (fun d => d.on (fun c => takeCredits n f (ackUpTo n (f.c 14 12) c)))) ∧
    (∀ (s : SentFlit) (r : List SentFlit),
      Does (.flitTransmit k []) (fun d => port = true ∧ on d ∧ (e d).nakDue = true)
        (fun d => d.on (fun c => emitFlit n (mkFlit c n 2 0 []) (c.modLink n (fun x => { x with nakDue := false })))) ∧
      Does (.flitTransmit k []) (fun d => port = true ∧ on d ∧ (e d).nakDue = false ∧ (e d).resend = s :: r)
        (fun d => d.on (fun c => emitFlit n (mkFlit c n 0 s.seq (s.units.map Prod.fst)) (c.modLink n (fun x => { x with resend := r })))) ∧
      Does (.flitTransmit k []) (fun d => port = true ∧ on d ∧ (e d).nakDue = false ∧ (e d).resend = [] ∧ replayCap n ≤ (e d).replay.length)
        (fun d => d.on (fun c => emitFlit n (mkFlit c n 1 0 []) c)) ∧
      Does (.replayTimeout k) (fun d => on d ∧ (e d).replay = s :: r ∧ (e d).replays < 8 ∧ d.chip.hub.time.toNat < s.born + 2000000)
        (fun d => d.on (fun c => linkBump n .lnkReplayCnt .d2dReplayCnt (c.modLink n (fun x => { x with resend := x.replay, replays := x.replays + 1 })))) ∧
      Does (.replayTimeout k) (fun d => on d ∧ (e d).replay = s :: r ∧ 8 ≤ (e d).replays) (fun d => d.on (startRetrain n true))) ∧
    (∀ f : Flit, let w (lo wd : Nat) : Nat := (f.stream.zipIdx.foldl (fun a x => if x.2 < 8 then a + x.1.toNat * 2 ^ (32 * x.2) else a) 0) / 2 ^ lo % 2 ^ wd
      let lane (x : Nat) : Option Nat := if x = 255 then none else some x
      Does (.initRx k f) (fun d => (e d).phys = true ∧ (e d).st = .training ∧ (e d).resume = false ∧ flitOk f = true ∧ f.kind = 3 ∧ w 0 8 = 1 ∧ w 24 8 = 255)
        (fun d => d.on (fun c => tryActivate n (c.modLink n (fun x => { x with
          sawInit := true, peerSeen := x.peerSeen || w 10 1 == 1, peerSpare := w 9 1 == 1, peerRole := some (w 8 1 == 1)
          peerEp := if w 47 1 = 1 then some (w 32 12) else none
          rxFail := if port then lane (w 16 8) else x.rxFail
          hdrC := (List.range 4).map (fun v => (v, w (64 + 8 * v) 8))
          datC := (List.range 4).map (fun v => (v, min 4095 (w (96 + 16 * v) 16)))
          lastH := [], lastD := [] }))))) ∧
    (∀ p : Fin 8, let q : LinkRef := .port p
      Does (.retrainComplete q [] []) (fun d => (d.chip.link p.val).st = .retraining ∧ (d.chip.link p.val).again = false) (fun d => d.on (retrainOk p.val)) ∧
      Does (.lossOfSignal p 1) (fun _ => True) (fun d => d.on id) ∧
      Does (.lossOfSignal p 2) (fun _ => True) (fun d => d.on (portGoesDown p.val)) ∧
      Does (.portTrained q) (fun d => (d.chip.link p.val).st = .training ∧ (d.chip.link p.val).moving = [])
        (fun d => d.on (fun c => (c.modLink p.val (fun x => { x with moving := [] })).modLink p.val (fun x => { x with phys := true })))) ∧
    (∀ (l : Fin 40) (ser : Nat) (m0 m1 : BitVec 16), Does (.laneMarginSample true l.val ser m0 m1)
      (fun d => ser ≤ d.chip.rf .lnkTiming .hub 0 16 16 * 1024 ∧ d.chip.rf .lnkTiming .hub 0 0 16 ≤ m0.toNat)
      (fun d => d.on (fun c => (c.setRf .lnkLane .hub l.val 0 32 (min (2 ^ 32 - 1) ser)).setRf .lnkLane .hub l.val 32 16 m0.toNat)))

/-- From R427, R428, R431, R433: the action bits of LNK_CTL and D2D_CTL retrain a port or a module, take a port down, move a lane to the spare, and start and
stop a port; a write of shot arms one injection. The other fields of the register are written back as they read. -/
def Obligations.LinkRequestsAct : Prop :=
  ∀ (m : Master),
    (∀ p : Fin 8, let k := p.val
      let v (fs : List (Nat × Nat × Nat)) (d : Dev) : BitVec 64 := fieldValue .lnkCtl .hub k fs d
      let keep (fs : List (Nat × Nat × Nat)) (d : Dev) : Chip := lnkEnable k (fld (v fs d) 63 1 == 1)
        (putReg .lnkCtl .hub k (setFld (v fs d) 63 1 (d.chip.rf .lnkCtl .hub k 63 1)) d.chip)
      let ok (d : Dev) : Prop := writable m .lnkCtl .hub k d = true
      let w (fs : List (Nat × Nat × Nat)) (d : Dev) (c : Chip) : Dev := noted m .lnkCtl .hub k (v fs d) (d.on (fun _ => c))
      Does (.lnkRetrainReq m p) (fun d => ok d ∧ ((keep [(62, 1, 1)] d).link k).st = .active) (fun d => w [(62, 1, 1)] d (startRetrain k false (keep [(62, 1, 1)] d))) ∧
      Does (.lnkDownReq m p) ok (fun d => w [(61, 1, 1)] d (portGoesDown k (keep [(61, 1, 1)] d))) ∧
      (∀ (lane : Fin 4) (rx : Bool), let fs : List (Nat × Nat × Nat) := [(60, 1, 1), (57, 3, lane.val), (56, 1, b2n rx)]
        Does (.lnkFailoverReq m p ⟨lane.val, by omega⟩ rx) (fun d => ok d ∧ ((keep fs d).link k).st = .active)
          (fun d => w fs d (startRetrain k false ((keep fs d).modLink k (fun x => { x with moving := [(rx, lane.val)] }))))) ∧
      (∀ en : Bool, let fs : List (Nat × Nat × Nat) := [(63, 1, b2n en)]
        Does (.lnkEnable m p en) ok (fun d => w fs d (lnkEnable k en (putReg .lnkCtl .hub k (setFld (v fs d) 63 1 (d.chip.rf .lnkCtl .hub k 63 1)) d.chip)))) ∧
      (let fs : List (Nat × Nat × Nat) := [(62, 1, 1)]
       Does (.fiShot m (.port p)) (fun d => writable m .lnkFi .hub k d = true)
        (fun d => noted m .lnkFi .hub k (fieldValue .lnkFi .hub k fs d)
          (d.on (fun c => (putReg .lnkFi .hub k (fieldValue .lnkFi .hub k fs d) c).modLink k (fun x => { x with fiShot := true })))))) ∧
    (∀ n : Fin 12, let k := n.val; let a := 16 + 2 * k
      let v (fs : List (Nat × Nat × Nat)) (d : Dev) : BitVec 64 := fieldValue .d2dCtl .hub k fs d
      let keep (fs : List (Nat × Nat × Nat)) (d : Dev) : Chip := putReg .d2dCtl .hub k (v fs d) d.chip
      let ok (d : Dev) : Prop := writable m .d2dCtl .hub k d = true
      let w (fs : List (Nat × Nat × Nat)) (d : Dev) (c : Chip) : Dev := noted m .d2dCtl .hub k (v fs d) (d.on (fun _ => c))
      Does (.d2dRetrainReq m n) (fun d => ok d ∧ (d.chip.link a).st = .active) (fun d => w [(63, 1, 1)] d (startRetrain a false (keep [(63, 1, 1)] d))) ∧
      (∀ (lane : Fin 64) (dir : Bool), let fs : List (Nat × Nat × Nat) := [(62, 1, 1), (55, 7, lane.val), (54, 1, b2n dir)]
        Does (.d2dRepairReq m n ⟨lane.val, by omega⟩ dir) (fun d => ok d ∧ (d.chip.link a).st = .active)
          (fun d => w fs d (startRetrain a false (((keep fs d).modLink a (fun x => { x with moving := [(dir, lane.val)] })).modLink (a + 1)
            (fun x => { x with moving := [(dir, lane.val)] }))))))

/-! ### Start-up of a multi-device system and the time base -/

/-- From R441, R442, R444, R448: discovery and the messages of start-up, on their regular paths. -/
def Obligations.StartUpMessagesAct : Prop :=
  (∀ (m : MsgIn) (c1 : Chip),
    let got (cls : Nat) (d : Dev) : Prop := takeMsg cls d.chip = some (m, c1)
    let to_ (c : Chip) (d : Dev) : Dev := d.on (fun _ => c)
    let id := m.w 0 % 64
    let ep := bitsOf (m.w 0) 16 16
    Does .msgProbe (fun d => got 0x01 d ∧ c1.isRoot = false) (to_ (sendLocal m.port 0x02 (wordsN c1.uid 4 ++ identWords c1 m.port) c1)) ∧
    (∀ s : ScanJob, Does .msgIdent (fun d => got 0x02 d ∧ c1.isRoot = false ∧ bitOf (m.w 4) 30 = false ∧ c1.hub.scan = some s ∧ s.ports.contains m.port = true ∧
        (scanned s m.port (bitsOf (m.w 4) 16 3) false (m.uidAt 0) c1).hub.disc = none)
      (to_ (scanned s m.port (bitsOf (m.w 4) 16 3) false (m.uidAt 0) c1))) ∧
    (∀ (ret ps : List Nat), Does .msgScan (fun d => got 0x03 d ∧ m.ret = some ret ∧ peerPorts c1 true = [] ∧
        (peerPorts c1 false).filter (fun p => p != m.port) = ps ∧ ps ≠ [])
      (to_ (ps.foldl (fun c p => sendProbe p c) (c1.modHub (fun h => { h with scan := some { ret := ret, ports := ps } }))))) ∧
    (∀ (j : Disc) (path : List Nat) (x : DevRec), Does .msgScanRpt (fun d => got 0x04 d ∧ c1.hub.disc = some j ∧ m.ret = some path ∧
        c1.recOf (fun y => y.path == path) = some x ∧ bitOf (m.w 0) 8 = true ∧ bitOf (m.w 0) 31 = false)
      (to_ (silentPort (x.id.getD 0) (m.w 0 % 8) c1))) ∧
    Does .msgAssign (fun d => got 0x05 d ∧ (c1.hub.epoch = 0 ∨ ep = c1.hub.epoch ∨ serialLater 16 ep c1.hub.epoch = true) ∧
        c1.rbit .fabCtl .hub 0 63 = false ∧ c1.isRoot = false)
      (to_ (ack m 0x05 0 ep ((writeEp 0 (some (m.port, 0)) ((c1.setRf .fabCtl .hub 0 32 6 id).setRf .fabCtl .hub 0 40 1 1)).modHub (fun h => { h with
        epoch := ep, rootUid := m.uidAt 1, parentPort := some m.port, deadline := (m.w 5 + 999) / 1000,
        deadlineOn := h.deadlineOn || (!((writeEp 0 (some (m.port, 0)) ((c1.setRf .fabCtl .hub 0 32 6 id).setRf .fabCtl .hub 0 40 1 1)).committed) && !(h.load.any (fun l => l.staged))) })))) ∧
    (∀ x : DevRec, Does .msgAck (fun d => got 0x06 d ∧ m.w 0 % 256 = 9 ∧ bitsOf (m.w 0) 8 4 = 0 ∧ m.ret = none ∧ m.src ≠ 4095 ∧
        c1.recOf (fun y => y.id == some m.src) = some x ∧ x.needsFw = false)
      (to_ (modRec x.uid (fun y => { y with state := 0 }) c1))) ∧
    (let first := m.w 0 % 4096; let n := bitsOf (m.w 0) 16 8
     Does .msgRoutes (fun d => got 0x07 d ∧ n ≠ 0 ∧ n ≤ 60 ∧ first + n ≤ 4096)
      (fun d => d.on (fun _ =>
        let c := (List.range n).foldl (fun c i =>
          let e := bitsOf (m.w (1 + i / 2)) (16 * (i % 2)) 16
          writeEp (first + i) (if bitOf e 15 then some (bitsOf e 8 3, e % 256) else none) c) c1
        ack m 0x07 0 c.hub.epoch c))) ∧
    (let h := m.w 0 % 256; let i := bitsOf (m.w 0) 8 8; let byte (b k : Nat) : Nat := bitsOf (m.w (b + k / 4)) (8 * (k % 4)) 8
     Does .msgRelay (fun d => got 0x08 d ∧ h ≠ 0 ∧ h ≤ 63 ∧ i < h ∧ m.src = 4095 ∧ byte 1 i < 8)
      (to_ (sendLocal (byte 1 i) 0x08 (relayWords h (i + 1) (bitsOf (m.w 0) 16 8) ((List.range 64).map (byte 1))
        ((List.range 64).map (fun k => if k = i then m.port else byte 17 k)) (m.payload.drop 33)) c1))) ∧
    Does .msgCommit (fun d => got 0x09 d ∧ c1.hub.epoch = m.w 0 % 65536 ∧ c1.idValid = true)
      (to_ (ack m 0x09 0 (m.w 0 % 65536) (((peerPorts (c1.setRf .fabCtl .hub 0 63 1 1) false).foldl (fun c p => linkZero p (c.link p).peerEp c)
        (c1.setRf .fabCtl .hub 0 63 1 1)).modHub (fun h => { h with portsUp := 0 })))) ∧
    Does .msgAnnounce (fun d => got 0x0A d ∧ c1.isRoot = false ∧ c1.memberUp = true)
      (to_ (sendTo 0 0x0B (wordOfParts [(0, c1.devId), (8, m.port)] :: m.payload.take 5) c1)) ∧
    Does .msgJoinReq (fun d => got 0x0B d ∧ c1.isRoot = true)
      (to_ (join ⟨m.w 0 % 64, bitsOf (m.w 0) 8 3, bitsOf (m.w 5) 16 3, m.uidAt 1, if bitOf (m.w 5) 30 then some (bitsOf (m.w 5) 24 6) else none, bitOf (m.w 5) 31,
        !(bitOf (m.w 5) 23) && !(bitOf (m.w 5) 22)⟩ c1)) ∧
    Does .msgReport (fun d => got 0x30 d ∧ c1.isRoot = true ∧ c1.hub.disc = none ∧ bitOf (m.w 0) 23 = true ∧
        c1.hub.edges.any (fun e => e.1 == m.src && !(bitOf (m.w 1) e.2.1)) = true)
      (to_ (startScan m.src c1))) ∧
  Brings .discoveryStart (fun d => d.chip.hub.fwRunning = true ∧ d.chip.coreUp = true ∧ d.chip.rbit .pciLinkStat .hub 0 63 = true)
    (fun d e => e.chip.hub.epoch = (if d.chip.hub.epoch = 65535 then 1 else d.chip.hub.epoch + 1) ∧ e.chip.devId = 0 ∧ e.chip.idValid = true ∧
      e.chip.hub.rootUid = d.chip.uid) ∧
  (∀ (s : ScanJob) (p : Nat), Does .scanSilentTimeout (fun d => d.chip.coreUp = true ∧ d.chip.hub.scan = some s ∧ s.ports = [p] ∧
      (scanned s p 0 true 0 d.chip).hub.disc = none)
    (fun d => d.on (scanned s p 0 true 0)))

/-- From R450, R452, R453, R455: chunks of firmware and of a personality arrive in order and are acknowledged; a chunk without acknowledgement goes again; a time
exchange is begun and answered; the time base is stepped at once, or slewed. -/
def Obligations.MembersLoadAndKeepTime : Prop :=
  (∀ (m : MsgIn) (c1 : Chip), let ch := m.chunk; let seq := ch.1 / 4
    let got (cls : Nat) (d : Dev) : Prop := takeMsg cls d.chip = some (m, c1)
    Does .msgFwData (fun d => got 0x10 d ∧ c1.hub.mbxState = 1 ∧ m.w 1 % 256 ≤ 62 ∧ m.w 1 % 256 ≠ 0 ∧ ch.1 = (c1.hub.fwIn.getD []).length ∧ ch.2.2 = false)
      (fun d => d.on (fun _ => ack m 0x10 0 seq (c1.modHub (fun h => { h with fwIn := some (c1.hub.fwIn.getD [] ++ ch.2.1) })))) ∧
    (∀ (l : Load) (e : Dev), Does .msgPersData (fun d => got 0x12 d ∧ m.w 1 % 256 ≤ 62 ∧ m.w 1 % 256 ≠ 0 ∧ c1.hub.load = some l ∧ l.chan = none ∧ l.staged = false ∧
        ch.1 = l.got ∧ ch.2.2 = false ∧ loadData ch.1 (ch.2.1.take (l.length - l.got)) { mem := d.mem, chip := c1 } = (0, e))
      (fun _ => e.on (ack m 0x12 0 seq))) ∧
    Does .msgTime (fun d => got 0x20 d ∧ bitOf (m.w 0) 8 = false)
      (fun d => d.on (fun _ =>
        let s := m.w 0 % 256
        let c := tsCapture .tbsTxTs m.port s (tsCapture .tbsRxTs m.port s (tsArm m.port c1))
        tsArm m.port (sendLocal m.port 0x20 (wordOfParts [(0, s), (8, 1)] :: (wordsN (c.rf .tbsRxTs .hub m.port 0 48) 2 ++ wordsN (c.rf .tbsTxTs .hub m.port 0 48) 2)) c)))) ∧
  (∀ (k o : Nat) (x : Xfer) (r : List Nat), Does .fwDataResend (fun d => d.chip.coreUp = true ∧ d.chip.hub.xfers = [(k, x)] ∧ x.unacked = o :: r ∧ x.failed = false)
    (fun d => d.on (sendChunk k x o))) ∧
  (∀ p : Nat, Does .timeSyncPeriod (fun d => d.chip.hub.parentPort = some p ∧ d.chip.memberUp = true ∧ d.chip.coreUp = true)
    (fun d => d.on (fun c => let s := (c.hub.timeSeq + 1) % 256
      sendLocal p 0x20 (wordOfParts [(0, s)] :: List.replicate 4 0#32) (tsCapture .tbsTxTs p s (tsArm p (c.modHub (fun h => { h with timeSeq := s }))))))) ∧
  (∀ (m : Master) (v : BitVec 64), let o := toInt 32 (fld v 0 32)
    Does (.tbsAdjWrite m v) (fun d => writable m .tbsAdj .hub 0 d = true ∧ fld v 63 1 = 1)
      (fun d => noted m .tbsAdj .hub 0 v (d.on (fun c => c.modHub (fun h => { h with time := h.time + BitVec.ofInt 64 o })))) ∧
    Does (.tbsAdjWrite m v) (fun d => writable m .tbsAdj .hub 0 d = true ∧ fld v 63 1 = 0)
      (fun d => noted m .tbsAdj .hub 0 v (d.on (fun c => c.modHub (fun h => { h with slew := o }))))) ∧
  Does .timeBaseSlewEnd (fun _ => True) (fun d => d.on (fun c => c.modHub (fun h => { h with time := h.time + BitVec.ofInt 64 h.slew, slew := 0 })))

/-! ### Loading, the internal configuration port and the ranger -/

/-- From R468, R470, R474: a load that is not complete in time ends short; without a staged personality at its deadline the device enters the bare state; a tile
with its record of the committed personality is released, its scheduler and ranger are on, and with the last tile the pins are committed.
And: From R478, R480 to R482: the commands of the internal configuration port. REPLACE stores an image that passes its checks and sends the advance of the
context's generation to every tile; READ copies an image to a staging entry; SLOTCHK checks a slot; RESTORE rewrites an image of the same generation;
READ of a context that the requester may not reach is refused with 0x22; a tile that takes an advance does it, and the last one completes the command. -/
def Obligations.LoadsEndAndConfigurationPortServes : Prop :=
  (
  (∀ l : Load, Does .cfgRxTimeout (fun d => d.chip.hub.load = some l ∧ l.staged = false ∧ l.got < l.length) (fun d => d.on (endLoad 0x05 l.got))) ∧
  Does .bootDeadline (fun d => d.chip.hub.deadlineOn = true) (fun d => d.reset enterBare) ∧
  (∀ tt : TileId, let t := tt.val; let s : Site := .tile t
    let free (d : Dev) : Dev := d.on (fun c => (((((c.setRf .schCtl s 0 0 1 1).setRf .rgrCtl s 0 16 1 1).setRf .cfgStatus s 0 61 3 2).setRf .rgrStat s 0 62 2 1).modHub
      (fun h => { h with held := h.held.filter (fun x => x != t) })))
    let ok (d : Dev) : Prop := d.chip.hub.bare = false ∧ d.chip.hub.held.contains t = true ∧ d.chip.committed = true ∧ (kget {} d.chip.hub.tileRecs t).state = 4 ∧
      (kget {} d.chip.hub.tileRecs t).epoch = d.chip.jEpoch
    Does (.tileRelease tt) (fun d => ok d ∧ (free d).chip.hub.held ≠ []) free ∧
    Does (.tileRelease tt) (fun d => ok d ∧ (free d).chip.hub.held = [] ∧ (free d).chip.hub.uioDue = true)
      (fun d => (free d).on (uioCommit ((free d).imageIn (free d).chip.jCur))))
  ) ∧
  (
  ∀ (tt : TileId) (k : IcpCmd) (e : Dev), let t := tt.val
    let n := icpCtx k.cmd
    let img := e.staged t (icpEntry k.cmd)
    Does (.icpReplace tt) (fun d => icpHead t 0 d = some (k, e) ∧ icpAdmit e t k = true ∧ ctxCheck img n = none ∧ replaceCheck e [(n, img)] true = none ∧
        useBits (imgRoute img) = useBits (imgRoute (e.curImage n)))
      (fun _ => (e.putImage (e.chip.store e.chip.jCur + 512 * n) img).on (fun c => (icpStat t k.cmd 2 (imgGen (e.curImage n)) 0 c).modHub (fun h => { h with
        undo := [(n, imgGen (e.curImage n), e.curImage n)]
        advances := h.advances ++ (List.range 4).map (fun u => ⟨u, n, imgGen img, imgFirebreak img, imgEdge img, imgVersion img == 1, (t, k.cmd)⟩) }))) ∧
    Does (.icpRead tt) (fun d => icpHead t 1 d = some (k, e) ∧ icpAdmit e t k = true)
      (fun _ => (e.putBytes (e.chip.stageAddr t (icpEntry k.cmd)) (bytesOf (e.curImage n).toNat 512)).on (icpDone t k.cmd (imgGen (e.curImage n)))) ∧
    Does (.icpRead tt) (fun d => icpHead t 1 d = some (k, e) ∧ icpAdmit e t k = false) (fun _ => e.on (icpError t k.cmd 0x22)) ∧
    Does (.icpSlotchk tt .ok none) (fun d => icpHead t 2 d = some (k, e) ∧ k.master = 256 ∧ n / 256 < 188 ∧ gpop (n / 256) = true)
      (fun _ => (slotCheck t (n / 256) (n % 8) 1 .ok none e).on (icpDone t k.cmd 0)) ∧
    Does (.icpRestore tt) (fun d => icpHead t 3 d = some (k, e) ∧ k.master = 256 ∧ imgGen img = kget 0 (e.chip.tile (n % 4)).gens n)
      (fun _ => (e.putImage (e.chip.store e.chip.jCur + 512 * n) img).on (icpDone t k.cmd (imgGen img))) ∧
    (∀ a : Advance, let next (c : Chip) : Chip := genAdvance t a.ctx a.gen a.firebreak a.edge a.defined (c.modHub (fun h => { h with advances := h.advances.erase a }))
      let here (d : Dev) : Prop := d.chip.hub.held.contains t = false ∧ d.chip.hub.advances.find? (fun x => x.tile == t) = some a
      Does (.generationAdvance tt) (fun d => here d ∧ (next d.chip).hub.advances.any (fun b => b.rep == a.rep) = true) (fun d => d.on next) ∧
      Does (.generationAdvance tt) (fun d => here d ∧ (next d.chip).hub.advances.any (fun b => b.rep == a.rep) = false ∧
          (next d.chip).rf .cfgIcpStat (.tile a.rep.1) (icpEntry a.rep.2) 61 3 = 2)
        (fun d => d.on (fun c => icpDone a.rep.1 a.rep.2 a.gen (next c))))
  )

/-- From R484, R485, R487, R488: the ranger checks a slot and steps on; fetches the image of a slot that is held; rewrites it with the golden image; a copy of its
registers that disagrees is reported, and without two that agree it enters fault; a restart begins its pass again. -/
def Obligations.RangerChecks : Prop :=
  ∀ tt : TileId, let t := tt.val
    let ti (d : Dev) : Tile := d.chip.tile t
    (∀ (ecc : Ecc) (flip : Option (Fin 4096)), Does (.rangerUnit tt ecc flip)
      (fun d => d.chip.rbit .rgrCtl (.tile t) 0 16 = true ∧ d.chip.rf .rgrStat (.tile t) 0 62 2 = 1 ∧ d.chip.hub.held.contains t = false ∧ (ti d).pllOff = false ∧
        (ti d).rgrPos < 1152)
      (fun d => (slotCheck t (allGroves.getD ((ti d).rgrPos / 8) 0) ((ti d).rgrPos % 8) 0 ecc (flip.map (fun x => x.val))
        (d.on (fun c => c.modTile t (fun x => { x with rgrPos := (ti d).rgrPos + 1 })))).on (rgrShow t))) ∧
    (∀ (g s : Nat) (r : List (Nat × Nat)), Does (.rangerHeldFetch tt)
      (fun d => d.chip.hub.held.contains t = false ∧ (ti d).pllOff = false ∧ d.chip.rf .rgrStat (.tile t) 0 62 2 = 1 ∧
        (d.chip.tileGroves t).flatMap (fun g => (List.range 8).filterMap (fun s =>
          let st := ((d.chip.grove t g).slot s).state
          if (st = .held && !((ti d).rgrFetched.contains (g, s)) && !((ti d).rgrTried.contains (g, s))) || (st = .ready && (ti d).rgrHeld.contains (g, s))
            then some (g, s) else none)) = (g, s) :: r)
      (fun d => d.on (fun c => (c.modGrove t g (fun gr => { gr with slots := kmod {} gr.slots s (fun x => { x with state := .held }) })).modTile t (fun x => { x with
        rgrHeld := x.rgrHeld.filter (fun y => y != (g, s)), rgrFetched := x.rgrFetched ++ [(g, s)] })))) ∧
    (∀ (g s : Nat) (r : List (Nat × Nat)), let fetched (d : Dev) : Dev := d.on (fun c => c.modTile t (fun x => { x with rgrFetched := r }))
      let sl (d : Dev) : Slot := ((fetched d).chip.grove t g).slot s
      Does (.rangerRewrite tt) (fun d => d.chip.hub.held.contains t = false ∧ (ti d).rgrFetched = (g, s) :: r ∧
          (sl d).state = .held ∧ ((fetched d).golden t (imgNumber (sl d).img)).2 = false)
        (fun d => (fetched d).on (fun c => (c.modGrove t g (fun gr => { gr with slots := kset gr.slots s { (sl d) with
          state := .ready, img := ((fetched d).golden t (imgNumber (sl d).img)).1, frameValid := false } })).bump .rgrRewriteCnt (.tile t)))) ∧
    (∀ (r : Fin 2) (c : Fin 3),
      Does (.rangerVoteUpset tt r c true) (fun _ => True) (fun d => d.on (raise (.tile t 15) (16 * r.val + c.val))) ∧
      Does (.rangerVoteUpset tt r c false) (fun _ => True) (fun d => d.on (rgrFail t 1))) ∧
    (∀ m : Master, let v (d : Dev) : BitVec 64 := fieldValue .rgrCtl (.tile t) 0 [(63, 1, 1)] d
      Does (.rangerRestart m tt true) (fun d => writable m .rgrCtl (.tile t) 0 d = true ∧ (putReg .rgrCtl (.tile t) 0 (v d) d.chip).rbit .rgrCtl (.tile t) 0 16 = true ∧
          (putReg .rgrCtl (.tile t) 0 (v d) d.chip).rf .rgrStat (.tile t) 0 62 2 = 1)
        (fun d => noted m .rgrCtl (.tile t) 0 (v d) (d.on (fun c => rangerRestart t true (putReg .rgrCtl (.tile t) 0 (v d) c)))) ∧
      Does (.rangerRestart m tt false) (fun d => writable m .rgrCtl (.tile t) 0 d = true ∧
          tileDead (noted m .rgrCtl (.tile t) 0 (v d) (d.on (rgrCtlWrite t (v d)))).chip t = false ∧
          mayAccess m true (Reg.addr .rgrCtl (.tile t) 0) 2 (noted m .rgrCtl (.tile t) 0 (v d) (d.on (rgrCtlWrite t (v d)))).chip = true)
        (fun d => (noted m .rgrCtl (.tile t) 0 (v d) (d.on (rgrCtlWrite t (v d)))).on (rangerRestart t false)))

/-! ### The mailbox -/

/-- From R501 to R507, R512, R514, R520: a doorbell of the host moves the producer or the consumer count within the ring, and faults outside it; a command is
fetched; the oldest answer that may go is written with its header last; a command whose budget is spent is answered with a timeout; clr clears the
counts; a ring's base is set while the channel is disabled, and faults while it is enabled. -/
def Obligations.MailboxRingsTurn : Prop :=
  ∀ (fn : Fin 32) (pg k : Fin 256) (v : BitVec 64), let p := fld v 0 32
    let up (d : Dev) : Prop := d.chip.rbit .pciLinkStat .hub 0 63 = true ∧ pageChan d.chip fn.val pg.val = some k.val
    let room (d : Dev) : Prop := (p + 2 ^ 32 - d.chip.cmdCons k.val) % 2 ^ 32 ≤ 2 ^ d.chip.rf .mbxCmdBase .hub k.val 0 4
    let back (d : Dev) : Prop := (p + 2 ^ 32 - (d.chip.mbx k.val).rspCons) % 2 ^ 32 ≤ (d.chip.rspProd k.val + 2 ^ 32 - (d.chip.mbx k.val).rspCons) % 2 ^ 32
    Does (.mbxCmdDbWrite fn pg v) (fun d => up d ∧ room d) (fun d => d.on (fun c => raise (.hub 0) k.val (c.modMbx k.val (fun m => { m with prod := p })))) ∧
    Does (.mbxCmdDbWrite fn pg v) (fun d => up d ∧ ¬room d) (fun d => d.on (ringFault k.val 1)) ∧
    Does (.mbxRspDbWrite fn pg v) (fun d => up d ∧ back d) (fun d => d.on (fun c => c.modMbx k.val (fun m => { m with rspCons := p }))) ∧
    Does (.mbxRspDbWrite fn pg v) (fun d => up d ∧ ¬back d) (fun d => d.on (ringFault k.val 1)) ∧
    Does (.mbxCtlClr fn pg) up (fun d => d.on (fun c => ((c.setRf .mbxHdr .hub k.val 56 4 0).setReg .mbxStat .hub k.val 0#64).modMbx k.val
      (fun m => { m with prod := 0, rspCons := 0 }))) ∧
    (∀ rsp : Bool, let r : Reg := if rsp then .mbxRspBase else .mbxCmdBase
      Does (.mbxRingBaseWrite fn pg rsp v) (fun d => up d ∧ d.chip.rbit .mbxCtl .hub k.val 63 = true) (fun d => d.on (ringFault k.val 3)) ∧
      Does (.mbxRingBaseWrite fn pg rsp v) (fun d => up d ∧ d.chip.rbit .mbxCtl .hub k.val 63 = false ∧ 4 ≤ fld v 0 4 ∧ fld v 0 4 ≤ 14)
        (fun d => d.on (fun c => (c.setRf r .hub k.val 12 52 (fld v 12 52)).setRf r .hub k.val 0 4 (fld v 0 4)))) ∧
    (∀ pkt : List Byte, let ns := leAt pkt 3 1; let rs := leAt pkt 4 1; let len := leAt pkt 12 4
      let m (d : Dev) : MbxChan := d.chip.mbx k.val
      Does (.commandFetch k pkt .ok) (fun d => d.chip.rbit .mbxCtl .hub k.val 63 = true ∧ d.chip.rf .mbxHdr .hub k.val 56 4 = 0 ∧ (m d).cmds = [] ∧
          d.chip.fnOn (d.chip.chanFn k.val) = true ∧ d.chip.hub.mbxState = 2 ∧ ns ≠ 0 ∧ ns ≤ ((m d).prod + 2 ^ 32 - d.chip.cmdCons k.val) % 2 ^ 32 ∧
          ((m d).prod + 2 ^ 32 - d.chip.cmdCons k.val) % 2 ^ 32 ≠ 0 ∧ (d.chip.rspProd k.val + 2 ^ 32 - (m d).rspCons) % 2 ^ 32 + rs ≤ 2 ^ d.chip.rf .mbxRspBase .hub k.val 0 4 ∧
          leAt pkt 2 1 < 2 ∧ ns = (32 + len + 63) / 64 ∧ len ≤ 4064 ∧ leAt pkt 5 3 = 0 ∧ 1 ≤ rs ∧ rs ≤ 64 ∧ ns ≤ 64 ∧ knownOp (leAt pkt 0 2) = true)
        (fun d => d.on (fun c => (c.setRf .mbxStat .hub k.val 0 32 (c.cmdCons k.val + ns)).modMbx k.val (fun x => { x with cmds := x.cmds ++
          [⟨leAt pkt 0 2, bitOf (leAt pkt 2 1) 0, rs, leAt pkt 8 4, (pkt.drop 16).take 16, (pkt.drop 32).take len, none, false, false⟩] })))) ∧
    (∀ (x : MbxCmd) (r : MbxResp) (rest : List MbxCmd), Brings (.responseWrite k) (fun d => d.chip.rbit .pciLinkStat .hub 0 63 = true ∧ d.chip.hub.mbxState = 2 ∧
        (d.chip.mbx k.val).cmds = x :: rest ∧ x.resp = some r ∧ x.opcode ≠ 0x22 ∧ x.opcode ≠ 0x23)
      (fun d e =>
        let h := d.chip.rspProd k.val
        let b := d.chip.reg .mbxRspBase .hub k.val
        let size := 2 ^ fld b 0 4
        let bs := respBytes x r (h / size % 2 == 0)
        let slot (j : Nat) : Nat × List Byte := (4096 * fld b 12 52 + 64 * ((h + j) % size), (bs.drop (64 * j)).take 64)
        (e.chip.mbx k.val).cmds = rest ∧
          e.chip.hub.hostWr = d.chip.hub.hostWr ++ ((List.range (bs.length / 64 - 1)).map (fun j => slot (j + 1))) ++ [slot 0])) ∧
    (∀ (n : Nat) (m : MbxCmd), Does (.commandTimeout k n) (fun d => (d.chip.mbx k.val).cmds[n]? = some m ∧ m.resp = none ∧ m.cut = false ∧ m.opcode ≠ 0x40)
      (fun d => d.on (fun c => raise (.hub 2) k.val ((decideAt k.val n { status := 0x8009 } c).bump .mbxTimeoutCnt .hub))))

/-- From R510, R511, R532: the commands on the device itself: NOP, IDENTIFY, CHAN_CONFIG of an idle channel, SET_DEADLINE, DEVICE_RESET, and the delivery of
firmware in order. -/
def Obligations.DeviceCommandsAnswer : Prop :=
  ∀ (k : Fin 256) (i : Nat) (m : MbxCmd), let j := k.val
    Does (.mbxNop k) (asks 0x01 j i m) (answered j i 0 [] []) ∧
    Does (.identify k) (asks 0x02 j i m) (fun d => let c := d.chip
      answered j i 0 (bytesOf c.uid 16 ++ bytesOf c.hub.fwVersion 4 ++ bytesOf 0x7A31 2 ++ bytesOf 0x9216 2 ++
        [BitVec.ofNat 8 c.stepping, BitVec.ofNat 8 (if c.idValid then c.devId else 255), BitVec.ofNat 8 c.lifecycle, BitVec.ofNat 8 c.jState] ++
        bytesOf c.jEpoch 4 ++ bytesOf c.rlogSeq 4 ++ List.replicate 28 0#8) [] d) ∧
    (let t := m.p 16 1; let fn := m.p 17 1
     Does (.chanConfig k) (fun d => asks 0x03 j i m d ∧ 8 ≤ t ∧ fn ≤ 31 ∧ d.chip.rbit .mbxCtl .hub t 63 = false ∧ (d.chip.mbx t).cmds = [] ∧
        (fn = 0 ∨ ((List.range 256).filter (fun x => d.chip.chanFn x == fn && x != t)).length < 16))
      (fun d => answered j i 0 [] [] (d.on (fun c => ((c.setRf .mbxHdr .hub t 35 5 fn).setRf .mbxHdr .hub t 34 1 (b2n (fn == 0))).setRf .mbxHdr .hub t 40 8
        (if fn = 0 then 0 else m.p 18 1))))) ∧
    Does (.setDeadline k) (fun d => asks 0x04 j i m d ∧ 1 ≤ m.p 16 2 ∧ m.p 16 2 ≤ 600 ∧ bitOf (m.p 18 1) 0 = false)
      (fun d => answered j i 0 [] [] (d.on (fun c => c.modHub (fun h => { h with deadline := m.p 16 2 })))) ∧
    Does (.setDeadline k) (fun d => asks 0x04 j i m d ∧ m.p 16 2 = 0) (answered j i 0x8003 [] []) ∧
    Does (.deviceReset k) (fun d => asks 0x05 j i m d ∧ m.p 16 1 = 0 ∧ (answered j i 0 [] [] d).chip.hub.mbxState = 2)
      (fun d => (answered j i 0 [] [] d).reset (fun c => hubReset 6 (flushResponses j 64 c))) ∧
    Does (.deviceReset k) (fun d => asks 0x05 j i m d ∧ m.p 16 1 = 1 ∧ (answered j i 0 [] [] d).chip.hub.mbxState = 2)
      (fun d => (answered j i 0 [] [] d).reset (fun c => internalReset 7 (flushResponses j 64 c))) ∧
    Does (.fwBegin k) (fun d => asks 0x10 j i m d ∧ 16384 ≤ m.p 16 4 ∧ m.p 16 4 ≤ 4194304 ∧ m.p 20 1 = 0 ∧ d.chip.hub.fwLoad = none ∧ d.chip.hub.mbxState = 1)
      (fun d => answered j i 0 [] [] (d.on (fun c => c.modHub (fun h => { h with fwLoad := some { chan := j, mode := 0, length := m.p 16 4 } })))) ∧
    (∀ l : FwLoad,
      Does (.fwData k) (fun d => asks 0x11 j i m d ∧ d.chip.hub.fwLoad = some l ∧ l.chan = j ∧ m.p 16 4 = l.got.length ∧ l.got.length + m.data.length ≤ l.length)
        (fun d => answered j i 0 [] [] (d.on (fun c => c.modHub (fun h => { h with fwLoad := some { l with got := l.got ++ m.data } })))) ∧
      (let gone (e : Nat) (d : Dev) : Dev := d.on (fun c => raise (.hub e) 1 (c.modHub (fun h => { h with fwLoad := none })))
       Does (.fwEnd k) (fun d => asks 0x12 j i m d ∧ d.chip.hub.fwLoad = some l ∧ l.chan = j ∧ l.mode = 0 ∧ l.got.length = l.length ∧ d.chip.hub.mbxState = 1 ∧
          d.chip.hub.fwRunning = false ∧ d.chip.hub.signing = none)
        (fun d => if fwVerify d.chip l.got = 0 then
            bootEnd ((answered j i 0 [] (bytesOf 0 4) ((gone 17 d).on (fun c => c.modHub (fun h => { h with fwRam := l.got, fwRunning := true })))).on
              (fun c => fwStart c.hub.fwRam c))
          else answered j i 0x800F [] (bytesOf (fwVerify d.chip l.got) 4) (gone 18 d))))

/-- From R445, R450, R468 to R472, R510: the delivery and commit of a personality over the mailbox, its status, and the plan and topology of the system. -/
def Obligations.PersonalityCommandsAnswer : Prop :=
  ∀ (k : Fin 256) (i : Nat) (m : MbxCmd), let j := k.val
    let ended (r : Nat × Dev) : Dev := if r.1 = 0 then answered j i 0 [] [] r.2
      else answered j i 0x800B [] (BitVec.ofNat 8 r.1 :: (List.replicate 3 0#8 ++ bytesOf r.2.chip.hub.lastOff 4)) r.2
    let own : Prop := persTarget m = none
    Does (.persBegin k) (fun d => asks 0x20 j i m d ∧ d.chip.hub.mbxState = 2 ∧ (m.p 16 1 = 1 ∨ m.p 16 1 = 2) ∧ own)
      (fun d => let r := loadBegin (m.p 16 1) (m.p 20 4) (bitOf (m.p 17 1) 0) (some j) d.chip; ended (r.1, { d with chip := r.2 })) ∧
    (∀ l : Load,
      Does (.persData k) (fun d => asks 0x21 j i m d ∧ d.chip.chanXfer j = none ∧ d.chip.hub.load = some l ∧ l.chan = some j)
        (fun d => ended (loadData (m.p 16 4) m.data d)) ∧
      Does (.persEnd k) (fun d => asks 0x22 j i m d ∧ d.chip.chanXfer j = none ∧ d.chip.hub.load = some l ∧ l.chan = some j ∧ d.chip.hub.signing = none)
        (fun d => let r := loadEnd d
          if r.1 ≠ 0 then ended r else if l.auto then ended (loadCommit r.2) else answered j i 0x0004 [] [] r.2) ∧
      Does (.persCommit k) (fun d => asks 0x23 j i m d ∧ own ∧ d.chip.hub.load = some l ∧ l.chan = some j) (fun d => ended (loadCommit d)) ∧
      Does (.persAbort k) (fun d => asks 0x24 j i m d ∧ own ∧ d.chip.hub.load = some l ∧ l.chan = some j) (fun d => answered j i 0 [] [] (d.on loadAbort))) ∧
    Does (.persStatus k) (fun d => asks 0x25 j i m d ∧ own) (fun d => let c := d.chip
      answered j i 0 ([BitVec.ofNat 8 c.jState, BitVec.ofNat 8 c.hub.lastCode] ++ bytesOf c.jEpoch 2 ++ bytesOf (c.rf .rstCfgJrnl .hub 0 0 32) 4 ++
        bytesOf c.hub.lastOff 4 ++ bytesOf ((c.hub.load.map (fun l => l.got)).getD 0) 4) [] d) ∧
    (∀ pl, Does (.sysPlan k) (fun d => asks 0x30 j i m d ∧ planOf m.data = some pl)
      (fun d => answered j i 0 [] [] (d.on (fun c => c.modHub (fun h => { h with plan := pl }))))) ∧
    Does (.sysTopology k) (asks 0x31 j i m) (fun d => answered j i 0 (topology d.chip) [] d)

/-- From R510, R511: the commands on queues, tasks, events, counters and memory, on valid operands of a channel whose firebreak reaches them; an operand out of
range is answered BAD_PARAM. -/
def Obligations.DataCommandsAnswer : Prop :=
  ∀ (k : Fin 256) (i : Nat) (m : MbxCmd), let j := k.val; let q := m.p 16 2
    let reach (d : Dev) : Prop := q < 16384 ∧ d.chip.fbBlocked j (d.chip.queueFb q) = false
    Does (.queueWrite k) (fun d => asks 0x40 j i m d ∧ 16384 ≤ q) (answered j i 0x8003 [] []) ∧
    (∀ e : Dev, Does (.queueWrite k) (fun d => asks 0x40 j i m d ∧ reach d ∧ m.p 21 1 = 3 ∧ m.data ≠ [] ∧ (d.chip.mbx j).items.contains q = false ∧
        d.chip.hub.held.contains (q / 4096) = false ∧ (d.chip.queue q).closed = false ∧ d.chip.qen q = true ∧
        pushStream q (.host j) (BitVec.ofNat 24 (m.p 18 3)) (m.data.length % 4) true (wordsOfBytes m.data) true
          (d.on (fun c => c.modQueue q (fun Q => { Q with refusing := Q.refusing.filter (fun x => x != .host j) }))) = some e)
      (fun _ => answered j i 0 [] [] (e.on (fun c => (c.noteWait q (.host j) false).modMbx j (fun x => { x with items := x.items.filter (fun y => y != q) }))))) ∧
    Does (.queueRead k) (fun d => asks 0x41 j i m d ∧ reach d ∧ 1 ≤ m.p 18 2 ∧ m.p 18 2 ≤ 960 ∧ d.chip.qmode q = 3 ∧ d.chip.partLive q = none ∧ (d.chip.queue q).depth = 0)
      (fun d => answered j i (if (d.chip.queue q).closed then 3 else 2) [] [] (d.on (fun c => (c.bump .queGladeCnt (qsite q)).modQueue q (fun x => { x with part := x.part })))) ∧
    (let v := m.p 18 1
     Does (.queueCtl k) (fun d => asks 0x42 j i m d ∧ reach d ∧ v = 2)
      (fun d => let e := d.on (fun c => c.qclose q true)
        answered j i 0 [] (bytesOf (min 65535 (e.chip.rf .queCtl (qsite q) (q % 4096) 16 16)) 2) e)) ∧
    Does (.queueStatus k) (fun d => asks 0x43 j i m d ∧ reach d)
      (fun d => answered j i 0 (bytesOf (d.chip.qstatus q).toNat 8 ++ bytesOf (d.chip.qlevel q).toNat 8) [] d) ∧
    (let t := m.p 16 1
     Does (.taskPost k) (fun d => asks 0x44 j i m d ∧ t < 4 ∧
        d.chip.fbBlocked j ((kget ⟨false, 0, 0⟩ (d.chip.tile t).ctxTab (d.chip.rf .schTpl (.tile t) (m.p 17 1) 24 16)).firebreak) = false)
      (fun d => answered j i 0 [] [] (d.on (fun c => c.addPost t { tpl := m.p 17 1, delay := m.p 18 3 }))) ∧
     (let e (d : Dev) : Dev := d.on (schCancel t (mkReg [(62, 2, m.p 24 1), (0, 24, m.p 20 4)]))
      Does (.taskCancel k) (fun d => asks 0x45 j i m d ∧ t < 4 ∧ m.p 24 1 ≤ 2 ∧ d.chip.rbit .schCancelLast (.tile t) 0 63 = false ∧ m.begun = false ∧
          (e d).chip.rbit .schCancelLast (.tile t) 0 63 = false)
        (fun d => answered j i 0 [] (bytesOf ((e d).chip.rf .schCancelLast (.tile t) 0 0 13) 2 ++ bytesOf ((e d).chip.rf .schCancelLast (.tile t) 0 61 2) 1) (e d)))) ∧
    (let a := m.p 16 1; let n := m.p 17 1
     Does (.eventPending k) (fun d => asks 0x50 j i m d ∧ n ≠ 0 ∧ a + n ≤ 80 ∧ d.chip.chanAdmin j = true)
      (fun d => answered j i 0 ((List.range n).flatMap (fun x => bytesOf (d.chip.reg .evtPendSum .hub (a + x)).toNat 8)) [] d)) ∧
    (∀ n : Nat, let v (d : Dev) : BitVec 64 := d.chip.ev (EvSrc.ofNum n)
     Does (.eventClear k) (fun d => asks 0x51 j i m d ∧ m.data.length = 2 ∧ leAt m.data 0 2 = n ∧ n < 5120 ∧ d.chip.chanAdmin j = true)
      (fun d => answered j i 0 (bytesOf (mkReg [(63, 1, fld (v d) 63 1), (62, 1, fld (v d) 62 1), (0, 32, fld (v d) 0 32)]).toNat 8) [] (d.on (clearSource n)))) ∧
    (∀ x : ReqOut × Dev, let a := leAt m.data 0 8
     Does (.counterRead k) (fun d => asks 0x52 j i m d ∧ m.data.length = 8 ∧ a % 8 = 0 ∧ a < 0x1000000000 ∧ 40 ≤ 64 * m.rslots ∧
        serveReq (.host j) 0x810 false { op := .read, a := a, n := 2 } .ok d = x ∧ x.1.waits = false ∧ x.1.st = 0)
      (fun _ => answered j i 0 (x.1.ws.flatMap (fun w => bytesOf (TWord.data w).toNat 4)) [] x.2)) ∧
    (∀ x : ReqOut × Dev, let a := m.p 16 8
     let one (d : Dev) (nb : Nat) : Prop := nb = 4 ∧ a % 4 = 0 ∧ regForm d.chip a 4 = false ∧ x.1.waits = false ∧ x.1.st = 0 ∧
        (∀ dv off, locate d.chip a ≠ .remote dv off)
     Does (.memRead k) (fun d => asks 0x53 j i m d ∧ one d (m.p 24 2) ∧ mayReachAll (.host j) false a 1 d.chip = true ∧ 40 ≤ 64 * m.rslots ∧
        serveReq (.host j) 0x810 false { op := .read, a := a, n := 1 } .ok d = x)
      (fun _ => answered j i 0 (wordsAndMask x.1.ws) [] x.2) ∧
     Does (.memWrite k) (fun d => asks 0x54 j i m d ∧ one d m.data.length ∧ mayReachAll (.host j) true a 1 d.chip = true ∧
        hostWrite j { op := .write, a := a, n := 1, ws := (wordsOfBytes m.data).take 1, fbe := 15, lbe := 15 } d = x)
      (fun _ => answered j i 0 [] [] x.2))

/-- From R511, R527, R534, R536, R539: the repair log is read and stored; a report is signed and read; a record provisions a key or moves the lifecycle, and the
burn that follows ends it; a measurement is extended. -/
def Obligations.SecurityCommandsAnswer : Prop :=
  (∀ (k : Fin 256) (i : Nat) (m : MbxCmd), let j := k.val; let o := m.p 20 4
    let log (d : Dev) : Prop := d.chip.hub.flash = none ∧ m.p 16 1 ≤ 1
    Does (.rlogGet k) (fun d => asks 0x60 j i m d ∧ log d ∧ o < 32768)
      (fun d => answered j i 0 ((List.range (min (min 4064 (32768 - o)) (64 * m.rslots - 32))).map (fun x => d.chip.rlogByte (m.p 16 1) (o + x))) [] d) ∧
    Does (.rlogPut k) (fun d => asks 0x61 j i m d ∧ log d ∧ o + m.data.length ≤ 32768)
      (fun d => answered j i 0 [] [] (d.on (fun c => m.data.zipIdx.foldl (fun c x => c.rlogSet (m.p 16 1) (o + x.2) x.1) c))) ∧
    Does (.attest k) (fun d => asks 0x70 j i m d ∧ m.begun = false ∧ m.p 16 4 < 512 ∧ m.data.length = 32 ∧ d.chip.lcGroup 3 = false ∧ d.chip.lifecycle ≠ 4 ∧
        d.chip.hub.signing = none)
      (fun d => begun j i (d.on (fun c =>
        let c := (c.setRf .secAttCnt .hub 0 0 32 (c.rf .secAttCnt .hub 0 0 32 + 1)).modMbx j (fun x => { x with report := none })
        c.modHub (fun h => { h with idKey := true, signing := some { chan := j, body := reportBody c (m.p 16 4) m.data } })))) ∧
    (∀ r : List Byte, Does (.attestRead k) (fun d => asks 0x71 j i m d ∧ (d.chip.mbx j).report = some r ∧ m.p 16 4 < r.length)
      (answered j i 0 ((r.drop (m.p 16 4)).take 4064) [])) ∧
    (let r := m.data; let rop := leAt r 4 1; let slot := leAt r 5 1; let signer := leAt r 6 1
     let wellFormed : Prop := m.begun = false ∧ r.length = 96 ∧ leAt r 0 4 = 0x55415A54 ∧ leAt r 7 1 = 0 ∧ leAt r 24 8 = 0 ∧ leAt r 72 24 = 0 ∧
       (rop = 1 ∨ leAt r 32 32 = 0) ∧ m.p 16 1 = slot
     let sec (x : Nat) (d : Dev) : Dev := answered j i 0x800F [] [BitVec.ofNat 8 x] d
     let burns (d : Dev) : Dev := begun j i (d.on (fun c => (extendM 5 (sha256 r) (raise (.hub 17) 3 c)).modHub (fun h => { h with
       burn := some { cells := recordCells rop slot ((r.drop 32).take 32), chan := some j } })))
     let judged (f : Dev → Dev) (d : Dev) : Dev := if leAt r 8 16 ≠ d.chip.uid then sec 0x05 d else if recordAllowed d.chip rop slot signer = false then sec 0x04 d else f d
     Does (.keyProvision k) (fun d => asks 0x72 j i m d ∧ wellFormed ∧ rop = 1 ∧ slot < 4 ∧ signer = 0xFF ∧ leAt r 64 8 = 0 ∧ d.chip.hub.burn = none ∧
       d.chip.hub.signing = none) (judged burns) ∧
     (∀ z ∈ [((0x72 : Nat), Instr.keyProvision k), (0x73, .lifecycleSet k)],
       Does z.2 (fun d => asks z.1 j i m d ∧ wellFormed ∧ ((z.1 = 0x72 ∧ (rop = 1 ∨ rop = 2) ∧ slot < 4) ∨ (z.1 = 0x73 ∧ rop = 3)) ∧ signer ≠ 0xFF ∧
           d.chip.hub.burn = none ∧ d.chip.hub.signing = none)
         (judged (fun d => let no (x : Nat) : Dev := sec x (d.on (raise (.hub 18) 3))
           match d.chip.signerKey signer ((List.range 32).map Config.vendorKeyByte), recordSig d (leAt r 64 8) with
           | none, _ => no 0x02
           | some _, none => no 0x06
           | some key, some g => if Config.slhVerify 0 2 key (sha256 (r.take 64)) g = true then burns d else no 0x01))))) ∧
  (∀ (s : Signing) (n : Nat), let rep : List Byte := s.body ++ (List.range 17088).map (fun i => Config.slhSignByte (sha256 s.body) i)
    let stored (c : Chip) : Chip := raise (.hub 17) 5 ((c.modHub (fun h => { h with signing := none })).modMbx s.chan (fun x => { x with report := some rep }))
    Does .signingDone (fun d => d.chip.hub.signing = some s ∧ begunAt (stored d.chip) s.chan 0x70 = some n)
      (fun d => d.on (fun c => decideAt s.chan n { status := 0, result := bytesOf rep.length 4 } (stored c)))) ∧
  (∀ (b : Burn),
    Does (.otpBurnDone true) (fun d => d.chip.hub.burn = some b ∧ b.chan = none)
      (fun d => d.on (fun c => thaw c.wdgFrozen (raise (.hub 17) 4 (burnCells b.cells (c.modHub (fun h => { h with burn := none })))))) ∧
    Does (.otpBurnDone false) (fun d => d.chip.hub.burn = some b ∧ b.chan = none)
      (fun d => d.on (fun c => thaw c.wdgFrozen (raise (.hub 18) 4 (c.modHub (fun h => { h with burn := none })))))) ∧
  (∀ (m : Master) (r : Fin 8), r.val ∈ [2, 3, 4, 6, 7] → Does (.secExtend m r) (fun d => writable m .secExtCtl .hub 0 d = true)
    (fun d => noted m .secExtCtl .hub 0 (mkReg [(63, 1, 1), (0, 3, r.val)]) (d.on (fun c => raise (.hub 17) 6 (extendM r.val
      (c.reg .secExtData .hub 3 ++ c.reg .secExtData .hub 2 ++ c.reg .secExtData .hub 1 ++ c.reg .secExtData .hub 0) c)))))

/-- From R498, R509, R511, R516, R517, R530: a device without delivered firmware and without flash boots to BOOT with its ports on; an FLR of a function without
channels, and a hot reset without VFs; a link that forms at x16; the unmasking of a vector sends what it owes; requests of configuration space set a BAR,
the VFs enabled and the mask of an entry, and any other has no effect. -/
def Obligations.HostLinkAndBoot : Prop :=
  Does .romBoot (fun d => d.chip.hub.fwRunning = false ∧ d.chip.hub.warmHeld = [] ∧ d.chip.hub.mbxState = 0 ∧ d.chip.hub.core.halted = false ∧
      d.chip.hub.afterHub = false ∧ d.chip.hub.flash = none ∧
      (let c := (List.range 8).foldl (fun c p => lnkEnable p true c) (extendM 0 (sha256 (d.chip.otpBytes 0 0x40 ++ d.chip.otpBytes 0x70 0x150)) d.chip)
       c.hub.afterHub = false ∧ c.hub.flash = none))
    (fun d => d.on (fun c => ((List.range 8).foldl (fun c p => lnkEnable p true c)
      (extendM 0 (sha256 (c.otpBytes 0 0x40 ++ c.otpBytes 0x70 0x150)) c)).modHub (fun h => { h with mbxState := 1 }))) ∧
  (∀ fn : Fin 32, Brings (.pciFlr fn) (fun d => 1 ≤ fn.val ∧ (List.range 256).filter (fun k => d.chip.chanFn k == fn.val) = [])
    (fun _ e => kget false e.chip.evt.msixEn fn.val = false ∧ kget false e.chip.evt.fnMask fn.val = false)) ∧
  Does .hotReset (fun d => d.chip.rf .pciLinkStat .hub 0 48 6 = 0) (fun d => d.on (pciFlr 0)) ∧
  (∀ (flit : Bool) (rate : Fin 8), Does (.pciLinkChange true flit rate 16) (fun _ => True)
    (fun d => d.on (fun c => hubLevels (c.setReg .pciLinkStat .hub 0 (mkReg [(63, 1, 1), (62, 1, b2n flit), (59, 3, rate.val), (54, 5, 16),
      (48, 6, c.rf .pciLinkStat .hub 0 48 6)]))))) ∧
  (∀ v : Fin 2048, Does (.msixUnmask v) (fun _ => True)
    (fun d => d.on (fun c => sendPending v.val { c with evt := { c.evt with msixMask := kset c.evt.msixMask v.val false } }))) ∧
  (∀ (i a n v : Nat),
    Does (.configurationRequest (.bar i a)) (fun _ => True) (fun d => d.on (fun c => c.modHub (fun h => { h with bars := kset h.bars i a }))) ∧
    Does (.configurationRequest (.numVf n)) (fun _ => n ≤ 31) (fun d => d.on (fun c =>
      ({ c with evt := { c.evt with vfEn := (List.range n).map (fun i => (i + 1, true)) } } : Chip).setRf .pciLinkStat .hub 0 48 6 n)) ∧
    Does (.configurationRequest (.entryMask v)) (fun _ => True) (fun d => d.on (fun c => { c with evt := { c.evt with msixMask := kset c.evt.msixMask v true } })) ∧
    Does (.configurationRequest (.other v)) (fun _ => True) (fun d => d))

/-! ### Resets, rails, clocks and watchdogs -/

/-- From R545, R546, R551, R553, R555, R556, R561: POR empties memory and names itself the one cause; WARM empties memory and the tiles and keeps the time
base; a brown-out of a main rail is WARM, of VSTBY a POR, and a rail that only leaves its range raises its alert until it is back; RST_CTL resets the
hub, the hub and the tiles, or one tile, and RST_GROVE one grove; a PLL that loses lock sets its bit and has the outcome of its kind, and one that
relocks resets what it clocks. -/
def Obligations.ResetsActAsTheirScopeSays : Prop :=
  Brings .por (fun _ => True) (fun _ e => e.mem = [] ∧ e.chip.tiles = [] ∧ e.chip.groves = [] ∧ e.chip.reg .rstCause .hub = 1#64 ∧ e.chip.hub.time = 0#64 ∧
    e.chip.hub.mbxState = 0 ∧ e.chip.hub.held = [0, 1, 2, 3]) ∧
  (∀ cause : Fin 3, Brings (.warmReset cause) (fun _ => True) (fun d e => e.mem = [] ∧ e.chip.tiles = [] ∧ e.chip.groves = [] ∧
    e.chip.hub.time = d.chip.hub.time ∧ e.chip.hub.warmHeld = d.chip.hub.warmHeld ∧ e.chip.hub.mbxState = 0 ∧ e.chip.hub.held = [0, 1, 2, 3])) ∧
  (∀ r : Fin 8, let low (d : Dev) : Dev := d.on (fun c => hubLevels (c.modHub (fun h => { h with railLow := h.railLow.filter (fun x => x != r.val) ++ [r.val] })))
    let back (c : Chip) : Chip := c.modHub (fun h => { h with railLow := h.railLow.filter (fun x => x != r.val) })
    Does (.railFault r false) (fun _ => True) low ∧
    Does (.railFault r true) (fun _ => r.val = 7) (fun d => por (low d)) ∧
    Does (.railFault r true) (fun _ => r.val < 7)
      (fun d => warm 3 ((low d).on (fun c => c.modHub (fun h => { h with warmHeld := h.warmHeld.filter (fun x => x != 2) ++ [2] })))) ∧
    Does (.railInRange r) (fun d => ∀ x ∈ d.chip.hub.railLow, x = r.val ∨ x = 7)
      (fun d => d.on (fun c => hubLevels ((back c).modHub (fun h => { h with warmHeld := h.warmHeld.filter (fun x => x != 2) })))) ∧
    Does (.railInRange r) (fun d => ∃ x ∈ d.chip.hub.railLow, x ≠ r.val ∧ x < 7) (fun d => d.on (fun c => hubLevels (back c)))) ∧
  Does .xinDetect (fun _ => True)
    (fun d => d.on (fun c => (c.setRf .clkStat .hub 0 63 1 1).modHub (fun h => { h with warmHeld := h.warmHeld.filter (fun x => x != 3) }))) ∧
  (∀ (m : Master) (t : TileId) (g : GroveId), let ok (d : Dev) : Prop := writable m .rstCtl .hub 0 d = true
    Does (.hubReset m) ok (fun d => noted m .rstCtl .hub 0 (mkReg [(63, 1, 1)]) (d.on (hubReset 8))) ∧
    Does (.internalReset m) ok (fun d => noted m .rstCtl .hub 0 (mkReg [(62, 1, 1)]) (d.reset (internalReset 9))) ∧
    Does (.tileReset m t) ok (fun d => noted m .rstCtl .hub 0 (mkReg [(t.val, 1, 1)]) (reapply t.val (d.reset (tileReset t.val)))) ∧
    Does (.rstGrove m g) (fun d => writable m .rstGrove .hub 0 d = true)
      (fun d => noted m .rstGrove .hub 0 (mkReg [(63, 1, 1), (8, 2, g.t.val), (0, 8, gidx g.x.val g.y.val)]) (d.on (groveReset g.t.val (gidx g.x.val g.y.val))))) ∧
  (∀ n : Fin 12, let off (d : Dev) : Prop := d.chip.rbit .clkStat .hub 0 n.val = false
    let lost (c : Chip) : Chip := hubLevels (c.setRf .clkStat .hub 0 n.val 1 1)
    let found (d : Dev) : Dev := d.on (fun c => hubLevels (c.setRf .clkStat .hub 0 n.val 1 0))
    let on_ (d : Dev) : Prop := d.chip.rbit .clkStat .hub 0 n.val = true
    Does (.pllUnlock n) (fun d => off d ∧ n.val < 5) (fun d => d.on lost) ∧
    Does (.pllUnlock n) (fun d => off d ∧ n.val = 5) (fun d => d.on (fun c => hubLevels ((lost c).setRf .pciLinkStat .hub 0 63 1 0))) ∧
    Does (.pllUnlock n) (fun d => off d ∧ n.val = 6) (fun d => d.on (fun c => [0, 1, 2, 3].foldl (fun c p => portGoesDown p c) (lost c))) ∧
    Does (.pllUnlock n) (fun d => off d ∧ n.val = 7) (fun d => d.on (fun c => [4, 5, 6, 7].foldl (fun c p => portGoesDown p c) (lost c))) ∧
    (∀ late : Bool,
      Does (.pllRelock n late) (fun d => on_ d ∧ n.val < 4) (fun d => reapply n.val ((found d).reset (tileReset n.val))) ∧
      Does (.pllRelock n late) (fun d => on_ d ∧ n.val = 4) (fun d => (found d).on (hubReset 10)) ∧
      Does (.pllRelock n late) (fun d => on_ d ∧ 5 ≤ n.val ∧ n.val < 8) found))

/-- From R547 to R552, R561: the voltage target is the lowest step at or above the floor, or the override; three transactions without an answer set the
fault; a tile that is idle and may enter PLL-off does, a wake ends it, and a new multiplier of a tile that works is kept until the tile has stopped;
PWR_WAKE wakes a grove; an idle grove that may goes into retention with its scratchpad.
And: From R557, R558, R562: the key, and nothing else, services a watchdog; a period in range that keeps the ratio of the two is taken with the warning
point; a locked register keeps its values; a watchdog warns once in a period; one that expires resets the hub, or the hub and the tiles; while both are
frozen they neither warn nor expire. -/
def Obligations.PowerStatesAndWatchdogs : Prop :=
  (
  (∀ need : Nat, let a (d : Dev) : BitVec 64 := d.chip.reg .pwrAvs .hub
    let target (w : Nat) (d : Dev) : Dev := d.on (fun c => hubLevels ((c.setReg .pwrAvs .hub 0 (setFld (setFld (c.reg .pwrAvs .hub) 0 16 w) 62 1 0)).modHub
      (fun h => { h with avsMiss := 0 })))
    Does (.avsUpdate true need) (fun d => fld (a d) 63 1 = 1) (fun d => target (fld (a d) 32 16) d) ∧
    Does (.avsUpdate true need) (fun d => fld (a d) 63 1 = 0) (fun d => target (min 800 (max (fld (a d) 16 16) ((need + 4) / 5 * 5))) d) ∧
    Does (.avsUpdate false need) (fun d => d.chip.hub.avsMiss < 2) (fun d => d.on (fun c => c.modHub (fun h => { h with avsMiss := h.avsMiss + 1 }))) ∧
    Does (.avsUpdate false need) (fun d => 2 ≤ d.chip.hub.avsMiss)
      (fun d => d.on (fun c => hubLevels ((c.modHub (fun h => { h with avsMiss := h.avsMiss + 1 })).setRf .pwrAvs .hub 0 62 1 1)))) ∧
  (∀ t : TileId,
    Brings (.tilePllOffEntry t) (fun d => tileIdle d.chip t.val = true ∧ (d.chip.rbit .pwrTile .hub t.val 63 = true ∨ d.chip.rbit .clkTile .hub t.val 63 = true))
      (fun _ e => (e.chip.tile t.val).pllOff = true) ∧
    Brings (.tileWakeDone t) (fun d => (d.chip.tile t.val).pllOff = true ∧ (d.chip.tile t.val).waking = true)
      (fun _ e => (e.chip.tile t.val).pllOff = false ∧ (e.chip.tile t.val).waking = false)) ∧
  (∀ (m : Master) (g : GroveId), let v := mkReg [(63, 1, 1), (8, 2, g.t.val), (0, 8, gidx g.x.val g.y.val)]
    Does (.pwrWake m g.t (some g)) (fun d => writable m .pwrWake .hub 0 d = true)
      (fun d => noted m .pwrWake .hub 0 v (d.on (fun c => wakeGrove g.t.val (gidx g.x.val g.y.val) (tileWake g.t.val c)))) ∧
    Does (.groveRetentionEntry g) (fun d => let gr := d.chip.grove g.t.val (gidx g.x.val g.y.val)
        d.chip.rf .pwrTile .hub g.t.val 8 5 ≠ 0 ∧ gr.run = none ∧ gr.pagein = none ∧ gr.forcedSave = false ∧ gr.halted = false ∧
        (d.chip.tile g.t.val).onGrove (gidx g.x.val g.y.val) (fun s => s == .placed || s == .resumable) = false)
      (fun d => d.on (fun c => (List.range 8).foldl (fun c b => c.modGrove g.t.val (gidx g.x.val g.y.val)
          (fun gr => if kget .on gr.spmPwr b = .on then { gr with spmPwr := kset gr.spmPwr b .retention } else gr))
        (c.modGrove g.t.val (gidx g.x.val g.y.val) (fun gr => { gr with pwr := .retention }))))) ∧
  (∀ (m : Master) (t : TileId) (v : BitVec 64), let ok (d : Dev) : Prop := writable m .clkTile .hub t.val d = true
    let w (d : Dev) : Dev := noted m .clkTile .hub t.val v d
    let kept (c : Chip) : Chip := (c.setRf .clkTile .hub t.val 0 6 (fld v 0 6)).setRf .clkTile .hub t.val 63 1 1
    Does (.clkTileWrite m t v) (fun d => ok d ∧ (fld v 0 6 < 20 ∨ 60 < fld v 0 6)) w ∧
    Does (.clkTileWrite m t v) (fun d => ok d ∧ 20 ≤ fld v 0 6 ∧ fld v 0 6 ≤ 60 ∧ (d.chip.tile t.val).pllOff = false ∧ tileIdle (kept d.chip) t.val = false)
      (fun d => w (d.on kept)) ∧
    Does (.clkTileWrite m t v) (fun d => ok d ∧ 20 ≤ fld v 0 6 ∧ fld v 0 6 ≤ 60 ∧ (d.chip.tile t.val).pllOff = true)
      (fun d => w (d.on (fun c => tileWake t.val (kept c)))))
  ) ∧
  (
  (∀ (m : Master) (v : BitVec 64),
    Does (.wdgFwSvc m v) (fun d => writable m .wdgFwSvc .hub 0 d = true ∧ fld v 0 16 = 0xA5C3) (fun d => noted m .wdgFwSvc .hub 0 v (d.on (fun c =>
      c.modHub (fun h => { h with wdgFw := 3125 * c.rf .wdgFwCtl .hub 0 0 16, wdgWarned := (false, h.wdgWarned.2) })))) ∧
    Does (.wdgFwSvc m v) (fun d => writable m .wdgFwSvc .hub 0 d = true ∧ fld v 0 16 ≠ 0xA5C3) (noted m .wdgFwSvc .hub 0 v) ∧
    Does (.wdgDevSvc m v) (fun d => writable m .wdgDevSvc .hub 0 d = true ∧ fld v 0 16 = 0xA5C3) (fun d => noted m .wdgDevSvc .hub 0 v (d.on (fun c =>
      c.modHub (fun h => { h with wdgDev := 3125000 * c.rf .wdgDevCtl .hub 0 0 16, wdgWarned := (h.wdgWarned.1, false) })))) ∧
    Does (.wdgDevSvc m v) (fun d => writable m .wdgDevSvc .hub 0 d = true ∧ fld v 0 16 ≠ 0xA5C3) (noted m .wdgDevSvc .hub 0 v) ∧
    (let p := fld v 0 16; let w := fld v 32 16
     Does (.wdgCtlWrite m false v) (fun d => writable m .wdgFwCtl .hub 0 d = true ∧ d.chip.rbit .wdgFwCtl .hub 0 63 = false ∧ 100 ≤ p ∧ p ≤ 60000 ∧
        2 * p ≤ 1000 * d.chip.rf .wdgDevCtl .hub 0 0 16 ∧ w < p ∧ fld v 63 1 = 0)
      (fun d => noted m .wdgFwCtl .hub 0 v (d.on (fun c => (c.setRf .wdgFwCtl .hub 0 0 16 p).setRf .wdgFwCtl .hub 0 32 16 w))) ∧
     Does (.wdgCtlWrite m true v) (fun d => writable m .wdgDevCtl .hub 0 d = true ∧ d.chip.rbit .wdgDevCtl .hub 0 63 = false ∧ 2 ≤ p ∧ p ≤ 600 ∧
        2 * d.chip.rf .wdgFwCtl .hub 0 0 16 ≤ 1000 * p ∧ w < 10 * p ∧ fld v 63 1 = 0)
      (fun d => noted m .wdgDevCtl .hub 0 v (d.on (fun c => (c.setRf .wdgDevCtl .hub 0 0 16 p).setRf .wdgDevCtl .hub 0 32 16 w))) ∧
     (∀ dev : Bool, let r : Reg := if dev then .wdgDevCtl else .wdgFwCtl
      Does (.wdgCtlWrite m dev v) (fun d => writable m r .hub 0 d = true ∧ d.chip.rbit r .hub 0 63 = true ∧ fld v 63 1 = 0) (noted m r .hub 0 v)))) ∧
  Does .wdgFwWarn (fun d => d.chip.hub.wdgWarned.1 = false ∧ d.chip.wdgFrozen = false) (fun d => d.on (fun c => raise (.hub 22) 0 (c.modHub (fun h =>
    { h with wdgWarned := (true, h.wdgWarned.2), wdgFw := min h.wdgFw (3125 * c.rf .wdgFwCtl .hub 0 32 16) })))) ∧
  Does .wdgDevWarn (fun d => d.chip.hub.wdgWarned.2 = false ∧ d.chip.wdgFrozen = false) (fun d => d.on (fun c => raise (.hub 23) 0 (c.modHub (fun h =>
    { h with wdgWarned := (h.wdgWarned.1, true), wdgDev := min h.wdgDev (312500 * c.rf .wdgDevCtl .hub 0 32 16) })))) ∧
  Does .wdgFwExpiry (fun d => d.chip.wdgFrozen = false) (fun d => d.on (hubReset 4)) ∧
  Does .wdgDevExpiry (fun d => d.chip.wdgFrozen = false) (fun d => d.reset (internalReset 5)) ∧
  (∀ i ∈ [Instr.wdgFwWarn, .wdgDevWarn, .wdgFwExpiry, .wdgDevExpiry], Does i (fun d => d.chip.wdgFrozen = true) (fun d => d))
  )

/-! ### The lookout port and run control -/

/-- From R563 to R568, R582: with the port up, a frame with a bad head is not answered and loses the port until a line reset; an operation without a meaning
is FORMAT; PRD reads a port register and PWR acts on DBG_CTL; a misaligned address is FORMAT and one the level does not admit PERM; a read starts with
WAIT, a read of another pending address waits, and the frame of the pending read gets its result, which moves the auto address on; a write is
acknowledged and carried out, waits behind one in flight, and with bad data is acknowledged and dropped; a read that completes keeps its result. -/
def Obligations.LookoutFramesAnswer : Prop :=
  ∀ (f : DbgFrame) (ecc : Ecc), let w := f.wide
    let up (d : Dev) : Prop := d.chip.hub.warmHeld = [] ∧ d.chip.hub.dbg.lost = false
    let head (d : Dev) : Prop := up d ∧ f.hok = true
    let size : Nat := if w then 8 else 4
    (∀ i ∈ [Instr.rd f ecc, .rdq f ecc, .wr f ecc, .rdi f ecc, .rdqi f ecc, .wri f ecc, .prd f ecc, .pwr f ecc],
      Does i (fun d => up d ∧ f.hok = false) (fun d => d.on (fun c => dbgOut 7 0#64 (c.modDbg (fun p => { p with perr := true, lost := true })))) ∧
      Does i (fun d => d.chip.hub.warmHeld = [] ∧ d.chip.hub.dbg.lost = true) (fun d => d)) ∧
    Does .lineReset (fun d => d.chip.hub.warmHeld = []) (fun d => d.on (fun c => c.modDbg (fun p => { p with lost := false }))) ∧
    (∀ op ∈ [(0 : BitVec 4), 9, 10, 11, 12, 13, 14, 15], Does (.reservedFrame op f) head (fun d => d.on (dbgFault 4))) ∧
    Does (.prd f ecc) (fun d => head d ∧ w = false) (fun d => d.on (fun c => dbgOut 1 (portReg c (f.operand.toNat % 16)) c)) ∧
    Does (.pwr f ecc) (fun d => head d ∧ w = false ∧ f.dok = true ∧ f.operand.toNat % 16 = 2 ∧ fld f.data 31 1 = 1 ∧ fld f.data 30 1 = 1)
      (fun d => d.on (fun c => dbgClr (dbgAbort (dbgOut 1 0#64 c)))) ∧
    (∀ z ∈ [(Instr.prd f ecc, true), (.pwr f ecc, true)], Does z.1 (fun d => head d ∧ w = z.2) (fun d => d.on (dbgFault 4))) ∧
    (∀ z ∈ [(Instr.rd f ecc, false, 0), (.rdq f ecc, false, 1), (.wr f ecc, false, 2), (.rdi f ecc, true, 0), (.rdqi f ecc, true, 1), (.wri f ecc, true, 2)],
      let incr := z.2.1
      let kind := z.2.2
      let a (d : Dev) : Nat := if incr then d.chip.hub.dbg.auto else f.operand.toNat
      let x (d : Dev) : DbgAcc := { quiet := kind == 1, incr := incr, wide := w, addr := a d }
      let may (d : Dev) : Prop := head d ∧ a d % size = 0 ∧ dbgMay (kind == 1) (kind == 2) (a d) d.chip = true
      Does z.1 (fun d => head d ∧ a d % size ≠ 0) (fun d => d.on (dbgFault 4)) ∧
      Does z.1 (fun d => head d ∧ a d % size = 0 ∧ dbgMay (kind == 1) (kind == 2) (a d) d.chip = false) (fun d => d.on (dbgFault 1)) ∧
      (kind ≠ 2 →
        Does z.1 (fun d => may d ∧ d.chip.hub.dbg.pend = none ∧ f.fast = false ∧ isRemote d.chip (a d) = false)
          (fun d => d.on (fun c => dbgOut 2 0#64 (c.modDbg (fun p => { p with pend := some (x d) })))) ∧
        (∀ y : DbgAcc, Does z.1 (fun d => may d ∧ d.chip.hub.dbg.pend = some y ∧ y ≠ x d) (fun d => d.on (dbgOut 2 0#64))) ∧
        (∀ v : BitVec 64, Does z.1 (fun d => may d ∧ d.chip.hub.dbg.pend = some (x d) ∧ d.chip.hub.dbg.result = some (0, v))
          (fun d => d.on (fun c => dbgOut 1 v (c.modDbg (fun p => { p with pend := none, result := none, auto := a d + size })))))) ∧
      (kind = 2 →
        Does z.1 (fun d => may d ∧ d.chip.hub.dbg.wr.isSome = true) (fun d => d.on (dbgOut 2 0#64)) ∧
        Does z.1 (fun d => may d ∧ d.chip.hub.dbg.wr = none ∧ f.dok = false) (fun d => d.on (fun c => dbgOut 1 0#64 (c.modDbg (fun p => { p with perr := true })))) ∧
        Does z.1 (fun d => may d ∧ d.chip.hub.dbg.wr = none ∧ f.dok = true)
          (fun d => dbgWriteNow ecc (d.on (fun c => dbgOut 1 0#64 (c.modDbg (fun p => { p with wr := some (a d, w, f.data), auto := a d + size }))))))) ∧
    (∀ (x : DbgAcc) (r : (Nat × BitVec 64) × Dev), Does (.debugReadComplete ecc) (fun d => d.chip.hub.dbg.drop = [] ∧ d.chip.hub.dbg.pend = some x ∧
        d.chip.hub.dbg.result = none ∧ d.chip.outstanding (fun w => w == .debug false) = false ∧ isRemote d.chip x.addr = false ∧ dbgServe x ecc d = some r)
      (fun _ => r.2.on (fun c => c.modDbg (fun p => { p with result := some r.1 })))) ∧
    Does .dbgPortAbort (fun d => d.chip.hub.dbg.pend = none) (fun d => d) ∧
    Brings .dbgPortAbort (fun d => d.chip.hub.dbg.pend.isSome = true) (fun _ e => e.chip.hub.dbg.pend = none ∧ e.chip.hub.dbg.result = none) ∧
    Does .dbgPortClr (fun _ => True) (fun d => d.on (fun c => c.modDbg (fun p => { p with perr := false, werr := false, cause := 0, status := 0 })))

/-- From R569 to R574, R584: a halt that is asked for of a grove alone, of a tile or of the management core takes effect at a boundary and raises its event; a
release lets what is halted go on, with a budget of at least 1,024 and the completions held for it; a step runs a halted grove for its count and halts
it again. -/
def Obligations.RunControlHaltsAndReleases : Prop :=
  ∀ (m : Master) (id : GroveId), let t := id.t.val; let g := gidx id.x.val id.y.val; let x : HaltTarget := .grove t g
    let ok (d : Dev) : Prop := writable m .dbgHaltCmd .hub 0 d = true
    let w (v : BitVec 64) (d : Dev) : Dev := noted m .dbgHaltCmd .hub 0 v d
    let halt (v : HaltTarget) : BitVec 64 := haltValue 0 v false 0
    let go (v : HaltTarget) : BitVec 64 := haltValue 1 v false 0
    let moves (c : Chip) : Chip := landHeld t g (wakeGrove t g (c.modGrove t g (fun gr => { gr with
      halted := false, haltReq := false, resumed := gr.run.isSome, run := gr.run.map (fun r => { r with budget := max 1024 r.budget }) })))
    let alone (d : Dev) : Prop := gangMembers d.chip t g = [g]
    Does (.dbgHaltRequest m x) (fun d => ok d ∧ (d.chip.grove t g).halted = false)
      (fun d => w (halt x) (d.on (fun c => c.modGrove t g (fun gr => { gr with haltReq := true })))) ∧
    Does (.dbgHaltRequest m x) (fun d => ok d ∧ (d.chip.grove t g).halted = true) (w (halt x)) ∧
    Does (.dbgHaltRequest m (.tile t)) ok (fun d => w (halt (.tile t)) (d.on (fun c => c.modTile t (fun ti => { ti with haltReq := true })))) ∧
    Does (.dbgHaltRequest m .core) (fun d => ok d ∧ d.chip.hub.core.halted = false)
      (fun d => w (halt .core) (d.on (fun c => c.modHub (fun h => { h with core := { h.core with haltReq := true } })))) ∧
    Does (.haltTakesEffect x) (fun d => (d.chip.grove t g).haltReq = true ∧ (d.chip.grove t g).halted = false ∧ alone d ∧ (d.chip.grove t g).acqWait = none)
      (fun d => d.on (fun c => raise (.hub 24) (t * 256 + g) (c.modGrove t g (fun gr => { gr with halted := true, haltReq := false, step := none })))) ∧
    Does (.haltTakesEffect .core) (fun d => d.chip.hub.core.haltReq = true)
      (fun d => d.on (fun c => raise (.hub 24) 0xFFFF (c.modHub (fun h => { h with core := { h.core with halted := true, haltReq := false, stepLeft := 0 } })))) ∧
    Does (.dbgRelease m x) (fun d => ok d ∧ (d.chip.grove t g).halted = true ∧ alone d) (fun d => w (go x) (d.on moves)) ∧
    Does (.dbgRelease m x) (fun d => ok d ∧ (d.chip.grove t g).halted = false) (w (go x)) ∧
    Does (.dbgRelease m .core) (fun d => ok d ∧ d.chip.hub.core.halted = true)
      (fun d => w (go .core) (d.on (fun c => thaw c.wdgFrozen (c.modHub (fun h => { h with core := { runs := h.core.runs + 1 } }))))) ∧
    (∀ (instr : Bool) (n : BitVec 16), Does (.dbgStep m x instr n) (fun d => ok d ∧ n ≠ 0#16 ∧ (d.chip.grove t g).halted = true ∧ alone d)
      (fun d => w (haltValue 2 x instr n.toNat) (d.on (fun c => (moves c).modGrove t g (fun gr => { gr with step := some (instr, n.toNat), resumed := false }))))) ∧
    Does (.stepCountDone x) (fun d => (d.chip.grove t g).step = some (true, 0)) (fun d => d.on (haltSoon t g)) ∧
    (∀ n : Nat, Does (.stepCountDone x) (fun d => (d.chip.grove t g).step = some (false, n))
      (fun d => settleGrove t g (fun gr => !gr.halted) n d)) ∧
    Does (.stepCountDone .core) (fun d => 0 < d.chip.hub.core.stepLeft) (fun d => d.on haltCore)

/-! ### User pins and the time base -/

/-- From R590, R592 to R600: while the hub clock runs, a write of UIO_OUT or UIO_OE takes the 48 pins, SET and CLR act on the pins named; a trigger output
takes a time and arm, and one whose time is past starts late; its pulse, a time-base pulse, and the end of a pulse; while the hub clock stands, none of
them changes anything.
And: From R441, R588, R589, R593, R596, R598: an edge at a pad reaches its level; a selected edge of a trigger input is captured while its register is not valid
and raises its event; a selected PPS edge records its error and ends holdover; an edge that is not selected only moves the level; holdover begins; a
calibration is counted; the end of a slew leaves the time base with the whole of it. -/
def Obligations.PinsDriveAndCapture : Prop :=
  (
  (∀ (m : Master) (v : BitVec 64), let run (d : Dev) : Prop := d.chip.hubClocked = true
    let put (r : Reg) (x : Chip → Nat) (d : Dev) : Dev := d.on (fun c => c.setRf r .hub 0 0 48 (x c))
    (∀ z ∈ [(Instr.uioOutWrite m v, Reg.uioOut, Reg.uioOut, fun (_ : Chip) => fld v 0 48), (.uioOeWrite m v, .uioOe, .uioOe, fun _ => fld v 0 48),
        (.uioOutSet m v, .uioOutSet, .uioOut, fun c => fld (c.reg .uioOut .hub 0 ||| v) 0 48),
        (.uioOutClr m v, .uioOutClr, .uioOut, fun c => fld (c.reg .uioOut .hub 0 &&& ~~~v) 0 48)],
      Does z.1 (fun d => writable m z.2.1 .hub 0 d = true ∧ run d) (fun d => noted m z.2.1 .hub 0 v (put z.2.2.1 z.2.2.2 d)) ∧
      Does z.1 (fun d => writable m z.2.1 .hub 0 d = true ∧ ¬run d) (noted m z.2.1 .hub 0 v)) ∧
    (∀ k : Fin 8, let past (d : Dev) : Prop := fld v 63 1 = 1 ∧ serialLater 48 (d.chip.hub.time.toNat % 2 ^ 48) (fld v 0 48) = true
      let take (c : Chip) : Chip := (c.setRf .uioTrigAt .hub k.val 63 1 (fld v 63 1)).setRf .uioTrigAt .hub k.val 0 48 (fld v 0 48)
      let ok (d : Dev) : Prop := writable m .uioTrigAt .hub k.val d = true ∧ run d ∧ fld v 62 1 = 0
      let w (d : Dev) : Dev := noted m .uioTrigAt .hub k.val v d
      Does (.uioTrigAtWrite m k v) (fun d => ok d ∧ ¬past d)
        (fun d => w (d.on (fun c => (take c).modHub (fun h => { h with trigLate := h.trigLate.filter (fun x => x != k.val) })))) ∧
      Does (.uioTrigAtWrite m k v) (fun d => ok d ∧ past d)
        (fun d => w (d.on (fun c => (take c).modHub (fun h => { h with trigLate := h.trigLate.filter (fun x => x != k.val) ++ [k.val] })))))) ∧
  (∀ (k : Fin 8) (n : Nat), let a (d : Dev) : Prop := d.chip.pinOf 5 k.val = some n ∧ d.chip.hubClocked = true
    let pulse (c : Chip) : Chip := c.modHub (fun h =>
      { h with trigLate := h.trigLate.filter (fun x => x != k.val), pulses := h.pulses.filter (fun x => x != n) ++ [n] })
    Does (.trigOutPulseStart k) (fun d => a d ∧ d.chip.rbit .uioTrigAt .hub k.val 63 = true ∧ d.chip.hub.trigLate.contains k.val = false)
      (fun d => d.on (fun c => pulse (c.setRf .uioTrigAt .hub k.val 63 1 0))) ∧
    Does (.trigOutPulseStart k) (fun d => a d ∧ d.chip.rbit .uioTrigAt .hub k.val 63 = true ∧ d.chip.hub.trigLate.contains k.val = true)
      (fun d => d.on (fun c => pulse ((c.setRf .uioTrigAt .hub k.val 63 1 0).setRf .uioTrigAt .hub k.val 62 1 1))) ∧
    Does (.trigOutPulseStart k) (fun d => a d ∧ d.chip.rbit .uioTrigAt .hub k.val 63 = false) (fun d => d)) ∧
  (∀ n : Fin 48,
    Does (.tbOutPulse n) (fun d => d.chip.pinFunc n.val = 3 ∧ d.chip.rf .uioCfg .hub n.val 5 27 ≠ 0 ∧ d.chip.hubClocked = true)
      (fun d => d.on (fun c => c.modHub (fun h => { h with pulses := h.pulses.filter (fun x => x != n.val) ++ [n.val] }))) ∧
    Does (.pulseEnd n) (fun d => d.chip.hubClocked = true) (fun d => d.on (fun c => c.modHub (fun h => { h with pulses := h.pulses.filter (fun x => x != n.val) }))))
  ) ∧
  (
  (∀ (n : Nat) (level : Bool), let at_ (d : Dev) : Dev := d.on (fun c => c.modHub (fun h => { h with padIn := kset h.padIn n level }))
    let live (d : Dev) : Prop := (at_ d).chip.pinsOn = true ∧ d.chip.hubClocked = true
    let sel (d : Dev) : Prop := d.chip.rf .uioCfg .hub n 34 2 = 3 ∨ (d.chip.rf .uioCfg .hub n 34 2 = 1 ∧ level = !(d.chip.pinInv n)) ∨
      (d.chip.rf .uioCfg .hub n 34 2 = 2 ∧ level = d.chip.pinInv n)
    (∀ z : Fin 48, z.val = n →
      Does (.gpioPinEdge z level) (fun d => d.chip.pinFunc n = 1) at_ ∧
      Does (.gpioPinEdge z level) (fun d => ¬sel d) at_) ∧
    (∀ k : Fin 16, Does (.trigInEdge k level) (fun d => d.chip.pinOf 4 k.val = some n ∧ d.chip.pinFunc n = 4 ∧ d.chip.pinIdx n = k.val ∧ live d ∧ sel d)
      (fun d => (at_ d).on (fun c => raise (.hub (27 + k.val)) n (c.capture .uioTrigTs .hub k.val (mkReg [(0, 48, c.edgeTime n % 2 ^ 48)]))))) ∧
    (let m (d : Dev) : Nat := d.chip.edgeTime n
     let e (d : Dev) : Int := if m d % 1000000000 < 500000000 then (m d % 1000000000 : Nat) else (m d % 1000000000 : Nat) - 1000000000
     Does (.ppsInEdge level) (fun d => (List.range 48).find? (fun n => d.chip.pinFunc n == 2) = some n ∧ d.chip.pinFunc n = 2 ∧ live d ∧ sel d ∧
        (((raise (.hub 26) (m d % 2 ^ 32) ((at_ d).chip.capture .tbsPpsTs .hub 0 (mkReg [(0, 48, m d % 2 ^ 48)]))).setRf .tbsPpsErr .hub 0 0 32
          (wrapInt 32 (e d))).setRf .tbsPpsCtl .hub 0 62 1 0).rbit .tbsPpsCtl .hub 0 63 = false)
      (fun d => (at_ d).on (fun c => ((raise (.hub 26) (m d % 2 ^ 32) (c.capture .tbsPpsTs .hub 0 (mkReg [(0, 48, m d % 2 ^ 48)]))).setRf .tbsPpsErr .hub 0 0 32
        (wrapInt 32 (e d))).setRf .tbsPpsCtl .hub 0 62 1 0)))) ∧
  Does .ppsHoldover (fun _ => True) (fun d => d.on (fun c => c.setRf .tbsPpsCtl .hub 0 62 1 1)) ∧
  Does .delayLineCalibration (fun _ => True) (fun d => d.on (fun c => c.modHub (fun h => { h with calibrations := h.calibrations + 1 }))) ∧
  Does .timeBaseSlewEnd (fun _ => True) (fun d => d.on (fun c => c.modHub (fun h => { h with time := h.time + BitVec.ofInt 64 h.slew, slew := 0 })))
  )
end

