-- ==== Sys2Proof/Laws/Command.lean ====
section
/-!
SUPPORT. What every command shares, said once: a command that runs an effect does that effect; waiting for the cycles of a tile changes nothing
when there is nothing to wait for; the conditions under which a cell fires, as one lemma.
-/
namespace Sys2Proof.Machine

/-- A command whose meaning runs `f` does `eff`, where the two agree. -/
theorem does_of_run {i : Instr} {f eff : Dev → Dev} {hyp : Dev → Prop} (hx : ∀ s, exec i s = run f s) (h : ∀ d, hyp d → f d = eff d) :
    Does i hyp eff := by
  intro s hs
  rw [hx s, run, h _ hs]
  rfl

/-- No cycle passes when the grove is not busy. -/
theorem settleGrove_idle (t g : Nat) (busy : Grove → Bool) (n : Nat) (d : Dev) (h : busy (d.chip.grove t g) = false) :
    settleGrove t g busy n d = d := by
  cases n <;> simp [settleGrove, h]

/-- No cycle passes when the condition does not hold. -/
theorem settleDev_idle (t : Nat) (busy : Dev → Bool) (n : Nat) (d : Dev) (h : busy d = false) : settleDev t busy n d = d := by
  cases n <;> simp [settleDev, h]

/-- The conditions of `cellReady`, one by one. -/
theorem cellReady_iff (op t g n : Nat) (d : Dev) : cellReady op t g n d = true ↔ ∃ r, (d.chip.grove t g).run = some r ∧
    (d.chip.grove t g).cellCan = true ∧ khas (d.chip.grove t g).fired n = false ∧ r.stall = 0 ∧
    (cellField (imgCell (d.chip.grove t g).runImg n)).opcode = op ∧ (cellField (imgCell (d.chip.grove t g).runImg n)).reserved = false ∧
    fireOk (d.chip.tile t) (d.chip.grove t g) r n (cellField (imgCell (d.chip.grove t g).runImg n)) = true ∧
    (opTouches (cellField (imgCell (d.chip.grove t g).runImg n)) = true → r.touched = true ∧ ((d.chip.grove t g).slot r.slot).frameValid = false) := by
  cases hr : (d.chip.grove t g).run with
  | none => simp [cellReady, hr]
  | some r =>
    simp only [cellReady, hr, Bool.and_eq_true, Bool.or_eq_true, Bool.not_eq_true', beq_iff_eq, Option.some.injEq, exists_eq_left']
    cases opTouches (cellField (imgCell (d.chip.grove t g).runImg n)) <;> simp [and_assoc]

/-- A cell that is ready fires at once (R47). -/
theorem cellFire_ready (op t g n : Nat) (u : CellUpset) (d : Dev) (hu : u.fieldMask = 0#128) (hs : u.slotEcc = .ok)
    (h : cellReady op t g n d = true) :
    cellFire op t g n u d = fireNow t g n (cellField (imgCell (d.chip.grove t g).runImg n)) u d := by
  obtain ⟨r, hr, hc, hf, hst, hop, hres, hok, htc⟩ := (cellReady_iff op t g n d).1 h
  unfold cellFire
  rw [settleDev_idle]
  · simp only [hr, hu, BitVec.xor_zero]
    rw [if_neg (by simp [hc, hop, hf, hok]), if_neg (by simp [hs, eccUe]), if_neg (by simp [hres])]
    have hid : d.on (slotRead t u.slotEcc) = d := by rw [hs]; rfl
    rw [hid]
    cases hto : opTouches (cellField (imgCell (d.chip.grove t g).runImg n)) with
    | false => simp
    | true => simp [(htc hto).1, (htc hto).2]
  · simp [Grove.cellBusy, cellAwaits, hr, hf, hst, hok]

end Sys2Proof.Machine
end

