-- ==== Sys2Proof/Laws/Cell.lean ====
section
/-!
SUPPORT. What a cell that fires does, said once: with sound operands and no upset it enters the result of its operation, or its access, into the
pipeline and nothing else.
-/
namespace Sys2Proof.Machine

/-- `cellSound`, condition by condition. -/
theorem cellSound_iff (t g n : Nat) (d : Dev) : cellSound t g n d = true ↔
    (opReadsA (cellF t g n d).opcode && TWord.bad (cellA t g n d)) = false ∧ (opReadsB (cellF t g n d) && TWord.bad (cellB t g n d)) = false ∧
    (opReadsC (cellF t g n d).opcode && TWord.bad (cellC t g n d)) = false ∧
    ((cellF t g n d).cin = 2 → ((d.chip.grove t g).cell n).par = flagPar ((d.chip.grove t g).cell n).flags) ∧
    (opReadsHalf (cellF t g n d) = true → let a := ((d.chip.grove t g).cell n).accu (cellF t g n d).accSel; a.res = 7#3 ∨ a.res = res64 a.val) := by
  unfold cellSound; dsimp only
  generalize (opReadsA (cellF t g n d).opcode && TWord.bad (cellA t g n d)) = x
  generalize (opReadsB (cellF t g n d) && TWord.bad (cellB t g n d)) = y
  generalize (opReadsC (cellF t g n d).opcode && TWord.bad (cellC t g n d)) = z
  by_cases h : (cellF t g n d).cin = 2 <;> by_cases k : opReadsHalf (cellF t g n d) = true <;> simp [h, k, and_assoc]

/-- A carry taken from flags whose parity holds is no failure. -/
theorem cellSound_parity (t g n : Nat) (d : Dev) (hs : cellSound t g n d = true) : ((cellF t g n d).cin == 2 && ((cellF t g n d).opcode == 1 || (cellF t g n d).opcode == 2) &&
      ((d.chip.grove t g).cell n).par != flagPar ((d.chip.grove t g).cell n).flags) = false := by
  obtain ⟨-, -, -, hp, -⟩ := (cellSound_iff t g n d).1 hs
  by_cases h2 : (cellF t g n d).cin = 2
  · simp [hp h2]
  · simp [h2]

/-- An accumulator of which a half is read, and whose residue holds, is no failure. -/
theorem cellSound_acc (t g n : Nat) (d : Dev) (hs : cellSound t g n d = true) : (opReadsHalf (cellF t g n d) &&
      (((d.chip.grove t g).cell n).accu (cellF t g n d).accSel).res != 7#3 &&
      (((d.chip.grove t g).cell n).accu (cellF t g n d).accSel).res != res64 (((d.chip.grove t g).cell n).accu (cellF t g n d).accSel).val) = false := by
  obtain ⟨-, -, -, -, ha⟩ := (cellSound_iff t g n d).1 hs
  by_cases k : opReadsHalf (cellF t g n d) = true
  · rcases ha k with h | h
    · simp [h]
    · simp [← h]
  · simp [k]

/-- Without an upset the cell sees each source as it stands. -/
theorem seenOperand_sound (ti : Tile) (gr : Grove) (n : Nat) (f : CellField) (s : Nat) :
    seenOperand ((gr.cell n).accu f.accSel) 0#64 s (operand ti gr n f s).1 = (operand ti gr n f s).1 := by
  unfold seenOperand srcHalf
  by_cases h : s = 0xB
  · subst h; simp [operand]
  · by_cases k : s = 0xC
    · subst k; simp [operand]
    · simp [h, k]

/-- An operation that makes no access to the scratchpad: its result is `opFlight`'s. -/
theorem fireNow_op (t g n : Nat) (d : Dev) (hs : cellSound t g n d = true) (hm : (cellF t g n d).opcode < 0x40 ∨ 0x44 ≤ (cellF t g n d).opcode) :
    fireNow t g n (cellF t g n d) {} d = cellFired t g n (opFlight (d.chip.tile t) (d.chip.grove t g) n (d.chip.grove t g).cycle (cellF t g n d) {}
      (cellA t g n d) (cellB t g n d) (cellC t g n d) (cellPoison t g n d)) d := by
  obtain ⟨ha, hb, hc, -, -⟩ := (cellSound_iff t g n d).1 hs
  have hpar := cellSound_parity t g n d hs
  have hacc := cellSound_acc t g n d hs
  have h0 : (cellF t g n d).opcode ≠ 0x40 := by omega
  have h1 : (cellF t g n d).opcode ≠ 0x41 := by omega
  have h2 : (cellF t g n d).opcode ≠ 0x42 := by omega
  have h3 : (cellF t g n d).opcode ≠ 0x43 := by omega
  unfold fireNow cellFired Dev.on
  simp only [BitVec.xor_zero, seenOperand_sound]
  rw [show (operand (d.chip.tile t) (d.chip.grove t g) n (cellF t g n d) (cellF t g n d).srcA).1 = cellA t g n d from rfl,
    show (operand (d.chip.tile t) (d.chip.grove t g) n (cellF t g n d) (cellF t g n d).srcB).1 = cellB t g n d from rfl,
    show (operand (d.chip.tile t) (d.chip.grove t g) n (cellF t g n d) (cellF t g n d).srcC).1 = cellC t g n d from rfl]
  simp only [ha, hb, hc, hpar, hacc, cellPoison, cellSeesPoison]
  simp
  all_goals (
    cases opFlight (d.chip.tile t) (d.chip.grove t g) n (d.chip.grove t g).cycle (cellF t g n d) {} (cellA t g n d) (cellB t g n d) (cellC t g n d)
      (opReadsA (cellF t g n d).opcode && (cellA t g n d).isPoison || opReadsB (cellF t g n d) && (cellB t g n d).isPoison ||
        opReadsC (cellF t g n d).opcode && (cellC t g n d).isPoison) <;> rfl)

/-- The kind of access of a memory operation. -/
theorem fireNow_mem (t g n : Nat) (k : MemKind) (d : Dev) (hs : cellSound t g n d = true)
    (hk : (k = .ld ∧ (cellF t g n d).opcode = 0x40) ∨ (k = .st ∧ (cellF t g n d).opcode = 0x41) ∨ (k = .fadd ∧ (cellF t g n d).opcode = 0x42) ∨
      (k = .swap ∧ (cellF t g n d).opcode = 0x43)) :
    fireNow t g n (cellF t g n d) {} d = (cellFired t g n none d).on (memFlight t g n k (cellF t g n d) {} (cellA t g n d) (cellB t g n d)) := by
  obtain ⟨ha, hb, hc, -, -⟩ := (cellSound_iff t g n d).1 hs
  have hpar := cellSound_parity t g n d hs
  have hacc := cellSound_acc t g n d hs
  unfold fireNow cellFired Dev.on
  simp only [BitVec.xor_zero, seenOperand_sound]
  rw [show (operand (d.chip.tile t) (d.chip.grove t g) n (cellF t g n d) (cellF t g n d).srcA).1 = cellA t g n d from rfl,
    show (operand (d.chip.tile t) (d.chip.grove t g) n (cellF t g n d) (cellF t g n d).srcB).1 = cellB t g n d from rfl,
    show (operand (d.chip.tile t) (d.chip.grove t g) n (cellF t g n d) (cellF t g n d).srcC).1 = cellC t g n d from rfl]
  rcases hk with ⟨rfl, h⟩ | ⟨rfl, h⟩ | ⟨rfl, h⟩ | ⟨rfl, h⟩ <;> (rw [h] at ha hc hpar; simp only [h, ha, hc, hpar, hacc, hb, cellPoison, cellSeesPoison]; simp)

end Sys2Proof.Machine
end

