-- ==== Sys2Proof/Laws/Exec.lean ====
section
/-!
SUPPORT. What `exec` does with each command: the one effect that it runs on the device.
-/
namespace Sys2Proof.Machine

theorem exec_cellNop (g : GroveId) (n : Fin 16) (u : CellUpset) (s : State) : exec (.cellNop g n u) s = run (cellFire 0x00 g.t.val (gOf g) n.val u) s := rfl
theorem exec_cellAdd (g : GroveId) (n : Fin 16) (u : CellUpset) (s : State) : exec (.cellAdd g n u) s = run (cellFire 0x01 g.t.val (gOf g) n.val u) s := rfl
theorem exec_cellSub (g : GroveId) (n : Fin 16) (u : CellUpset) (s : State) : exec (.cellSub g n u) s = run (cellFire 0x02 g.t.val (gOf g) n.val u) s := rfl
theorem exec_cellNeg (g : GroveId) (n : Fin 16) (u : CellUpset) (s : State) : exec (.cellNeg g n u) s = run (cellFire 0x03 g.t.val (gOf g) n.val u) s := rfl
theorem exec_cellAbs (g : GroveId) (n : Fin 16) (u : CellUpset) (s : State) : exec (.cellAbs g n u) s = run (cellFire 0x04 g.t.val (gOf g) n.val u) s := rfl
theorem exec_cellAbsd (g : GroveId) (n : Fin 16) (u : CellUpset) (s : State) : exec (.cellAbsd g n u) s = run (cellFire 0x05 g.t.val (gOf g) n.val u) s := rfl
theorem exec_cellMin (g : GroveId) (n : Fin 16) (u : CellUpset) (s : State) : exec (.cellMin g n u) s = run (cellFire 0x06 g.t.val (gOf g) n.val u) s := rfl
theorem exec_cellMax (g : GroveId) (n : Fin 16) (u : CellUpset) (s : State) : exec (.cellMax g n u) s = run (cellFire 0x07 g.t.val (gOf g) n.val u) s := rfl
theorem exec_cellCmpeq (g : GroveId) (n : Fin 16) (u : CellUpset) (s : State) : exec (.cellCmpeq g n u) s = run (cellFire 0x08 g.t.val (gOf g) n.val u) s := rfl
theorem exec_cellCmplt (g : GroveId) (n : Fin 16) (u : CellUpset) (s : State) : exec (.cellCmplt g n u) s = run (cellFire 0x09 g.t.val (gOf g) n.val u) s := rfl
theorem exec_cellCmple (g : GroveId) (n : Fin 16) (u : CellUpset) (s : State) : exec (.cellCmple g n u) s = run (cellFire 0x0A g.t.val (gOf g) n.val u) s := rfl
theorem exec_cellMov (g : GroveId) (n : Fin 16) (u : CellUpset) (s : State) : exec (.cellMov g n u) s = run (cellFire 0x0B g.t.val (gOf g) n.val u) s := rfl
theorem exec_cellMul (g : GroveId) (n : Fin 16) (u : CellUpset) (s : State) : exec (.cellMul g n u) s = run (cellFire 0x10 g.t.val (gOf g) n.val u) s := rfl
theorem exec_cellMulh (g : GroveId) (n : Fin 16) (u : CellUpset) (s : State) : exec (.cellMulh g n u) s = run (cellFire 0x11 g.t.val (gOf g) n.val u) s := rfl
theorem exec_cellMadd (g : GroveId) (n : Fin 16) (u : CellUpset) (s : State) : exec (.cellMadd g n u) s = run (cellFire 0x12 g.t.val (gOf g) n.val u) s := rfl
theorem exec_cellMac (g : GroveId) (n : Fin 16) (u : CellUpset) (s : State) : exec (.cellMac g n u) s = run (cellFire 0x13 g.t.val (gOf g) n.val u) s := rfl
theorem exec_cellMsu (g : GroveId) (n : Fin 16) (u : CellUpset) (s : State) : exec (.cellMsu g n u) s = run (cellFire 0x14 g.t.val (gOf g) n.val u) s := rfl
theorem exec_cellAccadd (g : GroveId) (n : Fin 16) (u : CellUpset) (s : State) : exec (.cellAccadd g n u) s = run (cellFire 0x15 g.t.val (gOf g) n.val u) s := rfl
theorem exec_cellAccld (g : GroveId) (n : Fin 16) (u : CellUpset) (s : State) : exec (.cellAccld g n u) s = run (cellFire 0x16 g.t.val (gOf g) n.val u) s := rfl
theorem exec_cellAccclr (g : GroveId) (n : Fin 16) (u : CellUpset) (s : State) : exec (.cellAccclr g n u) s = run (cellFire 0x17 g.t.val (gOf g) n.val u) s := rfl
theorem exec_cellAccrs (g : GroveId) (n : Fin 16) (u : CellUpset) (s : State) : exec (.cellAccrs g n u) s = run (cellFire 0x18 g.t.val (gOf g) n.val u) s := rfl
theorem exec_cellAnd (g : GroveId) (n : Fin 16) (u : CellUpset) (s : State) : exec (.cellAnd g n u) s = run (cellFire 0x20 g.t.val (gOf g) n.val u) s := rfl
theorem exec_cellOr (g : GroveId) (n : Fin 16) (u : CellUpset) (s : State) : exec (.cellOr g n u) s = run (cellFire 0x21 g.t.val (gOf g) n.val u) s := rfl
theorem exec_cellXor (g : GroveId) (n : Fin 16) (u : CellUpset) (s : State) : exec (.cellXor g n u) s = run (cellFire 0x22 g.t.val (gOf g) n.val u) s := rfl
theorem exec_cellAndn (g : GroveId) (n : Fin 16) (u : CellUpset) (s : State) : exec (.cellAndn g n u) s = run (cellFire 0x23 g.t.val (gOf g) n.val u) s := rfl
theorem exec_cellNot (g : GroveId) (n : Fin 16) (u : CellUpset) (s : State) : exec (.cellNot g n u) s = run (cellFire 0x24 g.t.val (gOf g) n.val u) s := rfl
theorem exec_cellSel (g : GroveId) (n : Fin 16) (u : CellUpset) (s : State) : exec (.cellSel g n u) s = run (cellFire 0x25 g.t.val (gOf g) n.val u) s := rfl
theorem exec_cellShl (g : GroveId) (n : Fin 16) (u : CellUpset) (s : State) : exec (.cellShl g n u) s = run (cellFire 0x28 g.t.val (gOf g) n.val u) s := rfl
theorem exec_cellShr (g : GroveId) (n : Fin 16) (u : CellUpset) (s : State) : exec (.cellShr g n u) s = run (cellFire 0x29 g.t.val (gOf g) n.val u) s := rfl
theorem exec_cellSra (g : GroveId) (n : Fin 16) (u : CellUpset) (s : State) : exec (.cellSra g n u) s = run (cellFire 0x2A g.t.val (gOf g) n.val u) s := rfl
theorem exec_cellRol (g : GroveId) (n : Fin 16) (u : CellUpset) (s : State) : exec (.cellRol g n u) s = run (cellFire 0x2B g.t.val (gOf g) n.val u) s := rfl
theorem exec_cellShuf (g : GroveId) (n : Fin 16) (u : CellUpset) (s : State) : exec (.cellShuf g n u) s = run (cellFire 0x2C g.t.val (gOf g) n.val u) s := rfl
theorem exec_cellClz (g : GroveId) (n : Fin 16) (u : CellUpset) (s : State) : exec (.cellClz g n u) s = run (cellFire 0x2D g.t.val (gOf g) n.val u) s := rfl
theorem exec_cellPopc (g : GroveId) (n : Fin 16) (u : CellUpset) (s : State) : exec (.cellPopc g n u) s = run (cellFire 0x2E g.t.val (gOf g) n.val u) s := rfl
theorem exec_cellBrev (g : GroveId) (n : Fin 16) (u : CellUpset) (s : State) : exec (.cellBrev g n u) s = run (cellFire 0x2F g.t.val (gOf g) n.val u) s := rfl
theorem exec_cellLd (g : GroveId) (n : Fin 16) (u : CellUpset) (s : State) : exec (.cellLd g n u) s = run (cellFire 0x40 g.t.val (gOf g) n.val u) s := rfl
theorem exec_cellSt (g : GroveId) (n : Fin 16) (u : CellUpset) (s : State) : exec (.cellSt g n u) s = run (cellFire 0x41 g.t.val (gOf g) n.val u) s := rfl
theorem exec_cellFadd (g : GroveId) (n : Fin 16) (u : CellUpset) (s : State) : exec (.cellFadd g n u) s = run (cellFire 0x42 g.t.val (gOf g) n.val u) s := rfl
theorem exec_cellSwap (g : GroveId) (n : Fin 16) (u : CellUpset) (s : State) : exec (.cellSwap g n u) s = run (cellFire 0x43 g.t.val (gOf g) n.val u) s := rfl
theorem exec_cellGetf (g : GroveId) (n : Fin 16) (u : CellUpset) (s : State) : exec (.cellGetf g n u) s = run (cellFire 0x50 g.t.val (gOf g) n.val u) s := rfl
theorem exec_cellPutf (g : GroveId) (n : Fin 16) (u : CellUpset) (s : State) : exec (.cellPutf g n u) s = run (cellFire 0x51 g.t.val (gOf g) n.val u) s := rfl
theorem exec_accAcquisitionEnd (g : AcqEnd) (s : State) : exec (.accAcquisitionEnd g) s = run (acquisitionEnd g.g.t.val (gOf g.g) (g.i.val, g.ecc)) s := rfl
theorem exec_seqNop (g : GroveId) (u : SeqUpset) (s : State) : exec (.seqNop g u) s = run (seqIssue 0x00 g.t.val (gOf g) u) s := rfl
theorem exec_seqAdd (g : GroveId) (u : SeqUpset) (s : State) : exec (.seqAdd g u) s = run (seqIssue 0x01 g.t.val (gOf g) u) s := rfl
theorem exec_seqSub (g : GroveId) (u : SeqUpset) (s : State) : exec (.seqSub g u) s = run (seqIssue 0x02 g.t.val (gOf g) u) s := rfl
theorem exec_seqAnd (g : GroveId) (u : SeqUpset) (s : State) : exec (.seqAnd g u) s = run (seqIssue 0x03 g.t.val (gOf g) u) s := rfl
theorem exec_seqOr (g : GroveId) (u : SeqUpset) (s : State) : exec (.seqOr g u) s = run (seqIssue 0x04 g.t.val (gOf g) u) s := rfl
theorem exec_seqXor (g : GroveId) (u : SeqUpset) (s : State) : exec (.seqXor g u) s = run (seqIssue 0x05 g.t.val (gOf g) u) s := rfl
theorem exec_seqSlt (g : GroveId) (u : SeqUpset) (s : State) : exec (.seqSlt g u) s = run (seqIssue 0x06 g.t.val (gOf g) u) s := rfl
theorem exec_seqSltu (g : GroveId) (u : SeqUpset) (s : State) : exec (.seqSltu g u) s = run (seqIssue 0x07 g.t.val (gOf g) u) s := rfl
theorem exec_seqAddi (g : GroveId) (u : SeqUpset) (s : State) : exec (.seqAddi g u) s = run (seqIssue 0x08 g.t.val (gOf g) u) s := rfl
theorem exec_seqAndi (g : GroveId) (u : SeqUpset) (s : State) : exec (.seqAndi g u) s = run (seqIssue 0x09 g.t.val (gOf g) u) s := rfl
theorem exec_seqOri (g : GroveId) (u : SeqUpset) (s : State) : exec (.seqOri g u) s = run (seqIssue 0x0A g.t.val (gOf g) u) s := rfl
theorem exec_seqShli (g : GroveId) (u : SeqUpset) (s : State) : exec (.seqShli g u) s = run (seqIssue 0x0B g.t.val (gOf g) u) s := rfl
theorem exec_seqShri (g : GroveId) (u : SeqUpset) (s : State) : exec (.seqShri g u) s = run (seqIssue 0x0C g.t.val (gOf g) u) s := rfl
theorem exec_seqSrai (g : GroveId) (u : SeqUpset) (s : State) : exec (.seqSrai g u) s = run (seqIssue 0x0D g.t.val (gOf g) u) s := rfl
theorem exec_seqBr (g : GroveId) (u : SeqUpset) (s : State) : exec (.seqBr g u) s = run (seqIssue 0x10 g.t.val (gOf g) u) s := rfl
theorem exec_seqBc (g : GroveId) (u : SeqUpset) (s : State) : exec (.seqBc g u) s = run (seqIssue 0x11 g.t.val (gOf g) u) s := rfl
theorem exec_seqBz (g : GroveId) (u : SeqUpset) (s : State) : exec (.seqBz g u) s = run (seqIssue 0x12 g.t.val (gOf g) u) s := rfl
theorem exec_seqBnz (g : GroveId) (u : SeqUpset) (s : State) : exec (.seqBnz g u) s = run (seqIssue 0x13 g.t.val (gOf g) u) s := rfl
theorem exec_seqLoop (g : GroveId) (u : SeqUpset) (s : State) : exec (.seqLoop g u) s = run (seqIssue 0x14 g.t.val (gOf g) u) s := rfl
theorem exec_seqLoopr (g : GroveId) (u : SeqUpset) (s : State) : exec (.seqLoopr g u) s = run (seqIssue 0x15 g.t.val (gOf g) u) s := rfl
theorem exec_seqCall (g : GroveId) (u : SeqUpset) (s : State) : exec (.seqCall g u) s = run (seqIssue 0x16 g.t.val (gOf g) u) s := rfl
theorem exec_seqRet (g : GroveId) (u : SeqUpset) (s : State) : exec (.seqRet g u) s = run (seqIssue 0x17 g.t.val (gOf g) u) s := rfl
theorem exec_seqEnd (g : GroveId) (u : SeqUpset) (s : State) : exec (.seqEnd g u) s = run (seqIssue 0x18 g.t.val (gOf g) u) s := rfl
theorem exec_seqWaitc (g : GroveId) (u : SeqUpset) (s : State) : exec (.seqWaitc g u) s = run (seqIssue 0x19 g.t.val (gOf g) u) s := rfl
theorem exec_seqWaitn (g : GroveId) (u : SeqUpset) (s : State) : exec (.seqWaitn g u) s = run (seqIssue 0x1A g.t.val (gOf g) u) s := rfl
theorem exec_seqSusp (g : GroveId) (u : SeqUpset) (s : State) : exec (.seqSusp g u) s = run (seqIssue 0x1B g.t.val (gOf g) u) s := rfl
theorem exec_seqBrk (g : GroveId) (u : SeqUpset) (s : State) : exec (.seqBrk g u) s = run (seqIssue 0x1C g.t.val (gOf g) u) s := rfl
theorem exec_seqStep (g : GroveId) (u : SeqUpset) (s : State) : exec (.seqStep g u) s = run (seqIssue 0x20 g.t.val (gOf g) u) s := rfl
theorem exec_seqStepr (g : GroveId) (u : SeqUpset) (s : State) : exec (.seqStepr g u) s = run (seqIssue 0x21 g.t.val (gOf g) u) s := rfl
theorem exec_seqSqo (g : GroveId) (u : SeqUpset) (s : State) : exec (.seqSqo g u) s = run (seqIssue 0x22 g.t.val (gOf g) u) s := rfl
theorem exec_seqGetc (g : GroveId) (u : SeqUpset) (s : State) : exec (.seqGetc g u) s = run (seqIssue 0x23 g.t.val (gOf g) u) s := rfl
theorem exec_seqGeto (g : GroveId) (u : SeqUpset) (s : State) : exec (.seqGeto g u) s = run (seqIssue 0x24 g.t.val (gOf g) u) s := rfl
theorem exec_seqSetk (g : GroveId) (u : SeqUpset) (s : State) : exec (.seqSetk g u) s = run (seqIssue 0x25 g.t.val (gOf g) u) s := rfl
theorem exec_seqQbind (g : GroveId) (u : SeqUpset) (s : State) : exec (.seqQbind g u) s = run (seqIssue 0x28 g.t.val (gOf g) u) s := rfl
theorem exec_seqQsoi (g : GroveId) (u : SeqUpset) (s : State) : exec (.seqQsoi g u) s = run (seqIssue 0x29 g.t.val (gOf g) u) s := rfl
theorem exec_seqQeoi (g : GroveId) (u : SeqUpset) (s : State) : exec (.seqQeoi g u) s = run (seqIssue 0x2A g.t.val (gOf g) u) s := rfl
theorem exec_seqQread (g : GroveId) (u : SeqUpset) (s : State) : exec (.seqQread g u) s = run (seqIssue 0x2B g.t.val (gOf g) u) s := rfl
theorem exec_seqQreadr (g : GroveId) (u : SeqUpset) (s : State) : exec (.seqQreadr g u) s = run (seqIssue 0x2C g.t.val (gOf g) u) s := rfl
theorem exec_seqQseek (g : GroveId) (u : SeqUpset) (s : State) : exec (.seqQseek g u) s = run (seqIssue 0x2D g.t.val (gOf g) u) s := rfl
theorem exec_seqSld (g : GroveId) (u : SeqUpset) (s : State) : exec (.seqSld g u) s = run (seqIssue 0x30 g.t.val (gOf g) u) s := rfl
theorem exec_seqSst (g : GroveId) (u : SeqUpset) (s : State) : exec (.seqSst g u) s = run (seqIssue 0x31 g.t.val (gOf g) u) s := rfl
theorem exec_seqMrd (g : GroveId) (u : SeqUpset) (s : State) : exec (.seqMrd g u) s = run (seqMrd g.t.val (gOf g) u) s := rfl
theorem exec_seqMwr (g : GroveId) (u : SeqUpset) (s : State) : exec (.seqMwr g u) s = run (seqIssue 0x33 g.t.val (gOf g) u) s := rfl
theorem exec_seqSig (g : GroveId) (u : SeqUpset) (s : State) : exec (.seqSig g u) s = run (seqIssue 0x38 g.t.val (gOf g) u) s := rfl
theorem exec_mrdCompletion (g : GroveId) (tag : Fin 64) (ecc : Ecc) (s : State) : exec (.mrdCompletion g tag ecc) s = run (mrdComplete g.t.val (gOf g) tag.val ecc) s := rfl
theorem exec_budgetExpiry (g : GroveId) (s : State) : exec (.budgetExpiry g) s = run (fun d => d.on (budgetExpiry g.t.val (gOf g))) s := rfl
theorem exec_windowSpill (g : GroveId) (ue : Bool) (s : State) : exec (.windowSpill g ue) s = run (windowSpill g.t.val (gOf g) ue) s := rfl
theorem exec_windowRefill (g : GroveId) (ecc : Ecc) (s : State) : exec (.windowRefill g ecc) s = run (windowRefill g.t.val (gOf g) ecc) s := rfl
theorem exec_mwrErrorCompletion (g : GroveId) (s : State) : exec (.mwrErrorCompletion g) s = run (fun d => d.on (mwrErrorArrives g.t.val (gOf g))) s := rfl
theorem exec_qrFetchArrival (g : GroveId) (u : Fin 2) (n : Nat) (found : FetchFound) (s : State) : exec (.qrFetchArrival g u n found) s = run (qrFetch g.t.val (gOf g) u.val n found.ecc (found.hit.map (fun x => x.val))) s := rfl
theorem exec_qwPush (g : GroveId) (p : Fin 2) (up : BitVec 35) (rail : Bool) (s : State) : exec (.qwPush g p up rail) s = run (qwPush g.t.val (gOf g) p.val up rail) s := rfl
theorem exec_qwWordAccepted (g : GroveId) (p : Fin 2) (s : State) : exec (.qwWordAccepted g p) s = run (qwAccepted g.t.val (gOf g) p.val) s := rfl
theorem exec_taskEnd (g : GroveId) (s : State) : exec (.taskEnd g) s = run (taskEnd g.t.val (gOf g)) s := rfl
theorem exec_taskCommit (g : GroveId) (s : State) : exec (.taskCommit g) s = run (commitTask g.t.val (gOf g)) s := rfl
theorem exec_taskAbort (g : GroveId) (s : State) : exec (.taskAbort g) s = run (fun d => d.on (taskAbort g.t.val (gOf g))) s := rfl
theorem exec_placeholderDelivery (t : TileId) (n : Fin 4096) (s : State) : exec (.placeholderDelivery t n) s = run (placeholderDelivery t.val n.val) s := rfl
theorem exec_seqCellMapWrite (m : Master) (g : GroveId) (v : BitVec 64) (s : State) : exec (.seqCellMapWrite m g v) s = run (namedWrite m .seqCellMap (.grove g.t.val (gOf g)) 0 v) s := rfl
theorem exec_selectLatchFault (g : GroveId) (k : Fin 86) (up : BitVec 64) (s : State) : exec (.selectLatchFault g k up) s = run (fun d => d.on (selectFault g.t.val (gOf g) k.val up)) s := rfl
theorem exec_canopyLatchFault (t : TileId) (ch : Fin 64) (up : BitVec 288) (s : State) : exec (.canopyLatchFault t ch up) s = run (fun d => d.on (canopyFault t.val ch.val up)) s := rfl
theorem exec_cfgCnpSrcWrite (m : Master) (t : TileId) (ch : Fin 64) (v : BitVec 64) (s : State) : exec (.cfgCnpSrcWrite m t ch v) s = run (namedWrite m .cfgCnpSrc (.tile t.val) ch.val v) s := rfl
theorem exec_cfgCnpLockWrite (m : Master) (t : TileId) (s : State) : exec (.cfgCnpLockWrite m t) s = run (fieldWrite m .cfgCnpLock (.tile t.val) 0 [(0, 1, 1)]) s := rfl
theorem exec_bankWrite (m : Master) (g : GroveId) (b : Fin 8) (i : Fin 64) (v : BitVec 64) (s : State) : exec (.bankWrite m g b i v) s = run (regWriteCmd m (Site.base (.grove g.t.val (gOf g)) + 0xC000 + 512 * b.val + 8 * i.val) true v) s := rfl
theorem exec_accForcedSaveReq (m : Master) (g : GroveId) (s : State) : exec (.accForcedSaveReq m g) s = run (fieldWrite m .seqAccCtl (.grove g.t.val (gOf g)) 0 [(0, 1, 1)]) s := rfl
theorem exec_accForcedSave (g : GroveId) (s : State) : exec (.accForcedSave g) s = run (forcedSave g.t.val (gOf g)) s := rfl
theorem exec_noticeIntake (t : TileId) (s : State) : exec (.noticeIntake t) s = run (fun d => d.on (noticeIntake t.val 2)) s := rfl
theorem exec_schPost (m : Master) (t : TileId) (tpl : BitVec 8) (delay : BitVec 24) (s : State) : exec (.schPost m t tpl delay) s = run (namedWrite m .schPost (.tile t.val) 0 (mkReg [(24, 8, tpl.toNat), (0, 24, delay.toNat)])) s := rfl
theorem exec_tick (t : TileId) (s : State) : exec (.tick t) s = run (fun d => d.on (schTickOnce t.val)) s := rfl
theorem exec_delayExpiry (t : TileId) (s : State) : exec (.delayExpiry t) s = run (fun d => d.on (delayExpiry t.val)) s := rfl
theorem exec_dueTaskReady (t : TileId) (s : State) : exec (.dueTaskReady t) s = run (fun d => d.on (dueReady t.val)) s := rfl
theorem exec_flowChainAdvance (t : TileId) (f : Flow) (s : State) : exec (.flowChainAdvance t f) s = run (fun d => d.on (chainAdvance t.val f)) s := rfl
theorem exec_lockOverflowDrain (t : TileId) (s : State) : exec (.lockOverflowDrain t) s = run (fun d => d.on (fifoDrain t.val)) s := rfl
theorem exec_flowEntryFree (t : TileId) (f : Flow) (s : State) : exec (.flowEntryFree t f) s = run (fun d => d.on (entryFree t.val f)) s := rfl
theorem exec_dispatchDecision (t : TileId) (s : State) : exec (.dispatchDecision t) s = run (dispatch t.val) s := rfl
theorem exec_gangReservation (g : GroveId) (s : State) : exec (.gangReservation g) s = run (gangReserve g.t.val (gOf g)) s := rfl
theorem exec_gangStart (t : TileId) (s : State) : exec (.gangStart t) s = run (gangStart t.val) s := rfl
theorem exec_pageInComplete (g : GroveId) (ue : Bool) (s : State) : exec (.pageInComplete g ue) s = run (pageInComplete g.t.val (gOf g) ue) s := rfl
theorem exec_switchCycle (g : GroveId) (s : State) : exec (.switchCycle g) s = run (fun d => d.on (switchCycle g.t.val (gOf g))) s := rfl
theorem exec_resumption (g : GroveId) (s : State) : exec (.resumption g) s = run (fun d => d.on (resumeTask g.t.val (gOf g))) s := rfl
theorem exec_cancelDescriptor (m : Master) (t : TileId) (n : Fin 4096) (s : State) : exec (.cancelDescriptor m t n) s = run (namedWrite m .schCancel (.tile t.val) 0 (mkReg [(62, 2, 0), (0, 12, n.val)])) s := rfl
theorem exec_cancelFlow (m : Master) (t : TileId) (f : Flow) (s : State) : exec (.cancelFlow m t f) s = run (namedWrite m .schCancel (.tile t.val) 0 (mkReg [(62, 2, 1), (0, 24, f.toNat)])) s := rfl
theorem exec_cancelTemplate (m : Master) (t : TileId) (tpl : BitVec 8) (s : State) : exec (.cancelTemplate m t tpl) s = run (namedWrite m .schCancel (.tile t.val) 0 (mkReg [(62, 2, 2), (0, 8, tpl.toNat)])) s := rfl
theorem exec_cancelWalk (t : TileId) (s : State) : exec (.cancelWalk t) s = run (fun d => d.on (cancelWalk t.val)) s := rfl
theorem exec_xlockRequest (t : TileId) (s : State) : exec (.xlockRequest t) s = run (fun d => d.on (xlockRequest t.val)) s := rfl
theorem exec_xlockGrant (t : TileId) (s : State) : exec (.xlockGrant t) s = run (fun d => d.on (xlockGrant t.val)) s := rfl
theorem exec_xlockError (t : TileId) (s : State) : exec (.xlockError t) s = run (fun d => d.on (xlockError t.val)) s := rfl
theorem exec_xlockReannounce (t : TileId) (s : State) : exec (.xlockReannounce t) s = run (fun d => d.on (xlockReannounce t.val)) s := rfl
theorem exec_schTickWrite (m : Master) (t : TileId) (v : BitVec 64) (s : State) : exec (.schTickWrite m t v) s = run (namedWrite m .schTick (.tile t.val) 0 v) s := rfl
theorem exec_histogramClear (m : Master) (t : TileId) (v : BitVec 64) (s : State) : exec (.histogramClear m t v) s = run (namedWrite m .schHistCtl (.tile t.val) 0 v) s := rfl
theorem exec_loadWindowEnd (t : TileId) (s : State) : exec (.loadWindowEnd t) s = run (fun d => d.on (loadWindowEnd t.val)) s := rfl
theorem exec_eventHubArrival (e : Fin 5120) (s : State) : exec (.eventHubArrival e) s = run (fun d => d.on (hubArrival e.val)) s := rfl
theorem exec_evtSrcWrite (m : Master) (e : Fin 5120) (v : BitVec 64) (s : State) : exec (.evtSrcWrite m e v) s = run (srcWrite m (EvSrc.ofNum e.val) v) s := rfl
theorem exec_evtFwqRead (m : Master) (s : State) : exec (.evtFwqRead m) s = run (regReadCmd m (Reg.addr .evtFwq .hub 0) true) s := rfl
theorem exec_fwqHoldoffExpiry (s : State) : exec (.fwqHoldoffExpiry) s = run (fun d => d.on (fwqHoldoff)) s := rfl
theorem exec_vectorHoldoffExpiry (v : Fin 2048) (s : State) : exec (.vectorHoldoffExpiry v) s = run (fun d => d.on (vecHoldoff v.val)) s := rfl
theorem exec_counterRcRead (m : Master) (a : BitVec 48) (wide : Bool) (s : State) : exec (.counterRcRead m a wide) s = run (regReadCmd m a.toNat wide) s := rfl
theorem exec_registerWrite (m : Master) (a : BitVec 48) (wide : Bool) (v : BitVec 64) (s : State) : exec (.registerWrite m a wide v) s = run (regWriteCmd m a.toNat wide v) s := rfl
theorem exec_queueSpill (q : Fin 16384) (bad : Option (Fin 64)) (s : State) : exec (.queueSpill q bad) s = run (queueSpill q.val (bad.map (fun x => x.val))) s := rfl
theorem exec_queueRefillLand (q : Fin 16384) (found : RefillFound) (s : State) : exec (.queueRefillLand q found) s = run (refillLand q.val found.row.val found.ecc) s := rfl
theorem exec_quePopRead (m : Master) (q : Fin 16384) (ue : Bool) (s : State) : exec (.quePopRead m q ue) s = run (popCmd m q.val ue) s := rfl
theorem exec_queueFlush (m : Master) (q : Fin 16384) (s : State) : exec (.queueFlush m q) s = run (fieldWrite m .queCtl (.tile (q.val / 4096)) (q.val % 4096) [(2, 1, 1)]) s := rfl
theorem exec_flushBlockReturn (q : Fin 16384) (s : State) : exec (.flushBlockReturn q) s = run (fun d => d.on (flushReturn q.val)) s := rfl
theorem exec_queueClose (m : Master) (q : Fin 16384) (s : State) : exec (.queueClose m q) s = run (fieldWrite m .queCtl (.tile (q.val / 4096)) (q.val % 4096) [(1, 1, 1)]) s := rfl
theorem exec_queueReopen (m : Master) (q : Fin 16384) (s : State) : exec (.queueReopen m q) s = run (fieldWrite m .queCtl (.tile (q.val / 4096)) (q.val % 4096) [(0, 1, 1)]) s := rfl
theorem exec_queCfgWrite (m : Master) (q : Fin 16384) (v : BitVec 64) (s : State) : exec (.queCfgWrite m q v) s = run (namedWrite m .queCfg (.tile (q.val / 4096)) (q.val % 4096) v) s := rfl
theorem exec_queueStallLimit (q : Fin 16384) (s : State) : exec (.queueStallLimit q) s = run (fun d => d.on (stallLimit q.val)) s := rfl
theorem exec_portBAccess (m : Master) (g : GroveId) (o : BitVec 18) (op : MemOp) (b : BeatShape) (lo : TWord) (hi : TWord) (ecc : Ecc) (s : State) : exec (.portBAccess m g o op b lo hi ecc) s = run (portBAccess g.t.val (gOf g) (nodeOf m) (alignTo b.wide o.toNat) op b.wide b.be.toNat lo hi ecc) s := rfl
theorem exec_portBRepeat (g : GroveId) (ecc : Ecc) (s : State) : exec (.portBRepeat g ecc) s = run (portBRepeat g.t.val (gOf g) ecc) s := rfl
theorem exec_tmbAccess (m : Master) (t : TileId) (o : BitVec 26) (who : TmbReq) (op : MemOp) (wide : Bool) (lo : TWord) (hi : TWord) (found : TmbFound) (s : State) : exec (.tmbAccess m t o who op wide lo hi found) s = run (tmbAccess t.val (nodeOf m) ⟨who, o, op, wide, lo, hi, found.ecc⟩ found.others) s := rfl
theorem exec_eccWriteback (u : MemUnit) (s : State) : exec (.eccWriteback u) s = run (fun d => d.on (eccWriteback u)) s := rfl
theorem exec_spmScrubRow (g : GroveId) (ecc : Ecc) (s : State) : exec (.spmScrubRow g ecc) s = run (spmScrubRow g.t.val (gOf g) ecc) s := rfl
theorem exec_tmbScrubRow (t : TileId) (ecc : Ecc) (s : State) : exec (.tmbScrubRow t ecc) s = run (tmbScrubRow t.val ecc) s := rfl
theorem exec_gd7ScrubBlock (t : TileId) (ecc : Ecc) (s : State) : exec (.gd7ScrubBlock t ecc) s = run (gd7ScrubBlock t.val ecc) s := rfl
theorem exec_spmPwrWrite (m : Master) (g : GroveId) (v : BitVec 64) (s : State) : exec (.spmPwrWrite m g v) s = run (namedWrite m .spmPwr (.grove g.t.val (gOf g)) 0 v) s := rfl
theorem exec_tmbPwrWrite (m : Master) (t : TileId) (i : Fin 2) (v : BitVec 64) (s : State) : exec (.tmbPwrWrite m t i v) s = run (namedWrite m .tmbPwr (.tile t.val) i.val v) s := rfl
theorem exec_memRetentionEntry (u : MemUnit) (s : State) : exec (.memRetentionEntry u) s = run (fun d => d.on (retentionEntry u)) s := rfl
theorem exec_memPowerTransitionDone (u : MemUnit) (s : State) : exec (.memPowerTransitionDone u) s = run (powerDone u) s := rfl
theorem exec_gd7BringupDone (t : TileId) (i : Fin 8) (ok : Bool) (density : Fin 4) (temp : Fin 128) (s : State) : exec (.gd7BringupDone t i ok density temp) s = run (fun d => d.on (gd7BringupDone t.val i.val ok density.val temp.val)) s := rfl
theorem exec_gd7TrainStart (m : Master) (t : TileId) (v : BitVec 64) (s : State) : exec (.gd7TrainStart m t v) s = run (namedWrite m .gd7TrainCtl (.tile t.val) 0 v) s := rfl
theorem exec_gd7RetrainPeriod (t : TileId) (i : Fin 8) (s : State) : exec (.gd7RetrainPeriod t i) s = run (fun d => d.on (gd7Period t.val i.val)) s := rfl
theorem exec_gd7RetrainDone (t : TileId) (i : Fin 8) (ok : Bool) (s : State) : exec (.gd7RetrainDone t i ok) s = run (fun d => d.on (gd7RetrainDone t.val i.val ok)) s := rfl
theorem exec_gd7TransferDone (o : BitVec 40) (crc : Nat) (ode : Nat) (ecc : Ecc) (s : State) : exec (.gd7TransferDone o crc ode ecc) s = run (gd7TransferDone o.toNat crc ode ecc) s := rfl
theorem exec_gd7PowerDown (t : TileId) (i : Fin 8) (s : State) : exec (.gd7PowerDown t i) s = run (fun d => d.on (gd7PowerDown t.val i.val)) s := rfl
theorem exec_gd7Refresh (t : TileId) (u : RefreshUnit) (s : State) : exec (.gd7Refresh t u) s = run (fun d => d.on (gd7Refresh t.val u.i.val u.bank.val u.hot)) s := rfl
theorem exec_swapDirect (m : Master) (t : TileId) (x : Fin 12) (y : Fin 12) (s : State) : exec (.swapDirect m t x y) s = run (namedWrite m .sprSwapCtl .hub 0 (mkReg [(63, 1, 1), (18, 2, 0), (16, 2, t.val), (8, 4, x.val), (0, 4, y.val)])) s := rfl
theorem exec_swapShift (m : Master) (t : TileId) (f : Fin 13) (y : Fin 12) (s : State) : exec (.swapShift m t f y) s = run (namedWrite m .sprSwapCtl .hub 0 (mkReg [(63, 1, 1), (18, 2, 1), (16, 2, t.val), (8, 4, f.val), (0, 4, y.val)])) s := rfl
theorem exec_swapAbort (m : Master) (s : State) : exec (.swapAbort m) s = run (namedWrite m .sprSwapCtl .hub 0 (mkReg [(62, 1, 1)])) s := rfl
theorem exec_swapPrepareDone (ok : Bool) (s : State) : exec (.swapPrepareDone ok) s = run (fun d => d.on (swapPrepareDone ok)) s := rfl
theorem exec_swapDrainDone (s : State) : exec (.swapDrainDone) s = run (fun d => d.on (swapDrainDone)) s := rfl
theorem exec_swapCopyDone (s : State) : exec (.swapCopyDone) s = run (fun d => d.on (swapCopyDone)) s := rfl
theorem exec_sprRowCtlGo (m : Master) (v : BitVec 64) (s : State) : exec (.sprRowCtlGo m v) s = run (namedWrite m .sprRowCtl .hub 0 (setFld v 63 1 1)) s := rfl
theorem exec_rowSpareCopy (ecc : Ecc) (s : State) : exec (.rowSpareCopy ecc) s = run (rowCopy ecc) s := rfl
theorem exec_sprGmapWrite (m : Master) (n : Fin 48) (v : BitVec 64) (s : State) : exec (.sprGmapWrite m n v) s = run (namedWrite m .sprGmap .hub n.val v) s := rfl
theorem exec_ageSample (n : Fin 624) (slow : BitVec 16) (s : State) : exec (.ageSample n slow) s = run (fun d => d.on (ageSample n.val slow.toNat)) s := rfl
theorem exec_puhanQwr (p : Packet) (ue : Bool) (s : State) : exec (.puhanQwr p ue) s = run (qwrCmd p ue) s := rfl
theorem exec_puhanMwr (p : Packet) (ecc : Ecc) (s : State) : exec (.puhanMwr p ecc) s = run (takePkt [0x02] p (fun keep d => puhanMem p ecc keep d)) s := rfl
theorem exec_puhanNtc (p : Packet) (s : State) : exec (.puhanNtc p) s = run (takePkt [0x03] p (fun _ d => d.on (puhanNtc p))) s := rfl
theorem exec_puhanMrd (p : Packet) (ecc : Ecc) (s : State) : exec (.puhanMrd p ecc) s = run (takePkt [0x08] p (fun keep d => puhanMem p ecc keep d)) s := rfl
theorem exec_puhanFadd (p : Packet) (ecc : Ecc) (s : State) : exec (.puhanFadd p ecc) s = run (takePkt [0x09] p (fun keep d => puhanMem p ecc keep d)) s := rfl
theorem exec_puhanSwap (p : Packet) (ecc : Ecc) (s : State) : exec (.puhanSwap p ecc) s = run (takePkt [0x0A] p (fun keep d => puhanMem p ecc keep d)) s := rfl
theorem exec_puhanQrd (p : Packet) (s : State) : exec (.puhanQrd p) s = run (qrdCmd p) s := rfl
theorem exec_puhanCpl (p : Packet) (s : State) : exec (.puhanCpl p) s = run (takePkt [0x10, 0x11] p (fun _ d => d.on (puhanCpl p))) s := rfl
theorem exec_puhanQcq (p : Packet) (s : State) : exec (.puhanQcq p) s = run (takePkt [0x18] p (fun _ d => d.on (puhanQcq p))) s := rfl
theorem exec_puhanQcg (p : Packet) (s : State) : exec (.puhanQcg p) s = run (takePkt [0x19] p (fun _ d => d.on (puhanQcg p))) s := rfl
theorem exec_puhanMsg (p : Packet) (s : State) : exec (.puhanMsg p) s = run (takePkt [0x1A] p (fun _ d => d.on (puhanMsg p))) s := rfl
theorem exec_puhanEvt (e : Fin 5120) (s : State) : exec (.puhanEvt e) s = run (fun d => d.on (hubArrival e.val)) s := rfl
theorem exec_puhanLck (t : TileId) (op : Fin 4) (s : State) : exec (.puhanLck t op) s = run (fun d => d.on (puhanLck t.val op.val)) s := rfl
theorem exec_queueCreditGrant (q : Fin 16384) (s : State) : exec (.queueCreditGrant q) s = run (fun d => d.on (creditGrant q.val)) s := rfl
theorem exec_streamReclaim (q : Fin 16384) (i : Fin 8) (s : State) : exec (.streamReclaim q i) s = run (fun d => d.on (streamReclaim q.val i.val)) s := rfl
theorem exec_assemblyIdleLimit (q : Fin 16384) (i : Fin 264) (s : State) : exec (.assemblyIdleLimit q i) s = run (fun d => d.on (idleLimit q.val i.val)) s := rfl
theorem exec_requestTimeout (r : ReqRef) (s : State) : exec (.requestTimeout r) s = run (fun d => d.on (requestTimeout r)) s := rfl
theorem exec_vcountDecay (n : Fin 2048) (s : State) : exec (.vcountDecay n) s = run (fun d => d.on (vcountDecay n.val)) s := rfl
theorem exec_quarantineClear (m : Master) (n : Fin 2048) (s : State) : exec (.quarantineClear m n) s = run (fieldWrite m .fabVl .hub n.val [(62, 1, 1)]) s := rfl
theorem exec_drainSend (q : Fin 16384) (s : State) : exec (.drainSend q) s = run (drainSend q.val) s := rfl
theorem exec_drainCreditRetry (q : Fin 16384) (s : State) : exec (.drainCreditRetry q) s = run (fun d => d.on (drainRetry q.val)) s := rfl
theorem exec_transitForward (p : Packet) (s : State) : exec (.transitForward p) s = run (forwardCmd p) s := rfl
theorem exec_flitTransmit (k : LinkRef) (pkts : List (List TWord)) (s : State) : exec (.flitTransmit k pkts) s = run (fun d => d.on (flitTransmit (endOf k) pkts)) s := rfl
theorem exec_dataFlitRx (k : LinkRef) (fec : Fin 3) (f : Flit) (s : State) : exec (.dataFlitRx k fec f) s = run (fun d => d.on (dataFlitRx (endOf k) fec.val f)) s := rfl
theorem exec_nakRx (k : LinkRef) (f : Flit) (s : State) : exec (.nakRx k f) s = run (fun d => d.on (nakRx (endOf k) f)) s := rfl
theorem exec_initRx (k : LinkRef) (f : Flit) (s : State) : exec (.initRx k f) s = run (fun d => d.on (initRx (endOf k) f)) s := rfl
theorem exec_idleFlitRx (k : LinkRef) (f : Flit) (s : State) : exec (.idleFlitRx k f) s = run (fun d => d.on (idleFlitRx (endOf k) f)) s := rfl
theorem exec_replayTimeout (k : LinkRef) (s : State) : exec (.replayTimeout k) s = run (fun d => d.on (replayTimeout (endOf k))) s := rfl
theorem exec_retrainComplete (k : LinkRef) (f0 : List Nat) (f1 : List Nat) (s : State) : exec (.retrainComplete k f0 f1) s = run (fun d => d.on (retrainComplete (endOf k) f0 f1)) s := rfl
theorem exec_lossOfSignal (p : Fin 8) (lanes : Fin 9) (s : State) : exec (.lossOfSignal p lanes) s = run (fun d => d.on (lossOfSignal p.val lanes.val)) s := rfl
theorem exec_portTrained (k : LinkRef) (s : State) : exec (.portTrained k) s = run (fun d => d.on (portTrained (endOf k))) s := rfl
theorem exec_laneMarginSample (port : Bool) (n : Nat) (ser : Nat) (m0 : BitVec 16) (m1 : BitVec 16) (s : State) : exec (.laneMarginSample port n ser m0 m1) s = run (fun d => d.on (laneCmd port n ser m0.toNat m1.toNat)) s := rfl
theorem exec_lnkRetrainReq (m : Master) (p : Fin 8) (s : State) : exec (.lnkRetrainReq m p) s = run (fieldWrite m .lnkCtl .hub p.val [(62, 1, 1)]) s := rfl
theorem exec_lnkDownReq (m : Master) (p : Fin 8) (s : State) : exec (.lnkDownReq m p) s = run (fieldWrite m .lnkCtl .hub p.val [(61, 1, 1)]) s := rfl
theorem exec_lnkFailoverReq (m : Master) (p : Fin 8) (lane : Fin 8) (rx : Bool) (s : State) : exec (.lnkFailoverReq m p lane rx) s = run (fieldWrite m .lnkCtl .hub p.val [(60, 1, 1), (57, 3, lane.val), (56, 1, b2n rx)]) s := rfl
theorem exec_lnkEnable (m : Master) (p : Fin 8) (en : Bool) (s : State) : exec (.lnkEnable m p en) s = run (fieldWrite m .lnkCtl .hub p.val [(63, 1, b2n en)]) s := rfl
theorem exec_d2dRetrainReq (m : Master) (k : Fin 12) (s : State) : exec (.d2dRetrainReq m k) s = run (fieldWrite m .d2dCtl .hub k.val [(63, 1, 1)]) s := rfl
theorem exec_d2dRepairReq (m : Master) (k : Fin 12) (lane : Fin 128) (dir : Bool) (s : State) : exec (.d2dRepairReq m k lane dir) s = run (fieldWrite m .d2dCtl .hub k.val [(62, 1, 1), (55, 7, lane.val), (54, 1, b2n dir)]) s := rfl
theorem exec_fiShot (m : Master) (k : LinkRef) (s : State) : exec (.fiShot m k) s = run (fiShotCmd m k) s := rfl
theorem exec_discoveryStart (s : State) : exec (.discoveryStart) s = run (fun d => d.on (discoveryStart)) s := rfl
theorem exec_scanSilentTimeout (s : State) : exec (.scanSilentTimeout) s = run (fun d => d.on (scanTimeout)) s := rfl
theorem exec_msgProbe (s : State) : exec (.msgProbe) s = run (msgCmd 0x01) s := rfl
theorem exec_msgIdent (s : State) : exec (.msgIdent) s = run (msgCmd 0x02) s := rfl
theorem exec_msgScan (s : State) : exec (.msgScan) s = run (msgCmd 0x03) s := rfl
theorem exec_msgScanRpt (s : State) : exec (.msgScanRpt) s = run (msgCmd 0x04) s := rfl
theorem exec_msgAssign (s : State) : exec (.msgAssign) s = run (msgCmd 0x05) s := rfl
theorem exec_msgAck (s : State) : exec (.msgAck) s = run (msgCmd 0x06) s := rfl
theorem exec_msgRoutes (s : State) : exec (.msgRoutes) s = run (msgCmd 0x07) s := rfl
theorem exec_msgRelay (s : State) : exec (.msgRelay) s = run (msgCmd 0x08) s := rfl
theorem exec_msgCommit (s : State) : exec (.msgCommit) s = run (msgCmd 0x09) s := rfl
theorem exec_msgAnnounce (s : State) : exec (.msgAnnounce) s = run (msgCmd 0x0A) s := rfl
theorem exec_msgJoinReq (s : State) : exec (.msgJoinReq) s = run (msgCmd 0x0B) s := rfl
theorem exec_msgFwData (s : State) : exec (.msgFwData) s = run (msgCmd 0x10) s := rfl
theorem exec_msgPersData (s : State) : exec (.msgPersData) s = run (msgCmd 0x12) s := rfl
theorem exec_msgTime (s : State) : exec (.msgTime) s = run (msgCmd 0x20) s := rfl
theorem exec_msgReport (s : State) : exec (.msgReport) s = run (msgCmd 0x30) s := rfl
theorem exec_timeSyncPeriod (s : State) : exec (.timeSyncPeriod) s = run (fun d => d.on (timeSync)) s := rfl
theorem exec_fwDataResend (s : State) : exec (.fwDataResend) s = run (fun d => d.on (fwResend)) s := rfl
theorem exec_tbsAdjWrite (m : Master) (v : BitVec 64) (s : State) : exec (.tbsAdjWrite m v) s = run (namedWrite m .tbsAdj .hub 0 v) s := rfl
theorem exec_cfgRxTimeout (s : State) : exec (.cfgRxTimeout) s = run (fun d => d.on (rxTimeout)) s := rfl
theorem exec_bootDeadline (s : State) : exec (.bootDeadline) s = run (fun d => d.reset bootDeadline) s := rfl
theorem exec_tileRelease (t : TileId) (s : State) : exec (.tileRelease t) s = run (tileRelease t.val) s := rfl
theorem exec_icpReplace (t : TileId) (s : State) : exec (.icpReplace t) s = run (icpReplace t.val) s := rfl
theorem exec_icpRead (t : TileId) (s : State) : exec (.icpRead t) s = run (icpRead t.val) s := rfl
theorem exec_icpSlotchk (t : TileId) (ecc : Ecc) (flip : Option (Fin 4096)) (s : State) : exec (.icpSlotchk t ecc flip) s = run (icpSlotchk t.val ecc (flip.map (fun x => x.val))) s := rfl
theorem exec_icpRestore (t : TileId) (s : State) : exec (.icpRestore t) s = run (icpRestore t.val) s := rfl
theorem exec_generationAdvance (t : TileId) (s : State) : exec (.generationAdvance t) s = run (fun d => d.on (genArrive t.val)) s := rfl
theorem exec_rangerUnit (t : TileId) (ecc : Ecc) (flip : Option (Fin 4096)) (s : State) : exec (.rangerUnit t ecc flip) s = run (rangerUnit t.val ecc (flip.map (fun x => x.val))) s := rfl
theorem exec_rangerHeldFetch (t : TileId) (s : State) : exec (.rangerHeldFetch t) s = run (fun d => d.on (heldFetch t.val)) s := rfl
theorem exec_rangerRewrite (t : TileId) (s : State) : exec (.rangerRewrite t) s = run (rangerRewrite t.val) s := rfl
theorem exec_rangerVoteUpset (t : TileId) (reg : Fin 2) (copy : Fin 3) (agree : Bool) (s : State) : exec (.rangerVoteUpset t reg copy agree) s = run (fun d => d.on (voteUpset t.val reg.val copy.val agree)) s := rfl
theorem exec_rangerRestart (m : Master) (t : TileId) (pass : Bool) (s : State) : exec (.rangerRestart m t pass) s = run (restartCmd m t.val pass) s := rfl
theorem exec_mbxCmdDbWrite (fn : Fin 32) (pg : Fin 256) (v : BitVec 64) (s : State) : exec (.mbxCmdDbWrite fn pg v) s = run (fun d => d.on (hostWrites fn.val pg.val (fun k => cmdDb k v))) s := rfl
theorem exec_mbxRspDbWrite (fn : Fin 32) (pg : Fin 256) (v : BitVec 64) (s : State) : exec (.mbxRspDbWrite fn pg v) s = run (fun d => d.on (hostWrites fn.val pg.val (fun k => rspDb k v))) s := rfl
theorem exec_commandFetch (k : Fin 256) (pkt : List Byte) (rd : RingRead) (s : State) : exec (.commandFetch k pkt rd) s = run (fun d => d.on (commandFetch k.val pkt rd)) s := rfl
theorem exec_responseWrite (k : Fin 256) (s : State) : exec (.responseWrite k) s = run (fun d => d.on (responseWrite k.val)) s := rfl
theorem exec_commandTimeout (k : Fin 256) (i : Nat) (s : State) : exec (.commandTimeout k i) s = run (fun d => d.on (commandTimeout k.val i)) s := rfl
theorem exec_mbxCtlClr (fn : Fin 32) (pg : Fin 256) (s : State) : exec (.mbxCtlClr fn pg) s = run (fun d => d.on (hostWrites fn.val pg.val ctlClr)) s := rfl
theorem exec_mbxRingBaseWrite (fn : Fin 32) (pg : Fin 256) (rsp : Bool) (v : BitVec 64) (s : State) : exec (.mbxRingBaseWrite fn pg rsp v) s = run (fun d => d.on (hostWrites fn.val pg.val (fun k => ringBase rsp k v))) s := rfl
theorem exec_mbxNop (k : Fin 256) (s : State) : exec (.mbxNop k) s = run (mbxNop k.val) s := rfl
theorem exec_identify (k : Fin 256) (s : State) : exec (.identify k) s = run (identify k.val) s := rfl
theorem exec_chanConfig (k : Fin 256) (s : State) : exec (.chanConfig k) s = run (chanConfig k.val) s := rfl
theorem exec_setDeadline (k : Fin 256) (s : State) : exec (.setDeadline k) s = run (setDeadlineCmd k.val) s := rfl
theorem exec_deviceReset (k : Fin 256) (s : State) : exec (.deviceReset k) s = run (deviceReset k.val) s := rfl
theorem exec_fwBegin (k : Fin 256) (s : State) : exec (.fwBegin k) s = run (fwBegin k.val) s := rfl
theorem exec_fwData (k : Fin 256) (s : State) : exec (.fwData k) s = run (fwData k.val) s := rfl
theorem exec_fwEnd (k : Fin 256) (s : State) : exec (.fwEnd k) s = run (fwEnd k.val) s := rfl
theorem exec_persBegin (k : Fin 256) (s : State) : exec (.persBegin k) s = run (persBegin k.val) s := rfl
theorem exec_persData (k : Fin 256) (s : State) : exec (.persData k) s = run (persData k.val) s := rfl
theorem exec_persEnd (k : Fin 256) (s : State) : exec (.persEnd k) s = run (persEnd k.val) s := rfl
theorem exec_persCommit (k : Fin 256) (s : State) : exec (.persCommit k) s = run (persCommit k.val) s := rfl
theorem exec_persAbort (k : Fin 256) (s : State) : exec (.persAbort k) s = run (persAbort k.val) s := rfl
theorem exec_persStatus (k : Fin 256) (s : State) : exec (.persStatus k) s = run (persStatus k.val) s := rfl
theorem exec_sysPlan (k : Fin 256) (s : State) : exec (.sysPlan k) s = run (sysPlan k.val) s := rfl
theorem exec_sysTopology (k : Fin 256) (s : State) : exec (.sysTopology k) s = run (sysTopology k.val) s := rfl
theorem exec_queueWrite (k : Fin 256) (s : State) : exec (.queueWrite k) s = run (queueWrite k.val) s := rfl
theorem exec_queueRead (k : Fin 256) (s : State) : exec (.queueRead k) s = run (queueRead k.val) s := rfl
theorem exec_queueCtl (k : Fin 256) (s : State) : exec (.queueCtl k) s = run (queueCtl k.val) s := rfl
theorem exec_queueStatus (k : Fin 256) (s : State) : exec (.queueStatus k) s = run (queueStatusCmd k.val) s := rfl
theorem exec_taskPost (k : Fin 256) (s : State) : exec (.taskPost k) s = run (taskPost k.val) s := rfl
theorem exec_taskCancel (k : Fin 256) (s : State) : exec (.taskCancel k) s = run (taskCancel k.val) s := rfl
theorem exec_eventPending (k : Fin 256) (s : State) : exec (.eventPending k) s = run (eventPending k.val) s := rfl
theorem exec_eventClear (k : Fin 256) (s : State) : exec (.eventClear k) s = run (eventClear k.val) s := rfl
theorem exec_counterRead (k : Fin 256) (s : State) : exec (.counterRead k) s = run (counterRead k.val) s := rfl
theorem exec_memRead (k : Fin 256) (s : State) : exec (.memRead k) s = run (memRead k.val) s := rfl
theorem exec_memWrite (k : Fin 256) (s : State) : exec (.memWrite k) s = run (memWrite k.val) s := rfl
theorem exec_rlogGet (k : Fin 256) (s : State) : exec (.rlogGet k) s = run (rlogGet k.val) s := rfl
theorem exec_rlogPut (k : Fin 256) (s : State) : exec (.rlogPut k) s = run (rlogPut k.val) s := rfl
theorem exec_attest (k : Fin 256) (s : State) : exec (.attest k) s = run (attest k.val) s := rfl
theorem exec_attestRead (k : Fin 256) (s : State) : exec (.attestRead k) s = run (attestRead k.val) s := rfl
theorem exec_keyProvision (k : Fin 256) (s : State) : exec (.keyProvision k) s = run (recordCmd 0x72 k.val) s := rfl
theorem exec_lifecycleSet (k : Fin 256) (s : State) : exec (.lifecycleSet k) s = run (recordCmd 0x73 k.val) s := rfl
theorem exec_signingDone (s : State) : exec (.signingDone) s = run (fun d => d.on (signingDone)) s := rfl
theorem exec_otpBurnDone (ok : Bool) (s : State) : exec (.otpBurnDone ok) s = run (fun d => d.on (burnDone ok)) s := rfl
theorem exec_secExtend (m : Master) (r : Fin 8) (s : State) : exec (.secExtend m r) s = run (namedWrite m .secExtCtl .hub 0 (mkReg [(63, 1, 1), (0, 3, r.val)])) s := rfl
theorem exec_romBoot (s : State) : exec (.romBoot) s = run (romBoot) s := rfl
theorem exec_pciFlr (fn : Fin 32) (s : State) : exec (.pciFlr fn) s = run (fun d => d.on (pciFlr fn.val)) s := rfl
theorem exec_hotReset (s : State) : exec (.hotReset) s = run (fun d => d.on (hotReset)) s := rfl
theorem exec_pciLinkChange (up : Bool) (flit : Bool) (rate : Fin 8) (width : Fin 32) (s : State) : exec (.pciLinkChange up flit rate width) s = run (fun d => d.on (pciLink up flit rate.val width.val)) s := rfl
theorem exec_msixUnmask (v : Fin 2048) (s : State) : exec (.msixUnmask v) s = run (fun d => d.on (msixUnmask v.val)) s := rfl
theorem exec_por (s : State) : exec (.por) s = run (por) s := rfl
theorem exec_warmReset (cause : Fin 3) (s : State) : exec (.warmReset cause) s = run (warm (cause.val + 1)) s := rfl
theorem exec_railFault (r : Fin 8) (brown : Bool) (s : State) : exec (.railFault r brown) s = run (railFault r.val brown) s := rfl
theorem exec_xinDetect (s : State) : exec (.xinDetect) s = run (fun d => d.on (xinDetect)) s := rfl
theorem exec_hubReset (m : Master) (s : State) : exec (.hubReset m) s = run (namedWrite m .rstCtl .hub 0 (mkReg [(63, 1, 1)])) s := rfl
theorem exec_internalReset (m : Master) (s : State) : exec (.internalReset m) s = run (namedWrite m .rstCtl .hub 0 (mkReg [(62, 1, 1)])) s := rfl
theorem exec_tileReset (m : Master) (t : TileId) (s : State) : exec (.tileReset m t) s = run (namedWrite m .rstCtl .hub 0 (mkReg [(t.val, 1, 1)])) s := rfl
theorem exec_rstGrove (m : Master) (g : GroveId) (s : State) : exec (.rstGrove m g) s = run (namedWrite m .rstGrove .hub 0 (mkReg [(63, 1, 1), (8, 2, g.t.val), (0, 8, (gOf g))])) s := rfl
theorem exec_avsUpdate (answered : Bool) (need : Nat) (s : State) : exec (.avsUpdate answered need) s = run (fun d => d.on (avsUpdate answered need)) s := rfl
theorem exec_pllUnlock (n : Fin 12) (s : State) : exec (.pllUnlock n) s = run (fun d => d.on (pllUnlock n.val)) s := rfl
theorem exec_tilePllOffEntry (t : TileId) (s : State) : exec (.tilePllOffEntry t) s = run (fun d => d.on (tilePllOff t.val)) s := rfl
theorem exec_tileWakeDone (t : TileId) (s : State) : exec (.tileWakeDone t) s = run (fun d => d.on (tileWakeDone t.val)) s := rfl
theorem exec_pwrWake (m : Master) (t : TileId) (g : Option GroveId) (s : State) : exec (.pwrWake m t g) s = run (namedWrite m .pwrWake .hub 0 (mkReg [(63, 1, 1), (8, 2, wakeTile t g), (0, 8, (g.map gOf).getD 255)])) s := rfl
theorem exec_clkTileWrite (m : Master) (t : TileId) (v : BitVec 64) (s : State) : exec (.clkTileWrite m t v) s = run (namedWrite m .clkTile .hub t.val v) s := rfl
theorem exec_groveRetentionEntry (g : GroveId) (s : State) : exec (.groveRetentionEntry g) s = run (fun d => d.on (groveRetention g.t.val (gOf g))) s := rfl
theorem exec_wdgFwSvc (m : Master) (v : BitVec 64) (s : State) : exec (.wdgFwSvc m v) s = run (namedWrite m .wdgFwSvc .hub 0 v) s := rfl
theorem exec_wdgDevSvc (m : Master) (v : BitVec 64) (s : State) : exec (.wdgDevSvc m v) s = run (namedWrite m .wdgDevSvc .hub 0 v) s := rfl
theorem exec_wdgCtlWrite (m : Master) (dev : Bool) (v : BitVec 64) (s : State) : exec (.wdgCtlWrite m dev v) s = run (namedWrite m (if dev then .wdgDevCtl else .wdgFwCtl) .hub 0 v) s := rfl
theorem exec_wdgFwWarn (s : State) : exec (.wdgFwWarn) s = run (fun d => d.on (wdgFwWarn)) s := rfl
theorem exec_wdgDevWarn (s : State) : exec (.wdgDevWarn) s = run (fun d => d.on (wdgDevWarn)) s := rfl
theorem exec_wdgFwExpiry (s : State) : exec (.wdgFwExpiry) s = run (fun d => d.on (wdgFwExpiry)) s := rfl
theorem exec_wdgDevExpiry (s : State) : exec (.wdgDevExpiry) s = run (fun d => d.reset wdgDevExpiry) s := rfl
theorem exec_lineReset (s : State) : exec (.lineReset) s = run (fun d => d.on (dbgLineReset)) s := rfl
theorem exec_rd (f : DbgFrame) (ecc : Ecc) (s : State) : exec (.rd f ecc) s = run (dbgFrame 1 f ecc) s := rfl
theorem exec_rdq (f : DbgFrame) (ecc : Ecc) (s : State) : exec (.rdq f ecc) s = run (dbgFrame 2 f ecc) s := rfl
theorem exec_wr (f : DbgFrame) (ecc : Ecc) (s : State) : exec (.wr f ecc) s = run (dbgFrame 3 f ecc) s := rfl
theorem exec_rdi (f : DbgFrame) (ecc : Ecc) (s : State) : exec (.rdi f ecc) s = run (dbgFrame 4 f ecc) s := rfl
theorem exec_rdqi (f : DbgFrame) (ecc : Ecc) (s : State) : exec (.rdqi f ecc) s = run (dbgFrame 5 f ecc) s := rfl
theorem exec_wri (f : DbgFrame) (ecc : Ecc) (s : State) : exec (.wri f ecc) s = run (dbgFrame 6 f ecc) s := rfl
theorem exec_prd (f : DbgFrame) (ecc : Ecc) (s : State) : exec (.prd f ecc) s = run (dbgFrame 7 f ecc) s := rfl
theorem exec_pwr (f : DbgFrame) (ecc : Ecc) (s : State) : exec (.pwr f ecc) s = run (dbgFrame 8 f ecc) s := rfl
theorem exec_debugReadComplete (ecc : Ecc) (s : State) : exec (.debugReadComplete ecc) s = run (dbgReadComplete ecc) s := rfl
theorem exec_dbgPortAbort (s : State) : exec (.dbgPortAbort) s = run (fun d => d.on (dbgAbort)) s := rfl
theorem exec_dbgPortClr (s : State) : exec (.dbgPortClr) s = run (fun d => d.on (dbgClr)) s := rfl
theorem exec_dbgHaltRequest (m : Master) (x : HaltTarget) (s : State) : exec (.dbgHaltRequest m x) s = run (namedWrite m .dbgHaltCmd .hub 0 (haltValue 0 x false 0)) s := rfl
theorem exec_haltTakesEffect (x : HaltTarget) (s : State) : exec (.haltTakesEffect x) s = run (fun d => d.on (haltEffect x)) s := rfl
theorem exec_dbgRelease (m : Master) (x : HaltTarget) (s : State) : exec (.dbgRelease m x) s = run (namedWrite m .dbgHaltCmd .hub 0 (haltValue 1 x false 0)) s := rfl
theorem exec_dbgStep (m : Master) (x : HaltTarget) (instr : Bool) (n : BitVec 16) (s : State) : exec (.dbgStep m x instr n) s = run (namedWrite m .dbgHaltCmd .hub 0 (haltValue 2 x instr n.toNat)) s := rfl
theorem exec_stepCountDone (x : HaltTarget) (s : State) : exec (.stepCountDone x) s = run (stepDone x) s := rfl
theorem exec_uioOutWrite (m : Master) (v : BitVec 64) (s : State) : exec (.uioOutWrite m v) s = run (namedWrite m .uioOut .hub 0 v) s := rfl
theorem exec_uioOutSet (m : Master) (v : BitVec 64) (s : State) : exec (.uioOutSet m v) s = run (namedWrite m .uioOutSet .hub 0 v) s := rfl
theorem exec_uioOutClr (m : Master) (v : BitVec 64) (s : State) : exec (.uioOutClr m v) s = run (namedWrite m .uioOutClr .hub 0 v) s := rfl
theorem exec_uioOeWrite (m : Master) (v : BitVec 64) (s : State) : exec (.uioOeWrite m v) s = run (namedWrite m .uioOe .hub 0 v) s := rfl
theorem exec_uioTrigAtWrite (m : Master) (k : Fin 8) (v : BitVec 64) (s : State) : exec (.uioTrigAtWrite m k v) s = run (namedWrite m .uioTrigAt .hub k.val v) s := rfl
theorem exec_trigOutPulseStart (k : Fin 8) (s : State) : exec (.trigOutPulseStart k) s = run (fun d => d.on (trigPulse k.val)) s := rfl
theorem exec_pulseEnd (n : Fin 48) (s : State) : exec (.pulseEnd n) s = run (fun d => d.on (pulseEnd n.val)) s := rfl
theorem exec_tbOutPulse (n : Fin 48) (s : State) : exec (.tbOutPulse n) s = run (fun d => d.on (tbPulse n.val)) s := rfl
theorem exec_trigInEdge (k : Fin 16) (rising : Bool) (s : State) : exec (.trigInEdge k rising) s = run (fun d => d.on (trigInEdge k.val rising)) s := rfl
theorem exec_ppsInEdge (rising : Bool) (s : State) : exec (.ppsInEdge rising) s = run (fun d => d.on (ppsInEdge rising)) s := rfl
theorem exec_ppsHoldover (s : State) : exec (.ppsHoldover) s = run (fun d => d.on (ppsHoldover)) s := rfl
theorem exec_delayLineCalibration (s : State) : exec (.delayLineCalibration) s = run (fun d => d.on (delayCalibration)) s := rfl
theorem exec_pllRelock (n : Fin 12) (late : Bool) (s : State) : exec (.pllRelock n late) s = run (pllRelock n.val late) s := rfl
theorem exec_railInRange (r : Fin 8) (s : State) : exec (.railInRange r) s = run (fun d => d.on (railInRange r.val)) s := rfl
theorem exec_gpioPinEdge (n : Fin 48) (level : Bool) (s : State) : exec (.gpioPinEdge n level) s = run (fun d => d.on (gpioPinEdge n.val level)) s := rfl
theorem exec_configurationRequest (q : CfgReq) (s : State) : exec (.configurationRequest q) s = run (fun d => d.on (configRequest q)) s := rfl
theorem exec_reservedFrame (op : BitVec 4) (f : DbgFrame) (s : State) : exec (.reservedFrame op f) s = run (reservedFrame op.toNat f) s := rfl
theorem exec_reservedTypePacket (p : Packet) (s : State) : exec (.reservedTypePacket p) s = run (reservedCmd p) s := rfl
theorem exec_timeBaseSlewEnd (s : State) : exec (.timeBaseSlewEnd) s = run (fun d => d.on (slewEnd)) s := rfl

end Sys2Proof.Machine
end

