-- ==== Sys2Proof/Laws/Store.lean ====
section
/-!
SUPPORT. Sparse maps and the byte memory: what is read after a write, that keys keep rising, and that every memory operation keeps the canonical form.
-/
namespace Sys2Proof.Machine

variable {α : Type}

/-- A key just kept is found. -/
@[simp] theorem kfind_kset_same (m : KMap α) (k : Nat) (v : α) : kfind? (kset m k v) k = some v := by
  induction m with
  | nil => simp [kset, kfind?]
  | cons x r ih =>
    obtain ⟨a, w⟩ := x
    simp only [kset]
    split
    · simp [kfind?]
    · split
      · simp [kfind?]
      · next h2 => simp [kfind?, h2, ih]

/-- Keeping a key changes no other. -/
theorem kfind_kset_ne (m : KMap α) (k j : Nat) (v : α) (h : j ≠ k) : kfind? (kset m k v) j = kfind? m j := by
  induction m with
  | nil => simp [kset, kfind?, Ne.symm h]
  | cons x r ih =>
    obtain ⟨a, w⟩ := x
    simp only [kset]
    split
    · simp [kfind?, Ne.symm h]
    · split
      · next h2 => subst h2; simp [kfind?, Ne.symm h]
      · simp only [kfind?]
        split
        · rfl
        · exact ih

/-- Reading a key just kept. -/
@[simp] theorem kget_kset_same (m : KMap α) (d : α) (k : Nat) (v : α) : kget d (kset m k v) k = v := by simp [kget]

/-- Reading another key. -/
theorem kget_kset_ne (m : KMap α) (d : α) (k j : Nat) (v : α) (h : j ≠ k) : kget d (kset m k v) j = kget d m j := by
  simp [kget, kfind_kset_ne m k j v h]

/-- Keeping a key twice keeps the last value. -/
@[simp] theorem kset_kset_same (m : KMap α) (k : Nat) (v w : α) : kset (kset m k v) k w = kset m k w := by
  induction m with
  | nil => simp [kset]
  | cons x r ih =>
    obtain ⟨a, u⟩ := x
    simp only [kset]
    split
    · simp [kset]
    · split
      · simp [kset]
      · next h1 h2 => simp [kset, h1, h2, ih]

/-- Rising keys stay rising when one not below the bound is kept. -/
theorem krise_kset (m : KMap α) (k lo : Nat) (v : α) (hk : lo ≤ k) (h : krise lo m = true) : krise lo (kset m k v) = true := by
  induction m generalizing lo with
  | nil => simp [kset, krise, hk]
  | cons x r ih =>
    obtain ⟨a, w⟩ := x
    simp only [krise, Bool.and_eq_true, decide_eq_true_eq] at h
    simp only [kset]
    split
    · next h1 =>
      simp only [krise, Bool.and_eq_true, decide_eq_true_eq]
      exact ⟨hk, by omega, h.2⟩
    · split
      · next h2 => subst h2; simp [krise, h]
      · next h1 h2 =>
        simp only [krise, Bool.and_eq_true, decide_eq_true_eq]
        exact ⟨h.1, ih (a + 1) (by omega) h.2⟩

/-- A lower bound of the keys may be lowered. -/
theorem krise_mono (m : KMap α) (lo hi : Nat) (hle : lo ≤ hi) (h : krise hi m = true) : krise lo m = true := by
  cases m with
  | nil => rfl
  | cons x r =>
    simp only [krise, Bool.and_eq_true, decide_eq_true_eq] at h ⊢
    exact ⟨by omega, h.2⟩

/-- Rising keys stay rising when one is forgotten. -/
theorem krise_kdel (m : KMap α) (k lo : Nat) (h : krise lo m = true) : krise lo (kdel m k) = true := by
  induction m generalizing lo with
  | nil => rfl
  | cons x r ih =>
    obtain ⟨a, w⟩ := x
    simp only [krise, Bool.and_eq_true, decide_eq_true_eq] at h
    simp only [kdel]
    split
    · simp [krise, h]
    · split
      · exact krise_mono r lo (a + 1) (by omega) h.2
      · simp only [krise, Bool.and_eq_true, decide_eq_true_eq]
        exact ⟨h.1, ih (a + 1) h.2⟩

/-- Rising keys stay rising when some are filtered out. -/
theorem krise_filter (m : KMap α) (p : Nat × α → Bool) (lo : Nat) (h : krise lo m = true) : krise lo (m.filter p) = true := by
  induction m generalizing lo with
  | nil => rfl
  | cons x r ih =>
    obtain ⟨a, w⟩ := x
    simp only [krise, Bool.and_eq_true, decide_eq_true_eq] at h
    simp only [List.filter_cons]
    split
    · simp only [krise, Bool.and_eq_true, decide_eq_true_eq]
      exact ⟨h.1, ih (a + 1) h.2⟩
    · exact krise_mono _ lo (a + 1) (by omega) (ih (a + 1) h.2)

/-- What a kept key's list holds: the value kept, or values that were there. -/
theorem all_kset (m : KMap α) (p : Nat × α → Bool) (k : Nat) (v : α) (hv : p (k, v) = true) (h : m.all p = true) : (kset m k v).all p = true := by
  induction m with
  | nil => simp [kset, hv]
  | cons x r ih =>
    obtain ⟨a, w⟩ := x
    simp only [List.all_cons, Bool.and_eq_true] at h
    simp only [kset]
    split
    · simp [hv, h.1]; simpa using h.2
    · split
      · simp [hv]; simpa using h.2
      · simp only [List.all_cons, Bool.and_eq_true]
        exact ⟨h.1, ih h.2⟩

/-- What is left after a key is forgotten was there. -/
theorem all_kdel (m : KMap α) (p : Nat × α → Bool) (k : Nat) (h : m.all p = true) : (kdel m k).all p = true := by
  induction m with
  | nil => rfl
  | cons x r ih =>
    obtain ⟨a, w⟩ := x
    simp only [List.all_cons, Bool.and_eq_true] at h
    simp only [kdel]
    split
    · simp only [List.all_cons, Bool.and_eq_true]; exact h
    · split
      · exact h.2
      · simp only [List.all_cons, Bool.and_eq_true]
        exact ⟨h.1, ih h.2⟩

/-! ### The byte memory -/

/-- A memory with nothing listed is in canonical form. -/
theorem Mem.wf_nil : Mem.wf [] = true := rfl

/-- Writing a byte keeps the canonical form. -/
theorem Mem.wf_write (m : Mem) (a : Nat) (b : Byte) (h : Mem.wf m = true) : Mem.wf (Mem.write m a b) = true := by
  simp only [Mem.wf, Bool.and_eq_true] at h ⊢
  unfold Mem.write
  split
  · exact ⟨krise_kdel m a 0 h.1, all_kdel m _ a h.2⟩
  · next hb => exact ⟨krise_kset m a 0 b (Nat.zero_le a) h.1, all_kset m _ a b (by simpa using hb) h.2⟩

/-- Storing bytes keeps the canonical form. -/
theorem Mem.wf_store (m : Mem) (a n v : Nat) (h : Mem.wf m = true) : Mem.wf (Mem.store m a n v) = true := by
  induction n generalizing m a v with
  | zero => exact h
  | succ n ih => exact ih _ _ _ (Mem.wf_write m a _ h)

/-- Zeroing a range keeps the canonical form. -/
theorem Mem.wf_zero (m : Mem) (lo n : Nat) (h : Mem.wf m = true) : Mem.wf (Mem.zero m lo n) = true := by
  simp only [Mem.wf, Bool.and_eq_true] at h ⊢
  refine ⟨krise_filter m _ 0 h.1, ?_⟩
  have h2 := h.2
  rw [List.all_eq_true] at h2 ⊢
  intro x hx
  exact h2 x (List.mem_filter.1 hx).1

/-- In a canonical memory a key below the bound is not listed. -/
theorem kfind_below (m : KMap α) (k lo : Nat) (hk : k < lo) (h : krise lo m = true) : kfind? m k = none := by
  induction m generalizing lo with
  | nil => rfl
  | cons x r ih =>
    obtain ⟨a, w⟩ := x
    simp only [krise, Bool.and_eq_true, decide_eq_true_eq] at h
    simp only [kfind?]
    rw [if_neg (by omega)]
    exact ih (a + 1) (by omega) h.2

/-- A forgotten key is not found, where keys rise. -/
theorem kfind_kdel_same (m : KMap α) (k lo : Nat) (h : krise lo m = true) : kfind? (kdel m k) k = none := by
  induction m generalizing lo with
  | nil => rfl
  | cons x r ih =>
    obtain ⟨a, w⟩ := x
    simp only [krise, Bool.and_eq_true, decide_eq_true_eq] at h
    simp only [kdel]
    split
    · next h1 => simp only [kfind?]; rw [if_neg (by omega)]; exact kfind_below r k (a + 1) (by omega) h.2
    · split
      · next h2 => subst h2; exact kfind_below r a (a + 1) (by omega) h.2
      · next h1 h2 => simp only [kfind?]; rw [if_neg h2]; exact ih (a + 1) h.2

/-- Forgetting a key changes no other. -/
theorem kfind_kdel_ne (m : KMap α) (k j : Nat) (h : j ≠ k) : kfind? (kdel m k) j = kfind? m j := by
  induction m with
  | nil => rfl
  | cons x r ih =>
    obtain ⟨a, w⟩ := x
    simp only [kdel]
    split
    · rfl
    · split
      · next h2 => subst h2; simp [kfind?, Ne.symm h]
      · simp only [kfind?, ih]

/-- A byte just written is read. -/
theorem Mem.read_write_same (m : Mem) (a : Nat) (b : Byte) (h : Mem.wf m = true) : Mem.read (Mem.write m a b) a = b := by
  simp only [Mem.wf, Bool.and_eq_true] at h
  unfold Mem.read Mem.write
  split
  · next hb => simp [kget, kfind_kdel_same m a 0 h.1, hb]
  · simp

/-- Writing a byte changes no other. -/
theorem Mem.read_write_ne (m : Mem) (a j : Nat) (b : Byte) (h : j ≠ a) : Mem.read (Mem.write m a b) j = Mem.read m j := by
  unfold Mem.read Mem.write
  split
  · simp [kget, kfind_kdel_ne m a j h]
  · exact kget_kset_ne m _ a j b h

/-- Storing `n` bytes changes no byte outside them. -/
theorem Mem.read_store_outside (m : Mem) (a n v j : Nat) (h : j < a ∨ a + n ≤ j) : Mem.read (Mem.store m a n v) j = Mem.read m j := by
  induction n generalizing m a v with
  | zero => rfl
  | succ n ih =>
    simp only [Mem.store]
    rw [ih _ _ _ (by omega), Mem.read_write_ne _ _ _ _ (by omega)]

end Sys2Proof.Machine
end

