-- ==== Sys2Proof/Laws/State.lean ====
section
/-!
SUPPORT. The parts of the device after each update: one lemma for each field and update, and what an accessor reads after an update.
-/
namespace Sys2Proof.Machine

/-! ### The device and the state -/

/-- The memory after a change of the rest. -/
@[simp] theorem Dev.on_mem (d : Dev) (f : Chip → Chip) : (d.on f).mem = d.mem := rfl
/-- The rest after a change of it. -/
@[simp] theorem Dev.on_chip (d : Dev) (f : Chip → Chip) : (d.on f).chip = f d.chip := rfl
/-- Two changes in a row. -/
theorem Dev.on_on (d : Dev) (f h : Chip → Chip) : (d.on f).on h = d.on (fun c => h (f c)) := rfl
/-- A command starts with the memory as it was. -/
@[simp] theorem start_mem (d : Dev) : (start d).mem = d.mem := rfl
/-- The waiting commands after a command. -/
@[simp] theorem after_pending (s : State) (d : Dev) : (after s d).pending = s.pending := rfl
/-- The device after a command. -/
@[simp] theorem after_dev (s : State) (d : Dev) : (after s d).dev = finish s.dev d := rfl

/-! ### Fields -/

/-- `setReg` leaves the groves. -/
@[simp] theorem Chip.setReg_groves (c : Chip) (r : Reg) (s : Site) (i : Nat) (v : BitVec 64) : (c.setReg r s i v).groves = c.groves := rfl
/-- `setReg` leaves the tiles. -/
@[simp] theorem Chip.setReg_tiles (c : Chip) (r : Reg) (s : Site) (i : Nat) (v : BitVec 64) : (c.setReg r s i v).tiles = c.tiles := rfl
/-- `setReg` leaves the events. -/
@[simp] theorem Chip.setReg_evt (c : Chip) (r : Reg) (s : Site) (i : Nat) (v : BitVec 64) : (c.setReg r s i v).evt = c.evt := rfl
/-- `setReg` leaves the hub. -/
@[simp] theorem Chip.setReg_hub (c : Chip) (r : Reg) (s : Site) (i : Nat) (v : BitVec 64) : (c.setReg r s i v).hub = c.hub := rfl
/-- `setReg` leaves the poison of GDDR7. -/
@[simp] theorem Chip.setReg_gdPoison (c : Chip) (r : Reg) (s : Site) (i : Nat) (v : BitVec 64) : (c.setReg r s i v).gdPoison = c.gdPoison := rfl
/-- `setReg` leaves the counter of free values. -/
@[simp] theorem Chip.setReg_fresh (c : Chip) (r : Reg) (s : Site) (i : Nat) (v : BitVec 64) : (c.setReg r s i v).fresh = c.fresh := rfl
/-- `setReg` leaves what the comparators see. -/
@[simp] theorem Chip.setReg_obs (c : Chip) (r : Reg) (s : Site) (i : Nat) (v : BitVec 64) : (c.setReg r s i v).obs = c.obs := rfl
/-- `setReg` leaves what they matched. -/
@[simp] theorem Chip.setReg_hits (c : Chip) (r : Reg) (s : Site) (i : Nat) (v : BitVec 64) : (c.setReg r s i v).hits = c.hits := rfl
/-- `setRf` leaves the groves. -/
@[simp] theorem Chip.setRf_groves (c : Chip) (r : Reg) (s : Site) (i lo w x : Nat) : (c.setRf r s i lo w x).groves = c.groves := rfl
/-- `setRf` leaves the tiles. -/
@[simp] theorem Chip.setRf_tiles (c : Chip) (r : Reg) (s : Site) (i lo w x : Nat) : (c.setRf r s i lo w x).tiles = c.tiles := rfl
/-- `setRf` leaves the events. -/
@[simp] theorem Chip.setRf_evt (c : Chip) (r : Reg) (s : Site) (i lo w x : Nat) : (c.setRf r s i lo w x).evt = c.evt := rfl
/-- `setRf` leaves the hub. -/
@[simp] theorem Chip.setRf_hub (c : Chip) (r : Reg) (s : Site) (i lo w x : Nat) : (c.setRf r s i lo w x).hub = c.hub := rfl
/-- `setRf` leaves the poison of GDDR7. -/
@[simp] theorem Chip.setRf_gdPoison (c : Chip) (r : Reg) (s : Site) (i lo w x : Nat) : (c.setRf r s i lo w x).gdPoison = c.gdPoison := rfl
/-- `setRf` leaves the counter of free values. -/
@[simp] theorem Chip.setRf_fresh (c : Chip) (r : Reg) (s : Site) (i lo w x : Nat) : (c.setRf r s i lo w x).fresh = c.fresh := rfl
/-- `setRf` leaves what the comparators see. -/
@[simp] theorem Chip.setRf_obs (c : Chip) (r : Reg) (s : Site) (i lo w x : Nat) : (c.setRf r s i lo w x).obs = c.obs := rfl
/-- `setRf` leaves what they matched. -/
@[simp] theorem Chip.setRf_hits (c : Chip) (r : Reg) (s : Site) (i lo w x : Nat) : (c.setRf r s i lo w x).hits = c.hits := rfl
/-- `setGrove` leaves the registers. -/
@[simp] theorem Chip.setGrove_regs (c : Chip) (t g : Nat) (v : Grove) : (c.setGrove t g v).regs = c.regs := rfl
/-- `setGrove` leaves the tiles. -/
@[simp] theorem Chip.setGrove_tiles (c : Chip) (t g : Nat) (v : Grove) : (c.setGrove t g v).tiles = c.tiles := rfl
/-- `setGrove` leaves the events. -/
@[simp] theorem Chip.setGrove_evt (c : Chip) (t g : Nat) (v : Grove) : (c.setGrove t g v).evt = c.evt := rfl
/-- `setGrove` leaves the hub. -/
@[simp] theorem Chip.setGrove_hub (c : Chip) (t g : Nat) (v : Grove) : (c.setGrove t g v).hub = c.hub := rfl
/-- `setGrove` leaves the poison of GDDR7. -/
@[simp] theorem Chip.setGrove_gdPoison (c : Chip) (t g : Nat) (v : Grove) : (c.setGrove t g v).gdPoison = c.gdPoison := rfl
/-- `setGrove` leaves the counter of free values. -/
@[simp] theorem Chip.setGrove_fresh (c : Chip) (t g : Nat) (v : Grove) : (c.setGrove t g v).fresh = c.fresh := rfl
/-- `setGrove` leaves what the comparators see. -/
@[simp] theorem Chip.setGrove_obs (c : Chip) (t g : Nat) (v : Grove) : (c.setGrove t g v).obs = c.obs := rfl
/-- `setGrove` leaves what they matched. -/
@[simp] theorem Chip.setGrove_hits (c : Chip) (t g : Nat) (v : Grove) : (c.setGrove t g v).hits = c.hits := rfl
/-- `modGrove` leaves the registers. -/
@[simp] theorem Chip.modGrove_regs (c : Chip) (t g : Nat) (f : Grove → Grove) : (c.modGrove t g f).regs = c.regs := rfl
/-- `modGrove` leaves the tiles. -/
@[simp] theorem Chip.modGrove_tiles (c : Chip) (t g : Nat) (f : Grove → Grove) : (c.modGrove t g f).tiles = c.tiles := rfl
/-- `modGrove` leaves the events. -/
@[simp] theorem Chip.modGrove_evt (c : Chip) (t g : Nat) (f : Grove → Grove) : (c.modGrove t g f).evt = c.evt := rfl
/-- `modGrove` leaves the hub. -/
@[simp] theorem Chip.modGrove_hub (c : Chip) (t g : Nat) (f : Grove → Grove) : (c.modGrove t g f).hub = c.hub := rfl
/-- `modGrove` leaves the poison of GDDR7. -/
@[simp] theorem Chip.modGrove_gdPoison (c : Chip) (t g : Nat) (f : Grove → Grove) : (c.modGrove t g f).gdPoison = c.gdPoison := rfl
/-- `modGrove` leaves the counter of free values. -/
@[simp] theorem Chip.modGrove_fresh (c : Chip) (t g : Nat) (f : Grove → Grove) : (c.modGrove t g f).fresh = c.fresh := rfl
/-- `modGrove` leaves what the comparators see. -/
@[simp] theorem Chip.modGrove_obs (c : Chip) (t g : Nat) (f : Grove → Grove) : (c.modGrove t g f).obs = c.obs := rfl
/-- `modGrove` leaves what they matched. -/
@[simp] theorem Chip.modGrove_hits (c : Chip) (t g : Nat) (f : Grove → Grove) : (c.modGrove t g f).hits = c.hits := rfl
/-- `modRun` leaves the registers. -/
@[simp] theorem Chip.modRun_regs (c : Chip) (t g : Nat) (f : Run → Run) : (c.modRun t g f).regs = c.regs := rfl
/-- `modRun` leaves the tiles. -/
@[simp] theorem Chip.modRun_tiles (c : Chip) (t g : Nat) (f : Run → Run) : (c.modRun t g f).tiles = c.tiles := rfl
/-- `modRun` leaves the events. -/
@[simp] theorem Chip.modRun_evt (c : Chip) (t g : Nat) (f : Run → Run) : (c.modRun t g f).evt = c.evt := rfl
/-- `modRun` leaves the hub. -/
@[simp] theorem Chip.modRun_hub (c : Chip) (t g : Nat) (f : Run → Run) : (c.modRun t g f).hub = c.hub := rfl
/-- `modRun` leaves the poison of GDDR7. -/
@[simp] theorem Chip.modRun_gdPoison (c : Chip) (t g : Nat) (f : Run → Run) : (c.modRun t g f).gdPoison = c.gdPoison := rfl
/-- `modRun` leaves the counter of free values. -/
@[simp] theorem Chip.modRun_fresh (c : Chip) (t g : Nat) (f : Run → Run) : (c.modRun t g f).fresh = c.fresh := rfl
/-- `modRun` leaves what the comparators see. -/
@[simp] theorem Chip.modRun_obs (c : Chip) (t g : Nat) (f : Run → Run) : (c.modRun t g f).obs = c.obs := rfl
/-- `modRun` leaves what they matched. -/
@[simp] theorem Chip.modRun_hits (c : Chip) (t g : Nat) (f : Run → Run) : (c.modRun t g f).hits = c.hits := rfl
/-- `setTile` leaves the registers. -/
@[simp] theorem Chip.setTile_regs (c : Chip) (t : Nat) (v : Tile) : (c.setTile t v).regs = c.regs := rfl
/-- `setTile` leaves the groves. -/
@[simp] theorem Chip.setTile_groves (c : Chip) (t : Nat) (v : Tile) : (c.setTile t v).groves = c.groves := rfl
/-- `setTile` leaves the events. -/
@[simp] theorem Chip.setTile_evt (c : Chip) (t : Nat) (v : Tile) : (c.setTile t v).evt = c.evt := rfl
/-- `setTile` leaves the hub. -/
@[simp] theorem Chip.setTile_hub (c : Chip) (t : Nat) (v : Tile) : (c.setTile t v).hub = c.hub := rfl
/-- `setTile` leaves the poison of GDDR7. -/
@[simp] theorem Chip.setTile_gdPoison (c : Chip) (t : Nat) (v : Tile) : (c.setTile t v).gdPoison = c.gdPoison := rfl
/-- `setTile` leaves the counter of free values. -/
@[simp] theorem Chip.setTile_fresh (c : Chip) (t : Nat) (v : Tile) : (c.setTile t v).fresh = c.fresh := rfl
/-- `setTile` leaves what the comparators see. -/
@[simp] theorem Chip.setTile_obs (c : Chip) (t : Nat) (v : Tile) : (c.setTile t v).obs = c.obs := rfl
/-- `setTile` leaves what they matched. -/
@[simp] theorem Chip.setTile_hits (c : Chip) (t : Nat) (v : Tile) : (c.setTile t v).hits = c.hits := rfl
/-- `modTile` leaves the registers. -/
@[simp] theorem Chip.modTile_regs (c : Chip) (t : Nat) (f : Tile → Tile) : (c.modTile t f).regs = c.regs := rfl
/-- `modTile` leaves the groves. -/
@[simp] theorem Chip.modTile_groves (c : Chip) (t : Nat) (f : Tile → Tile) : (c.modTile t f).groves = c.groves := rfl
/-- `modTile` leaves the events. -/
@[simp] theorem Chip.modTile_evt (c : Chip) (t : Nat) (f : Tile → Tile) : (c.modTile t f).evt = c.evt := rfl
/-- `modTile` leaves the hub. -/
@[simp] theorem Chip.modTile_hub (c : Chip) (t : Nat) (f : Tile → Tile) : (c.modTile t f).hub = c.hub := rfl
/-- `modTile` leaves the poison of GDDR7. -/
@[simp] theorem Chip.modTile_gdPoison (c : Chip) (t : Nat) (f : Tile → Tile) : (c.modTile t f).gdPoison = c.gdPoison := rfl
/-- `modTile` leaves the counter of free values. -/
@[simp] theorem Chip.modTile_fresh (c : Chip) (t : Nat) (f : Tile → Tile) : (c.modTile t f).fresh = c.fresh := rfl
/-- `modTile` leaves what the comparators see. -/
@[simp] theorem Chip.modTile_obs (c : Chip) (t : Nat) (f : Tile → Tile) : (c.modTile t f).obs = c.obs := rfl
/-- `modTile` leaves what they matched. -/
@[simp] theorem Chip.modTile_hits (c : Chip) (t : Nat) (f : Tile → Tile) : (c.modTile t f).hits = c.hits := rfl
/-- `modQueue` leaves the registers. -/
@[simp] theorem Chip.modQueue_regs (c : Chip) (q : Nat) (f : Queue → Queue) : (c.modQueue q f).regs = c.regs := rfl
/-- `modQueue` leaves the groves. -/
@[simp] theorem Chip.modQueue_groves (c : Chip) (q : Nat) (f : Queue → Queue) : (c.modQueue q f).groves = c.groves := rfl
/-- `modQueue` leaves the events. -/
@[simp] theorem Chip.modQueue_evt (c : Chip) (q : Nat) (f : Queue → Queue) : (c.modQueue q f).evt = c.evt := rfl
/-- `modQueue` leaves the hub. -/
@[simp] theorem Chip.modQueue_hub (c : Chip) (q : Nat) (f : Queue → Queue) : (c.modQueue q f).hub = c.hub := rfl
/-- `modQueue` leaves the poison of GDDR7. -/
@[simp] theorem Chip.modQueue_gdPoison (c : Chip) (q : Nat) (f : Queue → Queue) : (c.modQueue q f).gdPoison = c.gdPoison := rfl
/-- `modQueue` leaves the counter of free values. -/
@[simp] theorem Chip.modQueue_fresh (c : Chip) (q : Nat) (f : Queue → Queue) : (c.modQueue q f).fresh = c.fresh := rfl
/-- `modQueue` leaves what the comparators see. -/
@[simp] theorem Chip.modQueue_obs (c : Chip) (q : Nat) (f : Queue → Queue) : (c.modQueue q f).obs = c.obs := rfl
/-- `modQueue` leaves what they matched. -/
@[simp] theorem Chip.modQueue_hits (c : Chip) (q : Nat) (f : Queue → Queue) : (c.modQueue q f).hits = c.hits := rfl
/-- `modDesc` leaves the registers. -/
@[simp] theorem Chip.modDesc_regs (c : Chip) (t n : Nat) (f : Desc → Desc) : (c.modDesc t n f).regs = c.regs := rfl
/-- `modDesc` leaves the groves. -/
@[simp] theorem Chip.modDesc_groves (c : Chip) (t n : Nat) (f : Desc → Desc) : (c.modDesc t n f).groves = c.groves := rfl
/-- `modDesc` leaves the events. -/
@[simp] theorem Chip.modDesc_evt (c : Chip) (t n : Nat) (f : Desc → Desc) : (c.modDesc t n f).evt = c.evt := rfl
/-- `modDesc` leaves the hub. -/
@[simp] theorem Chip.modDesc_hub (c : Chip) (t n : Nat) (f : Desc → Desc) : (c.modDesc t n f).hub = c.hub := rfl
/-- `modDesc` leaves the poison of GDDR7. -/
@[simp] theorem Chip.modDesc_gdPoison (c : Chip) (t n : Nat) (f : Desc → Desc) : (c.modDesc t n f).gdPoison = c.gdPoison := rfl
/-- `modDesc` leaves the counter of free values. -/
@[simp] theorem Chip.modDesc_fresh (c : Chip) (t n : Nat) (f : Desc → Desc) : (c.modDesc t n f).fresh = c.fresh := rfl
/-- `modDesc` leaves what the comparators see. -/
@[simp] theorem Chip.modDesc_obs (c : Chip) (t n : Nat) (f : Desc → Desc) : (c.modDesc t n f).obs = c.obs := rfl
/-- `modDesc` leaves what they matched. -/
@[simp] theorem Chip.modDesc_hits (c : Chip) (t n : Nat) (f : Desc → Desc) : (c.modDesc t n f).hits = c.hits := rfl
/-- `modHub` leaves the registers. -/
@[simp] theorem Chip.modHub_regs (c : Chip) (f : Hub → Hub) : (c.modHub f).regs = c.regs := rfl
/-- `modHub` leaves the groves. -/
@[simp] theorem Chip.modHub_groves (c : Chip) (f : Hub → Hub) : (c.modHub f).groves = c.groves := rfl
/-- `modHub` leaves the tiles. -/
@[simp] theorem Chip.modHub_tiles (c : Chip) (f : Hub → Hub) : (c.modHub f).tiles = c.tiles := rfl
/-- `modHub` leaves the events. -/
@[simp] theorem Chip.modHub_evt (c : Chip) (f : Hub → Hub) : (c.modHub f).evt = c.evt := rfl
/-- `modHub` leaves the poison of GDDR7. -/
@[simp] theorem Chip.modHub_gdPoison (c : Chip) (f : Hub → Hub) : (c.modHub f).gdPoison = c.gdPoison := rfl
/-- `modHub` leaves the counter of free values. -/
@[simp] theorem Chip.modHub_fresh (c : Chip) (f : Hub → Hub) : (c.modHub f).fresh = c.fresh := rfl
/-- `modHub` leaves what the comparators see. -/
@[simp] theorem Chip.modHub_obs (c : Chip) (f : Hub → Hub) : (c.modHub f).obs = c.obs := rfl
/-- `modHub` leaves what they matched. -/
@[simp] theorem Chip.modHub_hits (c : Chip) (f : Hub → Hub) : (c.modHub f).hits = c.hits := rfl
/-- `modLink` leaves the registers. -/
@[simp] theorem Chip.modLink_regs (c : Chip) (k : Nat) (f : LinkEnd → LinkEnd) : (c.modLink k f).regs = c.regs := rfl
/-- `modLink` leaves the groves. -/
@[simp] theorem Chip.modLink_groves (c : Chip) (k : Nat) (f : LinkEnd → LinkEnd) : (c.modLink k f).groves = c.groves := rfl
/-- `modLink` leaves the tiles. -/
@[simp] theorem Chip.modLink_tiles (c : Chip) (k : Nat) (f : LinkEnd → LinkEnd) : (c.modLink k f).tiles = c.tiles := rfl
/-- `modLink` leaves the events. -/
@[simp] theorem Chip.modLink_evt (c : Chip) (k : Nat) (f : LinkEnd → LinkEnd) : (c.modLink k f).evt = c.evt := rfl
/-- `modLink` leaves the poison of GDDR7. -/
@[simp] theorem Chip.modLink_gdPoison (c : Chip) (k : Nat) (f : LinkEnd → LinkEnd) : (c.modLink k f).gdPoison = c.gdPoison := rfl
/-- `modLink` leaves the counter of free values. -/
@[simp] theorem Chip.modLink_fresh (c : Chip) (k : Nat) (f : LinkEnd → LinkEnd) : (c.modLink k f).fresh = c.fresh := rfl
/-- `modLink` leaves what the comparators see. -/
@[simp] theorem Chip.modLink_obs (c : Chip) (k : Nat) (f : LinkEnd → LinkEnd) : (c.modLink k f).obs = c.obs := rfl
/-- `modLink` leaves what they matched. -/
@[simp] theorem Chip.modLink_hits (c : Chip) (k : Nat) (f : LinkEnd → LinkEnd) : (c.modLink k f).hits = c.hits := rfl
/-- `modMbx` leaves the registers. -/
@[simp] theorem Chip.modMbx_regs (c : Chip) (k : Nat) (f : MbxChan → MbxChan) : (c.modMbx k f).regs = c.regs := rfl
/-- `modMbx` leaves the groves. -/
@[simp] theorem Chip.modMbx_groves (c : Chip) (k : Nat) (f : MbxChan → MbxChan) : (c.modMbx k f).groves = c.groves := rfl
/-- `modMbx` leaves the tiles. -/
@[simp] theorem Chip.modMbx_tiles (c : Chip) (k : Nat) (f : MbxChan → MbxChan) : (c.modMbx k f).tiles = c.tiles := rfl
/-- `modMbx` leaves the events. -/
@[simp] theorem Chip.modMbx_evt (c : Chip) (k : Nat) (f : MbxChan → MbxChan) : (c.modMbx k f).evt = c.evt := rfl
/-- `modMbx` leaves the poison of GDDR7. -/
@[simp] theorem Chip.modMbx_gdPoison (c : Chip) (k : Nat) (f : MbxChan → MbxChan) : (c.modMbx k f).gdPoison = c.gdPoison := rfl
/-- `modMbx` leaves the counter of free values. -/
@[simp] theorem Chip.modMbx_fresh (c : Chip) (k : Nat) (f : MbxChan → MbxChan) : (c.modMbx k f).fresh = c.fresh := rfl
/-- `modMbx` leaves what the comparators see. -/
@[simp] theorem Chip.modMbx_obs (c : Chip) (k : Nat) (f : MbxChan → MbxChan) : (c.modMbx k f).obs = c.obs := rfl
/-- `modMbx` leaves what they matched. -/
@[simp] theorem Chip.modMbx_hits (c : Chip) (k : Nat) (f : MbxChan → MbxChan) : (c.modMbx k f).hits = c.hits := rfl

/-! ### Accessors -/

/-- The grove that was changed. -/
@[simp] theorem Chip.grove_modGrove (c : Chip) (t g : Nat) (f : Grove → Grove) : (c.modGrove t g f).grove t g = f (c.grove t g) := by
  simp [Chip.grove, Chip.modGrove, Chip.setGrove]
/-- Two changes of one grove. -/
@[simp] theorem Chip.modGrove_modGrove (c : Chip) (t g : Nat) (f h : Grove → Grove) : (c.modGrove t g f).modGrove t g h = c.modGrove t g (fun x => h (f x)) := by
  simp only [Chip.modGrove, Chip.setGrove, Chip.grove, kget_kset_same, kset_kset_same]
/-- A grove that was not changed. -/
theorem Chip.grove_modGrove_ne (c : Chip) (t g t' g' : Nat) (f : Grove → Grove) (h : gkey t' g' ≠ gkey t g) : (c.modGrove t g f).grove t' g' = c.grove t' g' := by
  simp only [Chip.grove, Chip.modGrove, Chip.setGrove]
  exact kget_kset_ne _ _ _ _ _ h
/-- The tile that was changed. -/
@[simp] theorem Chip.tile_modTile (c : Chip) (t : Nat) (f : Tile → Tile) : (c.modTile t f).tile t = f (c.tile t) := by
  simp [Chip.tile, Chip.modTile, Chip.setTile]
/-- A tile that was not changed. -/
theorem Chip.tile_modTile_ne (c : Chip) (t t' : Nat) (f : Tile → Tile) (h : t' ≠ t) : (c.modTile t f).tile t' = c.tile t' := by
  simp only [Chip.tile, Chip.modTile, Chip.setTile]
  exact kget_kset_ne _ _ _ _ _ h
/-- Groves do not depend on tiles. -/
@[simp] theorem Chip.grove_modTile (c : Chip) (t t' g : Nat) (f : Tile → Tile) : (c.modTile t f).grove t' g = c.grove t' g := rfl
/-- Tiles do not depend on groves. -/
@[simp] theorem Chip.tile_modGrove (c : Chip) (t g t' : Nat) (f : Grove → Grove) : (c.modGrove t g f).tile t' = c.tile t' := rfl
/-- Tiles do not depend on the task of a grove. -/
@[simp] theorem Chip.tile_modRun (c : Chip) (t g t' : Nat) (f : Run → Run) : (c.modRun t g f).tile t' = c.tile t' := rfl
/-- The queue that was changed. -/
@[simp] theorem Chip.queue_modQueue (c : Chip) (q : Nat) (f : Queue → Queue) : (c.modQueue q f).queue q = f (c.queue q) := by
  simp [Chip.queue, Chip.modQueue, kmod]
/-- The register that was stored. -/
@[simp] theorem Chip.reg_setReg (c : Chip) (r : Reg) (s : Site) (i : Nat) (v : BitVec 64) : (c.setReg r s i v).reg r s i = v := by
  simp [Chip.reg, Chip.setReg]
/-- A register at another address. -/
theorem Chip.reg_setReg_ne (c : Chip) (r r' : Reg) (s s' : Site) (i i' : Nat) (v : BitVec 64) (h : r'.addr s' i' ≠ r.addr s i) :
    (c.setReg r s i v).reg r' s' i' = c.reg r' s' i' := by
  simp only [Chip.reg, Chip.setReg]
  exact kget_kset_ne _ _ _ _ _ h
/-- Registers do not depend on groves. -/
@[simp] theorem Chip.reg_modGrove (c : Chip) (t g : Nat) (f : Grove → Grove) (r : Reg) (s : Site) (i : Nat) : (c.modGrove t g f).reg r s i = c.reg r s i := rfl
/-- Registers do not depend on tiles. -/
@[simp] theorem Chip.reg_modTile (c : Chip) (t : Nat) (f : Tile → Tile) (r : Reg) (s : Site) (i : Nat) : (c.modTile t f).reg r s i = c.reg r s i := rfl
/-- Registers do not depend on the hub. -/
@[simp] theorem Chip.reg_modHub (c : Chip) (f : Hub → Hub) (r : Reg) (s : Site) (i : Nat) : (c.modHub f).reg r s i = c.reg r s i := rfl
/-- The end of a link that was changed. -/
@[simp] theorem Chip.link_modLink (c : Chip) (k : Nat) (f : LinkEnd → LinkEnd) : (c.modLink k f).link k = f (c.link k) := by
  simp [Chip.link, Chip.modLink, Chip.modHub]
/-- The channel that was changed. -/
@[simp] theorem Chip.mbx_modMbx (c : Chip) (k : Nat) (f : MbxChan → MbxChan) : (c.modMbx k f).mbx k = f (c.mbx k) := by
  simp [Chip.mbx, Chip.modMbx, Chip.modHub]

/-! ### A settled device -/

/-- What follows a command leaves a settled device as it is. -/
theorem finish_settled (a d : Dev) (h : settled d = true) : finish a d = d := by
  simp only [settled, Bool.and_eq_true, List.isEmpty_iff, Option.isNone_iff_eq_none, Bool.or_eq_true, beq_iff_eq, Bool.not_eq_true'] at h
  obtain ⟨⟨⟨⟨⟨⟨hm, hw⟩, ho⟩, hh⟩, hp⟩, hb⟩, hs⟩ := h
  have h1 : flushMwr d = d := by
    have : d.on (fun c => c.modHub (fun x => { x with mwrOut := [] })) = d := by
      rcases d with ⟨m, c⟩
      rcases c with ⟨a1, a2, a3, a4, x, a6, a7, a8, a9⟩
      simp only [Dev.on, Chip.modHub]
      simp only at hm
      congr 2
      rw [← hm]
    simp [flushMwr, hm, drainMwr, this]
  have h2 : dbgWriteNow .ok d = d := by simp [dbgWriteNow, hw]
  have h3 : compareAll d.chip = d.chip := by
    unfold compareAll
    rw [ho]
    rcases d with ⟨m, c⟩
    rcases c with ⟨a1, a2, a3, a4, x, a6, a7, a8, a9⟩
    simp only at ho
    subst ho
    rfl
  have h4 : portWatch d.chip = d.chip := by
    unfold portWatch
    rcases hp with hp | hp
    · rw [← hp]; simp [Chip.portMask]
    · simp [hp]
  have h5 : sampleProbes a.chip d.chip = d.chip := by
    have hs' : ∀ x, x < 16 → d.chip.rbit .prbSel .hub x 63 = false := by
      intro x hx
      have := List.all_eq_true.1 hs x (List.mem_range.2 hx)
      simpa using this
    unfold sampleProbes
    simp only [hb]
    have : ∀ l : List Nat, (∀ x ∈ l, x < 16) → (l.filterMap (fun n =>
        let left := if probeSignal n a.chip d.chip then (if d.chip.rbit .prbSel .hub n 62 then 4 else 1) else kget 0 [] n - 1
        if d.chip.rbit .prbSel .hub n 63 && decide (0 < left) then some (n, left) else none)) = [] := by
      intro l hl
      rw [List.filterMap_eq_nil_iff]
      intro n hn
      simp [hs' n (hl n hn)]
    rw [this (List.range 16) (fun x hx => List.mem_range.1 hx)]
    simp
  unfold finish
  rw [h1, h2]
  simp only [Dev.on, h3, h4, h5]

/-- A command whose effect leaves the device settled answers exactly that device. -/
theorem after_settled (s : State) (d : Dev) (h : settled d = true) : after s d = { s with dev := d } := by
  rw [after, finish_settled _ _ h]

end Sys2Proof.Machine
end

