-- ==== Sys2Proof/Laws/Regs.lean ====
section
/-!
SUPPORT. What a write of a register does, said once: a write that is admitted has the register's effect and nothing else.
-/
namespace Sys2Proof.Machine

/-- A write of a register that takes effect has the register's effect, and is noted for the comparators. -/
theorem namedWrite_writable (m : Master) (r : Reg) (s : Site) (i : Nat) (v : BitVec 64) (d : Dev) (h : writable m r s i d = true) :
    namedWrite m r s i v d = noted m r s i v (regWrite m r s i v d) := by
  simp only [writable, Bool.and_eq_true] at h
  obtain ⟨⟨hm, ha⟩, hs⟩ := h
  unfold namedWrite
  simp only [ha, Bool.not_true, Bool.false_eq_true, if_false]
  cases s with
  | hub => rfl
  | tile t =>
    simp only [siteUp, tileUp, Bool.and_eq_true, Bool.not_eq_true'] at hs
    have hw : d.on (wakeFor t) = d := by simp [Dev.on, wakeFor, hs.1]
    simp only [Site.tile?, hw, hs.2]
    rfl
  | grove t g =>
    simp only [siteUp, tileUp, Bool.and_eq_true, Bool.not_eq_true'] at hs
    have hw : d.on (wakeFor t) = d := by simp [Dev.on, wakeFor, hs.1.1]
    simp only [Site.tile?, hw, hs.1.2, hs.2]
    rfl

/-- A command that writes fields of a register. -/
theorem fieldWrite_writable (m : Master) (r : Reg) (s : Site) (i : Nat) (fs : List (Nat × Nat × Nat)) (d : Dev) (h : writable m r s i d = true) :
    fieldWrite m r s i fs d = noted m r s i (fieldValue r s i fs d) (regWrite m r s i (fieldValue r s i fs d) d) :=
  namedWrite_writable m r s i _ d h

/-- The register admits a master whose write takes effect. -/
theorem writable_may (m : Master) (r : Reg) (s : Site) (i : Nat) (d : Dev) (h : writable m r s i d = true) : masterMay m r = true := by
  simp only [writable, Bool.and_eq_true] at h
  exact h.1.1

end Sys2Proof.Machine
end

