-- ==== Sys2Proof/Laws/Fields.lean ====
section
/-!
SUPPORT. Fields of a register word: what a field reads after one of them is set.
-/
namespace Sys2Proof.Machine

/-- A bit of a word after a field is set. -/
theorem setFld_bit (v : BitVec 64) (lo w x j : Nat) (h : lo + w ≤ 64) :
    (setFld v lo w x).getLsbD j = if lo ≤ j ∧ j < lo + w then (x % 2 ^ w).testBit (j - lo) else v.getLsbD j := by
  have hp : (2 ^ w - 1).testBit (j - lo) = decide (j - lo < w) := Nat.testBit_two_pow_sub_one _ _
  by_cases hj : j < 64
  · simp only [setFld, BitVec.getLsbD_or, BitVec.getLsbD_and, BitVec.getLsbD_not, BitVec.getLsbD_shiftLeft, BitVec.getLsbD_ofNat, hj, decide_true,
      Bool.true_and, hp]
    by_cases h1 : lo ≤ j <;> by_cases h2 : j < lo + w
    · have : j - lo < w := by omega
      simp [h1, h2, Nat.not_lt.mpr h1, this, show j - lo < 64 by omega, Nat.testBit_mod_two_pow]
    · have : ¬(j - lo < w) := by omega
      simp [h1, h2, Nat.not_lt.mpr h1, this, Nat.testBit_mod_two_pow]
    · simp [h1, show j < lo by omega]
    · simp [h1, show j < lo by omega]
  · have h1 : v.getLsbD j = false := BitVec.getLsbD_of_ge _ _ (by omega)
    have h2 : (setFld v lo w x).getLsbD j = false := BitVec.getLsbD_of_ge _ _ (by omega)
    rw [h1, h2, if_neg (by omega)]

/-- A bit of a field. -/
theorem fld_testBit (v : BitVec 64) (lo w i : Nat) : (fld v lo w).testBit i = (decide (i < w) && v.getLsbD (lo + i)) := by
  rw [fld, BitVec.testBit_toNat, BitVec.getLsbD_extractLsb']

/-- A field that has been set holds what it was set to. -/
theorem fld_setFld_same (v : BitVec 64) (lo w x : Nat) (h : lo + w ≤ 64) : fld (setFld v lo w x) lo w = x % 2 ^ w := by
  refine Nat.eq_of_testBit_eq (fun i => ?_)
  rw [fld_testBit, setFld_bit _ _ _ _ _ h, Nat.testBit_mod_two_pow]
  by_cases hi : i < w
  · simp [hi, Nat.testBit_mod_two_pow]
  · simp [hi]

/-- A field that lies outside the one that is set keeps its value. -/
theorem fld_setFld_other (v : BitVec 64) (lo w x lo' w' : Nat) (h : lo + w ≤ 64) (hd : lo' + w' ≤ lo ∨ lo + w ≤ lo') :
    fld (setFld v lo w x) lo' w' = fld v lo' w' := by
  refine Nat.eq_of_testBit_eq (fun i => ?_)
  rw [fld_testBit, fld_testBit, setFld_bit _ _ _ _ _ h]
  by_cases hi : i < w'
  · rw [if_neg (by omega)]
  · simp [hi]

/-- Every field of the zero word is 0. -/
@[simp] theorem fld_zero (lo w : Nat) : fld 0#64 lo w = 0 := by
  refine Nat.eq_of_testBit_eq (fun i => ?_)
  rw [fld_testBit]
  simp

end Sys2Proof.Machine
end

