-- ==== Sys2Proof/Laws/Mailbox.lean ====
section
/-!
SUPPORT. A mailbox command that a device serves: the checks that every opcode shares are passed, and what is left is what the command does.
-/
namespace Sys2Proof.Machine

/-- A state in which an opcode is served is one in which commands are decided (R500). -/
theorem stateServes_states (st k o : Nat) (h : stateServes st k o = true) : (st != 1 && st != 2 && st != 3) = false := by
  match st, h with
  | 0, h => simp [stateServes] at h
  | 1, _ => rfl
  | 2, _ => rfl
  | 3, _ => rfl
  | n + 4, h => simp [stateServes] at h

/-- A command that is asked for is served (R500, R506, R510). -/
theorem serve_asks {op k i : Nat} {m : MbxCmd} {d : Dev} (f : MbxCmd → Dev → Served) (h : asks op k i m d) :
    serve op k f d = (match f m d with
      | .wait => d
      | .goesOn d => begun k i d
      | .done st data res d => answered k i st data res d) := by
  obtain ⟨h1, h2, h3, h4⟩ := h
  have ha : (adminOp op && !(d.chip.chanAdmin k)) = false := by
    cases hx : adminOp op
    · rfl
    · simp [h4 hx]
  simp only [serve, h1, stateServes_states _ _ _ h2, h3, h2, ha, begun, answered]
  rfl

end Sys2Proof.Machine
end

