-- ==== Sys2Proof/Laws/Memory.lean ====
section
/-!
SUPPORT. Every operation that writes memory keeps its canonical form, and a store of one row leaves every other byte.
-/
namespace Sys2Proof.Machine

theorem Mem.wf_filter (m : Mem) (p : Nat × Byte → Bool) (h : Mem.wf m = true) : Mem.wf (m.filter p) = true := by
  simp only [Mem.wf, Bool.and_eq_true] at h ⊢
  refine ⟨krise_filter m p 0 h.1, ?_⟩
  simp only [List.all_eq_true] at h ⊢
  intro x hx
  exact h.2 x (List.mem_filter.1 hx).1

/-- A store of one byte for each of a list. -/
theorem Mem.wf_foldr {β : Type} (l : List β) (f : β → Mem → Mem) (m : Mem) (hf : ∀ x m, Mem.wf m = true → Mem.wf (f x m) = true)
    (h : Mem.wf m = true) : Mem.wf (l.foldr f m) = true := by
  induction l with
  | nil => exact h
  | cons x r ih => exact hf x _ ih

theorem Mem.wf_foldl {β : Type} (l : List β) (f : Mem → β → Mem) (m : Mem) (hf : ∀ m x, Mem.wf m = true → Mem.wf (f m x) = true)
    (h : Mem.wf m = true) : Mem.wf (l.foldl f m) = true := by
  induction l generalizing m with
  | nil => exact h
  | cons x r ih => exact ih _ (hf m x h)

/-- Poison keeps the form. -/
theorem poison_wf (d : Dev) (a : Nat) (h : d.mem.wf = true) : (d.poison a).mem.wf = true := by
  unfold Dev.poison
  split
  · exact h
  · exact Mem.wf_store _ _ _ _ h

theorem wrBytes_wf (d : Dev) (a n v : Nat) (h : d.mem.wf = true) : (d.wrBytes a n v).mem.wf = true := by
  unfold Dev.wrBytes
  split
  · split
    · exact h
    · exact Mem.wf_store _ _ _ _ h
  · split
    · exact h
    · exact Mem.wf_store _ _ _ _ h

theorem wr32_wf (d : Dev) (a : Nat) (w : TWord) (h : d.mem.wf = true) : (d.wr32 a w).mem.wf = true := by
  unfold Dev.wr32
  dsimp only
  split
  · split
    · exact poison_wf _ _ (wrBytes_wf _ _ _ _ h)
    · exact poison_wf _ _ h
  · exact wrBytes_wf _ _ _ _ h

theorem wrRow_wf (d : Dev) (a : Nat) (lo hi : TWord) (h : d.mem.wf = true) : (d.wrRow a lo hi).mem.wf = true := by
  unfold Dev.wrRow
  dsimp only
  split
  · split
    · exact poison_wf _ _ (wrBytes_wf _ _ _ _ h)
    · exact poison_wf _ _ h
  · exact wrBytes_wf _ _ _ _ h

theorem wrWords_wf (ws : List TWord) (d : Dev) (a : Nat) (h : d.mem.wf = true) : (d.wrWords a ws).mem.wf = true := by
  fun_induction Dev.wrWords d a ws with
  | case1 => exact h
  | case2 => exact wr32_wf _ _ _ h
  | case3 _ _ _ _ _ _ ih => exact ih (wrRow_wf _ _ _ _ h)
  | case4 _ _ _ _ _ _ ih => exact ih (wr32_wf _ _ _ h)

theorem wrBlock_wf (d : Dev) (a : Nat) (ws : List TWord) (h : d.mem.wf = true) : (d.wrBlock a ws).mem.wf = true := by
  unfold Dev.wrBlock
  split
  · exact h
  · apply wrWords_wf
    split <;> exact h

theorem wrW_wf (d : Dev) (a : Nat) (wide : Bool) (lo hi : TWord) (h : d.mem.wf = true) : (d.wrW a wide lo hi).mem.wf = true := by
  unfold Dev.wrW
  split
  · exact wrRow_wf _ _ _ _ h
  · exact wr32_wf _ _ _ h

/-- The loader's writes. -/
theorem putBytes_wf (d : Dev) (a : Nat) (bs : List Byte) (h : d.mem.wf = true) : (d.putBytes a bs).mem.wf = true :=
  Mem.wf_foldr _ _ _ (fun _ m hm => Mem.wf_write m _ _ hm) h

theorem putImage_wf (d : Dev) (a : Nat) (i : BitVec 4096) (h : d.mem.wf = true) : (d.putImage a i).mem.wf = true := putBytes_wf _ _ _ h

/-- The expansion of a personality's contexts. -/
theorem expand_wf (d : Dev) (i : Image) (k : Nat) (h : d.mem.wf = true) : (d.expand i k).mem.wf = true := by
  unfold Dev.expand
  apply Mem.wf_foldr
  · intro n m hm
    split
    · exact Mem.wf_store _ _ _ _ hm
    · exact Mem.wf_store _ _ _ _ hm
  · exact Mem.wf_zero _ _ _ h

/-- The rearrangement of a tile memory. -/
theorem tmbRemap_wf (t : Nat) (c : Chip) (d : Dev) (h : d.mem.wf = true) : (tmbRemap t c d).mem.wf = true :=
  Mem.wf_foldl _ _ _ (fun m _ hm => Mem.wf_write m _ _ hm) (Mem.wf_filter _ _ h)

/-- A bank, or a block, whose rows are zeroed. -/
theorem zeroBank_wf (t g b : Nat) (d : Dev) (h : d.mem.wf = true) : (zeroBank t g b d).mem.wf = true := Mem.wf_filter _ _ h

theorem zeroBlock_wf (t b : Nat) (d : Dev) (h : d.mem.wf = true) : (zeroBlock t b d).mem.wf = true := Mem.wf_filter _ _ h

/-- A change of the chip alone leaves memory. -/
@[simp] theorem on_mem (d : Dev) (f : Chip → Chip) : (d.on f).mem = d.mem := rfl

end Sys2Proof.Machine
end

