-- ==== Sys2Proof/Laws/Packets.lean ====
section
/-!
SUPPORT. Packets and messages that are taken: what a command on packets gets when its packet comes in turn, and the class of a message that is taken.
-/
namespace Sys2Proof.Machine

/-- A command that takes packets of a type gets the packet that comes. -/
theorem takePkt_of_comes {ty : Nat} {p : Packet} {d : Dev} {ts : List Nat} {f : Dev → Dev → Dev} (h : comes ty p d) (ht : ts.contains ty = true) :
    takePkt ts p f d = f (d.on (await p)) (d.on (takeRx p)) := by
  obtain ⟨h1, h2, h3, _⟩ := h
  unfold takePkt
  rw [h1, ht, h2, h3]
  rfl

/-- A message that is taken for a class is of that class. -/
theorem takeMsg_cls {cls : Nat} {c c1 : Chip} {m : MsgIn} (h : takeMsg cls c = some (m, c1)) : m.cls = cls := by
  unfold takeMsg at h
  split at h
  · cases h
  · split at h
    · cases h
    · next hf =>
      simp only [Option.some.injEq, Prod.mk.injEq] at h
      rw [← h.1]
      have hb := List.find?_some hf
      simpa using hb

end Sys2Proof.Machine
end

