-- ==== Sys2Proof/Laws/Raise.lean ====
section
/-!
SUPPORT. What raising events can touch, said once: registers and the event logic, and nothing else.
-/
namespace Sys2Proof.Machine

/-- Two devices agree but for registers and the event logic. -/
def SameButEvents (c e : Chip) : Prop :=
  e.hub = c.hub ∧ e.tiles = c.tiles ∧ e.groves = c.groves ∧ e.gdPoison = c.gdPoison ∧ e.fresh = c.fresh ∧ e.obs = c.obs ∧ e.hits = c.hits

theorem SameButEvents.refl (c : Chip) : SameButEvents c c := ⟨rfl, rfl, rfl, rfl, rfl, rfl, rfl⟩

theorem SameButEvents.trans {a b c : Chip} (h : SameButEvents a b) (k : SameButEvents b c) : SameButEvents a c := by
  obtain ⟨h1, h2, h3, h4, h5, h6, h7⟩ := h
  obtain ⟨k1, k2, k3, k4, k5, k6, k7⟩ := k
  exact ⟨k1.trans h1, k2.trans h2, k3.trans h3, k4.trans h4, k5.trans h5, k6.trans h6, k7.trans h7⟩

theorem same_setReg (c : Chip) (r : Reg) (s : Site) (i : Nat) (v : BitVec 64) : SameButEvents c (c.setReg r s i v) := .refl c
theorem same_setRf (c : Chip) (r : Reg) (s : Site) (i lo w x : Nat) : SameButEvents c (c.setRf r s i lo w x) := .refl c
theorem same_setEv (c : Chip) (e : EvSrc) (v : BitVec 64) : SameButEvents c (c.setEv e v) := .refl c

theorem same_schDeliver (e : EvSrc) (v : BitVec 64) (c : Chip) : SameButEvents c (schDeliver e v c) := by
  unfold schDeliver
  split <;> exact .refl c

theorem same_msixDue (c : Chip) (v : Nat) : SameButEvents c (msixDue c v).1 := by
  unfold msixDue
  dsimp only
  split
  · exact .refl c
  · split <;> exact .refl c

theorem same_vecDeliver (c : Chip) (v : Nat) : SameButEvents c (vecDeliver c v).1 := by
  unfold vecDeliver
  dsimp only
  split
  · exact (same_setReg c _ _ _ _).trans (same_msixDue _ _)
  · exact .refl c

theorem same_hubDeliver (num : Nat) (info : BitVec 32) (v : BitVec 64) (c : Chip) : SameButEvents c (hubDeliver num info v c).1 := by
  have key : ∀ p : Chip × Bool, SameButEvents c p.1 → SameButEvents c
      (if fld v 59 1 == 1 then ((vecDeliver p.1 (fld v 48 11)).1, p.2, (vecDeliver p.1 (fld v 48 11)).2) else (p.1, p.2, false)).1 := by
    intro p h
    split
    · exact h.trans (same_vecDeliver _ _)
    · exact h
  have pair : ∀ (b d : Prop) [Decidable b] [Decidable d] (x y z : Chip × Bool), SameButEvents c x.1 → SameButEvents c y.1 → SameButEvents c z.1 →
      SameButEvents c (if b then (if d then x else y) else z).1 := by
    intro b d _ _ x y z hx hy hz
    split
    · split
      · exact hx
      · exact hy
    · exact hz
  exact key _ (pair _ _ _ _ _ (.refl c) (.refl c) (.refl c))

theorem same_announce (e : EvSrc) (info : BitVec 32) (v : BitVec 64) (c : Chip) : SameButEvents c (announce e info v c).1 := by
  unfold announce
  split
  · dsimp only
    split
    · exact (same_hubDeliver _ info v c).trans (.refl _)
    · exact same_hubDeliver _ info v c
  · exact .refl c

theorem same_countRaise (sel cnt : Reg) (s : Site) (o : EvSrc) (num k : Nat) (c : Chip) : SameButEvents c (countRaise sel cnt s o num k c).1 := by
  induction k with
  | zero => exact .refl c
  | succ k ih =>
    unfold countRaise
    dsimp only
    split
    · exact ih.trans (.refl _)
    · exact ih

theorem same_raiseOne (e : EvSrc) (info : BitVec 32) (c : Chip) : SameButEvents c (raiseOne e info c).1 := by
  unfold raiseOne
  dsimp only
  have h : SameButEvents c (if fld (c.ev e) 63 1 == 1 then (c.setEv e (setFld (c.ev e) 62 1 1), [])
      else announce e info (c.ev e) (schDeliver e (c.ev e) (c.setEv e (setFld (setFld (c.ev e) 63 1 1) 0 32 info.toNat)))).1 := by
    split
    · exact .refl c
    · exact ((same_setEv c e _).trans (same_schDeliver _ _ _)).trans (same_announce _ _ _ _)
  cases e <;> exact h.trans (same_countRaise _ _ _ _ _ _ _)

theorem same_raiseAll (n : Nat) (l : List RaiseReq) (c : Chip) : SameButEvents c (raiseAll n l c) := by
  induction n generalizing l c with
  | zero => cases l <;> exact .refl c
  | succ n ih =>
    cases l with
    | nil => exact .refl c
    | cons x r => exact (same_raiseOne x.1 x.2 c).trans (ih _ _)

/-- Raising an event touches registers and the event logic only. -/
theorem same_raise (e : EvSrc) (info : Nat) (c : Chip) : SameButEvents c (raise e info c) := by
  unfold raise
  split
  · exact .refl c
  · exact same_raiseAll _ _ _

theorem same_bumpRaw (c : Chip) (r : Reg) (s : Site) (i n : Nat) : SameButEvents c (bumpRaw c r s i n).1 := same_setReg _ _ _ _ _

/-- A counter that counts, with the overflow event it may raise. -/
theorem same_bump (c : Chip) (r : Reg) (s : Site) (i n : Nat) : SameButEvents c (c.bump r s i n) := by
  have key : ∀ p : Chip × Bool, SameButEvents c p.1 → SameButEvents c (if p.2 then raise (r.ovfEv s) (r.addr s i) p.1 else p.1) := by
    intro p h
    split
    · exact h.trans (same_raise _ _ _)
    · exact h
  exact key _ (same_bumpRaw c r s i n)

theorem same_levelAt (tick : Bool) (e : EvSrc) (b : Bool) (info : Nat) (c : Chip) : SameButEvents c (levelAt tick e b info c) := by
  unfold levelAt
  dsimp only
  split
  · exact (same_setEv c e _).trans (same_raise _ _ _)
  · exact .refl c

/-- The level sources of the hub follow their conditions and touch nothing else. -/
theorem same_hubLevels (c : Chip) : SameButEvents c (hubLevels c) := by
  unfold hubLevels hubLevelsAt
  dsimp only
  exact ((((((same_setRf c _ _ _ _ _ _).trans (same_levelAt _ _ _ _ _)).trans (same_levelAt _ _ _ _ _)).trans (same_levelAt _ _ _ _ _)).trans
    (same_levelAt _ _ _ _ _)).trans (same_levelAt _ _ _ _ _))

@[simp] theorem raise_hub (e : EvSrc) (info : Nat) (c : Chip) : (raise e info c).hub = c.hub := (same_raise e info c).1
@[simp] theorem raise_tiles (e : EvSrc) (info : Nat) (c : Chip) : (raise e info c).tiles = c.tiles := (same_raise e info c).2.1
@[simp] theorem raise_groves (e : EvSrc) (info : Nat) (c : Chip) : (raise e info c).groves = c.groves := (same_raise e info c).2.2.1
@[simp] theorem hubLevels_hub (c : Chip) : (hubLevels c).hub = c.hub := (same_hubLevels c).1
@[simp] theorem hubLevels_tiles (c : Chip) : (hubLevels c).tiles = c.tiles := (same_hubLevels c).2.1
@[simp] theorem hubLevels_groves (c : Chip) : (hubLevels c).groves = c.groves := (same_hubLevels c).2.2.1
@[simp] theorem bump_hub (c : Chip) (r : Reg) (s : Site) (i n : Nat) : (c.bump r s i n).hub = c.hub := (same_bump c r s i n).1
@[simp] theorem bump_tiles (c : Chip) (r : Reg) (s : Site) (i n : Nat) : (c.bump r s i n).tiles = c.tiles := (same_bump c r s i n).2.1
@[simp] theorem bump_groves (c : Chip) (r : Reg) (s : Site) (i n : Nat) : (c.bump r s i n).groves = c.groves := (same_bump c r s i n).2.2.1

end Sys2Proof.Machine
end

