-- ==== Sys2Proof/Laws/Seq.lean ====
section
/-!
SUPPORT. The conditions under which the sequencer issues, as one lemma: an instruction that is ready issues, and has its effect.
-/
namespace Sys2Proof.Machine

/-- With no comparator enabled no instruction is matched before it issues (R577). -/
theorem issueMatches_unarmed (c : Chip) (t g ctx pc : Nat) (h : c.armed = false) : issueMatches c t g ctx pc = [] := by
  unfold issueMatches
  unfold Chip.armed at h
  rw [List.filter_eq_nil_iff]
  intro n hn
  have := List.any_eq_false.1 h n hn
  simp only [Chip.rbit, Chip.rf] at this
  simp [this]

/-- `seqReady`, condition by condition. -/
theorem seqReady_iff (op t g : Nat) (d : Dev) : seqReady op t g d = true ↔ ∃ r, (d.chip.grove t g).run = some r ∧ (d.chip.grove t g).canAct = true ∧
    (d.chip.grove t g).seqBusy = false ∧ r.qw0.held = none ∧ r.qw1.held = none ∧ r.pc < imgN (d.chip.grove t g).runImg ∧
    iOp (imgInstr (d.chip.grove t g).runImg r.pc) = op ∧ iBad (imgN (d.chip.grove t g).runImg) r.pc (imgInstr (d.chip.grove t g).runImg r.pc) = false ∧
    r.mrds.any (fun m => (r.uses (imgInstr (d.chip.grove t g).runImg r.pc)).contains (m.depth, m.dest)) = false ∧ ((d.chip.grove t g).window? r.slot r.depth).isSome = true ∧
    r.qrWaits (imgInstr (d.chip.grove t g).runImg r.pc) = false ∧ (d.chip.grove t g).step = none ∧ d.chip.armed = false := by
  cases hr : (d.chip.grove t g).run with
  | none => simp [seqReady, hr]
  | some r =>
    simp only [seqReady, hr, Bool.and_eq_true, Bool.not_eq_true', decide_eq_true_eq, beq_iff_eq, Option.isNone_iff_eq_none, Option.some.injEq, exists_eq_left', and_assoc]

/-- An instruction that is ready issues at once and has its effect (R121). -/
theorem seqIssue_ready (op t g : Nat) (d : Dev) (h : seqReady op t g d = true) :
    seqIssue op t g {} d = seqEffect t g (seqWord t g d) {} (seqA t g d) (seqB t g d) (seqIssued t g d) := by
  obtain ⟨r, hr, hc, hb, h0, h1, hp, ho, hbad, hm, hw, hq, hs, ha⟩ := (seqReady_iff op t g d).1 h
  have hh : (d.chip.grove t g).halted = false := by
    unfold Grove.canAct at hc
    rw [hr] at hc
    simp only [Bool.and_eq_true, Bool.not_eq_true'] at hc
    exact hc.1.1.2
  have hst : ∀ b, d.on (stepIssue b t g) = d := by intro b; simp [Dev.on, stepIssue, hs]
  have hws : seqWord t g d = imgInstr (d.chip.grove t g).runImg r.pc := by simp [seqWord, hr]
  unfold seqIssue
  rw [settleGrove_idle _ _ _ _ _ hb]
  have hwait : seqWaits (d.chip.grove t g) r (imgInstr (d.chip.grove t g).runImg r.pc) = false := by
    have hwn : ((d.chip.grove t g).window? r.slot r.depth).isNone = false := by
      cases hx : (d.chip.grove t g).window? r.slot r.depth <;> simp_all
    unfold seqWaits
    rw [hm, hwn, hq]
    rfl
  have hiss : issuesAs op (imgInstr (d.chip.grove t g).runImg r.pc) = true := by simp [issuesAs, ho]
  have hpe : decide (imgN (d.chip.grove t g).runImg ≤ r.pc) = false := by simp; omega
  have hsr : ∀ e : Dev, e.on (slotRead t .ok) = e := fun _ => rfl
  simp only [hr, BitVec.xor_zero, hc, hb, h0, h1, Bool.not_true, Option.isSome_none, Bool.or_false, Bool.false_eq_true, if_false, hpe, hiss, hwait,
    hbad, Bool.not_false, Bool.true_and, Bool.and_false, hst, issueMatches_unarmed _ _ _ _ _ ha, ite_self, List.foldl_nil, List.isEmpty_nil, eccUe, hsr]
  rw [if_neg (by simp [Dev.on, hh])]
  rw [← hws]
  rfl

end Sys2Proof.Machine
end

