-- ==== Sys2Proof/WellFormed.lean ====
section
/-!
DEFINITION. Which commands are well formed: operands that name something the device has, and packets, flits, fetched commands and addresses of
the shape that the spec gives them. `exec` is defined on every command; what it does on one that is not well formed means nothing.
-/
namespace Sys2Proof

/-- Groves of a tile are numbered 16·y + x with x and y up to 11 (R5). -/
def groveNo (g : Nat) : Bool := decide (g % 16 < 12) && decide (g / 16 < 12)

/-- A master that the device has (R37). -/
def Master.wf : Master → Bool
  | .core => true
  | .debug => true
  | .grove t g => decide (t < 4) && groveNo g
  | .link n => decide (n < 2048)
  | .host k => decide (k < 256)

/-- A target of run control that the device has (R584). -/
def HaltTarget.wf : HaltTarget → Bool
  | .grove t g => decide (t < 4) && groveNo g
  | .tile t => decide (t < 4)
  | .core => true

/-- A request that the device can have outstanding (R398). -/
def ReqRef.wf : ReqRef → Bool
  | .mrd t g tag => decide (t < 4) && groveNo g && decide (tag < 64)
  | .remote ep tag => decide (ep < 4095) && decide (tag < 1024)
  | .debug => true

/-- A bank of one of the 8 of a scratchpad (R273), a block of the 64 of a tile memory (R279). -/
def MemUnit.wf : MemUnit → Bool
  | .bank t g b => decide (t < 4) && groveNo g && decide (b < 8)
  | .block t b => decide (t < 4) && decide (b < 64)

/-- The payload words of a header: len, but none for a MRD or a QRD, whose len counts words asked for (R381, R382). -/
def Packet.payLen (p : Packet) : Nat :=
  let t := (p.hdr.extractLsb' 0 5).toNat
  if t = 0x08 ∨ t = 0x0B then 0 else (p.hdr.extractLsb' 56 7).toNat

/-- A packet came in on one of the 8 ports and is as long as its header says (R381, R384). -/
def Packet.wf (p : Packet) : Bool :=
  decide (p.port < 8) && decide (p.payload.length = p.payLen) &&
    decide (p.mask.length = if p.hdr.getLsbD 7 then (p.payLen + 31) / 32 else 0)

/-- A flit's stream has 61 units on Puhan-X and 56 on Puhan-D (R410). -/
def Flit.wf (f : Flit) (k : LinkRef) : Bool :=
  match k with
  | .port _ => decide (f.stream.length = 61)
  | .d2d _ _ => decide (f.stream.length = 56)

/-- Lanes 0–4 of a port's direction, 0–67 of a module's (R419, R423). -/
def lanesWf (k : LinkRef) (l : List Nat) : Bool :=
  match k with
  | .port _ => l.all (fun x => decide (x ≤ 4))
  | .d2d _ _ => l.all (fun x => decide (x < 68))

/-- The select latches of the cell inputs hold 8 bits, those of the lanes 16, those of the push ports 64 (R89). -/
def selectWidth (k : Nat) : Nat := if k < 64 then 8 else if k < 84 then 16 else 64

/-- A naturally aligned address of 4 or 8 bytes (R8). -/
def aligned (wide : Bool) (a : BitVec 48) : Bool := decide (a.toNat % (if wide then 8 else 4) = 0)

/-- A configuration request names something the device has (R498, R499). -/
def CfgReq.wf : CfgReq → Bool
  | .bar i _ => decide (i < 4)
  | .numVf n => decide (n ≤ 31)
  | .msix fn _ _ => decide (fn < 32)
  | .entryMask v => decide (v < 2048)
  | .other _ => true

/-- The operands of a command are in range. -/
def Instr.wf : Instr → Bool
  | .cellNop _ _ _ => true
  | .cellAdd _ _ _ => true
  | .cellSub _ _ _ => true
  | .cellNeg _ _ _ => true
  | .cellAbs _ _ _ => true
  | .cellAbsd _ _ _ => true
  | .cellMin _ _ _ => true
  | .cellMax _ _ _ => true
  | .cellCmpeq _ _ _ => true
  | .cellCmplt _ _ _ => true
  | .cellCmple _ _ _ => true
  | .cellMov _ _ _ => true
  | .cellMul _ _ _ => true
  | .cellMulh _ _ _ => true
  | .cellMadd _ _ _ => true
  | .cellMac _ _ _ => true
  | .cellMsu _ _ _ => true
  | .cellAccadd _ _ _ => true
  | .cellAccld _ _ _ => true
  | .cellAccclr _ _ _ => true
  | .cellAccrs _ _ _ => true
  | .cellAnd _ _ _ => true
  | .cellOr _ _ _ => true
  | .cellXor _ _ _ => true
  | .cellAndn _ _ _ => true
  | .cellNot _ _ _ => true
  | .cellSel _ _ _ => true
  | .cellShl _ _ _ => true
  | .cellShr _ _ _ => true
  | .cellSra _ _ _ => true
  | .cellRol _ _ _ => true
  | .cellShuf _ _ _ => true
  | .cellClz _ _ _ => true
  | .cellPopc _ _ _ => true
  | .cellBrev _ _ _ => true
  | .cellLd _ _ _ => true
  | .cellSt _ _ _ => true
  | .cellFadd _ _ _ => true
  | .cellSwap _ _ _ => true
  | .cellGetf _ _ _ => true
  | .cellPutf _ _ _ => true
  | .accAcquisitionEnd _ => true
  | .seqNop _ _ => true
  | .seqAdd _ _ => true
  | .seqSub _ _ => true
  | .seqAnd _ _ => true
  | .seqOr _ _ => true
  | .seqXor _ _ => true
  | .seqSlt _ _ => true
  | .seqSltu _ _ => true
  | .seqAddi _ _ => true
  | .seqAndi _ _ => true
  | .seqOri _ _ => true
  | .seqShli _ _ => true
  | .seqShri _ _ => true
  | .seqSrai _ _ => true
  | .seqBr _ _ => true
  | .seqBc _ _ => true
  | .seqBz _ _ => true
  | .seqBnz _ _ => true
  | .seqLoop _ _ => true
  | .seqLoopr _ _ => true
  | .seqCall _ _ => true
  | .seqRet _ _ => true
  | .seqEnd _ _ => true
  | .seqWaitc _ _ => true
  | .seqWaitn _ _ => true
  | .seqSusp _ _ => true
  | .seqBrk _ _ => true
  | .seqStep _ _ => true
  | .seqStepr _ _ => true
  | .seqSqo _ _ => true
  | .seqGetc _ _ => true
  | .seqGeto _ _ => true
  | .seqSetk _ _ => true
  | .seqQbind _ _ => true
  | .seqQsoi _ _ => true
  | .seqQeoi _ _ => true
  | .seqQread _ _ => true
  | .seqQreadr _ _ => true
  | .seqQseek _ _ => true
  | .seqSld _ _ => true
  | .seqSst _ _ => true
  | .seqMrd _ _ => true
  | .seqMwr _ _ => true
  | .seqSig _ _ => true
  | .mrdCompletion _ _ _ => true
  | .budgetExpiry _ => true
  | .windowSpill _ _ => true
  | .windowRefill _ _ => true
  | .mwrErrorCompletion _ => true
  | .qrFetchArrival _ _ n _ => decide (n ≤ 16)
  | .qwPush _ _ _ _ => true
  | .qwWordAccepted _ _ => true
  | .taskEnd _ => true
  | .taskCommit _ => true
  | .taskAbort _ => true
  | .placeholderDelivery _ _ => true
  | .seqCellMapWrite m _ _ => m.wf
  | .selectLatchFault _ k up => up != 0#64 && decide (up.toNat < 2 ^ selectWidth k.val)
  | .canopyLatchFault _ _ _ => true
  | .cfgCnpSrcWrite m _ _ _ => m.wf
  | .cfgCnpLockWrite m _ => m.wf
  | .bankWrite m _ _ _ _ => m.wf
  | .accForcedSaveReq m _ => m.wf
  | .accForcedSave _ => true
  | .noticeIntake _ => true
  | .schPost m _ _ _ => m.wf
  | .tick _ => true
  | .delayExpiry _ => true
  | .dueTaskReady _ => true
  | .flowChainAdvance _ _ => true
  | .lockOverflowDrain _ => true
  | .flowEntryFree _ _ => true
  | .dispatchDecision _ => true
  | .gangReservation _ => true
  | .gangStart _ => true
  | .pageInComplete _ _ => true
  | .switchCycle _ => true
  | .resumption _ => true
  | .cancelDescriptor m _ _ => m.wf
  | .cancelFlow m _ _ => m.wf
  | .cancelTemplate m _ _ => m.wf
  | .cancelWalk _ => true
  | .xlockRequest _ => true
  | .xlockGrant _ => true
  | .xlockError _ => true
  | .xlockReannounce _ => true
  | .schTickWrite m _ _ => m.wf
  | .histogramClear m _ _ => m.wf
  | .loadWindowEnd _ => true
  | .eventHubArrival _ => true
  | .evtSrcWrite m _ _ => m.wf
  | .evtFwqRead m => m.wf
  | .fwqHoldoffExpiry => true
  | .vectorHoldoffExpiry _ => true
  | .counterRcRead m a wide => m.wf && aligned wide a
  | .registerWrite m a wide _ => m.wf && aligned wide a
  | .queueSpill _ _ => true
  | .queueRefillLand _ _ => true
  | .quePopRead m _ _ => m.wf
  | .queueFlush m _ => m.wf
  | .flushBlockReturn _ => true
  | .queueClose m _ => m.wf
  | .queueReopen m _ => m.wf
  | .queCfgWrite m _ _ => m.wf
  | .queueStallLimit _ => true
  | .portBAccess m _ _ _ _ _ _ _ => m.wf
  | .portBRepeat _ _ => true
  | .tmbAccess m _ _ _ _ _ _ _ _ => m.wf
  | .eccWriteback u => u.wf
  | .spmScrubRow _ _ => true
  | .tmbScrubRow _ _ => true
  | .gd7ScrubBlock _ _ => true
  | .spmPwrWrite m _ _ => m.wf
  | .tmbPwrWrite m _ _ _ => m.wf
  | .memRetentionEntry u => u.wf
  | .memPowerTransitionDone u => u.wf
  | .gd7BringupDone _ _ _ _ _ => true
  | .gd7TrainStart m _ _ => m.wf
  | .gd7RetrainPeriod _ _ => true
  | .gd7RetrainDone _ _ _ => true
  | .gd7TransferDone o crc _ _ => decide (o.toNat < 30 * 2 ^ 30) && decide (crc ≤ 5)
  | .gd7PowerDown _ _ => true
  | .gd7Refresh _ _ => true
  | .swapDirect m _ _ _ => m.wf
  | .swapShift m _ _ _ => m.wf
  | .swapAbort m => m.wf
  | .swapPrepareDone _ => true
  | .swapDrainDone => true
  | .swapCopyDone => true
  | .sprRowCtlGo m _ => m.wf
  | .rowSpareCopy _ => true
  | .sprGmapWrite m _ _ => m.wf
  | .ageSample _ _ => true
  | .puhanQwr p _ => p.wf
  | .puhanMwr p _ => p.wf
  | .puhanNtc p => p.wf
  | .puhanMrd p _ => p.wf
  | .puhanFadd p _ => p.wf
  | .puhanSwap p _ => p.wf
  | .puhanQrd p => p.wf
  | .puhanCpl p => p.wf
  | .puhanQcq p => p.wf
  | .puhanQcg p => p.wf
  | .puhanMsg p => p.wf
  | .puhanEvt _ => true
  | .puhanLck _ _ => true
  | .queueCreditGrant _ => true
  | .streamReclaim _ _ => true
  | .assemblyIdleLimit _ _ => true
  | .requestTimeout r => r.wf
  | .vcountDecay _ => true
  | .quarantineClear m _ => m.wf
  | .drainSend _ => true
  | .drainCreditRetry _ => true
  | .transitForward p => p.wf
  | .flitTransmit k pkts => (match k with | .port _ => pkts.isEmpty | .d2d _ _ => pkts.all (fun u => decide (5 ≤ u.length)))
  | .dataFlitRx k _ f => f.wf k
  | .nakRx k f => f.wf k
  | .initRx k f => f.wf k
  | .idleFlitRx k f => f.wf k
  | .replayTimeout _ => true
  | .retrainComplete k f0 f1 => lanesWf k f0 && lanesWf k f1
  | .lossOfSignal _ _ => true
  | .portTrained _ => true
  | .laneMarginSample port n ser _ _ => decide (n < if port then 40 else 816) && decide (ser < 2 ^ 32)
  | .lnkRetrainReq m _ => m.wf
  | .lnkDownReq m _ => m.wf
  | .lnkFailoverReq m _ _ _ => m.wf
  | .lnkEnable m _ _ => m.wf
  | .d2dRetrainReq m _ => m.wf
  | .d2dRepairReq m _ _ _ => m.wf
  | .fiShot m _ => m.wf
  | .discoveryStart => true
  | .scanSilentTimeout => true
  | .msgProbe => true
  | .msgIdent => true
  | .msgScan => true
  | .msgScanRpt => true
  | .msgAssign => true
  | .msgAck => true
  | .msgRoutes => true
  | .msgRelay => true
  | .msgCommit => true
  | .msgAnnounce => true
  | .msgJoinReq => true
  | .msgFwData => true
  | .msgPersData => true
  | .msgTime => true
  | .msgReport => true
  | .timeSyncPeriod => true
  | .fwDataResend => true
  | .tbsAdjWrite m _ => m.wf
  | .cfgRxTimeout => true
  | .bootDeadline => true
  | .tileRelease _ => true
  | .icpReplace _ => true
  | .icpRead _ => true
  | .icpSlotchk _ _ _ => true
  | .icpRestore _ => true
  | .generationAdvance _ => true
  | .rangerUnit _ _ _ => true
  | .rangerHeldFetch _ => true
  | .rangerRewrite _ => true
  | .rangerVoteUpset _ _ _ _ => true
  | .rangerRestart m _ _ => m.wf
  | .mbxCmdDbWrite _ _ _ => true
  | .mbxRspDbWrite _ _ _ => true
  | .commandFetch _ pkt st => st != .ok || (decide (64 ≤ pkt.length) && decide (pkt.length % 64 = 0) && decide (pkt.length ≤ 4096))
  | .responseWrite _ => true
  | .commandTimeout _ i => decide (i < 64)
  | .mbxCtlClr _ _ => true
  | .mbxRingBaseWrite _ _ _ _ => true
  | .mbxNop _ => true
  | .identify _ => true
  | .chanConfig _ => true
  | .setDeadline _ => true
  | .deviceReset _ => true
  | .fwBegin _ => true
  | .fwData _ => true
  | .fwEnd _ => true
  | .persBegin _ => true
  | .persData _ => true
  | .persEnd _ => true
  | .persCommit _ => true
  | .persAbort _ => true
  | .persStatus _ => true
  | .sysPlan _ => true
  | .sysTopology _ => true
  | .queueWrite _ => true
  | .queueRead _ => true
  | .queueCtl _ => true
  | .queueStatus _ => true
  | .taskPost _ => true
  | .taskCancel _ => true
  | .eventPending _ => true
  | .eventClear _ => true
  | .counterRead _ => true
  | .memRead _ => true
  | .memWrite _ => true
  | .rlogGet _ => true
  | .rlogPut _ => true
  | .attest _ => true
  | .attestRead _ => true
  | .keyProvision _ => true
  | .lifecycleSet _ => true
  | .signingDone => true
  | .otpBurnDone _ => true
  | .secExtend m _ => m.wf
  | .romBoot => true
  | .pciFlr _ => true
  | .hotReset => true
  | .pciLinkChange _ _ _ _ => true
  | .msixUnmask _ => true
  | .por => true
  | .warmReset _ => true
  | .railFault _ _ => true
  | .xinDetect => true
  | .hubReset m => m.wf
  | .internalReset m => m.wf
  | .tileReset m _ => m.wf
  | .rstGrove m _ => m.wf
  | .avsUpdate _ _ => true
  | .pllUnlock _ => true
  | .tilePllOffEntry _ => true
  | .tileWakeDone _ => true
  | .pwrWake m _ _ => m.wf
  | .clkTileWrite m _ _ => m.wf
  | .groveRetentionEntry _ => true
  | .wdgFwSvc m _ => m.wf
  | .wdgDevSvc m _ => m.wf
  | .wdgCtlWrite m _ _ => m.wf
  | .wdgFwWarn => true
  | .wdgDevWarn => true
  | .wdgFwExpiry => true
  | .wdgDevExpiry => true
  | .lineReset => true
  | .rd _ _ => true
  | .rdq _ _ => true
  | .wr _ _ => true
  | .rdi _ _ => true
  | .rdqi _ _ => true
  | .wri _ _ => true
  | .prd _ _ => true
  | .pwr _ _ => true
  | .debugReadComplete _ => true
  | .dbgPortAbort => true
  | .dbgPortClr => true
  | .dbgHaltRequest m x => m.wf && x.wf
  | .haltTakesEffect x => x.wf
  | .dbgRelease m x => m.wf && x.wf
  | .dbgStep m x _ _ => m.wf && x.wf
  | .stepCountDone x => x.wf
  | .uioOutWrite m _ => m.wf
  | .uioOutSet m _ => m.wf
  | .uioOutClr m _ => m.wf
  | .uioOeWrite m _ => m.wf
  | .uioTrigAtWrite m _ _ => m.wf
  | .trigOutPulseStart _ => true
  | .pulseEnd _ => true
  | .tbOutPulse _ => true
  | .trigInEdge _ _ => true
  | .ppsInEdge _ => true
  | .ppsHoldover => true
  | .delayLineCalibration => true
  | .pllRelock _ _ => true
  | .railInRange _ => true
  | .gpioPinEdge _ _ => true
  | .configurationRequest q => q.wf
  | .reservedFrame _ _ => true
  | .reservedTypePacket p => p.wf
  | .timeBaseSlewEnd => true

/-- A well-formed command. -/
def WellFormed (i : Instr) : Prop := i.wf = true

end Sys2Proof
end

