-- ==== Sys2Proof/Tests/Slice0.lean ====
section
/-!
SUPPORT. Tests: ill-formed operands are refused; examples of the spec; and for each statement with hypotheses, states and operands that meet them.
-/
namespace Sys2Proof.Tests
open Sys2Proof.Machine
set_option Elab.async false

/-- An image with the given bits. -/
def im (l : List (Nat × Nat)) : BitVec 4096 := l.foldl (fun v p => v ||| (BitVec.ofNat 4096 p.2 <<< p.1)) 0#4096
/-- A device as a command finds it. -/
def dv (c : Chip) : Dev := start { mem := [], chip := c }
/-- The grove of the witnesses. -/
def g0 : GroveId := ⟨0, 2, 3⟩
/-- A device with one grove. -/
def gv (gr : Grove) : Dev := dv { groves := [(gkey 0 (gOf g0), gr)] }
/-- A grove whose task runs in slot 0, under the given image. -/
def task (img : BitVec 4096) (r : Run) : Grove :=
  { run := some r, slots := [(0, { state := .running, img := img })], windows := [{ slot := 0, depth := 1 }] }
/-- A grove whose cell 3 holds the operation, with imm in its immediate. -/
def cellGrove (op imm : Nat) : Grove := task (im [(128 + 128 * 3, op + imm * 2 ^ 37 + 0xD * 2 ^ 11 + 0xD * 2 ^ 15 + 0xD * 2 ^ 19)]) { slot := 0, desc := 0, touched := true }
/-- A grove whose sequencer stands at the given instruction of a program of five. -/
def seqGrove (w : Nat) (r : Run) : Grove := task (im [(3392, w), (3200, 5 * 2 ^ 22 + 2 * 2 ^ 48 + 2 ^ 32)]) r
/-- The task of the sequencer's witnesses. -/
def r0 : Run := { slot := 0, desc := 0 }
/-- The same with 5 in w1 and a word of the far address 0x40000 in w2. -/
def seqAt (op rest : Nat) (r : Run) : Dev :=
  gv { seqGrove (op * 2 ^ 26 + rest) r with windows := [⟨0, 1, [(1, tword 5#32), (2, tword 0x40000#32), (3, tword 0x20#32)], 0⟩] }
/-- A task that opens an item in queue 7. -/
def opening : Dev := (seqAt 0x29 0 { r0 with qw0 := { queue := some 7 } }).on (fun c => c.setRf .queCfg (.tile 0) 7 63 1 1)
/-- A device that counts as up: the resets released and the clocks locked. -/
def up (c : Chip) : Dev := dv c
/-- The task of the witnesses, with a word of a queue port on its track. -/
def busy (r : Run) (gr : Grove) : Dev := gv { gr with run := some r, slots := [(0, { state := .running })] }
/-- An item of two words. -/
def item2 : Item := { seq := 3, flow := 9#24, words := [⟨tword 1#32, .tail, false⟩, ⟨tword 2#32, .tail, false⟩], vb := 0 }
/-- A task with item 3 of queue 5. -/
def rq : Run := { slot := 0, desc := 0, hasItem := true, queue := 5, itemSeq := 3, ilen := 2 }
/-- A descriptor that owes a placeholder to queue 0, the default error queue. -/
def phDev : Dev := (dv { tiles := [(0, { descs := [(4, { flow := 9#24, poisonDue := some 1 })] })] }).on (fun c => (c.modQueue 0 (fun _ => {})).setRf .queCfg (.tile 0) 0 63 1 1)
/-- A device with queue 5 of tile 0. -/
def withQ (q : Queue) (r : Run) : Dev := (busy r {}).on (fun c => c.modQueue 5 (fun _ => q))
/-- A task with a read of tile memory outstanding. -/
def mrdRun : Run := { slot := 0, desc := 0, mrds := [⟨1, 1, 0, 0x2000000000, 5⟩] }
/-- Its device. -/
def mrdDev : Dev := (busy mrdRun {}).on (fun c => c.modHub (fun h => { h with firebreaks := [(0, ⟨false, false, 0, 0, [(0, 2 ^ 48 - 1)]⟩)] }))
/-- What the read finds. -/
def mrdServed : ReqOut × Dev := serveReq (.grove 0 (gOf g0)) (nodeOf (.grove 0 (gOf g0))) false { op := .read, a := 0x2000000000, n := 1 } .ok mrdDev
/-- A device with one tile. -/
def tv (x : Tile) : Dev := dv { tiles := [(0, x)] }
/-- A tile with one ready task of context 7, of firebreak 2, for which the grove stands free. -/
def ready1 (x : Desc) : Tile := { descs := [(4, { x with state := .ready, ctx := 7, ord := 1 })], ctxTab := [(7, { defined := true, firebreak := 2 })], groveFb := [(gOf g0, 2)] }
/-- A grove that holds context 7. -/
def holding : Grove := { slots := [(2, { state := .ready, img := im [(48, 7)] })] }
/-- A gang of one member on the grove. -/
def gang1 : Tile := { ready1 { gang := some 1 } with gangs := [(1, { firebreak := 2, primary := [(gOf g0, 7)] })] }
/-- An image of context 7 in the cache. -/
def cached : Dev := dv { groves := [(gOf g0, { pagein := some ⟨2, 7, none, false, false⟩ })], tiles := [(0, { cache := [(56, ⟨im [(48, 7), (24, 2), (16, 1)], 1⟩)], groveFb := [(gOf g0, 2)] })] }
/-- A device with one queue. -/
def qv (n : Nat) (q : Queue) : Dev := (dv {}).on (fun c => c.modQueue n (fun _ => q))
/-- A queue in pop mode with two items of one word. -/
def popq : Queue := { items := [⟨1, 9#24, [⟨tword 1#32, .head, false⟩], 0, false, false, 0, false, false, false⟩, ⟨2, 9#24, [⟨tword 2#32, .head, false⟩], 0, false, false, 0, false, false, false⟩] }
/-- The same, with a pop that waits. -/
def popWaits : Dev := (qv 16383 { popq with popWait := 1 }).on (fun c => c.setRf .queCfg (.tile 3) 4095 51 2 3)
/-- The same without one. -/
def popDev : Dev := (qv 16383 popq).on (fun c => c.setRf .queCfg (.tile 3) 4095 61 2 3)
/-- An access of the last two words of tile memory. -/
def acc1 : TmbAcc := ⟨.network, 0x3FFFFF8#26, .write, true, tword 1#32, 0#35, .ok⟩
/-- A packet from device 2 to device 1 on virtual link 0 of port 0. -/
def pk (ty n : Nat) (fs : List (Nat × Nat × Nat)) (data : List Word) : Packet :=
  let vc := (typeVc ty).getD 3
  let h := mkHdr ([(0, 5, ty), (5, 2, vc), (8, 12, 1), (20, 12, 2), (56, 7, n)] ++ fs)
  { port := 0, hdr := h, payload := data, crc := packetCrc h data [] 0 vc 1 }
/-- Device 1, whose virtual link 0 of port 0 leads to device 2 and has every permission. -/
def linked : Dev :=
  (dv { hub := { links := [(0, { st := .active })] } }).on (fun c => ((c.setRf .fabCtl .hub 0 32 6 1).setRf .fabCtl .hub 0 40 1 1).setReg .fabVl .hub 0 (mkReg [(63, 1, 1), (28, 12, 2), (0, 8, 0x7F)]))
/-- The same with queue 5. -/
def linkedQ (q : Queue) : Dev := linked.on (fun c => ((c.modQueue 5 (fun _ => q)).setRf .queCfg (.tile 0) 5 63 1 1).modHub (fun h => { h with held := [] }))
/-- A write of one word into an item of queue 5. -/
def qwr : Packet := pk 0x01 1 [(74, 14, 5), (88, 1, 1), (89, 1, 1), (92, 24, 9)] [7#32]
/-- Queue 5 with credit for device 2. -/
def creditQ5 : Queue := { streams := [(0, ⟨2, 0, 16, true⟩)] }
/-- What the write finds. -/
def qwrAt : Dev := (received qwr (linkedQ creditQ5)).on (fun c => c.modQueue 5 (fun Q => { Q with
  silent := Q.silent.filter (fun x => x != .stream 2 5 0), lost := Q.lost.filter (fun x => x != .stream 2 5 0), refusing := Q.refusing.filter (fun x => x != .stream 2 5 0) }))
/-- A queue in pop mode, on the linked device. -/
def linkedPop : Dev := (linkedQ popq).on (fun c => c.setRf .queCfg (.tile 0) 5 61 2 3)
/-- A read of one word of queue 5. -/
def qrd : Packet := pk 0x0B 1 [(74, 14, 5)] []
/-- A request for a word of the tile memory of tile 0. -/
def memRd : Packet := pk 0x08 1 [(82, 46, 0x1000000000 / 4), (74, 4, 15)] []
/-- The device without held tiles. -/
def linkedGo : Dev := linked.on (fun c => c.modHub (fun h => { h with held := [], firebreaks := [(0, ⟨false, false, 0, 0, [(0, 2 ^ 48 - 1)]⟩)] }))
/-- How the request is served. -/
def memRdServed : ReqOut × Dev := serveReq (.link 0) 2 false { op := .read, a := 0x1000000000, n := 1, ws := memRd.words, fbe := 15, lbe := 0 } .ok (received memRd linkedGo)
/-- A drain of queue 5 to device 2. -/
def draining (x : Drain) (q : Queue) : Dev :=
  ((linkedQ q).on (fun c => (c.setRf .queCfg (.tile 0) 5 61 2 2).modHub (fun h => { h with drains := [(5, x)] })))
/-- A device with one message in the queue of its core, whose firmware runs. -/
def msgDev (m : MsgIn) (h : Hub) : Dev := dv { hub := { h with msgQ := [m], mbxState := 2 } }
/-- What the core finds when it has taken it. -/
def taken (m : MsgIn) (d : Dev) : Chip := ((takeMsg m.cls d.chip).map (fun p => p.2)).getD {}
/-- A message from the peer on port 3. -/
def note (cls : Nat) (ws : List Word) (ret : Option (List Nat)) : MsgIn := ⟨4095, cls, ws, 3, 0, ret⟩
/-- A link of port 7. -/
def lv (e : LinkEnd) : Dev := dv { hub := { links := [(7, e), (16, { st := .active }), (38, { st := .active })] } }
/-- An end of a link in service. -/
def on7 : LinkEnd := { st := .active }
/-- A flit of its peer. -/
def fl7 (kind seq : Nat) (us : List Word) : Flit :=
  let ctl := mkCtl [(0, 2, kind), (2, 12, seq)]
  let f : Flit := { stream := us, ctl := ctl }
  { f with ctl := ctl ||| (BitVec.ofNat 88 (flitCrc f)) <<< 56 }
/-- A device whose tile 0 is held with its record of a committed personality. -/
def holdDev (h : List Nat) (due : Bool) : Dev :=
  (dv { hub := { held := h, uioDue := due, tileRecs := [(0, { state := 4 })] } }).on (fun c => c.setRf .rstCfgJrnl .hub 0 61 3 4)
/-- A device whose configuration port has one command. -/
def icpDev (cmd master : Nat) : Dev := dv { tiles := [(0, { icpQ := [⟨cmd, master⟩] })] }
/-- What the port takes. -/
def icpRest (op : Nat) (d : Dev) : Dev := ((icpHead 0 op d).map (fun p => p.2)).getD {}
/-- The same with an image in staging entry 0. -/
def icpStaged (cmd : Nat) (img : BitVec 4096) : Dev := (icpDev cmd 256).putBytes ((icpDev cmd 256).chip.stageAddr 0 0) (bytesOf img.toNat 512)
/-- An advance of context 7. -/
def adv7 (u : Nat) : Advance := ⟨u, 7, 1, 2, 0, true, (0, 0)⟩
/-- Channel 0 with one command, which its function may give. -/
def mb (st : Nat) (m : MbxCmd) (h : Hub) : Dev :=
  (dv { hub := { h with mbxState := st, chans := [(0, { cmds := [m] })], held := [] } }).on (fun c => c.setRf .mbxHdr .hub 0 34 1 1)
/-- A command with its parameter bytes and data. -/
def cmd (op : Nat) (param data : List Byte) : MbxCmd := { opcode := op, unord := false, rslots := 1, tag := 7, param := param, data := data }
/-- The host link is up, and channel 0 is of function 0. -/
def host (c : Chip) : Dev := (dv c).on (fun c => c.setRf .pciLinkStat .hub 0 63 1 1)
/-- A queue that takes items from the host. -/
def hostQ (m : MbxCmd) : Dev := ((mb 2 m {}).on (fun c => (c.modQueue 5 (fun _ => {})).setRf .queCfg (.tile 0) 5 63 1 1)).on (fun c => c.modHub (fun h => { h with firebreaks := [(0, ⟨false, false, 0, 0, [(0, 2 ^ 48 - 1)]⟩)] }))
/-- A frame of the lookout port for a hub register. -/
def fr (a : Nat) : DbgFrame := { operand := BitVec.ofNat 48 a }
/-- A device whose debug port has a state. -/
def dbgDev (p : DbgPort) : Dev := dv { hub := { dbg := p } }
/-- The address of a hub register. -/
def regA : Nat := Reg.addr .uioOut .hub 0
/-- A read of it that waits. -/
def rdA : DbgAcc := { quiet := false, incr := false, wide := false, addr := regA }
/-- A device with pin 0 of the given function. -/
def pin (f edge : Nat) : Dev :=
  (dv { hub := { uioOn := true } }).on (fun c => ((c.setRf .uioCfg .hub 0 60 4 f).setRf .uioCfg .hub 0 34 2 edge).setRf .rstCfgJrnl .hub 0 61 3 4)
/-- A halted core in a development state, with DBG_WDG_FREEZE. -/
def frozen : Dev := (dv { hub := { core := { halted := true } } }).on (fun c => c.setRf .dbgWdgFreeze .hub 0 0 1 1)
/-! ### Ill-formed operands are refused -/

theorem test_wf_master : Instr.wf (.registerWrite (.link 2048) 0 true 0) = false := by decide
theorem test_wf_groveNumber : Instr.wf (.registerWrite (.grove 0 12) 0 true 0) = false := by decide
theorem test_wf_alignment : Instr.wf (.registerWrite .core 4 true 0) = false ∧ Instr.wf (.registerWrite .core 4 false 0) = true := by decide
theorem test_wf_memoryUnit : Instr.wf (.eccWriteback (.block 0 64)) = false ∧ Instr.wf (.eccWriteback (.bank 0 0 8)) = false := by decide
theorem test_wf_latchUpset : Instr.wf (.selectLatchFault g0 0 0) = false ∧ Instr.wf (.selectLatchFault g0 0 256) = false ∧ Instr.wf (.selectLatchFault g0 0 1) = true := by decide
theorem test_wf_readWords : Instr.wf (.qrFetchArrival g0 0 17 ⟨.ok, none⟩) = false := by decide
theorem test_wf_packetLength : Instr.wf (.puhanNtc { port := 0, hdr := 0#128, payload := [0#32] }) = false ∧ Instr.wf (.puhanNtc { port := 8, hdr := 0#128 }) = false := by decide
theorem test_wf_flitLength : Instr.wf (.nakRx (.port 0) { stream := [], ctl := 0#88 }) = false := by decide
theorem test_wf_request : Instr.wf (.requestTimeout (.remote 4095 0)) = false ∧ Instr.wf (.requestTimeout (.mrd 0 0 64)) = false := by decide
theorem test_wf_lanes : Instr.wf (.retrainComplete (.port 0) [5] []) = false ∧ Instr.wf (.retrainComplete (.d2d 0 0) [68] []) = false := by decide
theorem test_wf_laneMargin : Instr.wf (.laneMarginSample true 40 0 0 0) = false ∧ Instr.wf (.laneMarginSample false 816 0 0 0) = false := by decide
theorem test_wf_packetUnits : Instr.wf (.flitTransmit (.d2d 0 0) [[0#35]]) = false := by decide
theorem test_wf_transfer : Instr.wf (.gd7TransferDone 0 6 0 .ok) = false := by decide
theorem test_wf_fetchedCommand : Instr.wf (.commandFetch 0 [0#8] .ok) = false := by decide
theorem test_wf_haltTarget : Instr.wf (.dbgHaltRequest .core (.tile 4)) = false := by decide
theorem test_wf_configuration : Instr.wf (.configurationRequest (.numVf 32)) = false ∧ Instr.wf (.configurationRequest (.bar 4 0)) = false := by decide

/-! ### Examples of the spec -/

/-- R53, R51: 127 + 1 saturates to 127 in a signed byte, and wraps to 128 without saturation. -/
theorem test_add_saturates :
    let f (sat : Nat) : CellField := cellField (BitVec.ofNat 128 (0x01 + 2 * 2 ^ 7 + 2 ^ 9 + sat * 2 ^ 10))
    let y (sat : Nat) : Nat := (((laneFlight {} {} 0 0 (f sat) {} 0x7F 1 0 false).outWord.map (fun w => (TWord.data w).toNat)).getD 0) % 256
    y 1 = 127 ∧ y 0 = 128 := by decide +kernel
/-- R64: the residue of an accumulator is the residue of its low word and four times that of its high word. -/
theorem test_accumulator_residue : res64 0x0000000100000000#64 = 4#3 ∧ res64 1#64 = 1#3 := by decide +kernel
/-- R133: MRD of an address that no grove may reach leaves the read to the error of its completion, and LD past the scratchpad traps. -/
theorem test_address_trap :
    (match exec (.cellLd g0 3 {}) { dev := gv (cellGrove 0x40 0xFFFF) } with
     | .next s => ((s.dev.chip.grove 0 (gOf g0)).run.bind (fun r => r.fail)).isSome && (s.dev.chip.grove 0 (gOf g0)).inflight.isEmpty
     | _ => false) = true := by decide +kernel
/-- R135: CALL hands w4 to w7 of the caller on as w0 to w3. -/
theorem test_call_window :
    (match exec (.seqCall g0 {}) { dev := gv { seqGrove (0x16 * 2 ^ 26 + 4) r0 with windows := [⟨0, 1, [(4, tword 9#32)], 0⟩] } } with
     | .next s => ((s.dev.chip.grove 0 (gOf g0)).window? 0 2).any (fun w => kget 0#35 w.regs 0 == tword 9#32)
     | _ => false) = true := by decide +kernel
/-- R14: one count past 2^48 - 1 leaves the counter where it is. -/
theorem test_counter_holds : (cntAdd (BitVec.ofNat 64 (2 ^ 49 - 1)) 1).1 = BitVec.ofNat 64 (2 ^ 49 - 1) ∧ (cntAdd (BitVec.ofNat 64 (2 ^ 48 - 2)) 1).2 = true := by decide +kernel
/-- R15: 0 is later than 65535, and 32768 is not later than 0. -/
theorem test_serial_order : serialLater 16 0 65535 = true ∧ serialLater 16 32768 0 = false := by decide +kernel

/-! ### The hypotheses of the statements are met -/

theorem test_meets_StepTakesTheFrontCommand : ∃ s : State, s.pending = Instr.tick 0 :: [] := ⟨{ pending := [.tick 0] }, rfl⟩
theorem test_meets_ResetLeavesTheTablesValues : Reg.named .uioCfg .hub 47 = true ∧ Reg.named .seqStatus (.grove 3 187) 0 = true := by decide +kernel
theorem test_meets_StepKeepsTheMemoryForm : State.reset.inv ∧ ∃ t, step { pending := [.tick 0] } = .next t := ⟨(by decide : State.reset.dev.mem.wf = true), _, rfl⟩
theorem test_meets_RegisterAddressesAreDecoded :
    Reg.named .uioCfg .hub 31 = true ∧ Reg.covered .uioCfg 31 = false ∧ Reg.named .uioTrigAt .hub 0 = true ∧ (Reg.uioCfg, Site.hub, 32) ≠ (Reg.uioTrigAt, Site.hub, 0) := by decide +kernel
theorem test_meets_FieldsFollowTheirAccessType :
    (Reg.fields .uioOut).any (fun f => f.acc == .rw) = true ∧ (Reg.fields .wdgFwCtl).any (fun f => f.acc == .rwl) = true ∧
    (Reg.fields .fabVl).any (fun f => f.acc == .w1c) = true ∧ (Reg.fields .wdgFwSvc).any (fun f => f.acc == .wo) = true ∧
    (Reg.fields .seqStatus).any (fun f => f.acc == .ro) = true := by decide +kernel
theorem test_meets_ReservedAndUnpopulatedReadZero :
    (∀ f ∈ Reg.fields .uioOut, ¬(f.lo ≤ 48 ∧ 48 < f.lo + f.wd)) ∧ unpopulated (dv {}).chip 0x3E00008 = false ∧ unpopulated (dv {}).chip 0x3E00F00 = true := by decide +kernel
theorem test_meets_CountersSaturateOnce : Reg.counter .queGladeCnt = true ∧ (cntAdd 0#64 1).2 = false ∧ (cntAdd (BitVec.ofNat 64 (2 ^ 48 - 2)) 1).2 = true := by decide +kernel
theorem test_meets_QuietCommandsHaveTheirEffectOnly :
    ∃ (i : Instr) (eff : Dev → Dev) (s : State), Does i (fun _ => True) eff ∧ settled (eff (start s.dev)) = true :=
  ⟨.ppsHoldover, fun d => d.on (fun c => c.setRf .tbsPpsCtl .hub 0 62 1 1), {}, fun s _ => exec_ppsHoldover s, by decide +kernel⟩
theorem test_meets_CellArithmeticAndCompareLanes :
    ∀ o ∈ [0x01, 0x02, 0x03, 0x04, 0x05, 0x06, 0x07, 0x08, 0x09, 0x0A, 0x0B, 0x10, 0x11, 0x12, 0x25], let f := cellField (BitVec.ofNat 128 (o + 2 * 2 ^ 7))
      f.lane ≤ 2 ∧ f.opcode = o ∧ (24, 8) ∈ lanesOf f.lane := by decide +kernel
theorem test_meets_CellBitLanes :
    ∀ o ∈ [0x20, 0x21, 0x22, 0x23, 0x24, 0x28, 0x29, 0x2A, 0x2B, 0x2C, 0x2D, 0x2E, 0x2F], let f := cellField (BitVec.ofNat 128 o)
      f.lane ≤ 2 ∧ f.opcode = o ∧ f.lane = 0 ∧ (0, 32) ∈ lanesOf f.lane := by decide +kernel
theorem test_meets_AccessesReadAndStore :
    TWord.bad (tword 5#32) = false ∧ TWord.isPoison (tword 5#32) = false ∧ TWord.isPoison ((dv {}).rdW 0x2000000000 false).1 = false ∧
    TWord.bad (7#3 ++ 5#32) = false ∧ TWord.isPoison (7#3 ++ 5#32) = true ∧ TWord.bad (0#3 ++ 5#32) = true := by decide +kernel
theorem test_meets_CellLaneOpsFire :
    (∀ o ∈ [0x01, 0x02, 0x03, 0x04, 0x05, 0x06, 0x07, 0x08, 0x09, 0x0A, 0x0B, 0x10, 0x11, 0x12, 0x20, 0x21, 0x22, 0x23, 0x24, 0x25, 0x28, 0x29, 0x2A, 0x2B, 0x2C, 0x2D, 0x2E, 0x2F],
      let s : State := { dev := gv (cellGrove o 0) }
      cellReady o 0 (gOf g0) 3 (start s.dev) = true ∧ cellSound 0 (gOf g0) 3 (start s.dev) = true) ∧
    (let f := cellField (BitVec.ofNat 128 1); f.lane ≤ 2 ∧ ∃ x ∈ laneOps, x.1 = f.opcode) := by decide +kernel
theorem test_meets_SeqAluOpsIssue :
    (∀ o ∈ [0x01, 0x02, 0x03, 0x04, 0x05, 0x06, 0x07], let s : State := { dev := seqAt o (2 ^ 22 + 2 ^ 18) r0 }
      seqReady o 0 (gOf g0) (start s.dev) = true ∧ seqSound true true 0 (gOf g0) (start s.dev) = true) ∧
    (∀ o ∈ [0x08, 0x09, 0x0A, 0x0B, 0x0C, 0x0D], let s : State := { dev := seqAt o (2 ^ 22 + 2 ^ 18 + 31) r0 }
      seqReady o 0 (gOf g0) (start s.dev) = true ∧ seqSound true false 0 (gOf g0) (start s.dev) = true) := by decide +kernel

theorem test_meets_CellAccumulatorOpsFire :
  (let g : GroveId := g0;
    let n : Fin 16 := 3;
    let t := g.t.val;
    let k := gOf g;
    let ok (op : Nat) (d : Dev) : Prop := cellReady op t k n.val d = true ∧ cellSound t k n.val d = true;
    (ok 0x13) (gv (cellGrove 0x13 0))) ∧
  (let g : GroveId := g0;
    let n : Fin 16 := 3;
    let t := g.t.val;
    let k := gOf g;
    let ok (op : Nat) (d : Dev) : Prop := cellReady op t k n.val d = true ∧ cellSound t k n.val d = true;
    (ok 0x14) (gv (cellGrove 0x14 0))) ∧
  (let g : GroveId := g0;
    let n : Fin 16 := 3;
    let t := g.t.val;
    let k := gOf g;
    let ok (op : Nat) (d : Dev) : Prop := cellReady op t k n.val d = true ∧ cellSound t k n.val d = true;
    (ok 0x15) (gv (cellGrove 0x15 0))) ∧
  (let g : GroveId := g0;
    let n : Fin 16 := 3;
    let t := g.t.val;
    let k := gOf g;
    let ok (op : Nat) (d : Dev) : Prop := cellReady op t k n.val d = true ∧ cellSound t k n.val d = true;
    (ok 0x16) (gv (cellGrove 0x16 0))) ∧
  (let g : GroveId := g0;
    let n : Fin 16 := 3;
    let t := g.t.val;
    let k := gOf g;
    let ok (op : Nat) (d : Dev) : Prop := cellReady op t k n.val d = true ∧ cellSound t k n.val d = true;
    (ok 0x17) (gv (cellGrove 0x17 0))) := by
  refine ⟨?_, ?_, ?_, ?_, ?_⟩ <;> ((try dsimp only [comes, asks]); decide +kernel)

theorem test_meets_CellReadAndFlagOpsFire :
  (let g : GroveId := g0;
    let n : Fin 16 := 3;
    let t := g.t.val;
    let k := gOf g;
    let ok (op : Nat) (d : Dev) : Prop := cellReady op t k n.val d = true ∧ cellSound t k n.val d = true;
    (ok 0x00) (gv (cellGrove 0 0))) ∧
  (let g : GroveId := g0;
    let n : Fin 16 := 3;
    let t := g.t.val;
    let k := gOf g;
    let F (d : Dev) := cellF t k n.val d;
    let x (d : Dev) := (d.chip.grove t k).cell n.val;
    let acc (d : Dev) := (x d).accu (F d).accSel;
    let ok (op : Nat) (d : Dev) : Prop := cellReady op t k n.val d = true ∧ cellSound t k n.val d = true;
    (fun d => ok 0x18 d ∧ ((acc d).res = 7#3 ∨ (acc d).res = res64 (acc d).val)) (gv (cellGrove 0x18 0))) ∧
  (let g : GroveId := g0;
    let n : Fin 16 := 3;
    let t := g.t.val;
    let k := gOf g;
    let x (d : Dev) := (d.chip.grove t k).cell n.val;
    let ok (op : Nat) (d : Dev) : Prop := cellReady op t k n.val d = true ∧ cellSound t k n.val d = true;
    (fun d => ok 0x50 d ∧ (x d).par = flagPar (x d).flags) (gv (cellGrove 0x50 0))) ∧
  (let g : GroveId := g0;
    let n : Fin 16 := 3;
    let t := g.t.val;
    let k := gOf g;
    let ok (op : Nat) (d : Dev) : Prop := cellReady op t k n.val d = true ∧ cellSound t k n.val d = true;
    (ok 0x51) (gv (cellGrove 0x51 0))) := by
  refine ⟨?_, ?_, ?_, ?_⟩ <;> ((try dsimp only [comes, asks]); decide +kernel)

theorem test_meets_CellMemoryOpsFireOrTrap :
  (let g : GroveId := g0;
    let n : Fin 16 := 3;
    let t := g.t.val;
    let k := gOf g;
    let F (d : Dev) := cellF t k n.val d;
    let sum (d : Dev) : Nat := ((TWord.data (cellA t k n.val d)).toNat + (immWord (F d)).toNat) % 2 ^ 32;
    let ok (op : Nat) (d : Dev) : Prop := cellReady op t k n.val d = true ∧ cellSound t k n.val d = true ∧ sum d < 2 ^ 17 ∧
      (d.chip.spPwr t k (sum d)).dead = false;
    (ok 0x40) (gv (cellGrove 0x40 0x1FFF))) ∧
  (let g : GroveId := g0;
    let n : Fin 16 := 3;
    let t := g.t.val;
    let k := gOf g;
    let F (d : Dev) := cellF t k n.val d;
    let sum (d : Dev) : Nat := ((TWord.data (cellA t k n.val d)).toNat + (immWord (F d)).toNat) % 2 ^ 32;
    let ok (op : Nat) (d : Dev) : Prop := cellReady op t k n.val d = true ∧ cellSound t k n.val d = true ∧ sum d < 2 ^ 17 ∧
      (d.chip.spPwr t k (sum d)).dead = false;
    (ok 0x41) (gv (cellGrove 0x41 0x1FFF))) ∧
  (let g : GroveId := g0;
    let n : Fin 16 := 3;
    let t := g.t.val;
    let k := gOf g;
    let F (d : Dev) := cellF t k n.val d;
    let sum (d : Dev) : Nat := ((TWord.data (cellA t k n.val d)).toNat + (immWord (F d)).toNat) % 2 ^ 32;
    let ok (op : Nat) (d : Dev) : Prop := cellReady op t k n.val d = true ∧ cellSound t k n.val d = true ∧ sum d < 2 ^ 17 ∧
      (d.chip.spPwr t k (sum d)).dead = false;
    (ok 0x42) (gv (cellGrove 0x42 0x1FFF))) ∧
  (let g : GroveId := g0;
    let n : Fin 16 := 3;
    let t := g.t.val;
    let k := gOf g;
    let F (d : Dev) := cellF t k n.val d;
    let sum (d : Dev) : Nat := ((TWord.data (cellA t k n.val d)).toNat + (immWord (F d)).toNat) % 2 ^ 32;
    let ok (op : Nat) (d : Dev) : Prop := cellReady op t k n.val d = true ∧ cellSound t k n.val d = true ∧ sum d < 2 ^ 17 ∧
      (d.chip.spPwr t k (sum d)).dead = false;
    (ok 0x43) (gv (cellGrove 0x43 0x1FFF))) ∧
  (let g : GroveId := g0;
    let n : Fin 16 := 3;
    let t := g.t.val;
    let k := gOf g;
    let sum (d : Dev) : Nat := ((TWord.data (cellA t k n.val d)).toNat + (immWord (cellF t k n.val d)).toNat) % 2 ^ 32;
    let ok (op : Nat) (d : Dev) : Prop := cellReady op t k n.val d = true ∧ cellSound t k n.val d = true ∧ 2 ^ 17 ≤ sum d;
    let x := (0x40, Instr.cellLd g n {});
    (ok x.1) (gv (cellGrove 0x40 0xFFFF))) := by
  refine ⟨?_, ?_, ?_, ?_, ?_⟩ <;> ((try dsimp only [comes, asks]); decide +kernel)

theorem test_meets_SeqControlFlowIssues :
  (let g : GroveId := g0;
    let t := g.t.val;
    let k := gOf g;
    let ok (op : Nat) (d : Dev) : Prop := seqReady op t k d = true;
    (ok 0x00) (seqAt 0x00 (0) r0)) ∧
  (let g : GroveId := g0;
    let t := g.t.val;
    let k := gOf g;
    let ok (op : Nat) (d : Dev) : Prop := seqReady op t k d = true;
    (ok 0x10) (seqAt 0x10 (4) r0)) ∧
  (let g : GroveId := g0;
    let t := g.t.val;
    let k := gOf g;
    let w (d : Dev) : Word := seqWord t k d;
    let holds (d : Dev) : Bool := match (d.chip.grove t k).run with
      | some r => xor (seqCond (d.chip.grove t k) r (iCond (w d)) r.words) (iInv (w d))
      | none => false;
    let ok (op : Nat) (d : Dev) : Prop := seqReady op t k d = true;
    (fun d => ok 0x11 d ∧ holds d = true) (seqAt 0x11 (4 + 2 ^ 7) r0)) ∧
  (let g : GroveId := g0;
    let t := g.t.val;
    let k := gOf g;
    let w (d : Dev) : Word := seqWord t k d;
    let holds (d : Dev) : Bool := match (d.chip.grove t k).run with
      | some r => xor (seqCond (d.chip.grove t k) r (iCond (w d)) r.words) (iInv (w d))
      | none => false;
    let ok (op : Nat) (d : Dev) : Prop := seqReady op t k d = true;
    (fun d => ok 0x11 d ∧ holds d = false) (seqAt 0x11 (4) r0)) ∧
  (let g : GroveId := g0;
    let t := g.t.val;
    let k := gOf g;
    let zero (d : Dev) : Prop := TWord.data (seqA t k d) = 0#32;
    let ok (op : Nat) (d : Dev) : Prop := seqReady op t k d = true;
    (fun d => ok 0x12 d ∧ seqClean true false t k d = true ∧ zero d) (seqAt 0x12 (4) r0)) ∧
  (let g : GroveId := g0;
    let t := g.t.val;
    let k := gOf g;
    let zero (d : Dev) : Prop := TWord.data (seqA t k d) = 0#32;
    let ok (op : Nat) (d : Dev) : Prop := seqReady op t k d = true;
    (fun d => ok 0x12 d ∧ seqClean true false t k d = true ∧ ¬zero d) (seqAt 0x12 (4 + 2 ^ 18) r0)) ∧
  (let g : GroveId := g0;
    let t := g.t.val;
    let k := gOf g;
    let zero (d : Dev) : Prop := TWord.data (seqA t k d) = 0#32;
    let ok (op : Nat) (d : Dev) : Prop := seqReady op t k d = true;
    (fun d => ok 0x13 d ∧ seqClean true false t k d = true ∧ ¬zero d) (seqAt 0x13 (4 + 2 ^ 18) r0)) ∧
  (let g : GroveId := g0;
    let t := g.t.val;
    let k := gOf g;
    let zero (d : Dev) : Prop := TWord.data (seqA t k d) = 0#32;
    let ok (op : Nat) (d : Dev) : Prop := seqReady op t k d = true;
    (fun d => ok 0x13 d ∧ seqClean true false t k d = true ∧ zero d) (seqAt 0x13 (4) r0)) ∧
  (let g : GroveId := g0;
    let t := g.t.val;
    let k := gOf g;
    let w (d : Dev) : Word := seqWord t k d;
    let holds (d : Dev) : Bool := match (d.chip.grove t k).run with
      | some r => xor (seqCond (d.chip.grove t k) r (iCond (w d)) r.words) (iInv (w d))
      | none => false;
    let ok (op : Nat) (d : Dev) : Prop := seqReady op t k d = true;
    (fun d => ok 0x19 d ∧ holds d = true) (seqAt 0x19 (2 ^ 7) r0)) ∧
  (let g : GroveId := g0;
    let t := g.t.val;
    let k := gOf g;
    let w (d : Dev) : Word := seqWord t k d;
    let holds (d : Dev) : Bool := match (d.chip.grove t k).run with
      | some r => xor (seqCond (d.chip.grove t k) r (iCond (w d)) r.words) (iInv (w d))
      | none => false;
    let ok (op : Nat) (d : Dev) : Prop := seqReady op t k d = true;
    (fun d => ok 0x19 d ∧ holds d = false) (seqAt 0x19 (0) r0)) ∧
  (let g : GroveId := g0;
    let t := g.t.val;
    let k := gOf g;
    let w (d : Dev) : Word := seqWord t k d;
    let run (d : Dev) : Run := runOf t k d;
    let free (d : Dev) : Prop := (run d).loops.length < 2;
    let within (d : Dev) : Prop := ∀ l ∈ (run d).loops, (run d).pc ≠ l.last;
    (fun d => seqReady 0x14 t k d = true ∧ free d ∧ within d ∧ iCount (w d) ≠ 0) (seqAt 0x14 (4 + 2 ^ 5) r0)) ∧
  (let g : GroveId := g0;
    let t := g.t.val;
    let k := gOf g;
    let w (d : Dev) : Word := seqWord t k d;
    let run (d : Dev) : Run := runOf t k d;
    let free (d : Dev) : Prop := (run d).loops.length < 2;
    let within (d : Dev) : Prop := ∀ l ∈ (run d).loops, (run d).pc ≠ l.last;
    (fun d => seqReady 0x14 t k d = true ∧ free d ∧ within d ∧ iCount (w d) = 0) (seqAt 0x14 (4) r0)) ∧
  (let g : GroveId := g0;
    let t := g.t.val;
    let k := gOf g;
    let run (d : Dev) : Run := runOf t k d;
    let free (d : Dev) : Prop := (run d).loops.length < 2;
    (fun d => seqReady 0x14 t k d = true ∧ ¬free d) (seqAt 0x14 (4) { r0 with loops := [⟨1, 2, 1⟩, ⟨1, 2, 1⟩] })) ∧
  (let g : GroveId := g0;
    let t := g.t.val;
    let k := gOf g;
    let run (d : Dev) : Run := runOf t k d;
    let n (d : Dev) : Nat := (TWord.data (seqA t k d)).toNat;
    let free (d : Dev) : Prop := (run d).loops.length < 2;
    let within (d : Dev) : Prop := ∀ l ∈ (run d).loops, (run d).pc ≠ l.last;
    (fun d => seqReady 0x15 t k d = true ∧ seqClean true false t k d = true ∧ free d ∧ within d ∧ n d ≠ 0) (seqAt 0x15 (4 + 2 ^ 18) r0)) ∧
  (let g : GroveId := g0;
    let t := g.t.val;
    let k := gOf g;
    let run (d : Dev) : Run := runOf t k d;
    let n (d : Dev) : Nat := (TWord.data (seqA t k d)).toNat;
    let free (d : Dev) : Prop := (run d).loops.length < 2;
    let within (d : Dev) : Prop := ∀ l ∈ (run d).loops, (run d).pc ≠ l.last;
    (fun d => seqReady 0x15 t k d = true ∧ seqClean true false t k d = true ∧ free d ∧ within d ∧ n d = 0) (seqAt 0x15 (4) r0)) ∧
  (let g : GroveId := g0;
    let t := g.t.val;
    let k := gOf g;
    let run (d : Dev) : Run := runOf t k d;
    let free (d : Dev) : Prop := (run d).loops.length < 2;
    (fun d => seqReady 0x15 t k d = true ∧ seqClean true false t k d = true ∧ ¬free d) (seqAt 0x15 (4) { r0 with loops := [⟨1, 2, 1⟩, ⟨1, 2, 1⟩] })) ∧
  (let g : GroveId := g0;
    let t := g.t.val;
    let k := gOf g;
    let run (d : Dev) : Run := runOf t k d;
    let free (d : Dev) : Prop := (run d).loops.length < 2;
    (fun d => seqReady 0x14 t k d = true ∧ free d) (seqAt 0x14 (4 + 2 ^ 5) r0)) ∧
  (let g : GroveId := g0;
    let t := g.t.val;
    let k := gOf g;
    let run (d : Dev) : Run := runOf t k d;
    let free (d : Dev) : Prop := (run d).loops.length < 2;
    (fun d => seqReady 0x15 t k d = true ∧ seqClean true false t k d = true ∧ free d) (seqAt 0x15 (4 + 2 ^ 18) r0)) ∧
  (let g : GroveId := g0;
    let t := g.t.val;
    let k := gOf g;
    (fun d => seqReady 0x18 t k d = true) (seqAt 0x18 (0) r0)) ∧
  (let g : GroveId := g0;
    let t := g.t.val;
    let k := gOf g;
    (fun d => seqReady 0x1C t k d = true ∧ d.chip.rbit .dbgCtl .hub 0 0 = false) (seqAt 0x1C (0) r0)) ∧
  (let g : GroveId := g0;
    let t := g.t.val;
    let k := gOf g;
    (fun d => seqReady 0x1C t k d = true ∧ d.chip.rbit .dbgCtl .hub 0 0 = true) ((seqAt 0x1C (0) r0).on (fun c => c.setRf .dbgCtl .hub 0 0 1 1))) := by
  refine ⟨?_, ?_, ?_, ?_, ?_, ?_, ?_, ?_, ?_, ?_, ?_, ?_, ?_, ?_, ?_, ?_, ?_, ?_, ?_, ?_, ?_⟩ <;> ((try dsimp only [comes, asks]); decide +kernel)

theorem test_meets_SeqCallAndReturnIssue :
  (let g : GroveId := g0;
    let t := g.t.val;
    let k := gOf g;
    let gr (d : Dev) : Grove := d.chip.grove t k;
    let run (d : Dev) : Run := runOf t k d;
    let limit (d : Dev) : Nat := if (run d).doubled then 2 * imgSpillLen (gr d).runImg else imgSpillLen (gr d).runImg;
    (fun d => seqReady 0x16 t k d = true ∧ (run d).depth < limit d ∧ (gr d).freeWin ≠ 0) (seqAt 0x16 (4) r0)) ∧
  (let g : GroveId := g0;
    let t := g.t.val;
    let k := gOf g;
    let gr (d : Dev) : Grove := d.chip.grove t k;
    let run (d : Dev) : Run := runOf t k d;
    let limit (d : Dev) : Nat := if (run d).doubled then 2 * imgSpillLen (gr d).runImg else imgSpillLen (gr d).runImg;
    (fun d => seqReady 0x16 t k d = true ∧ limit d ≤ (run d).depth) (gv { seqGrove (0x16 * 2 ^ 26 + 4) { r0 with depth := 2 } with windows := [⟨0, 1, [], 0⟩, ⟨0, 2, [], 0⟩] })) ∧
  (let g : GroveId := g0;
    let t := g.t.val;
    let k := gOf g;
    let gr (d : Dev) : Grove := d.chip.grove t k;
    let run (d : Dev) : Run := runOf t k d;
    (fun d => seqReady 0x17 t k d = true ∧ 2 ≤ (run d).depth ∧ ((gr d).window? (run d).slot ((run d).depth - 1)).isSome = true) (gv { seqGrove (0x17 * 2 ^ 26) { r0 with depth := 2 } with windows := [⟨0, 1, [], 0⟩, ⟨0, 2, [], 0⟩] })) ∧
  (let g : GroveId := g0;
    let t := g.t.val;
    let k := gOf g;
    let run (d : Dev) : Run := runOf t k d;
    (fun d => seqReady 0x17 t k d = true ∧ (run d).depth ≤ 1) (seqAt 0x17 (0) r0)) := by
  refine ⟨?_, ?_, ?_, ?_⟩ <;> ((try dsimp only [comes, asks]); decide +kernel)

theorem test_meets_SeqCellOpsIssue :
  (let g : GroveId := g0;
    let t := g.t.val;
    let k := gOf g;
    (fun d => seqReady 0x1A t k d = true) (seqAt 0x1A (7) r0)) ∧
  (let g : GroveId := g0;
    let t := g.t.val;
    let k := gOf g;
    (fun d => seqReady 0x20 t k d = true) (seqAt 0x20 (7) r0)) ∧
  (let g : GroveId := g0;
    let t := g.t.val;
    let k := gOf g;
    (fun d => seqReady 0x21 t k d = true ∧ seqClean true false t k d = true) (seqAt 0x21 (2 ^ 18) r0)) ∧
  (let g : GroveId := g0;
    let t := g.t.val;
    let k := gOf g;
    let aok (d : Dev) : Prop := seqSound true false t k d = true;
    (fun d => seqReady 0x22 t k d = true ∧ aok d) (seqAt 0x22 (2 ^ 18) r0)) ∧
  (let g : GroveId := g0;
    let t := g.t.val;
    let k := gOf g;
    (fun d => seqReady 0x23 t k d = true) (seqAt 0x23 (0) r0)) ∧
  (let g : GroveId := g0;
    let t := g.t.val;
    let k := gOf g;
    let w (d : Dev) : Word := seqWord t k d;
    let gr (d : Dev) : Grove := d.chip.grove t k;
    let o (d : Dev) : TWord := ((gr d).cell (iImm (w d) % 16)).out;
    (fun d => seqReady 0x24 t k d = true ∧ TWord.bad (o d) = false) (seqAt 0x24 (15) r0)) ∧
  (let g : GroveId := g0;
    let t := g.t.val;
    let k := gOf g;
    let w (d : Dev) : Word := seqWord t k d;
    let gr (d : Dev) : Grove := d.chip.grove t k;
    let o (d : Dev) : TWord := ((gr d).cell (iImm (w d) % 16)).out;
    (fun d => seqReady 0x24 t k d = true ∧ TWord.bad (o d) = false) (gv { seqGrove (0x24 * 2 ^ 26 + 3) r0 with cells := [(3, { out := poisoned 0#32 })] })) ∧
  (let g : GroveId := g0;
    let t := g.t.val;
    let k := gOf g;
    let aok (d : Dev) : Prop := seqSound true false t k d = true;
    (fun d => seqReady 0x25 t k d = true ∧ aok d) (seqAt 0x25 (2 ^ 18 + 3) r0)) ∧
  (let g : GroveId := g0;
    let t := g.t.val;
    let k := gOf g;
    (fun d => seqReady 0x38 t k d = true) (seqAt 0x38 (0) r0)) := by
  refine ⟨?_, ?_, ?_, ?_, ?_, ?_, ?_, ?_, ?_⟩ <;> ((try dsimp only [comes, asks]); decide +kernel)

theorem test_meets_SeqSuspendsAndTraps :
  (let g : GroveId := g0;
    let t := g.t.val;
    let k := gOf g;
    let gr (d : Dev) : Grove := d.chip.grove t k;
    let run (d : Dev) : Run := runOf t k d;
    let may (d : Dev) : Prop := imgSuspEn (gr d).runImg = true ∧ (run d).gang = none;
    let quiet (d : Dev) : Prop := (run d).qr0.left = 0 ∧ (run d).qr1.left = 0 ∧ (gr d).inflight = [];
    (fun d => seqReady 0x1B t k d = true ∧ may d ∧ quiet d ∧ (run d).mrds = []) (seqAt 0x1B (0) r0)) ∧
  (let g : GroveId := g0;
    let t := g.t.val;
    let k := gOf g;
    let gr (d : Dev) : Grove := d.chip.grove t k;
    let run (d : Dev) : Run := runOf t k d;
    let may (d : Dev) : Prop := imgSuspEn (gr d).runImg = true ∧ (run d).gang = none;
    let quiet (d : Dev) : Prop := (run d).qr0.left = 0 ∧ (run d).qr1.left = 0 ∧ (gr d).inflight = [];
    (fun d => seqReady 0x1B t k d = true ∧ may d ∧ quiet d ∧ (run d).mrds ≠ []) (seqAt 0x1B (0) { r0 with mrds := [⟨1, 1, 0, 0, 0⟩] })) ∧
  (let g : GroveId := g0;
    let t := g.t.val;
    let k := gOf g;
    let gr (d : Dev) : Grove := d.chip.grove t k;
    let run (d : Dev) : Run := runOf t k d;
    let may (d : Dev) : Prop := imgSuspEn (gr d).runImg = true ∧ (run d).gang = none;
    (fun d => seqReady 0x1B t k d = true ∧ ¬may d) (seqAt 0x1B (0) { r0 with gang := some 1 })) ∧
  (let g : GroveId := g0;
    let r : Run := r0;
    let t := g.t.val;
    let k := gOf g;
    let idle (d : Dev) : Prop := (d.chip.grove t k).run = some r ∧ (d.chip.grove t k).canAct = true ∧ (d.chip.grove t k).seqBusy = false ∧ r.qw0.held = none ∧
      r.qw1.held = none ∧ (d.chip.grove t k).step = none ∧ d.chip.armed = false;
    (fun d => idle d ∧ r.pc < imgN (d.chip.grove t k).runImg ∧ iOp (imgInstr (d.chip.grove t k).runImg r.pc) = 0x01 ∧
        iBad (imgN (d.chip.grove t k).runImg) r.pc (imgInstr (d.chip.grove t k).runImg r.pc) = true) (seqAt 0x01 (2 ^ 13) r0)) ∧
  (let g : GroveId := g0;
    let r : Run := r0;
    let t := g.t.val;
    let k := gOf g;
    let idle (d : Dev) : Prop := (d.chip.grove t k).run = some r ∧ (d.chip.grove t k).canAct = true ∧ (d.chip.grove t k).seqBusy = false ∧ r.qw0.held = none ∧
      r.qw1.held = none ∧ (d.chip.grove t k).step = none ∧ d.chip.armed = false;
    (fun d => idle d ∧ r.pc < imgN (d.chip.grove t k).runImg ∧ iForm (iOp (imgInstr (d.chip.grove t k).runImg r.pc)) = none) (seqAt 0x0E (0) r0)) ∧
  (let g : GroveId := g0;
    let r : Run := { r0 with pc := 5 };
    let t := g.t.val;
    let k := gOf g;
    let idle (d : Dev) : Prop := (d.chip.grove t k).run = some r ∧ (d.chip.grove t k).canAct = true ∧ (d.chip.grove t k).seqBusy = false ∧ r.qw0.held = none ∧
      r.qw1.held = none ∧ (d.chip.grove t k).step = none ∧ d.chip.armed = false;
    (fun d => idle d ∧ imgN (d.chip.grove t k).runImg ≤ r.pc) (seqAt 0x00 (0) { r0 with pc := 5 })) := by
  refine ⟨?_, ?_, ?_, ?_, ?_, ?_⟩ <;> ((try dsimp only [comes, asks]); decide +kernel)

theorem test_meets_SeqPortOpsIssue :
  (let g : GroveId := g0;
    let t := g.t.val;
    let k := gOf g;
    let run (d : Dev) : Run := runOf t k d;
    let item (d : Dev) : Prop := (run d).member = 0 ∧ (run d).hasItem = true;
    (fun d => seqReady 0x2B t k d = true ∧ item d) (seqAt 0x2B (7) { r0 with hasItem := true, ilen := 9 })) ∧
  (let g : GroveId := g0;
    let t := g.t.val;
    let k := gOf g;
    let run (d : Dev) : Run := runOf t k d;
    let item (d : Dev) : Prop := (run d).member = 0 ∧ (run d).hasItem = true;
    (fun d => seqReady 0x2C t k d = true ∧ item d ∧ seqClean true false t k d = true) (seqAt 0x2C (2 ^ 22 + 2 ^ 18) { r0 with hasItem := true, ilen := 9 })) ∧
  (let g : GroveId := g0;
    let t := g.t.val;
    let k := gOf g;
    let run (d : Dev) : Run := runOf t k d;
    let item (d : Dev) : Prop := (run d).member = 0 ∧ (run d).hasItem = true;
    (fun d => seqReady 0x2D t k d = true ∧ item d ∧ seqClean true false t k d = true) (seqAt 0x2D (2 ^ 18) { r0 with hasItem := true, ilen := 9 })) ∧
  (let g : GroveId := g0;
    let t := g.t.val;
    let k := gOf g;
    let w (d : Dev) : Word := seqWord t k d;
    let p (d : Dev) : Nat := iD (w d);
    let run (d : Dev) : Run := runOf t k d;
    let n (d : Dev) : Nat := (TWord.data (seqA t k d)).toNat;
    (fun d => seqReady 0x28 t k d = true ∧ seqClean true true t k d = true ∧
        fld (d.chip.qcfg (n d % 16384)) 53 8 = kget 0 (d.chip.tile t).groveFb k ∧ ((run d).qw (p d)).openAsm = none ∧
        boundElsewhere (seqIssued t k d).chip t k (p d) { run d with started := true } (n d % 16384) = false) (seqAt 0x28 (2 ^ 18) r0)) ∧
  (let g : GroveId := g0;
    let t := g.t.val;
    let k := gOf g;
    let w (d : Dev) : Word := seqWord t k d;
    let p (d : Dev) : Nat := iD (w d);
    let run (d : Dev) : Run := runOf t k d;
    let q : Nat := 7;
    let id : Nat := 1;
    let c' : Chip := (((seqIssued 0 (gOf g0) opening).chip.openAsm 7 (.grove (gkey 0 (gOf g0)) 0) 0#24).map (fun p => p.1)).getD {};
    (fun d => seqReady 0x29 t k d = true ∧ ((run d).qw (p d)).queue = some q ∧ ((run d).qw (p d)).openAsm = none ∧
          (d.chip.queue q).err = false ∧ (d.chip.queue q).closed = false ∧ d.chip.qen q = true ∧
          (seqIssued t k d).chip.openAsm q (.grove (gkey t k) (p d)) ((run d).qw (p d)).flow = some (c', id)) (opening)) ∧
  (let g : GroveId := g0;
    let t := g.t.val;
    let k := gOf g;
    let w (d : Dev) : Word := seqWord t k d;
    let p (d : Dev) : Nat := iD (w d);
    let run (d : Dev) : Run := runOf t k d;
    let q : Nat := 7;
    let id : Nat := 1;
    (fun d => seqReady 0x2A t k d = true ∧ ((run d).qw (p d)).queue = some q ∧ ((run d).qw (p d)).openAsm = some id ∧
          seqClean true false t k d = true ∧ ((run d).qw (p d)).pushed ≠ 0 ∧ fld (d.chip.qcfg q) 51 2 ≠ 1) ((seqAt 0x2A (2 ^ 18) { r0 with qw0 := { queue := some 7, openAsm := some 1, pushed := 2 } }))) := by
  refine ⟨?_, ?_, ?_, ?_, ?_, ?_⟩ <;> ((try dsimp only [comes, asks]); decide +kernel)

theorem test_meets_SeqMemoryOpsIssue :
  (let g : GroveId := g0;
    let t := g.t.val;
    let k := gOf g;
    let w (d : Dev) : Word := seqWord t k d;
    let addr (d : Dev) : Nat := (TWord.data (seqA t k d) + iSImm (w d)).toNat;
    let inside (d : Dev) : Prop := addr d < 2 ^ 17 ∧ (d.chip.spPwr t k (addr d)).dead = false;
    (fun d => seqReady 0x30 t k d = true ∧ seqClean true false t k d = true ∧ inside d) (seqAt 0x30 (2 ^ 18) r0)) ∧
  (let g : GroveId := g0;
    let t := g.t.val;
    let k := gOf g;
    let w (d : Dev) : Word := seqWord t k d;
    let addr (d : Dev) : Nat := (TWord.data (seqA t k d) + iSImm (w d)).toNat;
    let inside (d : Dev) : Prop := addr d < 2 ^ 17 ∧ (d.chip.spPwr t k (addr d)).dead = false;
    (fun d => seqReady 0x31 t k d = true ∧ seqSound true true t k d = true ∧ seqClean true false t k d = true ∧ inside d) (seqAt 0x31 (2 ^ 18 + 2 ^ 14 + 4) r0)) ∧
  (let g : GroveId := g0;
    let t := g.t.val;
    let k := gOf g;
    let run (d : Dev) : Run := runOf t k d;
    (fun d => seqReady 0x32 t k d = true ∧ seqClean true true t k d = true ∧ (run d).mrds.length < 4) (seqAt 0x32 (3 * 2 ^ 14) r0)) ∧
  (let g : GroveId := g0;
    let t := g.t.val;
    let k := gOf g;
    let w (d : Dev) : Word := seqWord t k d;
    let run (d : Dev) : Run := runOf t k d;
    (fun d => seqReady 0x33 t k d = true ∧ seqClean true true t k d = true ∧ (run d).store.length < 8 ∧
        TWord.bad (seqReg (d.chip.grove t k) (iD (w d))) = false) (seqAt 0x33 (2 ^ 18) r0)) := by
  refine ⟨?_, ?_, ?_, ?_⟩ <;> ((try dsimp only [comes, asks]); decide +kernel)

theorem test_meets_GroveEnginesRun :
  (let g : GroveId := g0;
    let t := g.t.val;
    let k := gOf g;
    let gr (d : Dev) : Grove := d.chip.grove t k;
    let tag : Fin 64 := 5;
    let r : Run := ({ slot := 0, desc := 0, mrds := [⟨1, 1, 0, 0xFFFFFFFFFFFF, 5⟩] } : Run);
    let m : MrdOut := ⟨1, 1, 0, 0xFFFFFFFFFFFF, 5⟩;
    (fun d => (gr d).mrd? tag.val = some (r, m) ∧ (gr d).landHeld.any (fun x => x.1 == tag.val) = false ∧
          d.chip.outstanding (fun w => w == .mrd t k tag.val) = false ∧ mayReach (.grove t k) false m.addr d.chip = false) (busy { slot := 0, desc := 0, mrds := [⟨1, 1, 0, 0xFFFFFFFFFFFF, 5⟩] } {})) ∧
  (let g : GroveId := g0;
    let t := g.t.val;
    let k := gOf g;
    let gr (d : Dev) : Grove := d.chip.grove t k;
    let tag : Fin 64 := 5;
    let r : Run := mrdRun;
    let m : MrdOut := ⟨1, 1, 0, 0x2000000000, 5⟩;
    let x : ReqOut × Dev := mrdServed;
    (x.1.waits = false) ∧ ((fun d => (gr d).mrd? tag.val = some (r, m) ∧ (gr d).landHeld.any (fun x => x.1 == tag.val) = false ∧
            d.chip.outstanding (fun w => w == .mrd t k tag.val) = false ∧ mayReach (.grove t k) false m.addr d.chip = true ∧
            (∀ dv off, locate d.chip m.addr ≠ .remote dv off) ∧
            serveReq (.grove t k) (nodeOf (.grove t k)) false { op := .read, a := m.addr, n := 1 } .ok d = x) (mrdDev))) ∧
  (let g : GroveId := g0;
    let t := g.t.val;
    let k := gOf g;
    let gr (d : Dev) : Grove := d.chip.grove t k;
    let s : Nat := 0;
    let depth : Nat := 1;
    (fun d => (gr d).halted = false ∧ (gr d).freeWin < d.chip.rf .seqWinCtl (.grove t k) 0 0 3 ∧
          (refillDemand d.chip t k = none ∨ (gr d).freeWin = 0) ∧ (gr d).spillVictim = some (s, depth)) ((busy { slot := 0, desc := 0, depth := 2 } { windows := (List.range 32).map (fun i => ⟨0, i + 1, [], 0⟩) }))) ∧
  (let g : GroveId := g0;
    let t := g.t.val;
    let k := gOf g;
    let gr (d : Dev) : Grove := d.chip.grove t k;
    let s : Nat := 0;
    let depth : Nat := 1;
    (fun d => refillWant d.chip t k = some (s, depth) ∧ (gr d).halted = false ∧ (gr d).freeWin ≠ 0 ∧
          TWord.isPoison ((((d.on (fun c => c.spWake t k ((gr d).frameOf s depth))).spmEcc t k ((gr d).frameOf s depth) .ok 1).rdWords
            (spBase t k + (gr d).frameOf s depth) 10).getD 8 0#35) = false) ((busy { slot := 0, desc := 0, started := true } {}))) ∧
  (let g : GroveId := g0;
    let t := g.t.val;
    let k := gOf g;
    let gr (d : Dev) : Grove := d.chip.grove t k;
    let tag : Nat := 9;
    let st : Nat := 5;
    (fun d => (gr d).halted = false ∧ d.chip.hub.mwrErr.find? (fun x => x.1 == t && x.2.1 == k) = some (t, k, tag, st)) ((dv { hub := { mwrErr := [(0, gOf g0, 9, 5)] } }))) ∧
  (let g : GroveId := g0;
    let t := g.t.val;
    let k := gOf g;
    let gr (d : Dev) : Grove := d.chip.grove t k;
    let r : Run := rq;
    let it : Item := item2;
    (fun d => (gr d).run = some r ∧ r.hasItem = true ∧ r.member = 0 ∧ (d.chip.queue r.queue).err = false ∧
          (d.chip.queue r.queue).item? r.itemSeq = some it) ((withQ { items := [item2] } rq))) := by
  refine ⟨?_, ?_, ?_, ?_, ?_, ?_⟩
  · (try dsimp only [comes, asks]); decide +kernel
  · dsimp only; (repeat' apply And.intro) <;> first | decide +kernel | (intro dv off h; exact absurd (h.symm.trans (show locate _ _ = .tmem 0 0 by decide +kernel)) (by intro k; cases k))
  · (try dsimp only [comes, asks]); decide +kernel
  · (try dsimp only [comes, asks]); decide +kernel
  · (try dsimp only [comes, asks]); decide +kernel
  · (try dsimp only [comes, asks]); decide +kernel

theorem test_meets_WritePortsPushAndPlaceholdersLand :
  (let g : GroveId := g0;
    let p : Fin 2 := 0;
    let r : Run := ({ slot := 0, desc := 0, qw0 := { queue := some 5, openAsm := some 1 } } : Run);
    let q : Nat := 5;
    let id : Nat := 1;
    let t := g.t.val;
    let k := gOf g;
    let gr (d : Dev) : Grove := d.chip.grove t k;
    let track (d : Dev) : TWord × Bool := outTrack (gr d) (64 + p.val);
    let pushing (d : Dev) : Prop := (gr d).run = some r ∧ (r.qw p.val).queue = some q ∧ (r.qw p.val).openAsm = some id ∧ (r.qw p.val).held = none ∧
      r.fail = none ∧ (gr d).halted = false ∧ (r.qw p.val).lastPush ≠ some (gr d).cycle ∧ (track d).2 = true;
    (fun d => pushing d ∧ TWord.bad (track d).1 = false ∧ (r.qw p.val).pushed < 16384) (busy ({ slot := 0, desc := 0, qw0 := { queue := some 5, openAsm := some 1 } } : Run) { latches := 1#1024 <<< (trackSel 64).1, cells := [(0, { out := tword 7#32, outValid := true })] })) ∧
  (let g : GroveId := g0;
    let p : Fin 2 := 0;
    let r : Run := ({ slot := 0, desc := 0, qw0 := { queue := some 5, openAsm := some 1, pushed := 16384 } } : Run);
    let q : Nat := 5;
    let id : Nat := 1;
    let t := g.t.val;
    let k := gOf g;
    let gr (d : Dev) : Grove := d.chip.grove t k;
    let track (d : Dev) : TWord × Bool := outTrack (gr d) (64 + p.val);
    let pushing (d : Dev) : Prop := (gr d).run = some r ∧ (r.qw p.val).queue = some q ∧ (r.qw p.val).openAsm = some id ∧ (r.qw p.val).held = none ∧
      r.fail = none ∧ (gr d).halted = false ∧ (r.qw p.val).lastPush ≠ some (gr d).cycle ∧ (track d).2 = true;
    (fun d => pushing d ∧ TWord.bad (track d).1 = false ∧ 16384 ≤ (r.qw p.val).pushed) (busy ({ slot := 0, desc := 0, qw0 := { queue := some 5, openAsm := some 1, pushed := 16384 } } : Run) { latches := 1#1024 <<< (trackSel 64).1, cells := [(0, { out := tword 7#32, outValid := true })] })) ∧
  (let g : GroveId := g0;
    let p : Fin 2 := 0;
    let r : Run := ({ slot := 0, desc := 0, qw0 := { queue := some 5, openAsm := some 1 } } : Run);
    let q : Nat := 5;
    let id : Nat := 1;
    let t := g.t.val;
    let k := gOf g;
    let gr (d : Dev) : Grove := d.chip.grove t k;
    let track (d : Dev) : TWord × Bool := outTrack (gr d) (64 + p.val);
    let pushing (d : Dev) : Prop := (gr d).run = some r ∧ (r.qw p.val).queue = some q ∧ (r.qw p.val).openAsm = some id ∧ (r.qw p.val).held = none ∧
      r.fail = none ∧ (gr d).halted = false ∧ (r.qw p.val).lastPush ≠ some (gr d).cycle ∧ (track d).2 = true;
    (fun d => pushing d ∧ TWord.bad (track d).1 = true) (busy ({ slot := 0, desc := 0, qw0 := { queue := some 5, openAsm := some 1 } } : Run) { latches := 1#1024 <<< (trackSel 64).1, cells := [(0, { out := 1#35, outValid := true })] })) ∧
  (let g : GroveId := g0;
    let p : Fin 2 := 0;
    let r : Run := ({ slot := 0, desc := 0, qw0 := { queue := some 5, openAsm := some 1, held := some (tword 1#32) } } : Run);
    let q : Nat := 5;
    let id : Nat := 1;
    let t := g.t.val;
    let k := gOf g;
    let gr (d : Dev) : Grove := d.chip.grove t k;
    let w : TWord := tword 1#32;
    (fun d => (gr d).run = some r ∧ (r.qw p.val).held = some w ∧ (r.qw p.val).queue = some q ∧ (r.qw p.val).openAsm = some id) (busy ({ slot := 0, desc := 0, qw0 := { queue := some 5, openAsm := some 1, held := some (tword 1#32) } } : Run) {})) ∧
  (let t : TileId := 0;
    let n : Fin 4096 := 4;
    let k : Nat := 1;
    let q : Nat := 0;
    let d' : Dev := (phDev.pushItem 0 .sched (some 9#24) 0 (phWords (phDev.chip.desc 0 4) 1) true).getD {};
    (fun d => (d.chip.desc t.val n.val).poisonDue = some k ∧ phTargets d.chip t.val (d.chip.desc t.val n.val).flow = [q] ∧
        d.pushItem q .sched (some (d.chip.desc t.val n.val).flow) 0 (phWords (d.chip.desc t.val n.val)
          (match (d.chip.queue (d.chip.desc t.val n.val).queue).item? (d.chip.desc t.val n.val).itemSeq with | some it => it.ilen | none => 1)) true = some d') (phDev)) := by
  refine ⟨?_, ?_, ?_, ?_, ?_⟩ <;> ((try dsimp only [comes, asks]); decide +kernel)

theorem test_meets_TaskCommandsRun :
  (let g : GroveId := g0;
    let r : Run := ({ slot := 0, desc := 0 } : Run);
    let t := g.t.val;
    let k := gOf g;
    let gr (d : Dev) : Grove := d.chip.grove t k;
    let n : Nat := 3;
    let op : Nat := 0x13;
    let u : CellUpset := {};
    (fun d => (gr d).acqWait = some (n, op, u) ∧ (gr d).run = some r) (busy ({ slot := 0, desc := 0 } : Run) { acqWait := some (3, 0x13, {}) })) ∧
  (let g : GroveId := g0;
    let t := g.t.val;
    let k := gOf g;
    let gr (d : Dev) : Grove := d.chip.grove t k;
    (fun d => (gr d).forcedSave = true ∧ (gr d).run = none ∧ pendingSwitch d.chip t k = none ∧
        (d.chip.tile t).onGrove k (fun s => s == .resumable) = false) (gv { forcedSave := true })) ∧
  (let g : GroveId := g0;
    let r : Run := ({ slot := 0, desc := 0, started := true } : Run);
    let t := g.t.val;
    let k := gOf g;
    let gr (d : Dev) : Grove := d.chip.grove t k;
    (fun d => (gr d).run = some r ∧ r.started = true ∧ r.budget = 0 ∧ r.done = false ∧ r.fail = none ∧ (gr d).halted = false) (busy { slot := 0, desc := 0, started := true } {})) ∧
  (let g : GroveId := g0;
    let r : Run := ({ slot := 0, desc := 0, budget := 5, ended := true, started := true } : Run);
    let t := g.t.val;
    let k := gOf g;
    let gr (d : Dev) : Grove := d.chip.grove t k;
    (fun d => (gr d).run = some r ∧ (gr d).endsNow = true ∧ d.chip.rbit .schIntegCtl (.tile t) 0 0 = false) (busy { slot := 0, desc := 0, budget := 5, ended := true, started := true } { cycle := 9 })) ∧
  (let g : GroveId := g0;
    let r : Run := ({ slot := 0, desc := 0, done := true } : Run);
    let t := g.t.val;
    let k := gOf g;
    let gr (d : Dev) : Grove := d.chip.grove t k;
    (fun d => (gr d).run = some r ∧ attemptOf d.chip t r.desc = [(k, r, false)] ∧ gangMembers d.chip t k = [k] ∧ r.done = true ∧ r.fail = none ∧
        (gr d).verdicts = [] ∧ r.closed.all (fun o => !(d.chip.queue o.1).err) = true ∧ r.store = [] ∧ (d.chip.desc t r.desc).itemV = true) ((busy { slot := 0, desc := 0, done := true } {}).on (fun c => c.modDesc 0 0 (fun x => { x with itemV := true, state := .running })))) ∧
  (let g : GroveId := g0;
    let r : Run := ({ slot := 0, desc := 0, fail := some { code := 4 } } : Run);
    let t := g.t.val;
    let k := gOf g;
    let gr (d : Dev) : Grove := d.chip.grove t k;
    (fun d => (gr d).run = some r ∧ (attemptOf d.chip t r.desc).any (fun m => m.2.1.fail.isSome) = true) ((busy { slot := 0, desc := 0, fail := some { code := 4 } } {}))) := by
  refine ⟨?_, ?_, ?_, ?_, ?_, ?_⟩ <;> ((try dsimp only [comes, asks]); decide +kernel)

theorem test_meets_GroveRegistersAndLatches :
  (let m : Master := .core;
    let g : GroveId := g0;
    let t := g.t.val;
    let k := gOf g;
    let s : Site := .grove t k;
    (fun d => writable m .seqCellMap s 0 d = true ∧ (d.chip.grove t k).run.isSome = true) (busy ({ slot := 0, desc := 0 } : Run) {})) ∧
  (let m : Master := .core;
    let g : GroveId := g0;
    let t := g.t.val;
    let k := gOf g;
    let s : Site := .grove t k;
    (fun d => writable m .seqCellMap s 0 d = true) (dv {})) ∧
  (let m : Master := .core;
    let g : GroveId := g0;
    let t := g.t.val;
    let k := gOf g;
    let s : Site := .grove t k;
    (fun d => writable m .seqAccCtl s 0 d = true) (dv {})) ∧
  (let m : Master := .core;
    let g : GroveId := g0;
    let t := g.t.val;
    let ch : Fin 64 := 63;
    (fun d => writable m .cfgCnpSrc (.tile t) ch.val d = true) (dv {})) ∧
  (let m : Master := .core;
    let g : GroveId := g0;
    let t := g.t.val;
    (fun d => writable m .cfgCnpLock (.tile t) 0 d = true) (dv {})) ∧
  (let m : Master := .core;
    let g : GroveId := g0;
    let t := g.t.val;
    let k := gOf g;
    let b : Fin 8 := 7;
    let i : Fin 64 := 63;
    let a := 0x18000000 + t * 0x10000000 + k * 0x10000 + 0xC000 + 512 * b.val + 8 * i.val;
    let ok (d : Dev) : Prop := mayAccess m true a 2 d.chip = true ∧ tileUp t d = true;
    (fun d => ok d ∧ kfind? (d.chip.grove t k).alloc b.val = none) (dv {})) ∧
  (let m : Master := .core;
    let g : GroveId := g0;
    let t := g.t.val;
    let k := gOf g;
    let b : Fin 8 := 7;
    let i : Fin 64 := 63;
    let a := 0x18000000 + t * 0x10000000 + k * 0x10000 + 0xC000 + 512 * b.val + 8 * i.val;
    let ok (d : Dev) : Prop := mayAccess m true a 2 d.chip = true ∧ tileUp t d = true;
    let x := (⟨true, 0⟩ : BankAlloc);
    (fun d => ok d ∧ kfind? (d.chip.grove t k).alloc b.val = some x ∧ ((d.chip.grove t k).slot x.slot).state ≠ .running ∧
          ((d.chip.grove t k).slot x.slot).state ≠ .suspended) (gv { alloc := [(7, ⟨true, 0⟩)] })) ∧
  (let m : Master := .core;
    let g : GroveId := g0;
    let t := g.t.val;
    let k := gOf g;
    let b : Fin 8 := 7;
    let i : Fin 64 := 63;
    let a := 0x18000000 + t * 0x10000000 + k * 0x10000 + 0xC000 + 512 * b.val + 8 * i.val;
    let ok (d : Dev) : Prop := mayAccess m true a 2 d.chip = true ∧ tileUp t d = true;
    let x := (⟨true, 0⟩ : BankAlloc);
    (fun d => ok d ∧ kfind? (d.chip.grove t k).alloc b.val = some x ∧ ((d.chip.grove t k).slot x.slot).state = .running) (busy ({ slot := 0, desc := 0 } : Run) { alloc := [(7, ⟨true, 0⟩)] })) ∧
  (let g : GroveId := g0;
    let k : Fin 86 := 85;
    let up : BitVec 64 := 3#64;
    let r : Run := ({ slot := 0, desc := 0 } : Run);
    let t := g.t.val;
    let n := gOf g;
    let hit (d : Dev) : Chip := d.chip.modGrove t n (fun gr => { gr with latches := gr.latches ^^^ ((BitVec.setWidth 1024 (up.extractLsb' 0 (trackSel k.val).2)) <<< (trackSel k.val).1) });
    let sel (d : Dev) : Nat := ((hit d).grove t n).sel k.val;
    let ones (d : Dev) : Nat := popBits (sel d) (trackSel k.val).2;
    (fun d => (d.chip.grove t n).run = some r ∧ 2 ≤ ones d) (busy ({ slot := 0, desc := 0 } : Run) {})) ∧
  (let g : GroveId := g0;
    let k : Fin 86 := 85;
    let up : BitVec 64 := 1#64;
    let r : Run := ({ slot := 0, desc := 0 } : Run);
    let t := g.t.val;
    let n := gOf g;
    let hit (d : Dev) : Chip := d.chip.modGrove t n (fun gr => { gr with latches := gr.latches ^^^ ((BitVec.setWidth 1024 (up.extractLsb' 0 (trackSel k.val).2)) <<< (trackSel k.val).1) });
    let sel (d : Dev) : Nat := ((hit d).grove t n).sel k.val;
    let ones (d : Dev) : Nat := popBits (sel d) (trackSel k.val).2;
    (fun d => (d.chip.grove t n).run = some r ∧ ones d < 2 ∧ (sel d != 0) ≠ kget false (d.chip.grove t n).latchChk k.val) (busy ({ slot := 0, desc := 0 } : Run) {})) ∧
  (let g : GroveId := g0;
    let v : Verdict := latchVerdict true;
    let c : Chip := (busy ({ slot := 0, desc := 0 } : Run) {}).chip;
    let r : Run := ({ slot := 0, desc := 0 } : Run);
    ((c.grove g.t.val (gOf g)).run = some r) ∧ (r.fail = none) ∧ (v.cell = 17)) ∧
  (let t : TileId := 0;
    let ch : Fin 64 := 63;
    let up : BitVec 288 := 6#288;
    let hit (d : Dev) : Chip := d.chip.modTile t.val (fun ti => { ti with cnpUp := kset ti.cnpUp ch.val (kget 0#288 ti.cnpUp ch.val ^^^ up) });
    let ones (d : Dev) : Nat := popBits ((hit d).cnpLatch t.val ch.val) 288;
    (fun d => 2 ≤ ones d) (dv {})) ∧
  (let t : TileId := 0;
    let ch : Fin 64 := 63;
    let up : BitVec 288 := 1#288;
    let hit (d : Dev) : Chip := d.chip.modTile t.val (fun ti => { ti with cnpUp := kset ti.cnpUp ch.val (kget 0#288 ti.cnpUp ch.val ^^^ up) });
    (fun d => (hit d).cnpLatch t.val ch.val = 0) (dv {})) ∧
  (let t : TileId := 0;
    let ch : Fin 64 := 63;
    let up : BitVec 288 := 0#288;
    let hit (d : Dev) : Chip := d.chip.modTile t.val (fun ti => { ti with cnpUp := kset ti.cnpUp ch.val (kget 0#288 ti.cnpUp ch.val ^^^ up) });
    let ones (d : Dev) : Nat := popBits ((hit d).cnpLatch t.val ch.val) 288;
    (fun d => ones d < 2 ∧ (hit d).cnpLatch t.val ch.val ≠ 0) (dv {})) := by
  refine ⟨?_, ?_, ?_, ?_, ?_, ?_, ?_, ?_, ?_, ?_, ?_, ?_, ?_, ?_⟩ <;> ((try dsimp only [comes, asks]); decide +kernel)

theorem test_meets_TasksAreCreated :
  (let tt : TileId := 0;
    let t := tt.val;
    let ti (d : Dev) : Tile := d.chip.tile t;
    let nt : Notice := ⟨5, 3, 9#24⟩;
    let n : Nat := 0;
    (fun d => (ti d).notices = [nt] ∧ (ti d).fifoFull = false ∧ d.chip.rf .schCtl (.tile t) 0 8 8 < (ti d).nfree ∧ (ti d).freeDesc = some n) (tv { notices := [⟨5, 3, 9#24⟩] })) ∧
  (let tt : TileId := 0;
    let t := tt.val;
    let ti (d : Dev) : Tile := d.chip.tile t;
    let nt : Notice := ⟨5, 3, 9#24⟩;
    let r : List Notice := [];
    (fun d => (ti d).notices = nt :: r ∧ (ti d).fifoFull = false ∧ (ti d).nfree ≤ d.chip.rf .schCtl (.tile t) 0 8 8 ∧ (ti d).noDescEpisode = false) ((tv { notices := [⟨5, 3, 9#24⟩] }).on (fun c => c.setRf .schCtl (.tile 0) 0 8 8 255 |>.modTile 0 (fun ti => { ti with descs := (List.range 4000).map (fun i => (i, { state := .ready })) })))) ∧
  (let tt : TileId := 0;
    let t := tt.val;
    let ti (d : Dev) : Tile := d.chip.tile t;
    let m : Master := .core;
    let tpl : BitVec 8 := 5#8;
    let delay : BitVec 24 := 0#24;
    let n : Nat := 0;
    let tv (d : Dev) : BitVec 64 := d.chip.reg .schTpl (.tile t) tpl.toNat;
    let posting (d : Dev) : Prop := writable m .schPost (.tile t) 0 d = true ∧ kget [] d.chip.evt.posts t = [] ∧ (ti d).freeDesc = some n ∧
        (ti d).fifoFull = false ∧ fld (tv d) 59 1 = 0;
    (fun d => posting d ∧ fld (tv d) 63 1 = 1 ∧ delay = 0#24) ((dv {}).on (fun c => c.setRf .schTpl (.tile 0) 5 63 1 1))) ∧
  (let tt : TileId := 0;
    let t := tt.val;
    let ti (d : Dev) : Tile := d.chip.tile t;
    let m : Master := .core;
    let tpl : BitVec 8 := 5#8;
    let delay : BitVec 24 := 1#24;
    let n : Nat := 0;
    let tv (d : Dev) : BitVec 64 := d.chip.reg .schTpl (.tile t) tpl.toNat;
    let posting (d : Dev) : Prop := writable m .schPost (.tile t) 0 d = true ∧ kget [] d.chip.evt.posts t = [] ∧ (ti d).freeDesc = some n ∧
        (ti d).fifoFull = false ∧ fld (tv d) 59 1 = 0;
    (fun d => posting d ∧ fld (tv d) 63 1 = 1 ∧ delay ≠ 0#24) ((dv {}).on (fun c => c.setRf .schTpl (.tile 0) 5 63 1 1))) ∧
  (let tt : TileId := 0;
    let t := tt.val;
    let ti (d : Dev) : Tile := d.chip.tile t;
    let m : Master := .core;
    let tpl : BitVec 8 := 5#8;
    let n : Nat := 0;
    let tv (d : Dev) : BitVec 64 := d.chip.reg .schTpl (.tile t) tpl.toNat;
    let posting (d : Dev) : Prop := writable m .schPost (.tile t) 0 d = true ∧ kget [] d.chip.evt.posts t = [] ∧ (ti d).freeDesc = some n ∧
        (ti d).fifoFull = false ∧ fld (tv d) 59 1 = 0;
    (fun d => posting d ∧ fld (tv d) 63 1 = 0) (dv {})) ∧
  (let tt : TileId := 0;
    let t := tt.val;
    let ti (d : Dev) : Tile := d.chip.tile t;
    let m : Master := .core;
    let tpl : BitVec 8 := 5#8;
    let delay : BitVec 24 := 0#24;
    (fun d => writable m .schPost (.tile t) 0 d = true ∧ ((ti d).fifoFull = true ∨ kget [] d.chip.evt.posts t ≠ [])) (dv { evt := { posts := [(0, [{ tpl := 5, delay := 0 }])] } })) ∧
  (let tt : TileId := 0;
    let t := tt.val;
    let ti (d : Dev) : Tile := d.chip.tile t;
    let n : Nat := 4;
    (fun d => dueOrder (ti d) (d.chip.rf .schNow (.tile t) 0 0 32) = [n] ∧ (ti d).fifoFull = false) (tv { descs := [(4, { state := .delayed, due := true })] })) := by
  refine ⟨?_, ?_, ?_, ?_, ?_, ?_, ?_⟩ <;> ((try dsimp only [comes, asks]); decide +kernel)

theorem test_meets_FlowLocksMove :
  (let tt : TileId := 0;
    let t := tt.val;
    let ti (d : Dev) : Tile := d.chip.tile t;
    let entry (d : Dev) (f : Flow) (k : Nat) : LockE := kget { flow := f } (ti d).locks k;
    let f : Flow := 9#24;
    let k : Nat := 72;
    let n : Nat := 4;
    (fun d => (ti d).lockOf f = some k ∧ (entry d f k).holder = none ∧ (ti d).anyTask f (fun x => x.state == .ready || x.state == .placed) = false ∧
        (ti d).chainHead f = some n) (tv { locks := [(72, { flow := 9#24 })], descs := [(4, { state := .flowwait, flow := 9#24, itemV := true })] })) ∧
  (let tt : TileId := 0;
    let t := tt.val;
    let ti (d : Dev) : Tile := d.chip.tile t;
    let n : Nat := 4;
    let k : Nat := 72;
    let x : Desc := ({ state := .flowwait, flow := 9#24, itemV := true, inFifo := true } : Desc);
    let r : List (Nat × Desc) := [];
    (fun d => (ti d).fifo = (n, x) :: r ∧ ((ti d).lockOf x.flow = some k ∨ ((ti d).lockOf x.flow = none ∧ (ti d).freeWay x.flow = some k))) (tv { descs := [(4, { state := .flowwait, flow := 9#24, itemV := true, inFifo := true })] })) ∧
  (let tt : TileId := 0;
    let t := tt.val;
    let ti (d : Dev) : Tile := d.chip.tile t;
    let entry (d : Dev) (f : Flow) (k : Nat) : LockE := kget { flow := f } (ti d).locks k;
    let f : Flow := 9#24;
    let k : Nat := 72;
    (fun d => (ti d).lockOf f = some k ∧ (entry d f k).holder = none ∧ (ti d).anyTask f (fun x => x.state.live) = false) (tv { locks := [(72, { flow := 9#24 })] })) ∧
  (let tt : TileId := 0;
    let t := tt.val;
    let ti (d : Dev) : Tile := d.chip.tile t;
    let f : Flow := 9#24;
    let e : XEntry := (⟨9#24, some 0, []⟩ : XEntry);
    let r : List (Flow × Bool) := [];
    (fun d => (ti d).xreq = (f, false) :: r ∧ d.chip.hub.xlocks.find? (fun x => x.flow == f) = some e ∧ e.holder = some t) (dv { tiles := [(0, { xreq := [(9#24, false)] })], hub := { xlocks := [⟨9#24, some 0, []⟩] } })) ∧
  (let tt : TileId := 0;
    let t := tt.val;
    let ti (d : Dev) : Tile := d.chip.tile t;
    let f : Flow := 9#24;
    let e : XEntry := (⟨9#24, some 1, []⟩ : XEntry);
    let r : List (Flow × Bool) := [];
    (fun d => (ti d).xreq = (f, true) :: r ∧ d.chip.hub.xlocks.find? (fun x => x.flow == f) = some e ∧ e.holder ≠ some t ∧
          e.queue.contains t = false) (dv { tiles := [(0, { xreq := [(9#24, true)] })], hub := { xlocks := [⟨9#24, some 1, []⟩] } })) ∧
  (let tt : TileId := 0;
    let t := tt.val;
    let ti (d : Dev) : Tile := d.chip.tile t;
    let f : Flow := 9#24;
    let k : Nat := 72;
    (fun d => d.chip.hub.xgrants.find? (fun x => x.1 == t) = some (t, f) ∧ (ti d).lockOf f = some k ∧
        (ti d).anyTask f (fun x => x.state.live && !x.marked) = true) (dv { tiles := [(0, { locks := [(72, { flow := 9#24 })], descs := [(4, { state := .flowwait, flow := 9#24, itemV := true })] })], hub := { xgrants := [(0, 9#24)] } })) ∧
  (let tt : TileId := 0;
    let t := tt.val;
    let ti (d : Dev) : Tile := d.chip.tile t;
    let f : Flow := 9#24;
    (fun d => d.chip.hub.xgrants.find? (fun x => x.1 == t) = some (t, f) ∧ (ti d).lockOf f = none) (dv { hub := { xgrants := [(0, 9#24)] } })) ∧
  (let tt : TileId := 0;
    let t := tt.val;
    let ti (d : Dev) : Tile := d.chip.tile t;
    let f : Flow := 9#24;
    let b : Bool := true;
    let r : List (Flow × Bool) := [];
    (fun d => (ti d).xreq = (f, b) :: r) (tv { xreq := [(9#24, true)] })) ∧
  (let tt : TileId := 0;
    let t := tt.val;
    let ti (d : Dev) : Tile := d.chip.tile t;
    (fun d => d.chip.hub.xreann.contains t = true ∧ (d.chip.hub.xreann.filter (fun x => x != t)).isEmpty = false ∧
        (ti d).locks = [] ∧ (ti d).descs = []) (dv { hub := { xreann := [0, 1] } })) := by
  refine ⟨?_, ?_, ?_, ?_, ?_, ?_, ?_, ?_, ?_⟩ <;> ((try dsimp only [comes, asks]); decide +kernel)

theorem test_meets_TasksArePlacedAndStart :
  (let g : GroveId := g0;
    let t := g.t.val;
    let n : Nat := 4;
    let at_ : Nat := gOf g0;
    (fun d => d.chip.rf .schCtl (.tile t) 0 0 1 = 1 ∧ (d.chip.tile t).readyOrder = [n] ∧ (d.chip.desc t n).gang = none ∧ d.chip.granted t n = true ∧
        d.chip.ctxDefined t (d.chip.desc t n).ctx = true ∧ chooseGrove d t n = some at_) ((tv (ready1 {})).on (fun c => c.setRf .schCtl (.tile 0) 0 0 1 1))) ∧
  (let g : GroveId := g0;
    let t := g.t.val;
    let k := gOf g;
    let gr (d : Dev) : Grove := d.chip.grove t k;
    let n : Nat := 4;
    let ctx : Nat := 7;
    let gang : Nat := 1;
    let pl : List (Nat × Nat) := [(gOf g0, 7)];
    let alt : Bool := false;
    (fun d => (d.chip.tile t).readyOrder = [n] ∧ (d.chip.desc t n).gang = some gang ∧ d.chip.ctxDefined t (d.chip.desc t n).ctx = true ∧
        gangPlacement d.chip t n = some (pl, alt) ∧ (kget { firebreak := 0, primary := [] } (d.chip.tile t).gangs gang).parked = false ∧
        pl.head?.map (fun p => kget 0 (d.chip.tile t).groveFb p.1) = some (kget 0 (d.chip.tile t).groveFb k) ∧
        pl.find? (fun p => p.1 == k) = some (k, ctx) ∧ khas (d.chip.tile t).rsv k = false ∧ candidate d t k (kget 0 (d.chip.tile t).groveFb k) = true ∧ ((gr d).holds ctx).isSome = true) (dv { groves := [(gOf g0, holding)], tiles := [(0, gang1)] })) ∧
  (let g : GroveId := g0;
    let t := g.t.val;
    let n : Nat := 4;
    let gang : Nat := 1;
    let pl : List (Nat × Nat) := [(gOf g0, 7)];
    let alt : Bool := false;
    (fun d => (d.chip.tile t).readyOrder = [n] ∧ (d.chip.desc t n).gang = some gang ∧ d.chip.ctxDefined t (d.chip.desc t n).ctx = true ∧
        d.chip.granted t n = true ∧ gangPlacement d.chip t n = some (pl, alt) ∧ d.chip.rf .schCtl (.tile t) 0 0 1 = 1 ∧ (d.chip.tile t).cnpOff = [] ∧
        ∀ p ∈ pl, let x := d.chip.grove t p.1
          kfind? (d.chip.tile t).rsv p.1 = some (.gang n) ∧ x.run = none ∧ (x.holds p.2).isSome = true ∧ x.pagein = none ∧ x.halted = false ∧
            (d.chip.tile t).onGrove p.1 (fun s => s == .resumable) = false) ((dv { groves := [(gOf g0, holding)], tiles := [(0, { gang1 with rsv := [(gOf g0, .gang 4)] })] }).on (fun c => c.setRf .schCtl (.tile 0) 0 0 1 1))) ∧
  (let g : GroveId := g0;
    let t := g.t.val;
    let k := gOf g;
    let gr (d : Dev) : Grove := d.chip.grove t k;
    let p : PageIn := ⟨2, 7, none, false, false⟩;
    let img : BitVec 4096 := im [(48, 7), (24, 2), (16, 1)];
    let e : Dev := (pageImage 0 ⟨2, 7, none, false, false⟩ cached).2.2;
    (fun d => (gr d).pagein = some p ∧ pageImage t p d = (img, true, e) ∧ imgNumber img = p.ctx ∧ imgGen img = kget 0 (e.chip.tile t).gens p.ctx ∧
        imgVersion img = 1 ∧ imgFirebreak img = kget 0 (e.chip.tile t).groveFb k) (cached)) ∧
  (let g : GroveId := g0;
    let t := g.t.val;
    let k := gOf g;
    let gr (d : Dev) : Grove := d.chip.grove t k;
    let n : Nat := 4;
    let s : Nat := 2;
    let x : Desc := ({ state := .placed, grove := some (gOf g0), ctx := 7 } : Desc);
    (fun d => (d.chip.tile t).descs.find? (fun y => y.2.state == .placed && y.2.grove == some k && y.2.gang.isNone && !y.2.marked) = some (n, x) ∧
        (gr d).run = none ∧ (gr d).halted = false ∧ (gr d).pagein = none ∧ (gr d).holds x.ctx = some s) (dv { groves := [(gOf g0, holding)], tiles := [(0, { descs := [(4, { state := .placed, grove := some (gOf g0), ctx := 7 })] })] })) ∧
  (let g : GroveId := g0;
    let t := g.t.val;
    let k := gOf g;
    let gr (d : Dev) : Grove := d.chip.grove t k;
    let r : Run := ({ slot := 2, desc := 4 } : Run);
    (fun d => (gr d).susp = [r] ∧ (d.chip.desc t r.desc).state = .resumable ∧ (gr d).run = none ∧ (gr d).halted = false ∧
        d.chip.rf .schCtl (.tile t) 0 0 1 ≠ 0 ∧ pendingSwitch d.chip t k = none ∧ r.fail = none) ((dv { groves := [(gOf g0, { susp := [{ slot := 2, desc := 4 }] })], tiles := [(0, { descs := [(4, { state := .resumable })] })] }).on (fun c => c.setRf .schCtl (.tile 0) 0 0 1 1))) := by
  refine ⟨?_, ?_, ?_, ?_, ?_, ?_⟩ <;> ((try dsimp only [comes, asks]); decide +kernel)

theorem test_meets_CancelsAndLoadAccounts :
  (let tt : TileId := 0;
    let m : Master := .core;
    let t := tt.val;
    let ready (d : Dev) : Prop := writable m .schCancel (.tile t) 0 d = true ∧ d.chip.rbit .schCancelLast (.tile t) 0 63 = false;
    let n : Fin 4096 := 4095;
    (fun d => ready d ∧ (d.chip.desc t n.val).state.cancellable = true) (tv { descs := [(4095, { state := .ready })] })) ∧
  (let tt : TileId := 0;
    let m : Master := .core;
    let t := tt.val;
    let ready (d : Dev) : Prop := writable m .schCancel (.tile t) 0 d = true ∧ d.chip.rbit .schCancelLast (.tile t) 0 63 = false;
    let n : Fin 4096 := 4095;
    (fun d => ready d ∧ (d.chip.desc t n.val).state.cancellable = false) (dv {})) ∧
  (let tt : TileId := 0;
    let m : Master := .core;
    let t := tt.val;
    (fun d => writable m .schCancel (.tile t) 0 d = true ∧ d.chip.rbit .schCancelLast (.tile t) 0 63 = true) ((dv {}).on (fun c => c.setRf .schCancelLast (.tile 0) 0 63 1 1))) ∧
  (let tt : TileId := 0;
    let m : Master := .core;
    let t := tt.val;
    let ready (d : Dev) : Prop := writable m .schCancel (.tile t) 0 d = true ∧ d.chip.rbit .schCancelLast (.tile t) 0 63 = false;
    ready (dv {})) ∧
  (let tt : TileId := 0;
    let m : Master := .core;
    let t := tt.val;
    let ready (d : Dev) : Prop := writable m .schCancel (.tile t) 0 d = true ∧ d.chip.rbit .schCancelLast (.tile t) 0 63 = false;
    ready (dv {})) ∧
  (let tt : TileId := 0;
    let m : Master := .core;
    let t := tt.val;
    let ready (d : Dev) : Prop := writable m .schCancel (.tile t) 0 d = true ∧ d.chip.rbit .schCancelLast (.tile t) 0 63 = false;
    let n : Nat := 4;
    let x : Desc := ({ state := .ready, marked := true } : Desc);
    (fun d => (d.chip.tile t).descs.find? (fun y => y.2.marked) = some (n, x)) (tv { descs := [(4, { state := .ready, marked := true })] })) ∧
  (let tt : TileId := 0;
    let m : Master := .core;
    let t := tt.val;
    (fun d => writable m .schTick (.tile t) 0 d = true) (dv {})) ∧
  (let tt : TileId := 0;
    let m : Master := .core;
    let t := tt.val;
    (fun d => writable m .schHistCtl (.tile t) 0 d = true) (dv {})) := by
  refine ⟨?_, ?_, ?_, ?_, ?_, ?_, ?_, ?_⟩ <;> ((try dsimp only [comes, asks]); decide +kernel)

theorem test_meets_EventsReachTheHub :
  (let e : Fin 5120 := 5119;
    let f : EvFlight := ⟨5119, true, 0#32, 2 ^ 60⟩;
    (fun d => d.chip.evt.flight.find? (fun x => x.num == e.val) = some f ∧ f.num = e.val ∧ f.pend = true ∧
        fld f.route 60 1 = 1 ∧ fld f.route 59 1 = 0 ∧ d.chip.evt.fwq.length < 256) (dv { evt := { flight := [⟨5119, true, 0#32, 2 ^ 60⟩] } })) ∧
  (let e : Fin 5120 := 5119;
    let f : EvFlight := ⟨5119, false, 0#32, 2 ^ 60⟩;
    (fun d => d.chip.evt.flight.find? (fun x => x.num == e.val) = some f ∧ f.num = e.val ∧ f.pend = false) (dv { evt := { flight := [⟨5119, false, 0#32, 2 ^ 60⟩] } })) ∧
  (let n : Nat := 7;
    let i : BitVec 32 := 5#32;
    let r : List (Nat × BitVec 32) := [];
    (fun d => d.chip.evt.fwq = (n, i) :: r) (dv { evt := { fwq := [(7, 5#32)] } })) ∧
  ((fun d => d.chip.evt.fwq ≠ []) (dv { evt := { fwq := [(7, 5#32)] } })) ∧
  (let v : Fin 2048 := 0;
    (fun d => d.chip.rf .evtVec .hub v.val 0 8 ≠ 0 ∧ kget false d.chip.evt.msixEn (vecFn v.val) = true ∧
      (vecFn v.val = 0 ∨ kget false d.chip.evt.vfEn (vecFn v.val) = true) ∧ kget true d.chip.evt.msixMask v.val = false ∧ kget false d.chip.evt.fnMask (vecFn v.val) = false) ((dv { evt := { msixEn := [(vecFn 0, true)], msixMask := [(0, false)], vfEn := [(vecFn 0, true)] } }).on (fun c => c.setRf .evtVec .hub 0 0 8 9))) ∧
  (let m : Master := .core;
    let k : Fin 5120 := 0;
    let v : BitVec 64 := 0#64;
    let e := EvSrc.ofNum k.val;
    (fun d => writable m e.reg.1 e.reg.2.1 e.reg.2.2 d = true ∧ fld v 63 1 = 0 ∧ fld v 62 1 = 0) (dv {})) ∧
  (let m : Master := .core;
    let k : Fin 5120 := 0;
    let e := EvSrc.ofNum k.val;
    (fun d => writable m e.reg.1 e.reg.2.1 e.reg.2.2 d = true) (dv {})) := by
  refine ⟨?_, ?_, ?_, ?_, ?_, ?_, ?_⟩ <;> ((try dsimp only [comes, asks]); decide +kernel)

theorem test_meets_RegisterAddressesReachRegisters :
  (let r : Reg := .uioOut;
    let i : Nat := 0;
    let a : BitVec 48 := BitVec.ofNat 48 (Reg.addr .uioOut .hub 0);
    (fun d => a.toNat % 8 = 0 ∧ a.toNat < gdBase ∧ locate d.chip a.toNat = .hubReg a.toNat ∧ regAt a.toNat = some (r, .hub, i)) (dv {})) ∧
  (let r : Reg := .uioOut;
    let i : Nat := 0;
    let a : BitVec 48 := BitVec.ofNat 48 (Reg.addr .uioOut .hub 0);
    (fun d => a.toNat % 8 = 0 ∧ a.toNat < gdBase ∧ locate d.chip a.toNat = .hubReg a.toNat ∧ regAt a.toNat = some (r, .hub, i) ∧ r ≠ .quePop ∧ r ≠ .evtFwq) (dv {})) := by
  refine ⟨?_, ?_⟩ <;> ((try dsimp only [comes, asks]); decide +kernel)

theorem test_meets_QueuesMoveWordsAsConfigured :
  (let q : Fin 16384 := 16383;
    let Q (d : Dev) : Queue := d.chip.queue q.val;
    (fun d => 16 ≤ (Q d).countLvl Level.isTail ∧ (d.chip.takeBlock q.val).isSome = true) ((qv 16383 { items := [⟨1, 9#24, (List.range 16).map (fun i => ⟨tword (BitVec.ofNat 32 i), .tail, false⟩), 0, false, false, 0, false, false, false⟩] }).on (fun c => (c.setRf .queSpill (.tile 3) 4095 8 18 4).setRf .quePool (.tile 3) 0 32 9 1))) ∧
  (let q : Fin 16384 := 16383;
    let row : Fin 8 := 0;
    let ecc : Ecc := .ok;
    let R (d : Dev) : Dev := (refillCode q.val row.val ecc d).refill q.val;
    (fun d => ((R d).chip.queue q.val).popWait = 0) (qv 16383 popq)) ∧
  (let q : Fin 16384 := 16383;
    let row : Fin 8 := 0;
    let ecc : Ecc := .ok;
    let R (d : Dev) : Dev := (refillCode q.val row.val ecc d).refill q.val;
    let v : BitVec 64 := ((((refillCode 16383 0 .ok popWaits).refill 16383).pop 16383).map (fun p => p.1)).getD 0#64;
    let e : Dev := ((((refillCode 16383 0 .ok popWaits).refill 16383).pop 16383).map (fun p => p.2)).getD {};
    (fun d => ((R d).chip.queue q.val).popWait ≠ 0 ∧ (R d).chip.partLive q.val = none ∧ (R d).pop q.val = some (v, e) ∧ (e.chip.queue q.val).popWait = 1) (popWaits)) ∧
  (let m : Master := .core;
    let q : Fin 16384 := 16383;
    let s : Site := .tile (q.val / 4096);
    let l := q.val % 4096;
    let t := q.val / 4096;
    let Q (d : Dev) : Queue := d.chip.queue q.val;
    let a := Reg.addr .quePop s l;
    let popping (d : Dev) : Prop := mayAccess m false a 2 d.chip = true ∧ tileUp t d = true ∧ d.chip.qmode q.val = 3 ∧ (Q d).err = false ∧
      (Q d).popWait = 0 ∧ d.chip.partLive q.val = none;
    let v : BitVec 64 := popq.popPeek.getD 0#64;
    (fun d => popping d ∧ (Q d).depth ≠ 0 ∧ (Q d).popPeek = some v) (popDev)) ∧
  (let m : Master := .core;
    let q : Fin 16384 := 16383;
    let s : Site := .tile (q.val / 4096);
    let l := q.val % 4096;
    let t := q.val / 4096;
    let Q (d : Dev) : Queue := d.chip.queue q.val;
    let a := Reg.addr .quePop s l;
    let popping (d : Dev) : Prop := mayAccess m false a 2 d.chip = true ∧ tileUp t d = true ∧ d.chip.qmode q.val = 3 ∧ (Q d).err = false ∧
      (Q d).popWait = 0 ∧ d.chip.partLive q.val = none;
    (fun d => popping d ∧ (Q d).depth = 0) ((qv 16383 {}).on (fun c => c.setRf .queCfg (.tile 3) 4095 61 2 3))) ∧
  (let m : Master := .core;
    let q : Fin 16384 := 16383;
    let s : Site := .tile (q.val / 4096);
    let l := q.val % 4096;
    (fun d => writable m .queCtl s l d = true) (dv {})) ∧
  (let q : Fin 16384 := 16383;
    let Q (d : Dev) : Queue := d.chip.queue q.val;
    (fun d => (Q d).flushWait = false) (dv {})) ∧
  (let q : Fin 16384 := 16383;
    let Q (d : Dev) : Queue := d.chip.queue q.val;
    (fun d => (Q d).flushWait = true) (qv 16383 { flushWait := true })) ∧
  (let m : Master := .core;
    let q : Fin 16384 := 16383;
    let s : Site := .tile (q.val / 4096);
    let l := q.val % 4096;
    (fun d => writable m .queCtl s l d = true) (dv {})) ∧
  (let m : Master := .core;
    let q : Fin 16384 := 16383;
    let s : Site := .tile (q.val / 4096);
    let l := q.val % 4096;
    (fun d => writable m .queCtl s l d = true) (dv {})) ∧
  (let q : Fin 16384 := 16383;
    let Q (d : Dev) : Queue := d.chip.queue q.val;
    (fun d => (Q d).waiting ≠ [] ∧ (Q d).stall = false) (qv 16383 { waiting := [.sched] })) ∧
  (let m : Master := .core;
    let q : Fin 16384 := 16383;
    let v : BitVec 64 := 1#64;
    let s : Site := .tile (q.val / 4096);
    let l := q.val % 4096;
    let wr (d : Dev) : Prop := writable m .queCfg s l d = true ∧ fld v 51 2 ≠ 3;
    (fun d => wr d ∧ d.chip.qen q.val = true) ((dv {}).on (fun c => c.setRf .queCfg (.tile 3) 4095 63 1 1))) ∧
  (let m : Master := .core;
    let q : Fin 16384 := 16383;
    let v : BitVec 64 := 1#64;
    let s : Site := .tile (q.val / 4096);
    let l := q.val % 4096;
    let wr (d : Dev) : Prop := writable m .queCfg s l d = true ∧ fld v 51 2 ≠ 3;
    (fun d => wr d ∧ d.chip.qen q.val = false ∧ fld v 63 1 = 0) (dv {})) ∧
  (let m : Master := .core;
    let q : Fin 16384 := 16383;
    let v : BitVec 64 := 2 ^ 63;
    let s : Site := .tile (q.val / 4096);
    let l := q.val % 4096;
    let wr (d : Dev) : Prop := writable m .queCfg s l d = true ∧ fld v 51 2 ≠ 3;
    (fun d => wr d ∧ d.chip.qen q.val = false ∧ fld v 63 1 = 1) (dv {})) ∧
  (let m : Master := .core;
    let q : Fin 16384 := 16383;
    let v : BitVec 64 := 3 * 2 ^ 51;
    let s : Site := .tile (q.val / 4096);
    let l := q.val % 4096;
    (fun d => writable m .queCfg s l d = true ∧ fld v 51 2 = 3) (dv {})) := by
  refine ⟨?_, ?_, ?_, ?_, ?_, ?_, ?_, ?_, ?_, ?_, ?_, ?_, ?_, ?_, ?_⟩ <;> ((try dsimp only [comes, asks]); decide +kernel)

theorem test_meets_MemoryAccessesAreServed :
  (let m : Master := .core;
    let g : GroveId := g0;
    let o : BitVec 18 := 0x1FFFC#18;
    let op : MemOp := .write;
    let wide : Bool := false;
    let be : BitVec 8 := 255#8;
    let lo : TWord := tword 1#32;
    let hi : TWord := 0#35;
    let ecc : Ecc := .ok;
    let t := g.t.val;
    let k := gOf g;
    let off := alignTo wide o.toNat;
    let p : PortB := { op := op, addr := off, wide := wide, lo := lo, hi := hi, tries := 0, src := nodeOf m, be := be.toNat };
    let d1 (d : Dev) : Dev := (d.on (fun c => c.see { kind := 1, die := t, g := k, wr := op != .read, addr := off, data := TWord.data (if op = .read then d.rd32 (spBase t k + off) else lo) })).on (fun c => c.modGrove t k (fun gr => { gr with portBAt := some gr.cycle }));
    let x (d : Dev) : AccessOut × Dev := spadAccess t k p ecc (d1 d);
    let served (d : Dev) : Prop := (d.chip.grove t k).accA = [] ∧ (d.chip.spPwr t k off).dead = false ∧ d.chip.copying t k = false;
    (fun d => (d.chip.grove t k).portB = [] ∧ (d.chip.grove t k).portBAt ≠ some (d.chip.grove t k).cycle ∧ served d ∧ (x d).1.st ≠ 1) (dv {})) ∧
  (let g : GroveId := g0;
    let o : BitVec 18 := 0x1FFFC#18;
    let wide : Bool := false;
    let t := g.t.val;
    let k := gOf g;
    let off := alignTo wide o.toNat;
    let e : Dev := dv {};
    e.chip.spPwr t k off = .on) ∧
  (let m : Master := .core;
    let g : GroveId := g0;
    let o : BitVec 18 := 0x1FFFC#18;
    let op : MemOp := .write;
    let wide : Bool := false;
    let be : BitVec 8 := 255#8;
    let lo : TWord := tword 1#32;
    let hi : TWord := 0#35;
    let t := g.t.val;
    let k := gOf g;
    let off := alignTo wide o.toNat;
    let p : PortB := { op := op, addr := off, wide := wide, lo := lo, hi := hi, tries := 0, src := nodeOf m, be := be.toNat };
    let p : PortB := ⟨.read, 0x1FFF8, true, 0#35, 0#35, 0, 0, 255⟩;
    (fun d => (d.chip.grove t k).portB = [p]) (gv { portB := [⟨.read, 0x1FFF8, true, 0#35, 0#35, 0, 0, 255⟩] })) ∧
  (let tt : TileId := 0;
    let a : TmbAcc := acc1;
    let t := tt.val;
    let off := alignTo a.wide a.off.toNat;
    (fun d => a.ecc = .ok ∧ d.chip.tmPwr t off = .on) (dv {})) ∧
  (let tt : TileId := 0;
    let a : TmbAcc := { acc1 with who := .queue };
    let b : TmbAcc := acc1;
    let t := tt.val;
    let last (d : Dev) : Nat := kget 2 (d.chip.tile t).tmbLast (d.chip.tmBlock t (alignTo a.wide a.off.toNat));
    let turn (d : Dev) (y : TmbAcc) : Nat := (tmbCode y.who + 2 - last d % 3) % 3;
    (fun d => turn d a < turn d b) (dv {})) ∧
  (let tt : TileId := 0;
    let a : TmbAcc := acc1;
    let b : TmbAcc := { acc1 with who := .queue };
    let t := tt.val;
    let last (d : Dev) : Nat := kget 2 (d.chip.tile t).tmbLast (d.chip.tmBlock t (alignTo a.wide a.off.toNat));
    let turn (d : Dev) (y : TmbAcc) : Nat := (tmbCode y.who + 2 - last d % 3) % 3;
    (fun d => turn d b < turn d a) (dv {})) := by
  refine ⟨?_, ?_, ?_, ?_, ?_, ?_⟩ <;> ((try dsimp only [comes, asks]); decide +kernel)

theorem test_meets_ScrubbersAndMemoryPower :
  (let g : GroveId := g0;
    let t := g.t.val;
    let k := gOf g;
    let pos (d : Dev) : Nat := (d.chip.grove t k).spmPos;
    let a (d : Dev) : Nat := pos d % 2048 * 64 + pos d / 2048 * 8;
    (fun d => d.chip.rbit .spmScrub (.grove t k) 0 16 = true ∧ pos d < 16383 ∧ d.chip.spPwr t k (a d) = .on ∧
        (d.chip.grove t k).portB = [] ∧ (d.chip.grove t k).portBAt ≠ some (d.chip.grove t k).cycle) ((gv { spmPos := 16382 }).on (fun c => c.setRf .spmScrub (.grove 0 (gOf g0)) 0 16 1 1))) ∧
  (let tt : TileId := 0;
    let t := tt.val;
    let pos (d : Dev) : Nat := (d.chip.tile t).tmbPos;
    let a (d : Dev) : Nat := d.chip.tmOffset t (pos d / 65536) (pos d % 65536);
    (fun d => d.chip.rbit .tmbScrub (.tile t) 0 16 = true ∧ pos d < 4194303 ∧ d.chip.tmPwr t (a d) = .on) ((tv { tmbPos := 4194302 }).on (fun c => c.setRf .tmbScrub (.tile 0) 0 16 1 1))) ∧
  (let tt : TileId := 0;
    let t := tt.val;
    let nb (d : Dev) : Nat := d.chip.gdCap / 2048;
    let gp (d : Dev) : Nat := (d.chip.tile t).gd7Pos;
    (fun d => d.chip.rbit .gd7Scrub (.tile t) 0 16 = true ∧ gp d + 1 < 8 * nb d ∧ (d.chip.chan t (gp d / nb d)).state = .ready) ((tv { chans := [(0, { state := .ready })] }).on (fun c => c.setRf .gd7Scrub (.tile 0) 0 16 1 1))) ∧
  (let g : GroveId := g0;
    let b : Fin 8 := 7;
    let t := g.t.val;
    let k := gOf g;
    (fun d => kget .on (d.chip.grove t k).spmPwr b.val = .on ∧ d.chip.rf .spmPwr (.grove t k) 0 (2 * b.val) 2 = 1 ∧
        (d.chip.grove t k).spmWoken.contains b.val = false) ((dv {}).on (fun c => c.setRf .spmPwr (.grove 0 (gOf g0)) 0 14 2 1))) ∧
  (let g : GroveId := g0;
    let b : Fin 8 := 7;
    let t := g.t.val;
    let k := gOf g;
    (fun d => kget .on ((spmApply t k d.chip).grove t k).spmPwr b.val = .transition) (gv { spmPwr := [(7, .transition)] })) ∧
  (let tt : TileId := 0;
    let j : Fin 64 := 63;
    let t := tt.val;
    (fun d => kget .on (d.chip.tile t).tmbPwr j.val = .on ∧ d.chip.rf .tmbPwr (.tile t) (j.val / 32) (2 * (j.val % 32)) 2 = 1 ∧
        (d.chip.tile t).tmbWoken.contains j.val = false) ((dv {}).on (fun c => c.setRf .tmbPwr (.tile 0) 1 62 2 1))) ∧
  (let tt : TileId := 0;
    let j : Fin 64 := 63;
    let t := tt.val;
    (fun d => kget .on (d.chip.tile t).tmbPwr j.val = .transition) (tv { tmbPwr := [(63, .transition)] })) ∧
  (let m : Master := .core;
    let g : GroveId := g0;
    let s : Site := .grove g.t.val (gOf g);
    (fun d => writable m .spmPwr s 0 d = true) (dv {})) ∧
  (let m : Master := .core;
    let t : TileId := 0;
    let i : Fin 2 := 1;
    (fun d => writable m .tmbPwr (.tile t.val) i.val d = true) (dv {})) := by
  refine ⟨?_, ?_, ?_, ?_, ?_, ?_, ?_, ?_, ?_⟩ <;> ((try dsimp only [comes, asks]); decide +kernel)

theorem test_meets_Gddr7ChannelsRun :
  (let tt : TileId := 0;
    let j : Fin 8 := 7;
    let t := tt.val;
    let i := j.val;
    let st (d : Dev) : ChState := (d.chip.chan t i).state;
    (fun d => st d = .training ∨ st d = .zerofill ∨ st d = .untrained) (tv { chans := [(7, { state := .zerofill })] })) ∧
  (let tt : TileId := 0;
    let t := tt.val;
    let m : Master := .core;
    (fun d => writable m .gd7TrainCtl (.tile t) 0 d = true) (dv {})) ∧
  (let tt : TileId := 0;
    let j : Fin 8 := 7;
    let t := tt.val;
    let i := j.val;
    let st (d : Dev) : ChState := (d.chip.chan t i).state;
    (fun d => d.chip.rf .gd7TrainCtl (.tile t) 0 16 8 ≠ 0 ∧ st d = .ready) ((tv { chans := [(7, { state := .ready })] }).on (fun c => c.setRf .gd7TrainCtl (.tile 0) 0 16 8 1))) ∧
  (let tt : TileId := 0;
    let j : Fin 8 := 7;
    let t := tt.val;
    let i := j.val;
    let st (d : Dev) : ChState := (d.chip.chan t i).state;
    (fun d => st d = .retraining) (tv { chans := [(7, { state := .retraining })] })) ∧
  (let o : BitVec 40 := 0#40;
    let crc : Nat := 3;
    let ode : Nat := 0;
    let n := (gdChan o.toNat).2;
    let u := (gdChan o.toNat).1;
    let count (d : Dev) : Dev := d.on (fun c => ((c.bump .gd7CrcCnt (.tile u) 0 crc).bump .gd7OdeCnt (.tile u) 0 ode).modChan u n
        (fun x => { x with crcInPeriod := x.crcInPeriod + crc, pdown := false, outst := x.outst - 1 }));
    (fun d => crc < 4 ∧ (count d).chip.rf .gd7TrainCtl (.tile u) 0 24 8 = 0) ((dv {}).on (fun c => c.setRf .gd7TrainCtl (.tile 0) 0 24 8 0))) ∧
  (let o : BitVec 40 := 0#40;
    let crc : Nat := 5;
    let ode : Nat := 0;
    let n := (gdChan o.toNat).2;
    let u := (gdChan o.toNat).1;
    let count (d : Dev) : Dev := d.on (fun c => ((c.bump .gd7CrcCnt (.tile u) 0 crc).bump .gd7OdeCnt (.tile u) 0 ode).modChan u n
        (fun x => { x with crcInPeriod := x.crcInPeriod + crc, pdown := false, outst := x.outst - 1 }));
    (fun d => 5 ≤ crc ∧ ((count d).chip.chan u n).state = .ready) (tv { chans := [(0, { state := .ready })] })) ∧
  (let tt : TileId := 0;
    let j : Fin 8 := 7;
    let t := tt.val;
    let i := j.val;
    let st (d : Dev) : ChState := (d.chip.chan t i).state;
    (fun d => d.chip.rbit .gd7Ctl (.tile t) 0 9 = true ∧ st d = .ready) ((tv { chans := [(7, { state := .ready })] }).on (fun c => c.setRf .gd7Ctl (.tile 0) 0 9 1 1))) ∧
  (let tt : TileId := 0;
    let j : Fin 8 := 7;
    let t := tt.val;
    let i := j.val;
    let st (d : Dev) : ChState := (d.chip.chan t i).state;
    (fun d => st d ≠ .training ∧ st d ≠ .retraining) (dv {})) ∧
  (let tt : TileId := 0;
    let j : Fin 8 := 7;
    let t := tt.val;
    let i := j.val;
    let st (d : Dev) : ChState := (d.chip.chan t i).state;
    (fun d => st d = .training ∨ st d = .retraining) (tv { chans := [(7, { state := .training })] })) := by
  refine ⟨?_, ?_, ?_, ?_, ?_, ?_, ?_, ?_, ?_⟩ <;> ((try dsimp only [comes, asks]); decide +kernel)

theorem test_meets_GroveAndRowSparesSubstitute :
  (let m : Master := .core;
    let tt : TileId := 0;
    let x : Fin 12 := 2;
    let y : Fin 12 := 3;
    let t := tt.val;
    let g := gidx x.val y.val;
    let n := 12 * t + y.val;
    let ok (d : Dev) : Prop := writable m .sprSwapCtl .hub 0 d = true;
    (fun d => ok d ∧ d.chip.hub.swap = none ∧ d.chip.rf .sprGmap .hub n 4 2 = 0 ∧ d.chip.rf .sprGmap .hub n 0 4 ≠ 15 ∧
        (d.chip.grove t g).usesEdge = false) (dv {})) ∧
  (let m : Master := .core;
    let ok (d : Dev) : Prop := writable m .sprSwapCtl .hub 0 d = true;
    (fun d => ok d ∧ d.chip.hub.swap.isSome = true) (dv { hub := { swap := some ⟨1, false, 0, 2, 3, false⟩ } })) ∧
  (let m : Master := .core;
    let tt : TileId := 0;
    let f : Fin 13 := 11;
    let y : Fin 12 := 3;
    let t := tt.val;
    let n := 12 * t + y.val;
    (fun d => writable m .sprSwapCtl .hub 0 d = true ∧ f.val < 12 ∧ d.chip.hub.swap = none ∧
        d.chip.rf .sprGmap .hub n 4 2 = 0 ∧ d.chip.rf .sprGmap .hub n 0 4 ≠ 15 ∧ maintWindow d.chip t y.val = true) ((dv {}).on (fun c => allGroves.foldl (fun c g => c.setRf .schGrove (.tile 0) g 63 1 1) c))) ∧
  (let m : Master := .core;
    let s : SwapSt := (⟨2, false, 0, 2, 3, false⟩ : SwapSt);
    (fun d => writable m .sprSwapCtl .hub 0 d = true ∧ d.chip.hub.swap = some s ∧ s.phase ≤ 2) (dv { hub := { swap := some ⟨2, false, 0, 2, 3, false⟩ } })) ∧
  (let s : SwapSt := (⟨1, false, 0, 2, 3, false⟩ : SwapSt);
    (fun d => d.chip.hub.swap = some s ∧ s.phase = 1) (dv { hub := { swap := some ⟨1, false, 0, 2, 3, false⟩ } })) ∧
  (let s : SwapSt := (⟨1, false, 0, 2, 3, false⟩ : SwapSt);
    (fun d => d.chip.hub.swap = some s ∧ s.phase = 1) (dv { hub := { swap := some ⟨1, false, 0, 2, 3, false⟩ } })) ∧
  (let s : SwapSt := (⟨2, false, 0, 2, 3, false⟩ : SwapSt);
    (fun d => d.chip.hub.swap = some s ∧ s.phase = 2 ∧ s.shift = false ∧ groveDrained d.chip s.tile (gidx s.col s.row) = true ∧
        (d.chip.grove s.tile (gidx s.col s.row)).halted = false) (dv { hub := { swap := some ⟨2, false, 0, 2, 3, false⟩ } })) ∧
  (let s : SwapSt := (⟨3, false, 0, 2, 3, false⟩ : SwapSt);
    (fun d => d.chip.hub.swap = some s ∧ s.phase = 3 ∧ s.shift = false) (dv { hub := { swap := some ⟨3, false, 0, 2, 3, false⟩ } })) ∧
  (let m : Master := .core;
    let v : BitVec 64 := 2 ^ 63;
    let j : RowJob := ⟨fld v 56 2, fld v 54 2, fld v 46 8, fld v 40 6, fld v 0 16⟩;
    (fun d => writable m .sprRowCtl .hub 0 d = true ∧ d.chip.hub.rowJob = none ∧ rowValid j = true ∧
        kget 0 d.chip.hub.rowUsed (rowUnit j) < rowSpares j.kind) (dv {})) ∧
  (let j : RowJob := ⟨1, 0, 5, 0, 0⟩;
    (fun d => d.chip.hub.rowJob = some j ∧ j.kind < 2) (dv { hub := { rowJob := some ⟨1, 0, 5, 0, 0⟩ } })) ∧
  (let m : Master := .core;
    let n : Fin 48 := 47;
    let t := n.val / 12;
    let y := n.val % 12;
    let drained (d : Dev) : Bool := (List.range 12).all (fun x => d.chip.rbit .schGrove (.tile t) (gidx x y) 63 && groveDrained d.chip t (gidx x y));
    (fun d => writable m .sprGmap .hub n.val d = true ∧ drained d = true) ((dv {}).on (fun c => allGroves.foldl (fun c g => c.setRf .schGrove (.tile 3) g 63 1 1) c))) ∧
  (let m : Master := .core;
    let n : Fin 48 := 47;
    let t := n.val / 12;
    let y := n.val % 12;
    let drained (d : Dev) : Bool := (List.range 12).all (fun x => d.chip.rbit .schGrove (.tile t) (gidx x y) 63 && groveDrained d.chip t (gidx x y));
    (fun d => writable m .sprGmap .hub n.val d = true ∧ drained d = false) (dv {})) ∧
  (let n : Fin 624 := 623;
    let slow : BitVec 16 := 0#16;
    let set (c : Chip) : Chip := c.setRf .sprAge .hub n.val 0 16 slow.toNat;
    let past (d : Dev) : Prop := (set d.chip).rf .sprAgeThr .hub 0 0 16 ≤ slow.toNat ∧ (set d.chip).rbit .sprAge .hub n.val 63 = false;
    (fun d => ¬past d) (dv {})) ∧
  (let n : Fin 624 := 623;
    let slow : BitVec 16 := 0xFFFF#16;
    let set (c : Chip) : Chip := c.setRf .sprAge .hub n.val 0 16 slow.toNat;
    let past (d : Dev) : Prop := (set d.chip).rf .sprAgeThr .hub 0 0 16 ≤ slow.toNat ∧ (set d.chip).rbit .sprAge .hub n.val 63 = false;
    past (dv {})) := by
  refine ⟨?_, ?_, ?_, ?_, ?_, ?_, ?_, ?_, ?_, ?_, ?_, ?_, ?_, ?_⟩ <;> ((try dsimp only [comes, asks]); decide +kernel)

theorem test_meets_PacketsAreChecked :
  (let p : Packet := qwr;
    let b : Nat := 0;
    let c : Chip := linked.chip;
    let k := p.src * 4 + p.vc;
    let exp := if p.seq = 0 then 0 else kget 0 c.hub.rxSeq k;
    let crcOk : Bool := packetCrc p.hdr p.payload p.mask exp p.vc c.devId == p.crc;
    (c.idValid = true) ∧ (c.hub.bare = false) ∧ (p.isLocal = false) ∧ (c.hub.resync = []) ∧ (c.rbit .fabVl .hub p.vl 62 = false) ∧ (crcOk = true) ∧ (typeVc p.type = some p.vc) ∧ (formatBad p = false) ∧ (p.src = c.rf .fabVl .hub p.vl 28 12) ∧ (c.rbit .fabVl .hub p.vl 63 = true) ∧ (permBit p.type = some b) ∧ (c.rbit .fabVl .hub p.vl b = true) ∧ (p.type ≠ 0x1A ∧ p.type ≠ 0x1C ∧ p.type ≠ 0x1D)) ∧
  (let p : Packet := pk 0x1F 0 [] [];
    let c : Chip := linked.chip;
    let k := p.src * 4 + p.vc;
    let exp := if p.seq = 0 then 0 else kget 0 c.hub.rxSeq k;
    let crcOk : Bool := packetCrc p.hdr p.payload p.mask exp p.vc c.devId == p.crc;
    (c.idValid = true) ∧ (c.hub.bare = false) ∧ (p.isLocal = false) ∧ (c.hub.resync = []) ∧ (c.rbit .fabVl .hub p.vl 62 = false) ∧ (crcOk = true) ∧ (typeVc p.type = none)) ∧
  (let p : Packet := { qwr with crc := 0#32 };
    let c : Chip := linked.chip;
    let k := p.src * 4 + p.vc;
    let exp := if p.seq = 0 then 0 else kget 0 c.hub.rxSeq k;
    let crcOk : Bool := packetCrc p.hdr p.payload p.mask exp p.vc c.devId == p.crc;
    (c.idValid = true) ∧ (c.hub.bare = false) ∧ (p.isLocal = false) ∧ (c.hub.resync = []) ∧ (c.rbit .fabVl .hub p.vl 62 = false) ∧ (p.type ≠ 0x1A) ∧ (crcOk = false) ∧ ((packetCrc p.hdr p.payload p.mask p.seq p.vc p.dst == p.crc) = false)) ∧
  (let p : Packet := pk 0x1F 0 [] [];
    (fun d => typeVc p.type = none ∧ forUs p d.chip = true ∧ inTurn p d.chip = true) (linked)) := by
  refine ⟨?_, ?_, ?_, ?_⟩ <;> ((try dsimp only [comes, asks]); decide +kernel)

theorem test_meets_QueuePacketsAreServed :
  (let p : Packet := qwr;
    let q := p.f 74 14;
    let sid := p.tag % 8;
    let pr : Producer := .stream p.src q sid;
    let here (ty : Nat) (d : Dev) : Prop := comes ty p d ∧ fbRefuse p q (received p d).chip = none ∧ (received p d).chip.hub.held.contains (q / 4096) = false;
    let Q (d : Dev) : Queue := (received p d).chip.queue q;
    let i : Nat := 0;
    let s : StreamSlot := ⟨2, 0, 16, true⟩;
    let e : Dev := (pushStream 5 (.stream 2 5 0) 9#24 0 true qwr.words true (qwrAt.on (useBalance 5 0 1))).getD {};
    (fun d => here 0x01 d ∧ (Q d).streams.filter (fun x => x.2.src == p.src && x.2.sid == sid) = [(i, s)] ∧ s.live = true ∧
        p.f 116 4 = (received p d).chip.epochOf q i ∧ p.len ≤ s.bal ∧ p.f 88 1 = 1 ∧ (Q d).closed = false ∧ (received p d).chip.qen q = true ∧
        (Q d).asms.find? (fun a => a.prod == pr && !a.closed) = none ∧ p.len ≤ 16384 ∧
        pushStream q pr (BitVec.ofNat 24 (p.f 92 24)) (p.f 90 2) (p.f 89 1 == 1) p.words true (((received p d).on (fun c => c.modQueue q (fun Q => { Q with
          silent := Q.silent.filter (fun x => x != pr), lost := Q.lost.filter (fun x => x != pr), refusing := Q.refusing.filter (fun x => x != pr) }))).on
            (useBalance q i p.len)) = some e) (linkedQ creditQ5)) ∧
  (let p : Packet := pk 0x03 0 [(74, 32, 5)] [];
    (fun d => comes 0x03 p d ∧ (received p d).chip.hub.msgQ.length < 64) (linked)) ∧
  (let p : Packet := pk 0x1A 1 [] [5#32];
    (fun d => comes 0x1A p d ∧ (received p d).chip.hub.msgQ.length < 64) (linked)) ∧
  (let p : Packet := qrd;
    let q := p.f 74 14;
    let vs : List (BitVec 64) := (collect 5 false 16 0 1 (linkedPop.on (await qrd))).2.1;
    let e : Dev := (collect 5 false 16 0 1 (linkedPop.on (await qrd))).2.2;
    (fun d => comes 0x0B p d ∧ fbRefuse p q (received p d).chip = none ∧ (received p d).chip.qmode q = 3 ∧
        collect q false (8 * p.src + p.port) p.tag p.len (d.on (await p)) = (true, vs, e)) (linkedPop)) ∧
  (let p : Packet := pk 0x18 0 [(74, 14, 5), (88, 10, 1)] [];
    let q := p.f 74 14;
    let sid := p.tag % 8;
    let here (ty : Nat) (d : Dev) : Prop := comes ty p d ∧ fbRefuse p q (received p d).chip = none ∧ (received p d).chip.hub.held.contains (q / 4096) = false;
    let Q (d : Dev) : Queue := (received p d).chip.queue q;
    (fun d => here 0x18 d ∧ p.f 88 10 ≠ 0 ∧ (Q d).closed = false ∧ (received p d).chip.qen q = true ∧
        (Q d).streams.find? (fun x => x.2.live && x.2.src == p.src && x.2.sid == sid) = none) (linkedQ {})) ∧
  (let p : Packet := pk 0x18 0 [(74, 14, 5), (88, 10, 1)] [];
    let q := p.f 74 14;
    let here (ty : Nat) (d : Dev) : Prop := comes ty p d ∧ fbRefuse p q (received p d).chip = none ∧ (received p d).chip.hub.held.contains (q / 4096) = false;
    let Q (d : Dev) : Queue := (received p d).chip.queue q;
    (fun d => here 0x18 d ∧ p.f 88 10 ≠ 0 ∧ (Q d).closed = true) (linkedQ { closed := true })) ∧
  (let p : Packet := pk 0x19 0 [(74, 14, 7), (88, 10, 1), (98, 4, 3)] [];
    let q := p.f 74 14;
    let k : Nat := 5;
    (fun d => comes 0x19 p d ∧
        drainOf (received p d).chip p (fun x => (drainTo (received p d).chip x).2.2.2.1 == q) = some k ∧ p.f 102 4 = 0 ∧
        (kget {} (received p d).chip.hub.drains k).asked = true) ((draining { asked := true } {}).on (fun c => c.setRf .queTgt (.tile 0) 5 0 14 7))) := by
  refine ⟨?_, ?_, ?_, ?_, ?_, ?_, ?_⟩ <;> ((try dsimp only [comes, asks]); decide +kernel)

theorem test_meets_RequestPacketsAreServed :
  (let p : Packet := memRd;
    let a := 4 * p.f 82 46;
    let z := ((0x08, .read, .puhanMrd p .ok) : Nat × MemOp × Instr);
    let x : ReqOut × Dev := memRdServed;
    (fun d => comes z.1 p d ∧ 0x1000000000 ≤ a ∧ (received p d).chip.hub.held = [] ∧ mayReachAll (.link p.vl) (z.2.1 != .read) a p.len (received p d).chip = true ∧
          serveReq (.link p.vl) p.src false { op := z.2.1, a := a, n := p.len, ws := p.words, fbe := p.f 74 4, lbe := p.f 78 4 } .ok (received p d) = x ∧
          x.1.waits = false ∧ x.1.st = 0) (linkedGo)) ∧
  (let p : Packet := pk 0x11 1 [] [5#32];
    let back (d : Dev) : Chip := (arrive p (pruneLate (takeRx p d.chip))).2;
    let ok (d : Dev) : Prop := (p.type = 0x10 ∨ p.type = 0x11) ∧ forUs p d.chip = true ∧ inTurn p d.chip = true ∧
       (arrive p (pruneLate (takeRx p d.chip))).1 = .accept;
    let found (d : Dev) : Option RemReq := (back d).hub.remote.find? (fun x => x.ep == p.src && x.tag == p.tag &&
       !(p.f 74 4 == 11 && (drainOf (back d) p (fun _ => true)).isSome));
    let r : RemReq := ⟨2, 0, .core, 1, false, false, 0⟩;
    (fun d => ok d ∧ found d = some r ∧ r.late = false ∧ r.posted = false ∧ p.f 78 29 = 0 ∧ p.type = 0x11 ∧ p.f 74 4 = 0 ∧
         p.len = r.words) (linked.on (fun c => c.modHub (fun h => { h with remote := [⟨2, 0, .core, 1, false, false, 0⟩] })))) ∧
  (let p : Packet := pk 0x11 1 [] [5#32];
    let back (d : Dev) : Chip := (arrive p (pruneLate (takeRx p d.chip))).2;
    let ok (d : Dev) : Prop := (p.type = 0x10 ∨ p.type = 0x11) ∧ forUs p d.chip = true ∧ inTurn p d.chip = true ∧
       (arrive p (pruneLate (takeRx p d.chip))).1 = .accept;
    let found (d : Dev) : Option RemReq := (back d).hub.remote.find? (fun x => x.ep == p.src && x.tag == p.tag &&
       !(p.f 74 4 == 11 && (drainOf (back d) p (fun _ => true)).isSome));
    (fun d => ok d ∧ found d = none ∧ p.type = 0x11) (linked)) ∧
  (let ep : Nat := 2;
    let tag : Nat := 1023;
    let r : RemReq := ⟨2, 1023, .core, 1, false, false, 0⟩;
    (fun d => d.chip.hub.remote.find? (fun x => x.ep == ep && x.tag == tag && !x.late && !x.posted) = some r) (linked.on (fun c => c.modHub (fun h => { h with remote := [⟨2, 1023, .core, 1, false, false, 0⟩] })))) ∧
  (let p : Packet := qwr;
    let l : Nat × Nat := (0, 0);
    (fun d => forUs p d.chip = false ∧ inTurn p d.chip = true ∧
        ((takeRx p d.chip).hub.bare = false ∨ p.type = 0x1A) ∧ (takeRx p d.chip).rbit .fabVl .hub p.vl 62 = false ∧
        packetCrc p.hdr p.payload p.mask p.seq p.vc p.dst = p.crc ∧ (takeRx p d.chip).route p.dst = some l ∧ (takeRx p d.chip).portDown l.1 = false) ((linked.on (fun c => (c.setRf .fabCtl .hub 0 32 6 5).setRf .fabEp .hub 1 63 1 1)))) ∧
  (let t : TileId := 0;
    let f : Flow := 9#24;
    let k : Nat := 72;
    (fun d => d.chip.hub.xgrants.find? (fun x => x.1 == t.val) = some (t.val, f) ∧ (d.chip.tile t.val).lockOf f = some k) (dv { tiles := [(0, { locks := [(72, { flow := 9#24 })] })], hub := { xgrants := [(0, 9#24)] } })) := by
  refine ⟨?_, ?_, ?_, ?_, ?_, ?_⟩ <;> ((try dsimp only [comes, asks]); decide +kernel)

theorem test_meets_CreditsAndStreamsMove :
  (let q : Fin 16384 := 5;
    let Q (d : Dev) : Queue := d.chip.queue q.val;
    let r : CreditReq := ⟨2, 0, 1, 0, 0, 0⟩;
    let rest : List CreditReq := [];
    let i : Nat := 0;
    let s : StreamSlot := ⟨2, 0, 0, true⟩;
    let n (d : Dev) : Nat := min (min r.blocks (reservable d.chip q.val)) (1023 - (s.bal + 15) / 16);
    (fun d => (Q d).creditQ = r :: rest ∧ d.chip.hub.held.contains (q.val / 4096) = false ∧ (Q d).closed = false ∧
          d.chip.qen q.val = true ∧ d.chip.rf .fabVl .hub (256 * r.port + r.vlink) 40 8 = d.chip.queueFb q.val ∧
          (Q d).streams.find? (fun x => x.2.live && x.2.src == r.src && x.2.sid == r.sid) = some (i, s) ∧ n d ≠ 0) ((linkedQ { creditQ := [⟨2, 0, 1, 0, 0, 0⟩], streams := [(0, ⟨2, 0, 0, true⟩)] }).on (fun c => (c.setRf .queSpill (.tile 0) 5 8 18 4).setReg .quePool (.tile 0) 0 (mkReg [(0, 64, 2 ^ 64 - 1)])))) ∧
  (let q : Fin 16384 := 5;
    let Q (d : Dev) : Queue := d.chip.queue q.val;
    let j : Fin 8 := 7;
    let s : StreamSlot := ⟨2, 0, 0, true⟩;
    (fun d => kfind? (Q d).streams j.val = some s ∧ s.live = true ∧
        (Q d).asms.any (fun a => a.prod == .stream s.src q.val s.sid && !a.closed) = false) (linkedQ { streams := [(7, ⟨2, 0, 0, true⟩)] })) ∧
  (let q : Fin 16384 := 5;
    let Q (d : Dev) : Queue := d.chip.queue q.val;
    let j : Fin 264 := 7;
    let s : StreamSlot := ⟨2, 0, 0, true⟩;
    let v : Nat := 0;
    (fun d => j.val < 8 ∧ kfind? (Q d).streams j.val = some s ∧
        (Q d).asms.any (fun a => a.prod == .stream s.src q.val s.sid && !a.closed) = true ∧
        (List.range 2048).find? (fun n => d.chip.rbit .fabVl .hub n 63 && d.chip.rf .fabVl .hub n 28 12 == s.src) = some v) (linkedQ { streams := [(7, ⟨2, 0, 0, true⟩)], asms := [⟨1, .stream 2 5 0, 9#24, [], 0, false⟩] })) ∧
  (let q : Fin 16384 := 5;
    let Q (d : Dev) : Queue := d.chip.queue q.val;
    let j : Fin 264 := 263;
    (fun d => 8 ≤ j.val ∧ (Q d).asms.any (fun a => a.prod == .host (j.val - 8) && !a.closed) = true) (linkedQ { asms := [⟨1, .host 255, 9#24, [], 0, false⟩] })) ∧
  ((fun d => d.chip.rf .fabViolLimit .hub 0 16 16 ≠ 0) ((dv {}).on (fun c => c.setRf .fabViolLimit .hub 0 16 16 1))) ∧
  (let m : Master := .core;
    let n : Fin 2048 := 2047;
    (fun d => writable m .fabVl .hub n.val d = true) (dv {})) ∧
  (let q : Fin 16384 := 5;
    let Q (d : Dev) : Queue := d.chip.queue q.val;
    let it : Item := ({ seq := 1, flow := 9#24, words := [⟨tword 1#32, .head, false⟩], vb := 0 } : Item);
    let dr (d : Dev) : Drain := kget {} d.chip.hub.drains q.val;
    let to_ (d : Dev) := drainTo d.chip q.val;
    let next (d : Dev) : Prop := d.chip.qmode q.val = 2 ∧ (Q d).err = false ∧ (Q d).items.find? (fun i => !i.gone && !i.waitAck) = some it ∧
        d.chip.linkHeld (to_ d).1 (to_ d).2.1 = false ∧ (dr d).held = false;
    (fun d => next d ∧ (dr d).bal = 0 ∧ (dr d).asked = false) (draining {} { items := [({ seq := 1, flow := 9#24, words := [⟨tword 1#32, .head, false⟩], vb := 0 } : Item)] })) ∧
  (let q : Fin 16384 := 5;
    let Q (d : Dev) : Queue := d.chip.queue q.val;
    let it : Item := ({ seq := 1, flow := 9#24, words := [⟨tword 1#32, .head, false⟩], vb := 0 } : Item);
    let dr (d : Dev) : Drain := kget {} d.chip.hub.drains q.val;
    let to_ (d : Dev) := drainTo d.chip q.val;
    let next (d : Dev) : Prop := d.chip.qmode q.val = 2 ∧ (Q d).err = false ∧ (Q d).items.find? (fun i => !i.gone && !i.waitAck) = some it ∧
        d.chip.linkHeld (to_ d).1 (to_ d).2.1 = false ∧ (dr d).held = false;
    (fun d => next d ∧ it.words.length = 1 ∧ (dr d).bal ≠ 0 ∧ (dr d).sent = 0) (draining { bal := 1 } { items := [({ seq := 1, flow := 9#24, words := [⟨tword 1#32, .head, false⟩], vb := 0 } : Item)] })) ∧
  (let q : Fin 16384 := 5;
    (fun d => (kget {} d.chip.hub.drains q.val).held = true) (draining { held := true } {})) := by
  refine ⟨?_, ?_, ?_, ?_, ?_, ?_, ?_, ?_, ?_⟩ <;> ((try dsimp only [comes, asks]); decide +kernel)

theorem test_meets_LinksMoveFlits :
  (let k : LinkRef := .port 7;
    let n := endOf k;
    let e (d : Dev) : LinkEnd := d.chip.link n;
    let on (d : Dev) : Prop := (e d).st = .active;
    let f : Flit := fl7 0 0 [];
    (fun d => on d ∧ flitOk f = true ∧ f.kind = 0 ∧
          f.c 2 12 = (((takeCredits n f (ackUpTo n (f.c 14 12) d.chip)).link n).rxLast + 1) % 4096) (lv on7)) ∧
  (let k : LinkRef := .port 7;
    let n := endOf k;
    let e (d : Dev) : LinkEnd := d.chip.link n;
    let on (d : Dev) : Prop := (e d).st = .active;
    let f : Flit := { fl7 0 0 [] with ctl := 0 };
    (fun d => on d ∧ flitOk f = false) (lv on7)) ∧
  (let k : LinkRef := .port 7;
    let n := endOf k;
    let e (d : Dev) : LinkEnd := d.chip.link n;
    let on (d : Dev) : Prop := (e d).st = .active;
    let f : Flit := fl7 2 0 [];
    (fun d => on d ∧ flitOk f = true ∧ f.kind = 2) (lv on7)) ∧
  (let k : LinkRef := .port 7;
    let n := endOf k;
    let e (d : Dev) : LinkEnd := d.chip.link n;
    let on (d : Dev) : Prop := (e d).st = .active;
    let f : Flit := fl7 1 0 [];
    (fun d => on d ∧ flitOk f = true ∧ f.kind = 1) (lv on7)) ∧
  (let k : LinkRef := .port 7;
    let n := endOf k;
    let e (d : Dev) : LinkEnd := d.chip.link n;
    let on (d : Dev) : Prop := (e d).st = .active;
    let port : Bool := isPort n;
    (fun d => port = true ∧ on d ∧ (e d).nakDue = true) (lv { on7 with nakDue := true })) ∧
  (let k : LinkRef := .port 7;
    let n := endOf k;
    let e (d : Dev) : LinkEnd := d.chip.link n;
    let on (d : Dev) : Prop := (e d).st = .active;
    let port : Bool := isPort n;
    let s : SentFlit := ({ seq := 5, units := [], born := 0 } : SentFlit);
    let r : List SentFlit := [];
    (fun d => port = true ∧ on d ∧ (e d).nakDue = false ∧ (e d).resend = s :: r) (lv { on7 with resend := [{ seq := 5, units := [], born := 0 }] })) ∧
  (let k : LinkRef := .port 7;
    let n := endOf k;
    let e (d : Dev) : LinkEnd := d.chip.link n;
    let on (d : Dev) : Prop := (e d).st = .active;
    let port : Bool := isPort n;
    (fun d => port = true ∧ on d ∧ (e d).nakDue = false ∧ (e d).resend = [] ∧ replayCap n ≤ (e d).replay.length) (lv { on7 with replay := List.replicate 1024 { seq := 5, units := [], born := 0 } })) ∧
  (let k : LinkRef := .port 7;
    let n := endOf k;
    let e (d : Dev) : LinkEnd := d.chip.link n;
    let on (d : Dev) : Prop := (e d).st = .active;
    let s : SentFlit := ({ seq := 5, units := [], born := 0 } : SentFlit);
    let r : List SentFlit := [];
    (fun d => on d ∧ (e d).replay = s :: r ∧ (e d).replays < 8 ∧ d.chip.hub.time.toNat < s.born + 2000000) (lv { on7 with replay := [{ seq := 5, units := [], born := 0 }], replays := 7 })) ∧
  (let k : LinkRef := .port 7;
    let n := endOf k;
    let e (d : Dev) : LinkEnd := d.chip.link n;
    let on (d : Dev) : Prop := (e d).st = .active;
    let s : SentFlit := ({ seq := 5, units := [], born := 0 } : SentFlit);
    let r : List SentFlit := [];
    (fun d => on d ∧ (e d).replay = s :: r ∧ 8 ≤ (e d).replays) (lv { on7 with replay := [{ seq := 5, units := [], born := 0 }], replays := 8 })) ∧
  (let k : LinkRef := .port 7;
    let n := endOf k;
    let e (d : Dev) : LinkEnd := d.chip.link n;
    let f : Flit := fl7 3 0 [0xFF000001#32];
    let w (lo wd : Nat) : Nat := (f.stream.zipIdx.foldl (fun a x => if x.2 < 8 then a + x.1.toNat * 2 ^ (32 * x.2) else a) 0) / 2 ^ lo % 2 ^ wd;
    (fun d => (e d).phys = true ∧ (e d).st = .training ∧ (e d).resume = false ∧ flitOk f = true ∧ f.kind = 3 ∧ w 0 8 = 1 ∧ w 24 8 = 255) (lv { st := .training, phys := true })) ∧
  (let p : Fin 8 := 7;
    (fun d => (d.chip.link p.val).st = .retraining ∧ (d.chip.link p.val).again = false) (lv { st := .retraining })) ∧
  (let p : Fin 8 := 7;
    (fun d => (d.chip.link p.val).st = .training ∧ (d.chip.link p.val).moving = []) (lv { st := .training })) ∧
  (let ser : Nat := 0;
    let m0 : BitVec 16 := 0xFFFF#16;
    (fun d => ser ≤ d.chip.rf .lnkTiming .hub 0 16 16 * 1024 ∧ d.chip.rf .lnkTiming .hub 0 0 16 ≤ m0.toNat) (dv {})) := by
  refine ⟨?_, ?_, ?_, ?_, ?_, ?_, ?_, ?_, ?_, ?_, ?_, ?_, ?_⟩ <;> ((try dsimp only [comes, asks]); decide +kernel)

theorem test_meets_LinkRequestsAct :
  (let m : Master := .core;
    let p : Fin 8 := 7;
    let k := p.val;
    let v (fs : List (Nat × Nat × Nat)) (d : Dev) : BitVec 64 := fieldValue .lnkCtl .hub k fs d;
    let keep (fs : List (Nat × Nat × Nat)) (d : Dev) : Chip := lnkEnable k (fld (v fs d) 63 1 == 1)
        (putReg .lnkCtl .hub k (setFld (v fs d) 63 1 (d.chip.rf .lnkCtl .hub k 63 1)) d.chip);
    let ok (d : Dev) : Prop := writable m .lnkCtl .hub k d = true;
    (fun d => ok d ∧ ((keep [(62, 1, 1)] d).link k).st = .active) ((lv on7).on (fun c => c.setRf .lnkCtl .hub 7 63 1 1))) ∧
  (let m : Master := .core;
    let p : Fin 8 := 7;
    let k := p.val;
    let ok (d : Dev) : Prop := writable m .lnkCtl .hub k d = true;
    ok (dv {})) ∧
  (let m : Master := .core;
    let p : Fin 8 := 7;
    let k := p.val;
    let v (fs : List (Nat × Nat × Nat)) (d : Dev) : BitVec 64 := fieldValue .lnkCtl .hub k fs d;
    let keep (fs : List (Nat × Nat × Nat)) (d : Dev) : Chip := lnkEnable k (fld (v fs d) 63 1 == 1)
        (putReg .lnkCtl .hub k (setFld (v fs d) 63 1 (d.chip.rf .lnkCtl .hub k 63 1)) d.chip);
    let ok (d : Dev) : Prop := writable m .lnkCtl .hub k d = true;
    let lane : Fin 4 := 3;
    let rx : Bool := true;
    let fs : List (Nat × Nat × Nat) := [(60, 1, 1), (57, 3, lane.val), (56, 1, b2n rx)];
    (fun d => ok d ∧ ((keep fs d).link k).st = .active) ((lv on7).on (fun c => c.setRf .lnkCtl .hub 7 63 1 1))) ∧
  (let m : Master := .core;
    let p : Fin 8 := 7;
    let k := p.val;
    let ok (d : Dev) : Prop := writable m .lnkCtl .hub k d = true;
    ok (dv {})) ∧
  (let m : Master := .core;
    let p : Fin 8 := 7;
    let k := p.val;
    (fun d => writable m .lnkFi .hub k d = true) (dv {})) ∧
  (let m : Master := .core;
    let n : Fin 12 := 11;
    let k := n.val;
    let a := 16 + 2 * k;
    let ok (d : Dev) : Prop := writable m .d2dCtl .hub k d = true;
    (fun d => ok d ∧ (d.chip.link a).st = .active) (lv on7)) ∧
  (let m : Master := .core;
    let n : Fin 12 := 11;
    let k := n.val;
    let a := 16 + 2 * k;
    let ok (d : Dev) : Prop := writable m .d2dCtl .hub k d = true;
    (fun d => ok d ∧ (d.chip.link a).st = .active) (lv on7)) := by
  refine ⟨?_, ?_, ?_, ?_, ?_, ?_, ?_⟩ <;> ((try dsimp only [comes, asks]); decide +kernel)

theorem test_meets_StartUpMessagesAct :
  (let m : MsgIn := (note 0x01 [5#32] (none));
    let c1 : Chip := taken (note 0x01 [5#32] (none)) (msgDev (note 0x01 [5#32] (none)) {});
    let got (cls : Nat) (d : Dev) : Prop := takeMsg cls d.chip = some (m, c1);
    (fun d => got 0x01 d ∧ c1.isRoot = false) ((msgDev (note 0x01 [5#32] (none)) {}))) ∧
  (let m : MsgIn := (note 0x02 [0#32, 0#32, 0#32, 0#32, 0#32] (none));
    let c1 : Chip := taken (note 0x02 [0#32, 0#32, 0#32, 0#32, 0#32] (none)) (msgDev (note 0x02 [0#32, 0#32, 0#32, 0#32, 0#32] (none)) { scan := some ⟨[], [3]⟩ });
    let got (cls : Nat) (d : Dev) : Prop := takeMsg cls d.chip = some (m, c1);
    let s : ScanJob := (⟨[], [3]⟩ : ScanJob);
    (fun d => got 0x02 d ∧ c1.isRoot = false ∧ bitOf (m.w 4) 30 = false ∧ c1.hub.scan = some s ∧ s.ports.contains m.port = true ∧
        (scanned s m.port (bitsOf (m.w 4) 16 3) false (m.uidAt 0) c1).hub.disc = none) ((msgDev (note 0x02 [0#32, 0#32, 0#32, 0#32, 0#32] (none)) { scan := some ⟨[], [3]⟩ }))) ∧
  (let m : MsgIn := (note 0x03 [0#32] (some [2]));
    let c1 : Chip := taken (note 0x03 [0#32] (some [2])) (msgDev (note 0x03 [0#32] (some [2])) { links := [(5, { st := .active, peerRole := some false })] });
    let got (cls : Nat) (d : Dev) : Prop := takeMsg cls d.chip = some (m, c1);
    let ret : List Nat := [2];
    let ps : List Nat := [5];
    (fun d => got 0x03 d ∧ m.ret = some ret ∧ peerPorts c1 true = [] ∧
        (peerPorts c1 false).filter (fun p => p != m.port) = ps ∧ ps ≠ []) ((msgDev (note 0x03 [0#32] (some [2])) { links := [(5, { st := .active, peerRole := some false })] }))) ∧
  (let m : MsgIn := (note 0x04 [0x100#32] (some [3]));
    let c1 : Chip := taken (note 0x04 [0x100#32] (some [3])) (msgDev (note 0x04 [0x100#32] (some [3])) { disc := some { waiting := [(7, 8)] }, recs := [{ uid := 9, id := some 7, path := [3] }] });
    let got (cls : Nat) (d : Dev) : Prop := takeMsg cls d.chip = some (m, c1);
    let id := m.w 0 % 64;
    let j : Disc := ({ waiting := [(7, 8)] } : Disc);
    let path : List Nat := [3];
    let x : DevRec := ({ uid := 9, id := some 7, path := [3] } : DevRec);
    (fun d => got 0x04 d ∧ c1.hub.disc = some j ∧ m.ret = some path ∧
        c1.recOf (fun y => y.path == path) = some x ∧ bitOf (m.w 0) 8 = true ∧ bitOf (m.w 0) 31 = false) ((msgDev (note 0x04 [0x100#32] (some [3])) { disc := some { waiting := [(7, 8)] }, recs := [{ uid := 9, id := some 7, path := [3] }] }))) ∧
  (let m : MsgIn := (note 0x05 [0x10007#32] (none));
    let c1 : Chip := taken (note 0x05 [0x10007#32] (none)) (msgDev (note 0x05 [0x10007#32] (none)) {});
    let got (cls : Nat) (d : Dev) : Prop := takeMsg cls d.chip = some (m, c1);
    let ep := bitsOf (m.w 0) 16 16;
    (fun d => got 0x05 d ∧ (c1.hub.epoch = 0 ∨ ep = c1.hub.epoch ∨ serialLater 16 ep c1.hub.epoch = true) ∧
        c1.rbit .fabCtl .hub 0 63 = false ∧ c1.isRoot = false) ((msgDev (note 0x05 [0x10007#32] (none)) {}))) ∧
  (let m : MsgIn := ({ note 0x06 [9#32] (none) with src := 7 } : MsgIn);
    let c1 : Chip := taken ({ note 0x06 [9#32] (none) with src := 7 } : MsgIn) (msgDev ({ note 0x06 [9#32] (none) with src := 7 } : MsgIn) { recs := [{ uid := 9, id := some 7 }] });
    let got (cls : Nat) (d : Dev) : Prop := takeMsg cls d.chip = some (m, c1);
    let id := m.w 0 % 64;
    let x : DevRec := ({ uid := 9, id := some 7 } : DevRec);
    (fun d => got 0x06 d ∧ m.w 0 % 256 = 9 ∧ bitsOf (m.w 0) 8 4 = 0 ∧ m.ret = none ∧ m.src ≠ 4095 ∧
        c1.recOf (fun y => y.id == some m.src) = some x ∧ x.needsFw = false) ((msgDev ({ note 0x06 [9#32] (none) with src := 7 } : MsgIn) { recs := [{ uid := 9, id := some 7 }] }))) ∧
  (let m : MsgIn := (note 0x07 [0x3C0FC4#32] (none));
    let c1 : Chip := taken (note 0x07 [0x3C0FC4#32] (none)) (msgDev (note 0x07 [0x3C0FC4#32] (none)) {});
    let got (cls : Nat) (d : Dev) : Prop := takeMsg cls d.chip = some (m, c1);
    let first := m.w 0 % 4096;
    let n := bitsOf (m.w 0) 16 8;
    (fun d => got 0x07 d ∧ n ≠ 0 ∧ n ≤ 60 ∧ first + n ≤ 4096) ((msgDev (note 0x07 [0x3C0FC4#32] (none)) {}))) ∧
  (let m : MsgIn := (note 0x08 [0x0001#32, 5#32] (none));
    let c1 : Chip := taken (note 0x08 [0x0001#32, 5#32] (none)) (msgDev (note 0x08 [0x0001#32, 5#32] (none)) {});
    let got (cls : Nat) (d : Dev) : Prop := takeMsg cls d.chip = some (m, c1);
    let h := m.w 0 % 256;
    let i := bitsOf (m.w 0) 8 8;
    let byte (b k : Nat) : Nat := bitsOf (m.w (b + k / 4)) (8 * (k % 4)) 8;
    (fun d => got 0x08 d ∧ h ≠ 0 ∧ h ≤ 63 ∧ i < h ∧ m.src = 4095 ∧ byte 1 i < 8) ((msgDev (note 0x08 [0x0001#32, 5#32] (none)) {}))) ∧
  (let m : MsgIn := (note 0x09 [4#32] (none));
    let c1 : Chip := taken (note 0x09 [4#32] (none)) ((msgDev (note 0x09 [4#32] (none)) { epoch := 4 }).on (fun c => c.setRf .fabCtl .hub 0 40 1 1));
    let got (cls : Nat) (d : Dev) : Prop := takeMsg cls d.chip = some (m, c1);
    (fun d => got 0x09 d ∧ c1.hub.epoch = m.w 0 % 65536 ∧ c1.idValid = true) (((msgDev (note 0x09 [4#32] (none)) { epoch := 4 }).on (fun c => c.setRf .fabCtl .hub 0 40 1 1)))) ∧
  (let m : MsgIn := (note 0x0A [0#32] (none));
    let c1 : Chip := taken (note 0x0A [0#32] (none)) ((msgDev (note 0x0A [0#32] (none)) {}).on (fun c => (c.setRf .fabCtl .hub 0 32 6 7).setRf .fabCtl .hub 0 40 1 1 |>.setRf .fabCtl .hub 0 63 1 1));
    let got (cls : Nat) (d : Dev) : Prop := takeMsg cls d.chip = some (m, c1);
    (fun d => got 0x0A d ∧ c1.isRoot = false ∧ c1.memberUp = true) (((msgDev (note 0x0A [0#32] (none)) {}).on (fun c => (c.setRf .fabCtl .hub 0 32 6 7).setRf .fabCtl .hub 0 40 1 1 |>.setRf .fabCtl .hub 0 63 1 1)))) ∧
  (let m : MsgIn := (note 0x0B [0#32] (none));
    let c1 : Chip := taken (note 0x0B [0#32] (none)) ((msgDev (note 0x0B [0#32] (none)) { fwRunning := true, epoch := 4, rootUid := (dv {}).chip.uid }).on (fun c => (c.setRf .fabCtl .hub 0 40 1 1)));
    let got (cls : Nat) (d : Dev) : Prop := takeMsg cls d.chip = some (m, c1);
    (fun d => got 0x0B d ∧ c1.isRoot = true) (((msgDev (note 0x0B [0#32] (none)) { fwRunning := true, epoch := 4, rootUid := (dv {}).chip.uid }).on (fun c => (c.setRf .fabCtl .hub 0 40 1 1))))) ∧
  (let m : MsgIn := ({ note 0x30 [0x800000#32, 0#32] (none) with src := 7 } : MsgIn);
    let c1 : Chip := taken ({ note 0x30 [0x800000#32, 0#32] (none) with src := 7 } : MsgIn) ((msgDev ({ note 0x30 [0x800000#32, 0#32] (none) with src := 7 } : MsgIn) { fwRunning := true, epoch := 4, rootUid := (dv {}).chip.uid, edges := [(7, 2, 0, 3)] }).on (fun c => (c.setRf .fabCtl .hub 0 40 1 1)));
    let got (cls : Nat) (d : Dev) : Prop := takeMsg cls d.chip = some (m, c1);
    (fun d => got 0x30 d ∧ c1.isRoot = true ∧ c1.hub.disc = none ∧ bitOf (m.w 0) 23 = true ∧
        c1.hub.edges.any (fun e => e.1 == m.src && !(bitOf (m.w 1) e.2.1)) = true) (((msgDev ({ note 0x30 [0x800000#32, 0#32] (none) with src := 7 } : MsgIn) { fwRunning := true, epoch := 4, rootUid := (dv {}).chip.uid, edges := [(7, 2, 0, 3)] }).on (fun c => (c.setRf .fabCtl .hub 0 40 1 1))))) ∧
  ((fun d => d.chip.hub.fwRunning = true ∧ d.chip.coreUp = true ∧ d.chip.rbit .pciLinkStat .hub 0 63 = true) ((dv { hub := { fwRunning := true, mbxState := 2 } }).on (fun c => c.setRf .pciLinkStat .hub 0 63 1 1))) ∧
  (let s : ScanJob := (⟨[], [3]⟩ : ScanJob);
    let p : Nat := 3;
    (fun d => d.chip.coreUp = true ∧ d.chip.hub.scan = some s ∧ s.ports = [p] ∧
      (scanned s p 0 true 0 d.chip).hub.disc = none) (dv { hub := { mbxState := 2, scan := some ⟨[], [3]⟩ } })) := by
  refine ⟨?_, ?_, ?_, ?_, ?_, ?_, ?_, ?_, ?_, ?_, ?_, ?_, ?_, ?_⟩
  · (try dsimp only [comes, asks]); decide +kernel
  · (try dsimp only [comes, asks]); decide +kernel
  · (try dsimp only [comes, asks]); decide +kernel
  · (try dsimp only [comes, asks]); decide +kernel
  · (try dsimp only [comes, asks]); decide +kernel
  · (try dsimp only [comes, asks]); decide +kernel
  · (try dsimp only [comes, asks]); decide +kernel
  · (try dsimp only [comes, asks]); decide +kernel
  · (try dsimp only [comes, asks]); decide +kernel
  · (try dsimp only [comes, asks]); decide +kernel
  · exact ⟨rfl, (by simp only [Chip.isRoot, Bool.and_eq_true]; exact ⟨⟨⟨⟨by decide +kernel, by decide +kernel⟩, by decide +kernel⟩, by decide +kernel⟩, beq_self_eq_true (α := Nat) _⟩)⟩
  · exact ⟨rfl, (by simp only [Chip.isRoot, Bool.and_eq_true]; exact ⟨⟨⟨⟨by decide +kernel, by decide +kernel⟩, by decide +kernel⟩, by decide +kernel⟩, beq_self_eq_true (α := Nat) _⟩), by decide +kernel, by decide +kernel, by decide +kernel⟩
  · (try dsimp only [comes, asks]); decide +kernel
  · (try dsimp only [comes, asks]); decide +kernel

theorem test_meets_MembersLoadAndKeepTime :
  (let m : MsgIn := (note 0x10 [0#32, 1#32, 5#32] none);
    let c1 : Chip := taken (note 0x10 [0#32, 1#32, 5#32] none) (dv { hub := { msgQ := [note 0x10 [0#32, 1#32, 5#32] none], mbxState := 1 } });
    let ch := m.chunk;
    let got (cls : Nat) (d : Dev) : Prop := takeMsg cls d.chip = some (m, c1);
    (fun d => got 0x10 d ∧ c1.hub.mbxState = 1 ∧ m.w 1 % 256 ≤ 62 ∧ m.w 1 % 256 ≠ 0 ∧ ch.1 = (c1.hub.fwIn.getD []).length ∧ ch.2.2 = false) (dv { hub := { msgQ := [note 0x10 [0#32, 1#32, 5#32] none], mbxState := 1 } })) ∧
  (let m : MsgIn := (note 0x12 [0#32, 1#32, 5#32] (none));
    let c1 : Chip := taken (note 0x12 [0#32, 1#32, 5#32] (none)) (msgDev (note 0x12 [0#32, 1#32, 5#32] (none)) { load := some { kind := 1, length := 4096, auto := false, chan := none } });
    let ch := m.chunk;
    let got (cls : Nat) (d : Dev) : Prop := takeMsg cls d.chip = some (m, c1);
    let l : Load := ({ kind := 1, length := 4096, auto := false, chan := none } : Load);
    let e : Dev := (loadData 0 [5#8, 0#8, 0#8, 0#8] { mem := [], chip := taken (note 0x12 [0#32, 1#32, 5#32] none) (msgDev (note 0x12 [0#32, 1#32, 5#32] none) { load := some { kind := 1, length := 4096, auto := false, chan := none } }) }).2;
    (fun d => got 0x12 d ∧ m.w 1 % 256 ≤ 62 ∧ m.w 1 % 256 ≠ 0 ∧ c1.hub.load = some l ∧ l.chan = none ∧ l.staged = false ∧
        ch.1 = l.got ∧ ch.2.2 = false ∧ loadData ch.1 (ch.2.1.take (l.length - l.got)) { mem := d.mem, chip := c1 } = (0, e)) ((msgDev (note 0x12 [0#32, 1#32, 5#32] (none)) { load := some { kind := 1, length := 4096, auto := false, chan := none } }))) ∧
  (let m : MsgIn := (note 0x20 [0#32] (none));
    let c1 : Chip := taken (note 0x20 [0#32] (none)) (msgDev (note 0x20 [0#32] (none)) {});
    let got (cls : Nat) (d : Dev) : Prop := takeMsg cls d.chip = some (m, c1);
    (fun d => got 0x20 d ∧ bitOf (m.w 0) 8 = false) ((msgDev (note 0x20 [0#32] (none)) {}))) ∧
  (let k : Nat := 7;
    let o : Nat := 0;
    let x : Xfer := ({ cls := 0x10, data := [], unacked := [0], total := 4 } : Xfer);
    let r : List Nat := [];
    (fun d => d.chip.coreUp = true ∧ d.chip.hub.xfers = [(k, x)] ∧ x.unacked = o :: r ∧ x.failed = false) (dv { hub := { mbxState := 2, xfers := [(7, { cls := 0x10, data := [], unacked := [0], total := 4 })] } })) ∧
  (let p : Nat := 3;
    (fun d => d.chip.hub.parentPort = some p ∧ d.chip.memberUp = true ∧ d.chip.coreUp = true) (((dv { hub := { mbxState := 2, parentPort := some 3 } }).on (fun c => ((c.setRf .fabCtl .hub 0 32 6 7).setRf .fabCtl .hub 0 40 1 1).setRf .fabCtl .hub 0 63 1 1)))) ∧
  (let m : Master := .core;
    let v : BitVec 64 := 2 ^ 63;
    (fun d => writable m .tbsAdj .hub 0 d = true ∧ fld v 63 1 = 1) (dv {})) ∧
  (let m : Master := .core;
    let v : BitVec 64 := 5#64;
    (fun d => writable m .tbsAdj .hub 0 d = true ∧ fld v 63 1 = 0) (dv {})) := by
  refine ⟨?_, ?_, ?_, ?_, ?_, ?_, ?_⟩ <;> ((try dsimp only [comes, asks]); decide +kernel)

theorem test_meets_LoadsEndAndConfigurationPortServes :
  (let l : Load := ({ kind := 1, length := 4096, auto := false, chan := none } : Load);
    (fun d => d.chip.hub.load = some l ∧ l.staged = false ∧ l.got < l.length) (dv { hub := { load := some { kind := 1, length := 4096, auto := false, chan := none }  } })) ∧
  ((fun d => d.chip.hub.deadlineOn = true) (dv { hub := { deadlineOn := true } })) ∧
  (let tt : TileId := 0;
    let t := tt.val;
    let s : Site := .tile t;
    let free (d : Dev) : Dev := d.on (fun c => (((((c.setRf .schCtl s 0 0 1 1).setRf .rgrCtl s 0 16 1 1).setRf .cfgStatus s 0 61 3 2).setRf .rgrStat s 0 62 2 1).modHub
      (fun h => { h with held := h.held.filter (fun x => x != t) })));
    let ok (d : Dev) : Prop := d.chip.hub.bare = false ∧ d.chip.hub.held.contains t = true ∧ d.chip.committed = true ∧ (kget {} d.chip.hub.tileRecs t).state = 4 ∧
      (kget {} d.chip.hub.tileRecs t).epoch = d.chip.jEpoch;
    (fun d => ok d ∧ (free d).chip.hub.held ≠ []) (holdDev [0, 1] false)) ∧
  (let tt : TileId := 0;
    let t := tt.val;
    let s : Site := .tile t;
    let free (d : Dev) : Dev := d.on (fun c => (((((c.setRf .schCtl s 0 0 1 1).setRf .rgrCtl s 0 16 1 1).setRf .cfgStatus s 0 61 3 2).setRf .rgrStat s 0 62 2 1).modHub
      (fun h => { h with held := h.held.filter (fun x => x != t) })));
    let ok (d : Dev) : Prop := d.chip.hub.bare = false ∧ d.chip.hub.held.contains t = true ∧ d.chip.committed = true ∧ (kget {} d.chip.hub.tileRecs t).state = 4 ∧
      (kget {} d.chip.hub.tileRecs t).epoch = d.chip.jEpoch;
    (fun d => ok d ∧ (free d).chip.hub.held = [] ∧ (free d).chip.hub.uioDue = true) (holdDev [0] true)) ∧
  (let tt : TileId := 0;
    let k : IcpCmd := ⟨0, 256⟩;
    let e : Dev := icpRest 0 (icpStaged 0 (im [(32, 1)]));
    let t := tt.val;
    let n := icpCtx k.cmd;
    let img := e.staged t (icpEntry k.cmd);
    (fun d => icpHead t 0 d = some (k, e) ∧ icpAdmit e t k = true ∧ ctxCheck img n = none ∧ replaceCheck e [(n, img)] true = none ∧
        useBits (imgRoute img) = useBits (imgRoute (e.curImage n))) (icpStaged 0 (im [(32, 1)]))) ∧
  (let tt : TileId := 0;
    let k : IcpCmd := ⟨(1 * 2 ^ 30), 256⟩;
    let e : Dev := icpRest 1 (icpDev (1 * 2 ^ 30) 256);
    let t := tt.val;
    (fun d => icpHead t 1 d = some (k, e) ∧ icpAdmit e t k = true) (icpDev (1 * 2 ^ 30) 256)) ∧
  (let tt : TileId := 0;
    let k : IcpCmd := ⟨(1 * 2 ^ 30), 9⟩;
    let e : Dev := icpRest 1 (icpDev (1 * 2 ^ 30) 9);
    let t := tt.val;
    (fun d => icpHead t 1 d = some (k, e) ∧ icpAdmit e t k = false) (icpDev (1 * 2 ^ 30) 9)) ∧
  (let tt : TileId := 0;
    let k : IcpCmd := ⟨(2 * 2 ^ 30 + 256 * gOf g0 + 7), 256⟩;
    let e : Dev := icpRest 2 (icpDev (2 * 2 ^ 30 + 256 * gOf g0 + 7) 256);
    let t := tt.val;
    let n := icpCtx k.cmd;
    (fun d => icpHead t 2 d = some (k, e) ∧ k.master = 256 ∧ n / 256 < 188 ∧ gpop (n / 256) = true) (icpDev (2 * 2 ^ 30 + 256 * gOf g0 + 7) 256)) ∧
  (let tt : TileId := 0;
    let k : IcpCmd := ⟨(3 * 2 ^ 30), 256⟩;
    let e : Dev := icpRest 3 (icpDev (3 * 2 ^ 30) 256);
    let t := tt.val;
    let n := icpCtx k.cmd;
    let img := e.staged t (icpEntry k.cmd);
    (fun d => icpHead t 3 d = some (k, e) ∧ k.master = 256 ∧ imgGen img = kget 0 (e.chip.tile (n % 4)).gens n) (icpDev (3 * 2 ^ 30) 256)) ∧
  (let tt : TileId := 0;
    let t := tt.val;
    let a : Advance := adv7 0;
    let next (c : Chip) : Chip := genAdvance t a.ctx a.gen a.firebreak a.edge a.defined (c.modHub (fun h => { h with advances := h.advances.erase a }));
    let here (d : Dev) : Prop := d.chip.hub.held.contains t = false ∧ d.chip.hub.advances.find? (fun x => x.tile == t) = some a;
    (fun d => here d ∧ (next d.chip).hub.advances.any (fun b => b.rep == a.rep) = true) (dv { hub := { advances := [adv7 0, adv7 1] } })) ∧
  (let tt : TileId := 0;
    let t := tt.val;
    let a : Advance := adv7 0;
    let next (c : Chip) : Chip := genAdvance t a.ctx a.gen a.firebreak a.edge a.defined (c.modHub (fun h => { h with advances := h.advances.erase a }));
    let here (d : Dev) : Prop := d.chip.hub.held.contains t = false ∧ d.chip.hub.advances.find? (fun x => x.tile == t) = some a;
    (fun d => here d ∧ (next d.chip).hub.advances.any (fun b => b.rep == a.rep) = false ∧
          (next d.chip).rf .cfgIcpStat (.tile a.rep.1) (icpEntry a.rep.2) 61 3 = 2) ((dv { hub := { advances := [adv7 0] } }).on (fun c => c.setRf .cfgIcpStat (.tile 0) 0 61 3 2))) := by
  refine ⟨?_, ?_, ?_, ?_, ?_, ?_, ?_, ?_, ?_, ?_, ?_⟩ <;> ((try dsimp only [comes, asks]); decide +kernel)

theorem test_meets_RangerChecks :
  (let tt : TileId := 0;
    let t := tt.val;
    let ti (d : Dev) : Tile := d.chip.tile t;
    (fun d => d.chip.rbit .rgrCtl (.tile t) 0 16 = true ∧ d.chip.rf .rgrStat (.tile t) 0 62 2 = 1 ∧ d.chip.hub.held.contains t = false ∧ (ti d).pllOff = false ∧
        (ti d).rgrPos < 1152) ((tv { rgrPos := 1151 }).on (fun c => (c.setRf .rgrCtl (.tile 0) 0 16 1 1).setRf .rgrStat (.tile 0) 0 62 2 1))) ∧
  (let tt : TileId := 0;
    let t := tt.val;
    let ti (d : Dev) : Tile := d.chip.tile t;
    let g : Nat := gOf g0;
    let s : Nat := 2;
    let r : List (Nat × Nat) := [];
    (fun d => d.chip.hub.held.contains t = false ∧ (ti d).pllOff = false ∧ d.chip.rf .rgrStat (.tile t) 0 62 2 = 1 ∧
        (d.chip.tileGroves t).flatMap (fun g => (List.range 8).filterMap (fun s =>
          let st := ((d.chip.grove t g).slot s).state
          if (st = .held && !((ti d).rgrFetched.contains (g, s)) && !((ti d).rgrTried.contains (g, s))) || (st = .ready && (ti d).rgrHeld.contains (g, s))
            then some (g, s) else none)) = (g, s) :: r) ((gv { slots := [(2, { state := .held })] }).on (fun c => c.setRf .rgrStat (.tile 0) 0 62 2 1))) ∧
  (let tt : TileId := 0;
    let t := tt.val;
    let ti (d : Dev) : Tile := d.chip.tile t;
    let g : Nat := gOf g0;
    let s : Nat := 2;
    let r : List (Nat × Nat) := [];
    let fetched (d : Dev) : Dev := d.on (fun c => c.modTile t (fun x => { x with rgrFetched := r }));
    let sl (d : Dev) : Slot := ((fetched d).chip.grove t g).slot s;
    (fun d => d.chip.hub.held.contains t = false ∧ (ti d).rgrFetched = (g, s) :: r ∧
          (sl d).state = .held ∧ ((fetched d).golden t (imgNumber (sl d).img)).2 = false) (((dv { groves := [(gOf g0, { slots := [(2, { state := .held })] })], tiles := [(0, { rgrFetched := [(gOf g0, 2)] })] }).on (fun c => c.setRf .ctxBackBase (.tile 0) 0 25 23 (gdBase / 33554432))).putBytes (gdBase + 2) [1#8])) ∧
  (let tt : TileId := 0;
    let t := tt.val;
    let m : Master := .core;
    let v (d : Dev) : BitVec 64 := fieldValue .rgrCtl (.tile t) 0 [(63, 1, 1)] d;
    (fun d => writable m .rgrCtl (.tile t) 0 d = true ∧ (putReg .rgrCtl (.tile t) 0 (v d) d.chip).rbit .rgrCtl (.tile t) 0 16 = true ∧
          (putReg .rgrCtl (.tile t) 0 (v d) d.chip).rf .rgrStat (.tile t) 0 62 2 = 1) ((dv {}).on (fun c => (c.setRf .rgrCtl (.tile 0) 0 16 1 1).setRf .rgrStat (.tile 0) 0 62 2 1))) ∧
  (let tt : TileId := 0;
    let t := tt.val;
    let m : Master := .core;
    let v (d : Dev) : BitVec 64 := fieldValue .rgrCtl (.tile t) 0 [(63, 1, 1)] d;
    (fun d => writable m .rgrCtl (.tile t) 0 d = true ∧
          tileDead (noted m .rgrCtl (.tile t) 0 (v d) (d.on (rgrCtlWrite t (v d)))).chip t = false ∧
          mayAccess m true (Reg.addr .rgrCtl (.tile t) 0) 2 (noted m .rgrCtl (.tile t) 0 (v d) (d.on (rgrCtlWrite t (v d)))).chip = true) (dv {})) := by
  refine ⟨?_, ?_, ?_, ?_, ?_⟩ <;> ((try dsimp only [comes, asks]); decide +kernel)

theorem test_meets_MailboxRingsTurn :
  (let fn : Fin 32 := 0;
    let pg : Fin 256 := 0;
    let k : Fin 256 := 0;
    let v : BitVec 64 := 2 ^ 4;
    let p := fld v 0 32;
    let up (d : Dev) : Prop := d.chip.rbit .pciLinkStat .hub 0 63 = true ∧ pageChan d.chip fn.val pg.val = some k.val;
    let room (d : Dev) : Prop := (p + 2 ^ 32 - d.chip.cmdCons k.val) % 2 ^ 32 ≤ 2 ^ d.chip.rf .mbxCmdBase .hub k.val 0 4;
    (fun d => up d ∧ room d) ((host {}).on (fun c => c.setRf .mbxCmdBase .hub 0 0 4 4))) ∧
  (let fn : Fin 32 := 0;
    let pg : Fin 256 := 0;
    let k : Fin 256 := 0;
    let v : BitVec 64 := 17#64;
    let p := fld v 0 32;
    let up (d : Dev) : Prop := d.chip.rbit .pciLinkStat .hub 0 63 = true ∧ pageChan d.chip fn.val pg.val = some k.val;
    let room (d : Dev) : Prop := (p + 2 ^ 32 - d.chip.cmdCons k.val) % 2 ^ 32 ≤ 2 ^ d.chip.rf .mbxCmdBase .hub k.val 0 4;
    (fun d => up d ∧ ¬room d) ((host {}).on (fun c => c.setRf .mbxCmdBase .hub 0 0 4 4))) ∧
  (let fn : Fin 32 := 0;
    let pg : Fin 256 := 0;
    let k : Fin 256 := 0;
    let v : BitVec 64 := 0#64;
    let p := fld v 0 32;
    let up (d : Dev) : Prop := d.chip.rbit .pciLinkStat .hub 0 63 = true ∧ pageChan d.chip fn.val pg.val = some k.val;
    let back (d : Dev) : Prop := (p + 2 ^ 32 - (d.chip.mbx k.val).rspCons) % 2 ^ 32 ≤ (d.chip.rspProd k.val + 2 ^ 32 - (d.chip.mbx k.val).rspCons) % 2 ^ 32;
    (fun d => up d ∧ back d) (host {})) ∧
  (let fn : Fin 32 := 0;
    let pg : Fin 256 := 0;
    let k : Fin 256 := 0;
    let v : BitVec 64 := 1#64;
    let p := fld v 0 32;
    let up (d : Dev) : Prop := d.chip.rbit .pciLinkStat .hub 0 63 = true ∧ pageChan d.chip fn.val pg.val = some k.val;
    let back (d : Dev) : Prop := (p + 2 ^ 32 - (d.chip.mbx k.val).rspCons) % 2 ^ 32 ≤ (d.chip.rspProd k.val + 2 ^ 32 - (d.chip.mbx k.val).rspCons) % 2 ^ 32;
    (fun d => up d ∧ ¬back d) (host {})) ∧
  (let fn : Fin 32 := 0;
    let pg : Fin 256 := 0;
    let k : Fin 256 := 0;
    let up (d : Dev) : Prop := d.chip.rbit .pciLinkStat .hub 0 63 = true ∧ pageChan d.chip fn.val pg.val = some k.val;
    up (host {})) ∧
  (let fn : Fin 32 := 0;
    let pg : Fin 256 := 0;
    let k : Fin 256 := 0;
    let up (d : Dev) : Prop := d.chip.rbit .pciLinkStat .hub 0 63 = true ∧ pageChan d.chip fn.val pg.val = some k.val;
    (fun d => up d ∧ d.chip.rbit .mbxCtl .hub k.val 63 = true) ((host {}).on (fun c => c.setRf .mbxCtl .hub 0 63 1 1))) ∧
  (let fn : Fin 32 := 0;
    let pg : Fin 256 := 0;
    let k : Fin 256 := 0;
    let v : BitVec 64 := 14#64;
    let up (d : Dev) : Prop := d.chip.rbit .pciLinkStat .hub 0 63 = true ∧ pageChan d.chip fn.val pg.val = some k.val;
    (fun d => up d ∧ d.chip.rbit .mbxCtl .hub k.val 63 = false ∧ 4 ≤ fld v 0 4 ∧ fld v 0 4 ≤ 14) (host {})) ∧
  (let k : Fin 256 := 0;
    let pkt : List Byte := ([1#8, 0#8, 0#8, 1#8, 1#8] ++ List.replicate 59 0#8);
    let ns := leAt pkt 3 1;
    let rs := leAt pkt 4 1;
    let len := leAt pkt 12 4;
    let m (d : Dev) : MbxChan := d.chip.mbx k.val;
    (fun d => d.chip.rbit .mbxCtl .hub k.val 63 = true ∧ d.chip.rf .mbxHdr .hub k.val 56 4 = 0 ∧ (m d).cmds = [] ∧
          d.chip.fnOn (d.chip.chanFn k.val) = true ∧ d.chip.hub.mbxState = 2 ∧ ns ≠ 0 ∧ ns ≤ ((m d).prod + 2 ^ 32 - d.chip.cmdCons k.val) % 2 ^ 32 ∧
          ((m d).prod + 2 ^ 32 - d.chip.cmdCons k.val) % 2 ^ 32 ≠ 0 ∧ (d.chip.rspProd k.val + 2 ^ 32 - (m d).rspCons) % 2 ^ 32 + rs ≤ 2 ^ d.chip.rf .mbxRspBase .hub k.val 0 4 ∧
          leAt pkt 2 1 < 2 ∧ ns = (32 + len + 63) / 64 ∧ len ≤ 4064 ∧ leAt pkt 5 3 = 0 ∧ 1 ≤ rs ∧ rs ≤ 64 ∧ ns ≤ 64 ∧ knownOp (leAt pkt 0 2) = true) ((host { hub := { mbxState := 2, chans := [(0, { prod := 1 })] } }).on (fun c => (c.setRf .mbxCtl .hub 0 63 1 1).setRf .mbxRspBase .hub 0 0 4 4))) ∧
  (let k : Fin 256 := 0;
    let x : MbxCmd := ({ cmd 0x01 [] [] with resp := some { status := 0 } } : MbxCmd);
    let r : MbxResp := { status := 0 };
    let rest : List MbxCmd := [];
    (fun d => d.chip.rbit .pciLinkStat .hub 0 63 = true ∧ d.chip.hub.mbxState = 2 ∧
        (d.chip.mbx k.val).cmds = x :: rest ∧ x.resp = some r ∧ x.opcode ≠ 0x22 ∧ x.opcode ≠ 0x23) (host { hub := { mbxState := 2, chans := [(0, { cmds := [{ cmd 0x01 [] [] with resp := some { status := 0 } }] })] } })) ∧
  (let k : Fin 256 := 0;
    let n : Nat := 0;
    let m : MbxCmd := cmd 0x01 [] [];
    (fun d => (d.chip.mbx k.val).cmds[n]? = some m ∧ m.resp = none ∧ m.cut = false ∧ m.opcode ≠ 0x40) (mb 2 (cmd 0x01 [] []) {})) := by
  refine ⟨?_, ?_, ?_, ?_, ?_, ?_, ?_, ?_, ?_, ?_⟩ <;> ((try dsimp only [comes, asks]); decide +kernel)

theorem test_meets_DeviceCommandsAnswer :
  (let k : Fin 256 := 0;
    let i : Nat := 0;
    let m : MbxCmd := (cmd 0x01 [] []);
    let j := k.val;
    (asks 0x01 j i m) (mb 2 ((cmd 0x01 [] [])) ({}))) ∧
  (let k : Fin 256 := 0;
    let i : Nat := 0;
    let m : MbxCmd := (cmd 0x02 [] []);
    let j := k.val;
    (asks 0x02 j i m) (mb 2 ((cmd 0x02 [] [])) ({}))) ∧
  (let k : Fin 256 := 0;
    let i : Nat := 0;
    let m : MbxCmd := (cmd 0x03 [255#8] []);
    let j := k.val;
    let t := m.p 16 1;
    let fn := m.p 17 1;
    (fun d => asks 0x03 j i m d ∧ 8 ≤ t ∧ fn ≤ 31 ∧ d.chip.rbit .mbxCtl .hub t 63 = false ∧ (d.chip.mbx t).cmds = [] ∧
        (fn = 0 ∨ ((List.range 256).filter (fun x => d.chip.chanFn x == fn && x != t)).length < 16)) (mb 2 ((cmd 0x03 [255#8] [])) ({}))) ∧
  (let k : Fin 256 := 0;
    let i : Nat := 0;
    let m : MbxCmd := (cmd 0x04 [88#8, 2#8] []);
    let j := k.val;
    (fun d => asks 0x04 j i m d ∧ 1 ≤ m.p 16 2 ∧ m.p 16 2 ≤ 600 ∧ bitOf (m.p 18 1) 0 = false) (mb 2 ((cmd 0x04 [88#8, 2#8] [])) ({}))) ∧
  (let k : Fin 256 := 0;
    let i : Nat := 0;
    let m : MbxCmd := (cmd 0x04 [] []);
    let j := k.val;
    (fun d => asks 0x04 j i m d ∧ m.p 16 2 = 0) (mb 2 ((cmd 0x04 [] [])) ({}))) ∧
  (let k : Fin 256 := 0;
    let i : Nat := 0;
    let m : MbxCmd := (cmd 0x05 [] []);
    let j := k.val;
    (fun d => asks 0x05 j i m d ∧ m.p 16 1 = 0 ∧ (answered j i 0 [] [] d).chip.hub.mbxState = 2) (mb 2 ((cmd 0x05 [] [])) ({}))) ∧
  (let k : Fin 256 := 0;
    let i : Nat := 0;
    let m : MbxCmd := (cmd 0x05 [1#8] []);
    let j := k.val;
    (fun d => asks 0x05 j i m d ∧ m.p 16 1 = 1 ∧ (answered j i 0 [] [] d).chip.hub.mbxState = 2) (mb 2 ((cmd 0x05 [1#8] [])) ({}))) ∧
  (let k : Fin 256 := 0;
    let i : Nat := 0;
    let m : MbxCmd := (cmd 0x10 [0#8, 0x40#8] []);
    let j := k.val;
    (fun d => asks 0x10 j i m d ∧ 16384 ≤ m.p 16 4 ∧ m.p 16 4 ≤ 4194304 ∧ m.p 20 1 = 0 ∧ d.chip.hub.fwLoad = none ∧ d.chip.hub.mbxState = 1) (mb 1 ((cmd 0x10 [0#8, 0x40#8] [])) ({}))) ∧
  (let k : Fin 256 := 0;
    let i : Nat := 0;
    let m : MbxCmd := (cmd 0x11 [] [5#8]);
    let j := k.val;
    let l : FwLoad := { chan := 0, mode := 0, length := 16384 };
    (fun d => asks 0x11 j i m d ∧ d.chip.hub.fwLoad = some l ∧ l.chan = j ∧ m.p 16 4 = l.got.length ∧ l.got.length + m.data.length ≤ l.length) (mb 1 ((cmd 0x11 [] [5#8])) ({ fwLoad := some { chan := 0, mode := 0, length := 16384 } }))) ∧
  (let k : Fin 256 := 0;
    let i : Nat := 0;
    let m : MbxCmd := (cmd 0x12 [] []);
    let j := k.val;
    let l : FwLoad := { chan := 0, mode := 0, length := 2, got := [1#8, 2#8] };
    (fun d => asks 0x12 j i m d ∧ d.chip.hub.fwLoad = some l ∧ l.chan = j ∧ l.mode = 0 ∧ l.got.length = l.length ∧ d.chip.hub.mbxState = 1 ∧
          d.chip.hub.fwRunning = false ∧ d.chip.hub.signing = none) (mb 1 ((cmd 0x12 [] [])) ({ fwLoad := some { chan := 0, mode := 0, length := 2, got := [1#8, 2#8] } }))) := by
  refine ⟨?_, ?_, ?_, ?_, ?_, ?_, ?_, ?_, ?_, ?_⟩ <;> ((try dsimp only [comes, asks]); decide +kernel)

theorem test_meets_PersonalityCommandsAnswer :
  (let k : Fin 256 := 0;
    let i : Nat := 0;
    let m : MbxCmd := (cmd 0x20 [2#8, 0#8, 255#8] []);
    let j := k.val;
    let own : Prop := persTarget m = none;
    (fun d => asks 0x20 j i m d ∧ d.chip.hub.mbxState = 2 ∧ (m.p 16 1 = 1 ∨ m.p 16 1 = 2) ∧ own) (mb 2 ((cmd 0x20 [2#8, 0#8, 255#8] [])) ({}))) ∧
  (let k : Fin 256 := 0;
    let i : Nat := 0;
    let m : MbxCmd := (cmd 0x21 [] [5#8]);
    let j := k.val;
    let l : Load := ({ kind := 1, length := 4096, auto := false, chan := some 0 } : Load);
    (fun d => asks 0x21 j i m d ∧ d.chip.chanXfer j = none ∧ d.chip.hub.load = some l ∧ l.chan = some j) (mb 2 ((cmd 0x21 [] [5#8])) ({ load := some { kind := 1, length := 4096, auto := false, chan := some 0 } }))) ∧
  (let k : Fin 256 := 0;
    let i : Nat := 0;
    let m : MbxCmd := (cmd 0x22 [] []);
    let j := k.val;
    let l : Load := ({ kind := 1, length := 4096, auto := false, chan := some 0 } : Load);
    (fun d => asks 0x22 j i m d ∧ d.chip.chanXfer j = none ∧ d.chip.hub.load = some l ∧ l.chan = some j ∧ d.chip.hub.signing = none) (mb 2 ((cmd 0x22 [] [])) ({ load := some { kind := 1, length := 4096, auto := false, chan := some 0 } }))) ∧
  (let k : Fin 256 := 0;
    let i : Nat := 0;
    let m : MbxCmd := (cmd 0x23 [0#8, 0#8, 255#8] []);
    let j := k.val;
    let own : Prop := persTarget m = none;
    let l : Load := ({ kind := 1, length := 4096, auto := false, chan := some 0 } : Load);
    (fun d => asks 0x23 j i m d ∧ own ∧ d.chip.hub.load = some l ∧ l.chan = some j) (mb 2 ((cmd 0x23 [0#8, 0#8, 255#8] [])) ({ load := some { kind := 1, length := 4096, auto := false, chan := some 0 } }))) ∧
  (let k : Fin 256 := 0;
    let i : Nat := 0;
    let m : MbxCmd := (cmd 0x24 [0#8, 0#8, 255#8] []);
    let j := k.val;
    let own : Prop := persTarget m = none;
    let l : Load := ({ kind := 1, length := 4096, auto := false, chan := some 0 } : Load);
    (fun d => asks 0x24 j i m d ∧ own ∧ d.chip.hub.load = some l ∧ l.chan = some j) (mb 2 ((cmd 0x24 [0#8, 0#8, 255#8] [])) ({ load := some { kind := 1, length := 4096, auto := false, chan := some 0 } }))) ∧
  (let k : Fin 256 := 0;
    let i : Nat := 0;
    let m : MbxCmd := (cmd 0x25 [0#8, 0#8, 255#8] []);
    let j := k.val;
    let own : Prop := persTarget m = none;
    (fun d => asks 0x25 j i m d ∧ own) (mb 2 ((cmd 0x25 [0#8, 0#8, 255#8] [])) ({}))) ∧
  (let k : Fin 256 := 0;
    let i : Nat := 0;
    let m : MbxCmd := (cmd 0x30 [] (bytesOf 9 16 ++ [63#8, 0#8, 0#8, 0#8]));
    let j := k.val;
    let pl := [(9, 63)];
    (fun d => asks 0x30 j i m d ∧ planOf m.data = some pl) (mb 2 ((cmd 0x30 [] (bytesOf 9 16 ++ [63#8, 0#8, 0#8, 0#8]))) ({}))) ∧
  (let k : Fin 256 := 0;
    let i : Nat := 0;
    let m : MbxCmd := (cmd 0x31 [] []);
    let j := k.val;
    (asks 0x31 j i m) (mb 2 ((cmd 0x31 [] [])) ({}))) := by
  refine ⟨?_, ?_, ?_, ?_, ?_, ?_, ?_, ?_⟩ <;> ((try dsimp only [comes, asks]); decide +kernel)

theorem test_meets_DataCommandsAnswer :
  (let k : Fin 256 := 0;
    let i : Nat := 0;
    let m : MbxCmd := (cmd 0x40 [0#8, 0x40#8] []);
    let j := k.val;
    let q := m.p 16 2;
    (fun d => asks 0x40 j i m d ∧ 16384 ≤ q) (mb 2 ((cmd 0x40 [0#8, 0x40#8] [])) ({}))) ∧
  (let k : Fin 256 := 0;
    let i : Nat := 0;
    let m : MbxCmd := (cmd 0x40 [5#8, 0#8, 9#8, 0#8, 0#8, 3#8] [1#8, 2#8, 3#8, 4#8]);
    let j := k.val;
    let q := m.p 16 2;
    let reach (d : Dev) : Prop := q < 16384 ∧ d.chip.fbBlocked j (d.chip.queueFb q) = false;
    let e : Dev := (pushStream 5 (.host 0) 9#24 0 true (wordsOfBytes [1#8, 2#8, 3#8, 4#8]) true ((mb 2 ((cmd 0x40 [5#8, 0#8, 9#8, 0#8, 0#8, 3#8] [1#8, 2#8, 3#8, 4#8])) ({})).on (fun c => (((c.modQueue 5 (fun _ => {})).setRf .queCfg (.tile 0) 5 63 1 1)).modHub (fun h => { h with firebreaks := [(0, ⟨false, false, 0, 0, [(0, 2 ^ 48 - 1)]⟩)] })))).getD {};
    (fun d => asks 0x40 j i m d ∧ reach d ∧ m.p 21 1 = 3 ∧ m.data ≠ [] ∧ (d.chip.mbx j).items.contains q = false ∧
        d.chip.hub.held.contains (q / 4096) = false ∧ (d.chip.queue q).closed = false ∧ d.chip.qen q = true ∧
        pushStream q (.host j) (BitVec.ofNat 24 (m.p 18 3)) (m.data.length % 4) true (wordsOfBytes m.data) true
          (d.on (fun c => c.modQueue q (fun Q => { Q with refusing := Q.refusing.filter (fun x => x != .host j) }))) = some e) ((mb 2 ((cmd 0x40 [5#8, 0#8, 9#8, 0#8, 0#8, 3#8] [1#8, 2#8, 3#8, 4#8])) ({})).on (fun c => (((c.modQueue 5 (fun _ => {})).setRf .queCfg (.tile 0) 5 63 1 1)).modHub (fun h => { h with firebreaks := [(0, ⟨false, false, 0, 0, [(0, 2 ^ 48 - 1)]⟩)] })))) ∧
  (let k : Fin 256 := 0;
    let i : Nat := 0;
    let m : MbxCmd := (cmd 0x41 [5#8, 0#8, 0xC0#8, 3#8] []);
    let j := k.val;
    let q := m.p 16 2;
    let reach (d : Dev) : Prop := q < 16384 ∧ d.chip.fbBlocked j (d.chip.queueFb q) = false;
    (fun d => asks 0x41 j i m d ∧ reach d ∧ 1 ≤ m.p 18 2 ∧ m.p 18 2 ≤ 960 ∧ d.chip.qmode q = 3 ∧ d.chip.partLive q = none ∧ (d.chip.queue q).depth = 0) ((mb 2 ((cmd 0x41 [5#8, 0#8, 0xC0#8, 3#8] [])) ({})).on (fun c => ((c.modQueue 5 (fun _ => {})).setRf .queCfg (.tile 0) 5 61 2 3)))) ∧
  (let k : Fin 256 := 0;
    let i : Nat := 0;
    let m : MbxCmd := (cmd 0x42 [5#8, 0#8, 2#8] []);
    let j := k.val;
    let q := m.p 16 2;
    let reach (d : Dev) : Prop := q < 16384 ∧ d.chip.fbBlocked j (d.chip.queueFb q) = false;
    let v := m.p 18 1;
    (fun d => asks 0x42 j i m d ∧ reach d ∧ v = 2) ((mb 2 ((cmd 0x42 [5#8, 0#8, 2#8] [])) ({})).on (fun c => (((c.modQueue 5 (fun _ => {})).setRf .queCfg (.tile 0) 5 63 1 1)).modHub (fun h => { h with firebreaks := [(0, ⟨false, false, 0, 0, [(0, 2 ^ 48 - 1)]⟩)] })))) ∧
  (let k : Fin 256 := 0;
    let i : Nat := 0;
    let m : MbxCmd := (cmd 0x43 [5#8] []);
    let j := k.val;
    let q := m.p 16 2;
    let reach (d : Dev) : Prop := q < 16384 ∧ d.chip.fbBlocked j (d.chip.queueFb q) = false;
    (fun d => asks 0x43 j i m d ∧ reach d) ((mb 2 ((cmd 0x43 [5#8] [])) ({})).on (fun c => (((c.modQueue 5 (fun _ => {})).setRf .queCfg (.tile 0) 5 63 1 1)).modHub (fun h => { h with firebreaks := [(0, ⟨false, false, 0, 0, [(0, 2 ^ 48 - 1)]⟩)] })))) ∧
  (let k : Fin 256 := 0;
    let i : Nat := 0;
    let m : MbxCmd := (cmd 0x44 [3#8] []);
    let j := k.val;
    let t := m.p 16 1;
    (fun d => asks 0x44 j i m d ∧ t < 4 ∧
        d.chip.fbBlocked j ((kget ⟨false, 0, 0⟩ (d.chip.tile t).ctxTab (d.chip.rf .schTpl (.tile t) (m.p 17 1) 24 16)).firebreak) = false) (mb 2 ((cmd 0x44 [3#8] [])) ({}))) ∧
  (let k : Fin 256 := 0;
    let i : Nat := 0;
    let m : MbxCmd := (cmd 0x45 [3#8] []);
    let j := k.val;
    let t := m.p 16 1;
    let e (d : Dev) : Dev := d.on (schCancel t (mkReg [(62, 2, m.p 24 1), (0, 24, m.p 20 4)]));
    (fun d => asks 0x45 j i m d ∧ t < 4 ∧ m.p 24 1 ≤ 2 ∧ d.chip.rbit .schCancelLast (.tile t) 0 63 = false ∧ m.begun = false ∧
          (e d).chip.rbit .schCancelLast (.tile t) 0 63 = false) (mb 2 ((cmd 0x45 [3#8] [])) ({}))) ∧
  (let k : Fin 256 := 0;
    let i : Nat := 0;
    let m : MbxCmd := (cmd 0x50 [79#8, 1#8] []);
    let j := k.val;
    let a := m.p 16 1;
    let n := m.p 17 1;
    (fun d => asks 0x50 j i m d ∧ n ≠ 0 ∧ a + n ≤ 80 ∧ d.chip.chanAdmin j = true) (mb 2 ((cmd 0x50 [79#8, 1#8] [])) ({}))) ∧
  (let k : Fin 256 := 0;
    let i : Nat := 0;
    let m : MbxCmd := (cmd 0x51 [] [0xFF#8, 0x13#8]);
    let j := k.val;
    let n : Nat := 5119;
    (fun d => asks 0x51 j i m d ∧ m.data.length = 2 ∧ leAt m.data 0 2 = n ∧ n < 5120 ∧ d.chip.chanAdmin j = true) (mb 2 ((cmd 0x51 [] [0xFF#8, 0x13#8])) ({}))) ∧
  (let k : Fin 256 := 0;
    let i : Nat := 0;
    let m : MbxCmd := (cmd 0x52 [] (bytesOf (Reg.addr .queGladeCnt (.tile 0) 0) 8));
    let j := k.val;
    let x : ReqOut × Dev := serveReq (.host 0) 0x810 false { op := .read, a := leAt (cmd 0x52 [] (bytesOf (Reg.addr .queGladeCnt (.tile 0) 0) 8)).data 0 8, n := 2 } .ok ((mb 2 ((cmd 0x52 [] (bytesOf (Reg.addr .queGladeCnt (.tile 0) 0) 8))) ({})).on (fun c => c.modHub (fun h => { h with firebreaks := [(0, ⟨false, false, 0, 0, [(0, 2 ^ 48 - 1)]⟩)] })));
    let a := leAt m.data 0 8;
    (fun d => asks 0x52 j i m d ∧ m.data.length = 8 ∧ a % 8 = 0 ∧ a < 0x1000000000 ∧ 40 ≤ 64 * m.rslots ∧
        serveReq (.host j) 0x810 false { op := .read, a := a, n := 2 } .ok d = x ∧ x.1.waits = false ∧ x.1.st = 0) ((mb 2 ((cmd 0x52 [] (bytesOf (Reg.addr .queGladeCnt (.tile 0) 0) 8))) ({})).on (fun c => c.modHub (fun h => { h with firebreaks := [(0, ⟨false, false, 0, 0, [(0, 2 ^ 48 - 1)]⟩)] })))) ∧
  (let k : Fin 256 := 0;
    let i : Nat := 0;
    let m : MbxCmd := (cmd 0x53 (bytesOf 0x2000000000 8 ++ [4#8, 0#8]) []);
    let j := k.val;
    let x : ReqOut × Dev := serveReq (.host 0) 0x810 false { op := .read, a := 0x2000000000, n := 1 } .ok ((mb 2 ((cmd 0x53 (bytesOf 0x2000000000 8 ++ [4#8, 0#8]) [])) ({})).on (fun c => c.modHub (fun h => { h with firebreaks := [(0, ⟨false, false, 0, 0, [(0, 2 ^ 48 - 1)]⟩)] })));
    let a := m.p 16 8;
    let one (d : Dev) (nb : Nat) : Prop := nb = 4 ∧ a % 4 = 0 ∧ regForm d.chip a 4 = false ∧ x.1.waits = false ∧ x.1.st = 0 ∧
        (∀ dv off, locate d.chip a ≠ .remote dv off);
    (fun d => asks 0x53 j i m d ∧ one d (m.p 24 2) ∧ mayReachAll (.host j) false a 1 d.chip = true ∧ 40 ≤ 64 * m.rslots ∧
        serveReq (.host j) 0x810 false { op := .read, a := a, n := 1 } .ok d = x) ((mb 2 ((cmd 0x53 (bytesOf 0x2000000000 8 ++ [4#8, 0#8]) [])) ({})).on (fun c => c.modHub (fun h => { h with firebreaks := [(0, ⟨false, false, 0, 0, [(0, 2 ^ 48 - 1)]⟩)] })))) ∧
  (let k : Fin 256 := 0;
    let i : Nat := 0;
    let m : MbxCmd := (cmd 0x54 (bytesOf 0x2000000000 8) [1#8, 2#8, 3#8, 4#8]);
    let j := k.val;
    let x : ReqOut × Dev := hostWrite 0 { op := .write, a := 0x2000000000, n := 1, ws := (wordsOfBytes [1#8, 2#8, 3#8, 4#8]).take 1, fbe := 15, lbe := 15 } ((mb 2 ((cmd 0x54 (bytesOf 0x2000000000 8) [1#8, 2#8, 3#8, 4#8])) ({})).on (fun c => c.modHub (fun h => { h with firebreaks := [(0, ⟨false, false, 0, 0, [(0, 2 ^ 48 - 1)]⟩)] })));
    let a := m.p 16 8;
    let one (d : Dev) (nb : Nat) : Prop := nb = 4 ∧ a % 4 = 0 ∧ regForm d.chip a 4 = false ∧ x.1.waits = false ∧ x.1.st = 0 ∧
        (∀ dv off, locate d.chip a ≠ .remote dv off);
    (fun d => asks 0x54 j i m d ∧ one d m.data.length ∧ mayReachAll (.host j) true a 1 d.chip = true ∧
        hostWrite j { op := .write, a := a, n := 1, ws := (wordsOfBytes m.data).take 1, fbe := 15, lbe := 15 } d = x) ((mb 2 ((cmd 0x54 (bytesOf 0x2000000000 8) [1#8, 2#8, 3#8, 4#8])) ({})).on (fun c => c.modHub (fun h => { h with firebreaks := [(0, ⟨false, false, 0, 0, [(0, 2 ^ 48 - 1)]⟩)] })))) := by
  refine ⟨?_, ?_, ?_, ?_, ?_, ?_, ?_, ?_, ?_, ?_, ?_, ?_⟩
  · (try dsimp only [comes, asks]); decide +kernel
  · (try dsimp only [comes, asks]); decide +kernel
  · (try dsimp only [comes, asks]); decide +kernel
  · (try dsimp only [comes, asks]); decide +kernel
  · (try dsimp only [comes, asks]); decide +kernel
  · (try dsimp only [comes, asks]); decide +kernel
  · (try dsimp only [comes, asks]); decide +kernel
  · (try dsimp only [comes, asks]); decide +kernel
  · (try dsimp only [comes, asks]); decide +kernel
  · (try dsimp only [comes, asks]); decide +kernel
  · dsimp only; (repeat' apply And.intro) <;> first | decide +kernel | (intro dv off h; exact absurd (h.symm.trans (show locate _ _ = .tmem 0 0 by decide +kernel)) (by intro k; cases k))
  · dsimp only; (repeat' apply And.intro) <;> first | decide +kernel | (intro dv off h; exact absurd (h.symm.trans (show locate _ _ = .tmem 0 0 by decide +kernel)) (by intro k; cases k))

theorem test_meets_SecurityCommandsAnswer :
  (let k : Fin 256 := 0;
    let i : Nat := 0;
    let m : MbxCmd := (cmd 0x60 [1#8, 0#8, 0#8, 0#8, 0xFF#8, 0x7F#8] []);
    let j := k.val;
    let o := m.p 20 4;
    let log (d : Dev) : Prop := d.chip.hub.flash = none ∧ m.p 16 1 ≤ 1;
    (fun d => asks 0x60 j i m d ∧ log d ∧ o < 32768) (mb 2 ((cmd 0x60 [1#8, 0#8, 0#8, 0#8, 0xFF#8, 0x7F#8] [])) ({}))) ∧
  (let k : Fin 256 := 0;
    let i : Nat := 0;
    let m : MbxCmd := (cmd 0x61 [1#8, 0#8, 0#8, 0#8, 0xFF#8, 0x7F#8] [5#8]);
    let j := k.val;
    let o := m.p 20 4;
    let log (d : Dev) : Prop := d.chip.hub.flash = none ∧ m.p 16 1 ≤ 1;
    (fun d => asks 0x61 j i m d ∧ log d ∧ o + m.data.length ≤ 32768) (mb 2 ((cmd 0x61 [1#8, 0#8, 0#8, 0#8, 0xFF#8, 0x7F#8] [5#8])) ({}))) ∧
  (let k : Fin 256 := 0;
    let i : Nat := 0;
    let m : MbxCmd := (cmd 0x70 [0xFF#8, 1#8] (List.replicate 32 0#8));
    let j := k.val;
    (fun d => asks 0x70 j i m d ∧ m.begun = false ∧ m.p 16 4 < 512 ∧ m.data.length = 32 ∧ d.chip.lcGroup 3 = false ∧ d.chip.lifecycle ≠ 4 ∧
        d.chip.hub.signing = none) (mb 2 ((cmd 0x70 [0xFF#8, 1#8] (List.replicate 32 0#8))) ({}))) ∧
  (let k : Fin 256 := 0;
    let i : Nat := 0;
    let m : MbxCmd := cmd 0x71 [] [];
    let j := k.val;
    let r : List Byte := [5#8];
    (fun d => asks 0x71 j i m d ∧ (d.chip.mbx j).report = some r ∧ m.p 16 4 < r.length) ((mb 2 (cmd 0x71 [] []) {}).on (fun c => c.modMbx 0 (fun x => { x with report := some [5#8] })))) ∧
  (let k : Fin 256 := 0;
    let i : Nat := 0;
    let m : MbxCmd := (cmd 0x72 [0#8] ([0x54#8, 0x5A#8, 0x41#8, 0x55#8, 1#8, 0#8, 0xFF#8] ++ List.replicate 89 0#8));
    let j := k.val;
    let r := m.data;
    let rop := leAt r 4 1;
    let slot := leAt r 5 1;
    let signer := leAt r 6 1;
    let wellFormed : Prop := m.begun = false ∧ r.length = 96 ∧ leAt r 0 4 = 0x55415A54 ∧ leAt r 7 1 = 0 ∧ leAt r 24 8 = 0 ∧ leAt r 72 24 = 0 ∧
       (rop = 1 ∨ leAt r 32 32 = 0) ∧ m.p 16 1 = slot;
    (fun d => asks 0x72 j i m d ∧ wellFormed ∧ rop = 1 ∧ slot < 4 ∧ signer = 0xFF ∧ leAt r 64 8 = 0 ∧ d.chip.hub.burn = none ∧
       d.chip.hub.signing = none) (mb 2 ((cmd 0x72 [0#8] ([0x54#8, 0x5A#8, 0x41#8, 0x55#8, 1#8, 0#8, 0xFF#8] ++ List.replicate 89 0#8))) ({}))) ∧
  (let k : Fin 256 := 0;
    let i : Nat := 0;
    let m : MbxCmd := (cmd 0x72 [0#8] ([0x54#8, 0x5A#8, 0x41#8, 0x55#8, 1#8, 0#8, 1#8] ++ List.replicate 89 0#8));
    let j := k.val;
    let r := m.data;
    let rop := leAt r 4 1;
    let slot := leAt r 5 1;
    let signer := leAt r 6 1;
    let wellFormed : Prop := m.begun = false ∧ r.length = 96 ∧ leAt r 0 4 = 0x55415A54 ∧ leAt r 7 1 = 0 ∧ leAt r 24 8 = 0 ∧ leAt r 72 24 = 0 ∧
       (rop = 1 ∨ leAt r 32 32 = 0) ∧ m.p 16 1 = slot;
    let z := ((0x72 : Nat), Instr.keyProvision 0);
    (fun d => asks z.1 j i m d ∧ wellFormed ∧ ((z.1 = 0x72 ∧ (rop = 1 ∨ rop = 2) ∧ slot < 4) ∨ (z.1 = 0x73 ∧ rop = 3)) ∧ signer ≠ 0xFF ∧
           d.chip.hub.burn = none ∧ d.chip.hub.signing = none) (mb 2 ((cmd 0x72 [0#8] ([0x54#8, 0x5A#8, 0x41#8, 0x55#8, 1#8, 0#8, 1#8] ++ List.replicate 89 0#8))) ({}))) ∧
  (let s : Signing := ({ chan := 0, body := [] } : Signing);
    let n : Nat := 0;
    let rep : List Byte := s.body ++ (List.range 17088).map (fun i => Config.slhSignByte (sha256 s.body) i);
    let stored (c : Chip) : Chip := raise (.hub 17) 5 ((c.modHub (fun h => { h with signing := none })).modMbx s.chan (fun x => { x with report := some rep }));
    (fun d => d.chip.hub.signing = some s ∧ begunAt (stored d.chip) s.chan 0x70 = some n) (mb 2 { cmd 0x70 [] [] with begun := true } { signing := some { chan := 0, body := [] } })) ∧
  (let b : Burn := ({ cells := [] } : Burn);
    (fun d => d.chip.hub.burn = some b ∧ b.chan = none) (dv { hub := { burn := some { cells := [] } } })) ∧
  (let b : Burn := ({ cells := [] } : Burn);
    (fun d => d.chip.hub.burn = some b ∧ b.chan = none) (dv { hub := { burn := some { cells := [] } } })) ∧
  (let m : Master := .core;
    let r : Fin 8 := 7;
    (r.val ∈ [2, 3, 4, 6, 7]) ∧ ((fun d => writable m .secExtCtl .hub 0 d = true) (dv {}))) := by
  refine ⟨?_, ?_, ?_, ?_, ?_, ?_, ?_, ?_, ?_, ?_⟩ <;> ((try dsimp only [comes, asks]); decide +kernel)

theorem test_meets_HostLinkAndBoot :
  ((fun d => d.chip.hub.fwRunning = false ∧ d.chip.hub.warmHeld = [] ∧ d.chip.hub.mbxState = 0 ∧ d.chip.hub.core.halted = false ∧
      d.chip.hub.afterHub = false ∧ d.chip.hub.flash = none ∧
      (let c := (List.range 8).foldl (fun c p => lnkEnable p true c) (extendM 0 (sha256 (d.chip.otpBytes 0 0x40 ++ d.chip.otpBytes 0x70 0x150)) d.chip)
       c.hub.afterHub = false ∧ c.hub.flash = none)) (dv {})) ∧
  (let fn : Fin 32 := 31;
    (fun d => 1 ≤ fn.val ∧ (List.range 256).filter (fun k => d.chip.chanFn k == fn.val) = []) (dv {})) ∧
  ((fun d => d.chip.rf .pciLinkStat .hub 0 48 6 = 0) (dv {})) ∧
  (let n : Nat := 31;
    (fun _ => n ≤ 31) (dv {})) := by
  refine ⟨?_, ?_, ?_, ?_⟩ <;> ((try dsimp only [comes, asks]); decide +kernel)

theorem test_meets_ResetsActAsTheirScopeSays :
  (let r : Fin 8 := 7;
    (fun _ => r.val = 7) (dv {})) ∧
  (let r : Fin 8 := 6;
    (fun _ => r.val < 7) (dv {})) ∧
  (let r : Fin 8 := 0;
    (fun d => ∀ x ∈ d.chip.hub.railLow, x = r.val ∨ x = 7) (dv { hub := { railLow := [0, 7] } })) ∧
  (let r : Fin 8 := 0;
    (fun d => ∃ x ∈ d.chip.hub.railLow, x ≠ r.val ∧ x < 7) (dv { hub := { railLow := [0, 6] } })) ∧
  (let m : Master := .core;
    let ok (d : Dev) : Prop := writable m .rstCtl .hub 0 d = true;
    ok (dv {})) ∧
  (let m : Master := .core;
    let ok (d : Dev) : Prop := writable m .rstCtl .hub 0 d = true;
    ok (dv {})) ∧
  (let m : Master := .core;
    let ok (d : Dev) : Prop := writable m .rstCtl .hub 0 d = true;
    ok (dv {})) ∧
  (let m : Master := .core;
    (fun d => writable m .rstGrove .hub 0 d = true) (dv {})) ∧
  (let n : Fin 12 := 4;
    let off (d : Dev) : Prop := d.chip.rbit .clkStat .hub 0 n.val = false;
    (fun d => off d ∧ n.val < 5) ((dv {}).on (fun c => c.setRf .clkStat .hub 0 4 1 0))) ∧
  (let n : Fin 12 := 5;
    let off (d : Dev) : Prop := d.chip.rbit .clkStat .hub 0 n.val = false;
    (fun d => off d ∧ n.val = 5) ((dv {}).on (fun c => c.setRf .clkStat .hub 0 5 1 0))) ∧
  (let n : Fin 12 := 6;
    let off (d : Dev) : Prop := d.chip.rbit .clkStat .hub 0 n.val = false;
    (fun d => off d ∧ n.val = 6) ((dv {}).on (fun c => c.setRf .clkStat .hub 0 6 1 0))) ∧
  (let n : Fin 12 := 7;
    let off (d : Dev) : Prop := d.chip.rbit .clkStat .hub 0 n.val = false;
    (fun d => off d ∧ n.val = 7) ((dv {}).on (fun c => c.setRf .clkStat .hub 0 7 1 0))) ∧
  (let n : Fin 12 := 3;
    let on_ (d : Dev) : Prop := d.chip.rbit .clkStat .hub 0 n.val = true;
    (fun d => on_ d ∧ n.val < 4) ((dv {}).on (fun c => c.setRf .clkStat .hub 0 3 1 1))) ∧
  (let n : Fin 12 := 4;
    let on_ (d : Dev) : Prop := d.chip.rbit .clkStat .hub 0 n.val = true;
    (fun d => on_ d ∧ n.val = 4) ((dv {}).on (fun c => c.setRf .clkStat .hub 0 4 1 1))) ∧
  (let n : Fin 12 := 7;
    let on_ (d : Dev) : Prop := d.chip.rbit .clkStat .hub 0 n.val = true;
    (fun d => on_ d ∧ 5 ≤ n.val ∧ n.val < 8) ((dv {}).on (fun c => c.setRf .clkStat .hub 0 7 1 1))) := by
  refine ⟨?_, ?_, ?_, ?_, ?_, ?_, ?_, ?_, ?_, ?_, ?_, ?_, ?_, ?_, ?_⟩ <;> ((try dsimp only [comes, asks]); decide +kernel)

theorem test_meets_PowerStatesAndWatchdogs :
  (let a (d : Dev) : BitVec 64 := d.chip.reg .pwrAvs .hub;
    (fun d => fld (a d) 63 1 = 1) ((dv {}).on (fun c => c.setRf .pwrAvs .hub 0 63 1 1))) ∧
  (let a (d : Dev) : BitVec 64 := d.chip.reg .pwrAvs .hub;
    (fun d => fld (a d) 63 1 = 0) (dv {})) ∧
  ((fun d => d.chip.hub.avsMiss < 2) (dv { hub := { avsMiss := 1 } })) ∧
  ((fun d => 2 ≤ d.chip.hub.avsMiss) (dv { hub := { avsMiss := 2 } })) ∧
  (let t : TileId := 0;
    (fun d => tileIdle d.chip t.val = true ∧ (d.chip.rbit .pwrTile .hub t.val 63 = true ∨ d.chip.rbit .clkTile .hub t.val 63 = true)) ((dv {}).on (fun c => c.setRf .pwrTile .hub 0 63 1 1))) ∧
  (let t : TileId := 0;
    (fun d => (d.chip.tile t.val).pllOff = true ∧ (d.chip.tile t.val).waking = true) (tv { pllOff := true, waking := true })) ∧
  (let m : Master := .core;
    (fun d => writable m .pwrWake .hub 0 d = true) (dv {})) ∧
  (let g : GroveId := g0;
    (fun d => let gr := d.chip.grove g.t.val (gidx g.x.val g.y.val)
        d.chip.rf .pwrTile .hub g.t.val 8 5 ≠ 0 ∧ gr.run = none ∧ gr.pagein = none ∧ gr.forcedSave = false ∧ gr.halted = false ∧
        (d.chip.tile g.t.val).onGrove (gidx g.x.val g.y.val) (fun s => s == .placed || s == .resumable) = false) ((dv {}).on (fun c => c.setRf .pwrTile .hub 0 8 5 1))) ∧
  (let m : Master := .core;
    let t : TileId := 0;
    let v : BitVec 64 := 19#64;
    let ok (d : Dev) : Prop := writable m .clkTile .hub t.val d = true;
    (fun d => ok d ∧ (fld v 0 6 < 20 ∨ 60 < fld v 0 6)) (dv {})) ∧
  (let m : Master := .core;
    let t : TileId := 0;
    let v : BitVec 64 := 60#64;
    let ok (d : Dev) : Prop := writable m .clkTile .hub t.val d = true;
    let kept (c : Chip) : Chip := (c.setRf .clkTile .hub t.val 0 6 (fld v 0 6)).setRf .clkTile .hub t.val 63 1 1;
    (fun d => ok d ∧ 20 ≤ fld v 0 6 ∧ fld v 0 6 ≤ 60 ∧ (d.chip.tile t.val).pllOff = false ∧ tileIdle (kept d.chip) t.val = false) (tv { descs := [(0, { state := .ready })] })) ∧
  (let m : Master := .core;
    let t : TileId := 0;
    let v : BitVec 64 := 20#64;
    let ok (d : Dev) : Prop := writable m .clkTile .hub t.val d = true;
    (fun d => ok d ∧ 20 ≤ fld v 0 6 ∧ fld v 0 6 ≤ 60 ∧ (d.chip.tile t.val).pllOff = true) (tv { pllOff := true })) ∧
  (let m : Master := .core;
    let v : BitVec 64 := 0xA5C3#64;
    (fun d => writable m .wdgFwSvc .hub 0 d = true ∧ fld v 0 16 = 0xA5C3) (dv {})) ∧
  (let m : Master := .core;
    let v : BitVec 64 := 0xA5C2#64;
    (fun d => writable m .wdgFwSvc .hub 0 d = true ∧ fld v 0 16 ≠ 0xA5C3) (dv {})) ∧
  (let m : Master := .core;
    let v : BitVec 64 := 0xA5C3#64;
    (fun d => writable m .wdgDevSvc .hub 0 d = true ∧ fld v 0 16 = 0xA5C3) (dv {})) ∧
  (let m : Master := .core;
    let v : BitVec 64 := 0xA5C2#64;
    (fun d => writable m .wdgDevSvc .hub 0 d = true ∧ fld v 0 16 ≠ 0xA5C3) (dv {})) ∧
  (let m : Master := .core;
    let v : BitVec 64 := 5000#64;
    let p := fld v 0 16;
    let w := fld v 32 16;
    (fun d => writable m .wdgFwCtl .hub 0 d = true ∧ d.chip.rbit .wdgFwCtl .hub 0 63 = false ∧ 100 ≤ p ∧ p ≤ 60000 ∧
        2 * p ≤ 1000 * d.chip.rf .wdgDevCtl .hub 0 0 16 ∧ w < p ∧ fld v 63 1 = 0) ((dv {}).on (fun c => c.setRf .wdgDevCtl .hub 0 0 16 10))) ∧
  (let m : Master := .core;
    let v : BitVec 64 := 600#64;
    let p := fld v 0 16;
    let w := fld v 32 16;
    (fun d => writable m .wdgDevCtl .hub 0 d = true ∧ d.chip.rbit .wdgDevCtl .hub 0 63 = false ∧ 2 ≤ p ∧ p ≤ 600 ∧
        2 * d.chip.rf .wdgFwCtl .hub 0 0 16 ≤ 1000 * p ∧ w < 10 * p ∧ fld v 63 1 = 0) ((dv {}).on (fun c => c.setRf .wdgFwCtl .hub 0 0 16 1000))) ∧
  (let m : Master := .core;
    let v : BitVec 64 := 600#64;
    let dev : Bool := true;
    let r : Reg := if dev then .wdgDevCtl else .wdgFwCtl;
    (fun d => writable m r .hub 0 d = true ∧ d.chip.rbit r .hub 0 63 = true ∧ fld v 63 1 = 0) ((dv {}).on (fun c => c.setRf .wdgDevCtl .hub 0 63 1 1))) ∧
  ((fun d => d.chip.hub.wdgWarned.1 = false ∧ d.chip.wdgFrozen = false) (dv {})) ∧
  ((fun d => d.chip.hub.wdgWarned.2 = false ∧ d.chip.wdgFrozen = false) (dv {})) ∧
  ((fun d => d.chip.wdgFrozen = false) (dv {})) ∧
  ((fun d => d.chip.wdgFrozen = false) (dv {})) ∧
  ((fun d => d.chip.wdgFrozen = true) (frozen)) := by
  refine ⟨?_, ?_, ?_, ?_, ?_, ?_, ?_, ?_, ?_, ?_, ?_, ?_, ?_, ?_, ?_, ?_, ?_, ?_, ?_, ?_, ?_, ?_, ?_⟩ <;> ((try dsimp only [comes, asks]); decide +kernel)

theorem test_meets_LookoutFramesAnswer :
  (let f : DbgFrame := { fr regA with hok := false };
    let up (d : Dev) : Prop := d.chip.hub.warmHeld = [] ∧ d.chip.hub.dbg.lost = false;
    (fun d => up d ∧ f.hok = false) (dv {})) ∧
  ((fun d => d.chip.hub.warmHeld = [] ∧ d.chip.hub.dbg.lost = true) (dbgDev { lost := true })) ∧
  ((fun d => d.chip.hub.warmHeld = []) (dv {})) ∧
  (let f : DbgFrame := fr regA;
    let up (d : Dev) : Prop := d.chip.hub.warmHeld = [] ∧ d.chip.hub.dbg.lost = false;
    let head (d : Dev) : Prop := up d ∧ f.hok = true;
    head (dv {})) ∧
  (let f : DbgFrame := fr regA;
    let w := f.wide;
    let up (d : Dev) : Prop := d.chip.hub.warmHeld = [] ∧ d.chip.hub.dbg.lost = false;
    let head (d : Dev) : Prop := up d ∧ f.hok = true;
    (fun d => head d ∧ w = false) (dv {})) ∧
  (let f : DbgFrame := { fr 2 with data := 0xC0000000#64 };
    let w := f.wide;
    let up (d : Dev) : Prop := d.chip.hub.warmHeld = [] ∧ d.chip.hub.dbg.lost = false;
    let head (d : Dev) : Prop := up d ∧ f.hok = true;
    (fun d => head d ∧ w = false ∧ f.dok = true ∧ f.operand.toNat % 16 = 2 ∧ fld f.data 31 1 = 1 ∧ fld f.data 30 1 = 1) (dv {})) ∧
  (let f : DbgFrame := { fr 2 with wide := true };
    let ecc : Ecc := .ok;
    let w := f.wide;
    let up (d : Dev) : Prop := d.chip.hub.warmHeld = [] ∧ d.chip.hub.dbg.lost = false;
    let head (d : Dev) : Prop := up d ∧ f.hok = true;
    let z := ((Instr.prd f ecc, true) : Instr × Bool);
    (fun d => head d ∧ w = z.2) (dv {})) ∧
  (let f : DbgFrame := fr (regA + 2);
    let ecc : Ecc := .ok;
    let w := f.wide;
    let up (d : Dev) : Prop := d.chip.hub.warmHeld = [] ∧ d.chip.hub.dbg.lost = false;
    let head (d : Dev) : Prop := up d ∧ f.hok = true;
    let size : Nat := if w then 8 else 4;
    let z := ((Instr.rd f ecc, false, 0) : Instr × Bool × Nat);
    let incr := z.2.1;
    let a (d : Dev) : Nat := if incr then d.chip.hub.dbg.auto else f.operand.toNat;
    (fun d => head d ∧ a d % size ≠ 0) (dv {})) ∧
  (let f : DbgFrame := fr regA;
    let ecc : Ecc := .ok;
    let w := f.wide;
    let up (d : Dev) : Prop := d.chip.hub.warmHeld = [] ∧ d.chip.hub.dbg.lost = false;
    let head (d : Dev) : Prop := up d ∧ f.hok = true;
    let size : Nat := if w then 8 else 4;
    let z := ((Instr.rd f ecc, false, 0) : Instr × Bool × Nat);
    let incr := z.2.1;
    let kind := z.2.2;
    let a (d : Dev) : Nat := if incr then d.chip.hub.dbg.auto else f.operand.toNat;
    (fun d => head d ∧ a d % size = 0 ∧ dbgMay (kind == 1) (kind == 2) (a d) d.chip = false) ((dv { hub := { otp := [(0x70, 0xF0)] } }).on (fun c => c.setRf .dbgLevel .hub 0 0 2 0))) ∧
  (let f : DbgFrame := fr regA;
    let ecc : Ecc := .ok;
    let w := f.wide;
    let up (d : Dev) : Prop := d.chip.hub.warmHeld = [] ∧ d.chip.hub.dbg.lost = false;
    let head (d : Dev) : Prop := up d ∧ f.hok = true;
    let size : Nat := if w then 8 else 4;
    let z := ((Instr.rd f ecc, false, 0) : Instr × Bool × Nat);
    let incr := z.2.1;
    let kind := z.2.2;
    let a (d : Dev) : Nat := if incr then d.chip.hub.dbg.auto else f.operand.toNat;
    let may (d : Dev) : Prop := head d ∧ a d % size = 0 ∧ dbgMay (kind == 1) (kind == 2) (a d) d.chip = true;
    (kind ≠ 2) ∧ ((fun d => may d ∧ d.chip.hub.dbg.pend = none ∧ f.fast = false ∧ isRemote d.chip (a d) = false) (dv {}))) ∧
  (let f : DbgFrame := fr regA;
    let ecc : Ecc := .ok;
    let w := f.wide;
    let up (d : Dev) : Prop := d.chip.hub.warmHeld = [] ∧ d.chip.hub.dbg.lost = false;
    let head (d : Dev) : Prop := up d ∧ f.hok = true;
    let size : Nat := if w then 8 else 4;
    let z := ((Instr.rd f ecc, false, 0) : Instr × Bool × Nat);
    let incr := z.2.1;
    let kind := z.2.2;
    let a (d : Dev) : Nat := if incr then d.chip.hub.dbg.auto else f.operand.toNat;
    let x (d : Dev) : DbgAcc := { quiet := kind == 1, incr := incr, wide := w, addr := a d };
    let may (d : Dev) : Prop := head d ∧ a d % size = 0 ∧ dbgMay (kind == 1) (kind == 2) (a d) d.chip = true;
    let y : DbgAcc := { rdA with wide := true };
    (kind ≠ 2) ∧ ((fun d => may d ∧ d.chip.hub.dbg.pend = some y ∧ y ≠ x d) (dbgDev { pend := some { rdA with wide := true } }))) ∧
  (let f : DbgFrame := fr regA;
    let ecc : Ecc := .ok;
    let w := f.wide;
    let up (d : Dev) : Prop := d.chip.hub.warmHeld = [] ∧ d.chip.hub.dbg.lost = false;
    let head (d : Dev) : Prop := up d ∧ f.hok = true;
    let size : Nat := if w then 8 else 4;
    let z := ((Instr.rd f ecc, false, 0) : Instr × Bool × Nat);
    let incr := z.2.1;
    let kind := z.2.2;
    let a (d : Dev) : Nat := if incr then d.chip.hub.dbg.auto else f.operand.toNat;
    let x (d : Dev) : DbgAcc := { quiet := kind == 1, incr := incr, wide := w, addr := a d };
    let may (d : Dev) : Prop := head d ∧ a d % size = 0 ∧ dbgMay (kind == 1) (kind == 2) (a d) d.chip = true;
    let v : BitVec 64 := 5#64;
    (kind ≠ 2) ∧ ((fun d => may d ∧ d.chip.hub.dbg.pend = some (x d) ∧ d.chip.hub.dbg.result = some (0, v)) (dbgDev { pend := some rdA, result := some (0, 5#64) }))) ∧
  (let f : DbgFrame := fr regA;
    let ecc : Ecc := .ok;
    let w := f.wide;
    let up (d : Dev) : Prop := d.chip.hub.warmHeld = [] ∧ d.chip.hub.dbg.lost = false;
    let head (d : Dev) : Prop := up d ∧ f.hok = true;
    let size : Nat := if w then 8 else 4;
    let z := ((Instr.wr f ecc, false, 2) : Instr × Bool × Nat);
    let incr := z.2.1;
    let kind := z.2.2;
    let a (d : Dev) : Nat := if incr then d.chip.hub.dbg.auto else f.operand.toNat;
    let may (d : Dev) : Prop := head d ∧ a d % size = 0 ∧ dbgMay (kind == 1) (kind == 2) (a d) d.chip = true;
    (kind = 2) ∧ ((fun d => may d ∧ d.chip.hub.dbg.wr.isSome = true) (dbgDev { wr := some (regA, false, 0#64) }))) ∧
  (let f : DbgFrame := { fr regA with dok := false };
    let ecc : Ecc := .ok;
    let w := f.wide;
    let up (d : Dev) : Prop := d.chip.hub.warmHeld = [] ∧ d.chip.hub.dbg.lost = false;
    let head (d : Dev) : Prop := up d ∧ f.hok = true;
    let size : Nat := if w then 8 else 4;
    let z := ((Instr.wr f ecc, false, 2) : Instr × Bool × Nat);
    let incr := z.2.1;
    let kind := z.2.2;
    let a (d : Dev) : Nat := if incr then d.chip.hub.dbg.auto else f.operand.toNat;
    let may (d : Dev) : Prop := head d ∧ a d % size = 0 ∧ dbgMay (kind == 1) (kind == 2) (a d) d.chip = true;
    (kind = 2) ∧ ((fun d => may d ∧ d.chip.hub.dbg.wr = none ∧ f.dok = false) (dv {}))) ∧
  (let f : DbgFrame := fr regA;
    let ecc : Ecc := .ok;
    let w := f.wide;
    let up (d : Dev) : Prop := d.chip.hub.warmHeld = [] ∧ d.chip.hub.dbg.lost = false;
    let head (d : Dev) : Prop := up d ∧ f.hok = true;
    let size : Nat := if w then 8 else 4;
    let z := ((Instr.wr f ecc, false, 2) : Instr × Bool × Nat);
    let incr := z.2.1;
    let kind := z.2.2;
    let a (d : Dev) : Nat := if incr then d.chip.hub.dbg.auto else f.operand.toNat;
    let may (d : Dev) : Prop := head d ∧ a d % size = 0 ∧ dbgMay (kind == 1) (kind == 2) (a d) d.chip = true;
    (kind = 2) ∧ ((fun d => may d ∧ d.chip.hub.dbg.wr = none ∧ f.dok = true) (dv {}))) ∧
  (let f : DbgFrame := fr regA;
    let ecc : Ecc := .ok;
    let w := f.wide;
    let x : DbgAcc := rdA;
    let r : (Nat × BitVec 64) × Dev := ((dbgServe rdA .ok (dbgDev { pend := some rdA })).getD ((0, 0#64), {}));
    (fun d => d.chip.hub.dbg.drop = [] ∧ d.chip.hub.dbg.pend = some x ∧
        d.chip.hub.dbg.result = none ∧ d.chip.outstanding (fun w => w == .debug false) = false ∧ isRemote d.chip x.addr = false ∧ dbgServe x ecc d = some r) (dbgDev { pend := some rdA })) ∧
  ((fun d => d.chip.hub.dbg.pend = none) (dv {})) ∧
  ((fun d => d.chip.hub.dbg.pend.isSome = true) (dbgDev { pend := some rdA })) := by
  refine ⟨?_, ?_, ?_, ?_, ?_, ?_, ?_, ?_, ?_, ?_, ?_, ?_, ?_, ?_, ?_, ?_, ?_, ?_⟩ <;> ((try dsimp only [comes, asks]); decide +kernel)

theorem test_meets_RunControlHaltsAndReleases :
  (let m : Master := .core;
    let id : GroveId := g0;
    let t := id.t.val;
    let g := gidx id.x.val id.y.val;
    let ok (d : Dev) : Prop := writable m .dbgHaltCmd .hub 0 d = true;
    (fun d => ok d ∧ (d.chip.grove t g).halted = false) (dv {})) ∧
  (let m : Master := .core;
    let id : GroveId := g0;
    let t := id.t.val;
    let g := gidx id.x.val id.y.val;
    let ok (d : Dev) : Prop := writable m .dbgHaltCmd .hub 0 d = true;
    (fun d => ok d ∧ (d.chip.grove t g).halted = true) (gv { halted := true })) ∧
  (let m : Master := .core;
    let ok (d : Dev) : Prop := writable m .dbgHaltCmd .hub 0 d = true;
    ok (dv {})) ∧
  (let m : Master := .core;
    let ok (d : Dev) : Prop := writable m .dbgHaltCmd .hub 0 d = true;
    (fun d => ok d ∧ d.chip.hub.core.halted = false) (dv {})) ∧
  (let id : GroveId := g0;
    let t := id.t.val;
    let g := gidx id.x.val id.y.val;
    let alone (d : Dev) : Prop := gangMembers d.chip t g = [g];
    (fun d => (d.chip.grove t g).haltReq = true ∧ (d.chip.grove t g).halted = false ∧ alone d ∧ (d.chip.grove t g).acqWait = none) (gv { haltReq := true })) ∧
  ((fun d => d.chip.hub.core.haltReq = true) (dv { hub := { core := { haltReq := true } } })) ∧
  (let m : Master := .core;
    let id : GroveId := g0;
    let t := id.t.val;
    let g := gidx id.x.val id.y.val;
    let ok (d : Dev) : Prop := writable m .dbgHaltCmd .hub 0 d = true;
    let alone (d : Dev) : Prop := gangMembers d.chip t g = [g];
    (fun d => ok d ∧ (d.chip.grove t g).halted = true ∧ alone d) (gv { halted := true })) ∧
  (let m : Master := .core;
    let id : GroveId := g0;
    let t := id.t.val;
    let g := gidx id.x.val id.y.val;
    let ok (d : Dev) : Prop := writable m .dbgHaltCmd .hub 0 d = true;
    (fun d => ok d ∧ (d.chip.grove t g).halted = false) (dv {})) ∧
  (let m : Master := .core;
    let ok (d : Dev) : Prop := writable m .dbgHaltCmd .hub 0 d = true;
    (fun d => ok d ∧ d.chip.hub.core.halted = true) (dv { hub := { core := { halted := true } } })) ∧
  (let m : Master := .core;
    let id : GroveId := g0;
    let t := id.t.val;
    let g := gidx id.x.val id.y.val;
    let ok (d : Dev) : Prop := writable m .dbgHaltCmd .hub 0 d = true;
    let alone (d : Dev) : Prop := gangMembers d.chip t g = [g];
    let n : BitVec 16 := 0xFFFF#16;
    (fun d => ok d ∧ n ≠ 0#16 ∧ (d.chip.grove t g).halted = true ∧ alone d) (gv { halted := true })) ∧
  (let id : GroveId := g0;
    let t := id.t.val;
    let g := gidx id.x.val id.y.val;
    (fun d => (d.chip.grove t g).step = some (true, 0)) (gv { step := some (true, 0) })) ∧
  (let id : GroveId := g0;
    let t := id.t.val;
    let g := gidx id.x.val id.y.val;
    let n : Nat := 0;
    (fun d => (d.chip.grove t g).step = some (false, n)) (gv { step := some (false, 0) })) ∧
  ((fun d => 0 < d.chip.hub.core.stepLeft) (dv { hub := { core := { stepLeft := 1 } } })) := by
  refine ⟨?_, ?_, ?_, ?_, ?_, ?_, ?_, ?_, ?_, ?_, ?_, ?_, ?_⟩ <;> ((try dsimp only [comes, asks]); decide +kernel)

theorem test_meets_PinsDriveAndCapture :
  (let m : Master := .core;
    let v : BitVec 64 := 1#64;
    let run (d : Dev) : Prop := d.chip.hubClocked = true;
    let z := ((Instr.uioOutWrite m v, Reg.uioOut, Reg.uioOut, fun (_ : Chip) => fld v 0 48) : Instr × Reg × Reg × (Chip → Nat));
    (fun d => writable m z.2.1 .hub 0 d = true ∧ run d) (dv {})) ∧
  (let m : Master := .core;
    let v : BitVec 64 := 1#64;
    let run (d : Dev) : Prop := d.chip.hubClocked = true;
    let z := ((Instr.uioOutWrite m v, Reg.uioOut, Reg.uioOut, fun (_ : Chip) => fld v 0 48) : Instr × Reg × Reg × (Chip → Nat));
    (fun d => writable m z.2.1 .hub 0 d = true ∧ ¬run d) ((dv {}).on (fun c => c.setRf .clkStat .hub 0 4 1 1))) ∧
  (let m : Master := .core;
    let v : BitVec 64 := 2 ^ 63 + 5;
    let run (d : Dev) : Prop := d.chip.hubClocked = true;
    let k : Fin 8 := 7;
    let past (d : Dev) : Prop := fld v 63 1 = 1 ∧ serialLater 48 (d.chip.hub.time.toNat % 2 ^ 48) (fld v 0 48) = true;
    let ok (d : Dev) : Prop := writable m .uioTrigAt .hub k.val d = true ∧ run d ∧ fld v 62 1 = 0;
    (fun d => ok d ∧ ¬past d) (dv {})) ∧
  (let m : Master := .core;
    let v : BitVec 64 := 2 ^ 63 + 4;
    let run (d : Dev) : Prop := d.chip.hubClocked = true;
    let k : Fin 8 := 7;
    let past (d : Dev) : Prop := fld v 63 1 = 1 ∧ serialLater 48 (d.chip.hub.time.toNat % 2 ^ 48) (fld v 0 48) = true;
    let ok (d : Dev) : Prop := writable m .uioTrigAt .hub k.val d = true ∧ run d ∧ fld v 62 1 = 0;
    (fun d => ok d ∧ past d) (dv { hub := { time := 5#64 } })) ∧
  (let k : Fin 8 := 0;
    let n : Nat := 0;
    let a (d : Dev) : Prop := d.chip.pinOf 5 k.val = some n ∧ d.chip.hubClocked = true;
    (fun d => a d ∧ d.chip.rbit .uioTrigAt .hub k.val 63 = true ∧ d.chip.hub.trigLate.contains k.val = false) ((pin 5 0).on (fun c => c.setRf .uioTrigAt .hub 0 63 1 1))) ∧
  (let k : Fin 8 := 0;
    let n : Nat := 0;
    let a (d : Dev) : Prop := d.chip.pinOf 5 k.val = some n ∧ d.chip.hubClocked = true;
    (fun d => a d ∧ d.chip.rbit .uioTrigAt .hub k.val 63 = true ∧ d.chip.hub.trigLate.contains k.val = true) (((pin 5 0).on (fun c => (c.setRf .uioTrigAt .hub 0 63 1 1).modHub (fun h => { h with trigLate := [0] }))))) ∧
  (let k : Fin 8 := 0;
    let n : Nat := 0;
    let a (d : Dev) : Prop := d.chip.pinOf 5 k.val = some n ∧ d.chip.hubClocked = true;
    (fun d => a d ∧ d.chip.rbit .uioTrigAt .hub k.val 63 = false) (pin 5 0)) ∧
  (let n : Fin 48 := 0;
    (fun d => d.chip.pinFunc n.val = 3 ∧ d.chip.rf .uioCfg .hub n.val 5 27 ≠ 0 ∧ d.chip.hubClocked = true) ((pin 3 0).on (fun c => c.setRf .uioCfg .hub 0 5 27 1))) ∧
  ((fun d => d.chip.hubClocked = true) (dv {})) ∧
  (let n : Nat := 0;
    let z : Fin 48 := 0;
    (z.val = n) ∧ ((fun d => d.chip.pinFunc n = 1) (pin 1 0))) ∧
  (let n : Nat := 0;
    let level : Bool := true;
    let sel (d : Dev) : Prop := d.chip.rf .uioCfg .hub n 34 2 = 3 ∨ (d.chip.rf .uioCfg .hub n 34 2 = 1 ∧ level = !(d.chip.pinInv n)) ∨
      (d.chip.rf .uioCfg .hub n 34 2 = 2 ∧ level = d.chip.pinInv n);
    let z : Fin 48 := 0;
    (z.val = n) ∧ ((fun d => ¬sel d) (pin 4 2))) ∧
  (let n : Nat := 0;
    let level : Bool := true;
    let at_ (d : Dev) : Dev := d.on (fun c => c.modHub (fun h => { h with padIn := kset h.padIn n level }));
    let live (d : Dev) : Prop := (at_ d).chip.pinsOn = true ∧ d.chip.hubClocked = true;
    let sel (d : Dev) : Prop := d.chip.rf .uioCfg .hub n 34 2 = 3 ∨ (d.chip.rf .uioCfg .hub n 34 2 = 1 ∧ level = !(d.chip.pinInv n)) ∨
      (d.chip.rf .uioCfg .hub n 34 2 = 2 ∧ level = d.chip.pinInv n);
    let k : Fin 16 := 0;
    (fun d => d.chip.pinOf 4 k.val = some n ∧ d.chip.pinFunc n = 4 ∧ d.chip.pinIdx n = k.val ∧ live d ∧ sel d) (pin 4 1)) ∧
  (let n : Nat := 0;
    let level : Bool := true;
    let at_ (d : Dev) : Dev := d.on (fun c => c.modHub (fun h => { h with padIn := kset h.padIn n level }));
    let live (d : Dev) : Prop := (at_ d).chip.pinsOn = true ∧ d.chip.hubClocked = true;
    let sel (d : Dev) : Prop := d.chip.rf .uioCfg .hub n 34 2 = 3 ∨ (d.chip.rf .uioCfg .hub n 34 2 = 1 ∧ level = !(d.chip.pinInv n)) ∨
      (d.chip.rf .uioCfg .hub n 34 2 = 2 ∧ level = d.chip.pinInv n);
    let m (d : Dev) : Nat := d.chip.edgeTime n;
    let e (d : Dev) : Int := if m d % 1000000000 < 500000000 then (m d % 1000000000 : Nat) else (m d % 1000000000 : Nat) - 1000000000;
    (fun d => (List.range 48).find? (fun n => d.chip.pinFunc n == 2) = some n ∧ d.chip.pinFunc n = 2 ∧ live d ∧ sel d ∧
        (((raise (.hub 26) (m d % 2 ^ 32) ((at_ d).chip.capture .tbsPpsTs .hub 0 (mkReg [(0, 48, m d % 2 ^ 48)]))).setRf .tbsPpsErr .hub 0 0 32
          (wrapInt 32 (e d))).setRf .tbsPpsCtl .hub 0 62 1 0).rbit .tbsPpsCtl .hub 0 63 = false) (pin 2 3)) := by
  refine ⟨?_, ?_, ?_, ?_, ?_, ?_, ?_, ?_, ?_, ?_, ?_, ?_, ?_⟩ <;> ((try dsimp only [comes, asks]); decide +kernel)

end Sys2Proof.Tests
end

section
/-!
SUPPORT. Statistics counters (R14): what raising a counter leaves, the two fields that every counter's register has, and what a write and a read of
that register do.
-/
namespace Sys2Proof.Machine

/-- A one-bit field is 0 or 1. -/
theorem fld_one_eq_zero_or_one (v : BitVec 64) (lo : Nat) : fld v lo 1 = 0 ∨ fld v lo 1 = 1 := by
  have h : fld v lo 1 < 2 ^ 1 := (v.extractLsb' lo 1).isLt
  omega

/-- A mask that is set throughout a field leaves the field. -/
theorem fld_and_mask (v m : BitVec 64) (lo w : Nat) (h : ∀ j, j < w → m.getLsbD (lo + j) = true) : fld (v &&& m) lo w = fld v lo w := by
  refine Nat.eq_of_testBit_eq (fun j => ?_)
  rw [fld_testBit, fld_testBit, BitVec.getLsbD_and]
  by_cases hj : j < w
  · rw [h j hj, Bool.and_true]
  · simp [hj]

/-! ### Raising -/

/-- Raising the counter by `n` takes its count to the largest value, where it was not before. -/
def CountReachesMax (v : BitVec 64) (n : Nat) : Prop := fld v 0 48 < 2 ^ 48 - 1 ∧ 2 ^ 48 - 1 ≤ fld v 0 48 + n

/-- The raise that reaches the largest value while the sticky bit is 0 sets the bit, and an event is due. -/
theorem cntAdd_of_reaches {v : BitVec 64} {n : Nat} (hr : CountReachesMax v n) (hs : fld v 48 1 = 0) :
    cntAdd v n = (setFld (setFld v 0 48 (2 ^ 48 - 1)) 48 1 1, true) := by
  obtain ⟨hlt, hle⟩ := hr
  simp only [cntAdd, Nat.min_eq_right hle, hlt, hs, decide_true, beq_self_eq_true, Bool.and_self, if_true]

/-- Every other raise changes the count alone, and no event is due. -/
theorem cntAdd_of_not_reaches {v : BitVec 64} {n : Nat} (h : ¬(CountReachesMax v n ∧ fld v 48 1 = 0)) :
    cntAdd v n = (setFld v 0 48 (min (fld v 0 48 + n) (2 ^ 48 - 1)), false) := by
  refine if_neg fun hc => h ?_
  simp only [Bool.and_eq_true, decide_eq_true_eq, beq_iff_eq] at hc
  obtain ⟨⟨hlt, hmin⟩, hs⟩ := hc
  exact ⟨⟨hlt, by omega⟩, hs⟩

/-- The count after a raise. -/
theorem count_cntAdd (v : BitVec 64) (n : Nat) : fld (cntAdd v n).1 0 48 = min (fld v 0 48 + n) (2 ^ 48 - 1) := by
  by_cases h : CountReachesMax v n ∧ fld v 48 1 = 0
  · obtain ⟨hr, hs⟩ := h
    rw [cntAdd_of_reaches hr hs, fld_setFld_other _ _ _ _ _ _ (by decide) (by decide), fld_setFld_same _ _ _ _ (by decide), Nat.min_eq_right hr.2,
      Nat.mod_eq_of_lt (by decide)]
  · rw [cntAdd_of_not_reaches h, fld_setFld_same _ _ _ _ (by decide)]
    omega

/-- The sticky bit after a raise. -/
theorem sticky_cntAdd (v : BitVec 64) (n : Nat) : fld (cntAdd v n).1 48 1 = 1 ↔ fld v 48 1 = 1 ∨ CountReachesMax v n := by
  by_cases h : CountReachesMax v n ∧ fld v 48 1 = 0
  · obtain ⟨hr, hs⟩ := h
    rw [cntAdd_of_reaches hr hs, fld_setFld_same _ _ _ _ (by decide)]
    simp [hr]
  · rw [cntAdd_of_not_reaches h, fld_setFld_other _ _ _ _ _ _ (by decide) (by decide)]
    refine ⟨Or.inl, fun hor => hor.elim id fun hr => ?_⟩
    exact (fld_one_eq_zero_or_one v 48).resolve_left fun hs => h ⟨hr, hs⟩

/-- An event is due exactly when the sticky bit goes from 0 to 1. -/
theorem cntAdd_due_iff (v : BitVec 64) (n : Nat) : (cntAdd v n).2 = true ↔ fld v 48 1 = 0 ∧ fld (cntAdd v n).1 48 1 = 1 := by
  rw [sticky_cntAdd]
  by_cases h : CountReachesMax v n ∧ fld v 48 1 = 0
  · obtain ⟨hr, hs⟩ := h
    simp [cntAdd_of_reaches hr hs, hr, hs]
  · rw [cntAdd_of_not_reaches h]
    refine iff_of_false Bool.false_ne_true fun ⟨hs, hor⟩ => ?_
    obtain h1 | hr := hor
    · omega
    · exact absurd ⟨hr, hs⟩ h

/-- Counting stores the raised counter, and then raises the block's overflow event if it is due. -/
theorem bump_eq (c : Chip) (r : Reg) (s : Site) (i n : Nat) :
    c.bump r s i n = (let p := cntAdd (c.reg r s i) n
      if p.2 then raise (r.ovfEv s) (r.addr s i) (c.setReg r s i p.1) else c.setReg r s i p.1) := rfl

/-! ### The register of a counter -/

/-- The field table of every counter: the sticky bit, cleared by writing 1, and the count, which no write changes. -/
theorem counter_fields {r : Reg} (h : r.counter = true) : ∃ sc, r.fields = [field 48 1 .w1c sc, field 0 48 .rc sc] := by
  refine ⟨(r.fields.head?.map RField.scope).getD .never, ?_⟩
  revert h
  cases r <;> decide

/-- A write of a counter clears the sticky bit where it writes 1, and changes nothing else. -/
theorem reg_putReg_counter {r : Reg} (h : r.counter = true) (s : Site) (i : Nat) (v : BitVec 64) (c : Chip) :
    (putReg r s i v c).reg r s i = setFld (c.reg r s i) 48 1 (fld (c.reg r s i) 48 1 &&& (1 - fld v 48 1)) := by
  obtain ⟨sc, hf⟩ := counter_fields h
  simp [putReg, hf, RField.put, field]

/-- A read of a counter returns the count as it is. -/
theorem count_regView_counter {r : Reg} (h : r.counter = true) (c : Chip) (s : Site) (i : Nat) :
    fld (regView c r s i) 0 48 = fld (regRaw c r s i) 0 48 := by
  obtain ⟨sc, hf⟩ := counter_fields h
  refine fld_and_mask _ _ _ _ fun j hj => ?_
  have hm : r.readMask = setFld (setFld 0#64 48 1 1) 0 48 (2 ^ 48 - 1) := by simp [Reg.readMask, hf, field]
  rw [hm, setFld_bit _ _ _ _ _ (by decide), if_pos (by omega), Nat.testBit_mod_two_pow, Nat.testBit_two_pow_sub_one]
  simp [hj]

/-! ### R14 -/

/-- Settles O8: a raise by its two cases, a write and a read from the two fields that every counter has. -/
theorem countersSaturateOnce : Obligations.CountersSaturateOnce := by
  refine ⟨fun v n => ⟨count_cntAdd v n, sticky_cntAdd v n, cntAdd_due_iff v n⟩, fun c r s i n => ⟨fun hp => ?_, fun hp => ?_⟩,
    fun c r s i v h => ⟨?_, ?_, count_regView_counter h c s i⟩⟩
  · simp [bump_eq, hp]
  · simp [bump_eq, hp]
  · rw [reg_putReg_counter h, fld_setFld_other _ _ _ _ _ _ (by decide) (by decide)]
  · rw [reg_putReg_counter h, fld_setFld_same _ _ _ _ (by decide)]
    rcases fld_one_eq_zero_or_one v 48 with hv | hv <;> rcases fld_one_eq_zero_or_one (c.reg r s i) 48 with ho | ho <;> simp [hv, ho]

end Sys2Proof.Machine
end

section
/-!
SUPPORT. Sequence numbers (R15): one more in a field, and serial order as an order of differences.
-/
namespace Sys2Proof.Machine

/-- One more in `w` bits: the largest value wraps to 0. -/
theorem add_one_mod_two_pow {w x : Nat} (h : x < 2 ^ w) : (x + 1) % 2 ^ w = if x = 2 ^ w - 1 then 0 else x + 1 := by
  split
  · next hx => rw [hx, Nat.sub_add_cancel Nat.one_le_two_pow, Nat.mod_self]
  · next hx => exact Nat.mod_eq_of_lt (by omega)

/-- A field of a register that is set holds what it was set to. -/
theorem rf_setRf_same (c : Chip) (r : Reg) (s : Site) (i lo w x : Nat) (h : lo + w ≤ 64) : (c.setRf r s i lo w x).rf r s i lo w = x % 2 ^ w := by
  rw [Chip.rf, Chip.setRf, Chip.reg_setReg, fld_setFld_same _ _ _ _ h]

/-- Setting a field of a register raises nothing. -/
@[simp] theorem evt_setRf (c : Chip) (r : Reg) (s : Site) (i lo w x : Nat) : (c.setRf r s i lo w x).evt = c.evt := rfl

/-- The difference that the serial comparison takes of two `n`-bit numbers is that of the integers modulo 2^n. -/
theorem serial_difference {n a b : Nat} (hb : b < 2 ^ n) :
    (((a + 2 ^ n - b % 2 ^ n) % 2 ^ n : Nat) : Int) = ((a : Int) - (b : Int)) % ((2 ^ n : Nat) : Int) := by
  have hle : b ≤ a + 2 ^ n := by omega
  have hsub : ((a + 2 ^ n - b : Nat) : Int) = (a : Int) - (b : Int) + ((2 ^ n : Nat) : Int) := by omega
  rw [Nat.mod_eq_of_lt hb, Int.natCast_emod, hsub, Int.add_emod_right]

/-- Serial order: `a` is later than `b` when their difference modulo 2^n lies in 1 to 2^(n-1) - 1. -/
theorem serialLater_iff {n a b : Nat} (hb : b < 2 ^ n) :
    serialLater n a b = true ↔ 1 ≤ ((a : Int) - (b : Int)) % ((2 ^ n : Nat) : Int) ∧
      ((a : Int) - (b : Int)) % ((2 ^ n : Nat) : Int) ≤ ((2 ^ (n - 1) : Nat) : Int) - 1 := by
  have hpos : 1 ≤ 2 ^ (n - 1) := Nat.one_le_two_pow
  rw [← serial_difference hb]
  simp only [serialLater, Bool.and_eq_true, decide_eq_true_eq]
  omega

/-- Settles O9: a field keeps its value modulo 2^w, and the serial comparison takes the difference modulo 2^n. -/
theorem sequenceNumbersCompareSerially : Obligations.SequenceNumbersCompareSerially := by
  refine ⟨fun c r s i lo w h => ⟨?_, evt_setRf ..⟩, fun n a b _ _ hb => serialLater_iff hb⟩
  have hlt : c.rf r s i lo w < 2 ^ w := ((c.reg r s i).extractLsb' lo w).isLt
  rw [rf_setRf_same _ _ _ _ _ _ _ h, add_one_mod_two_pow hlt]

end Sys2Proof.Machine
end

section
/-!
SUPPORT. A step and its command (R1 of the block): what stands at the front of the queue runs, and every command answers.
-/
namespace Sys2Proof.Machine

/-- Settles O1: both branches of `step`; a tick changes the device alone. -/
theorem stepTakesTheFrontCommand : Obligations.StepTakesTheFrontCommand := by
  refine ⟨fun i l s h => ?_, fun s h => ⟨finish s.dev (idleEffect (start s.dev)), ?_⟩⟩
  · rw [step, h]
  · obtain ⟨dev, pending⟩ := s
    subst h
    rfl

/-- Settles O2: every arm of `exec` runs an effect on the device. -/
theorem everyCommandCompletes : Obligations.EveryCommandCompletes := by
  intro i s
  cases i <;> exact ⟨_, rfl⟩

end Sys2Proof.Machine
end

section
/-!
SUPPORT. The fields of registers (R8, R9): the fields of a register share no bit, so a register that is rebuilt field by field holds in each field what
that field's own step put there.
-/
namespace Sys2Proof.Machine

/-- Two fields share no bit. -/
abbrev RField.Apart (f h : RField) : Prop := f.lo + f.wd ≤ h.lo ∨ h.lo + h.wd ≤ f.lo

/-- The fields of a register share no bit. -/
theorem fields_apart (r : Reg) : r.fields.Pairwise RField.Apart := by
  cases r <;> decide

/-- The fields of a register lie inside its 64 bits. -/
theorem fields_inside (r : Reg) : ∀ f ∈ r.fields, f.lo + f.wd ≤ 64 := by
  cases r <;> decide

/-- A step on a word that acts on one field: what it makes of the field is `φ`, and it leaves every field apart from it. -/
structure ActsOnField (g : BitVec 64 → RField → BitVec 64) (φ : RField → Nat → Nat) (f : RField) : Prop where
  same : ∀ v, fld (g v f) f.lo f.wd = φ f (fld v f.lo f.wd)
  other : ∀ v h, RField.Apart f h → fld (g v f) h.lo h.wd = fld v h.lo h.wd

/-- Steps on fields apart from `f` leave it. -/
theorem fld_foldl_apart {g : BitVec 64 → RField → BitVec 64} {φ : RField → Nat → Nat} {f : RField} {fs : List RField}
    (hg : ∀ h ∈ fs, ActsOnField g φ h) (hf : ∀ h ∈ fs, RField.Apart h f) (v : BitVec 64) : fld (fs.foldl g v) f.lo f.wd = fld v f.lo f.wd := by
  induction fs generalizing v with
  | nil => rfl
  | cons h fs ih =>
    rw [List.foldl_cons, ih (fun x hx => hg x (.tail _ hx)) (fun x hx => hf x (.tail _ hx)),
      (hg h (.head _)).other v f (hf h (.head _))]

/-- A word rebuilt by one step for each of its fields holds in each field what the field's own step makes of it. -/
theorem fld_foldl {g : BitVec 64 → RField → BitVec 64} {φ : RField → Nat → Nat} {fs : List RField} (hd : fs.Pairwise RField.Apart)
    (hg : ∀ h ∈ fs, ActsOnField g φ h) (v : BitVec 64) : ∀ f ∈ fs, fld (fs.foldl g v) f.lo f.wd = φ f (fld v f.lo f.wd) := by
  induction fs generalizing v with
  | nil => intro f hf; cases hf
  | cons h fs ih =>
    obtain ⟨hh, hd⟩ := List.pairwise_cons.1 hd
    have hg' : ∀ x ∈ fs, ActsOnField g φ x := fun x hx => hg x (.tail _ hx)
    intro f hf
    rw [List.foldl_cons]
    obtain rfl | hf := List.mem_cons.1 hf
    · rw [fld_foldl_apart hg' (fun x hx => (hh x hx).symm), (hg f (.head _)).same]
    · rw [ih hd hg' _ f hf, (hg h (.head _)).other v f (hh f hf)]

/-- A field is below 2 to its width. -/
theorem fld_lt (v : BitVec 64) (lo w : Nat) : fld v lo w < 2 ^ w := (v.extractLsb' lo w).isLt

/-- Setting a field acts on that field. -/
theorem actsOnField_setFld {f : RField} (hf : f.lo + f.wd ≤ 64) {g : BitVec 64 → RField → BitVec 64} {φ : RField → Nat → Nat}
    (hg : ∀ v, g v f = setFld v f.lo f.wd (φ f (fld v f.lo f.wd)) ∨ (g v f = v ∧ φ f (fld v f.lo f.wd) = fld v f.lo f.wd))
    (hφ : ∀ x, x < 2 ^ f.wd → φ f x < 2 ^ f.wd) : ActsOnField g φ f where
  same v := by
    obtain h | ⟨h, hk⟩ := hg v
    · rw [h, fld_setFld_same _ _ _ _ hf, Nat.mod_eq_of_lt (hφ _ (fld_lt ..))]
    · rw [h, hk]
  other v h ha := by
    obtain hs | ⟨hs, -⟩ := hg v
    · rw [hs, fld_setFld_other _ _ _ _ _ _ hf ha.symm]
    · rw [hs]

/-! ### A write -/

/-- A field admits a value (R8). -/
def RField.admits (f : RField) (x : Nat) : Bool := decide (f.mn ≤ x) && decide (x ≤ f.mx) && !(f.bad.contains x)

/-- What a write of `x` makes of a field that holds `o` (R8). -/
def RField.written (f : RField) (locked : Bool) (x o : Nat) : Nat :=
  match f.acc with
  | .rw => if f.admits x then x else o
  | .rwl => if f.admits x && !locked then x else o
  | .w1c => o &&& (2 ^ f.wd - 1 - x)
  | .w1s => o ||| x
  | .ro | .rc | .wo => o

/-- The write of one field sets it to what R8 says, or leaves the register as it is. -/
theorem actsOnField_put {f : RField} (hf : f.lo + f.wd ≤ 64) (locked : Bool) (v : BitVec 64) :
    ActsOnField (fun cur f => f.put locked v cur) (fun f o => f.written locked (fld v f.lo f.wd) o) f := by
  refine actsOnField_setFld hf (fun cur => ?_) (fun x hx => ?_)
  · simp only [RField.put, RField.written, RField.admits]
    cases f.acc
    case rw => by_cases h : f.admits (fld v f.lo f.wd) = true <;> unfold RField.admits at h <;> simp only [h] <;> simp
    case rwl => by_cases h : (f.admits (fld v f.lo f.wd) && !locked) = true <;> unfold RField.admits at h <;> simp only [h] <;> simp
    all_goals simp
  · have hv := fld_lt v f.lo f.wd
    simp only [RField.written]
    cases f.acc <;> dsimp only
    case rw => split <;> assumption
    case rwl => split <;> assumption
    case w1c => exact Nat.lt_of_le_of_lt Nat.and_le_left hx
    case w1s => exact Nat.or_lt_two_pow hx hv
    all_goals exact hx

/-- The lock of a register, as the register file holds it. -/
def Reg.locked (r : Reg) (s : Site) (i : Nat) (c : Chip) : Bool :=
  match r.lock with
  | some (l, b) => c.rbit l s (if l = r then i else 0) b
  | none => false

/-- A field after a write of its register. -/
theorem fld_putReg (r : Reg) (s : Site) (i : Nat) (v : BitVec 64) (c : Chip) {f : RField} (hf : f ∈ r.fields) :
    fld ((putReg r s i v c).reg r s i) f.lo f.wd = f.written (r.locked s i c) (fld v f.lo f.wd) (fld (c.reg r s i) f.lo f.wd) := by
  have h : (putReg r s i v c).reg r s i = r.fields.foldl (fun cur f => f.put (r.locked s i c) v cur) (c.reg r s i) :=
    Chip.reg_setReg ..
  rw [h, fld_foldl (fields_apart r) (fun h hh => actsOnField_put (fields_inside r h hh) _ v) _ f hf]

/-! ### A read -/

/-- The read mask is all ones in every field but the write-only ones. -/
theorem fld_readMask {r : Reg} {f : RField} (hf : f ∈ r.fields) : fld r.readMask f.lo f.wd = if f.acc = .wo then 0 else 2 ^ f.wd - 1 := by
  refine (fld_foldl (φ := fun f o => if f.acc = .wo then o else 2 ^ f.wd - 1) (fields_apart r) (fun h hh => ?_) _ f hf).trans ?_
  · refine actsOnField_setFld (fields_inside r h hh) (fun v => ?_) (fun x hx => ?_)
    · by_cases hw : h.acc = .wo <;> simp [hw]
    · have := Nat.two_pow_pos h.wd
      split <;> omega
  · simp

/-- A field as a read returns it. -/
theorem fld_regView (c : Chip) {r : Reg} (s : Site) (i : Nat) {f : RField} (hf : f ∈ r.fields) :
    fld (regView c r s i) f.lo f.wd = if f.acc = .wo then 0 else fld (regRaw c r s i) f.lo f.wd := by
  have hm := fld_readMask hf
  have hb (k : Nat) : (decide (k < f.wd) && r.readMask.getLsbD (f.lo + k)) = if f.acc = .wo then false else decide (k < f.wd) := by
    rw [← fld_testBit, hm]
    split
    · exact Nat.zero_testBit k
    · exact Nat.testBit_two_pow_sub_one ..
  refine Nat.eq_of_testBit_eq (fun k => ?_)
  rw [regView, fld_testBit, BitVec.getLsbD_and, Bool.and_left_comm, hb]
  split
  · simp
  · rw [fld_testBit, Bool.and_comm]

/-- A field after a read that clears. -/
theorem fld_clearRC (c : Chip) {r : Reg} (s : Site) (i : Nat) {f : RField} (hf : f ∈ r.fields) :
    fld ((clearRC r s i c).reg r s i) f.lo f.wd = if f.acc = .rc then 0 else fld (c.reg r s i) f.lo f.wd := by
  unfold clearRC
  split
  · rw [Chip.reg_setReg, fld_foldl (φ := fun f o => if f.acc = .rc then 0 else o) (fields_apart r) (fun h hh => ?_) _ f hf]
    refine actsOnField_setFld (fields_inside r h hh) (fun v => ?_) (fun x hx => ?_)
    · by_cases hc : h.acc = .rc <;> simp [hc]
    · have := Nat.two_pow_pos h.wd
      split <;> omega
  · next h =>
    rw [if_neg]
    simpa using List.any_eq_false.1 (Bool.eq_false_iff.2 h) f hf

/-! ### R8 -/

/-- What a field admits, as a proposition. -/
theorem admits_iff (f : RField) (x : Nat) : f.admits x = true ↔ f.mn ≤ x ∧ x ≤ f.mx ∧ x ∉ f.bad := by
  simp [RField.admits, and_assoc]

/-- Writing ones clears: bit by bit. -/
theorem testBit_and_not {w x : Nat} (hx : x < 2 ^ w) {o : Nat} (ho : o < 2 ^ w) (k : Nat) :
    (o &&& (2 ^ w - 1 - x)).testBit k = (o.testBit k && !x.testBit k) := by
  rw [Nat.testBit_and, Nat.sub_sub, Nat.add_comm, Nat.testBit_two_pow_sub_succ hx]
  by_cases hk : k < w
  · simp [hk]
  · rw [Nat.testBit_lt_two_pow (Nat.lt_of_lt_of_le ho (Nat.pow_le_pow_right (by decide) (Nat.le_of_not_lt hk)))]
    simp

/-- Settles O6: the fields of a register share no bit, so each is what its own step of the write, the read mask or the clearing makes of it. -/
theorem fieldsFollowTheirAccessType : Obligations.FieldsFollowTheirAccessType := by
  intro r s i v c f hf
  have hx := fld_lt v f.lo f.wd
  have ho := fld_lt (c.reg r s i) f.lo f.wd
  have hw := fld_putReg r s i v c hf
  refine ⟨fun ha => ?_, fun ha => ?_, fun ha => ?_, fun ha k => ?_, fun ha k => ?_, fld_regView c s i hf, fld_clearRC c s i hf⟩ <;> rw [hw]
  · simp only [RField.written, ha, ← admits_iff]
    exact ⟨fun h => if_pos h, fun h => if_neg h⟩
  · simp only [RField.written, ha, ← admits_iff]
    refine ⟨fun ⟨h, hl⟩ => if_pos ?_, fun h => if_neg ?_⟩
    · have hl : r.locked s i c = false := hl
      simp [h, hl]
    · obtain h | h := h
      · simp [h]
      · have hl : r.locked s i c = true := h
        simp [hl]
  · obtain ha | ha | ha := ha <;> simp only [RField.written, ha]
  · simp only [RField.written, ha]
    exact testBit_and_not hx ho k
  · simp only [RField.written, ha]
    exact Nat.testBit_or ..

end Sys2Proof.Machine
end

section
/-!
SUPPORT. What nothing answers (R9): the bits of a register that no field covers, and the addresses of a block at which nothing lies.
-/
namespace Sys2Proof.Machine

/-! ### Reserved bits -/

/-- A bit outside every field is not in the read mask. -/
theorem readMask_reserved (r : Reg) (k : Nat) (h : ∀ f ∈ r.fields, ¬(f.lo ≤ k ∧ k < f.lo + f.wd)) : r.readMask.getLsbD k = false := by
  have key : ∀ (fs : List RField) (m : BitVec 64), (∀ f ∈ fs, f.lo + f.wd ≤ 64 ∧ ¬(f.lo ≤ k ∧ k < f.lo + f.wd)) → m.getLsbD k = false →
      (fs.foldl (fun m f => if f.acc = .wo then m else setFld m f.lo f.wd (2 ^ f.wd - 1)) m).getLsbD k = false := by
    intro fs
    induction fs with
    | nil => exact fun m _ hm => hm
    | cons f fs ih =>
      intro m hf hm
      obtain ⟨hin, hout⟩ := hf f (.head _)
      refine ih _ (fun x hx => hf x (.tail _ hx)) ?_
      dsimp only
      split
      · exact hm
      · rw [setFld_bit _ _ _ _ _ hin, if_neg hout, hm]
  exact key _ _ (fun f hf => ⟨fields_inside r f hf, h f hf⟩) (by simp)

/-! ### Where an address lies -/

/-- An address of a register block: the hub's, a tile's or a grove's. -/
def Region.isReg : Region → Bool
  | .hubReg _ | .tileReg _ _ | .groveReg _ _ _ => true
  | _ => false

/-- Register blocks lie at the same addresses whatever memory is fitted. -/
theorem regionOf_cap (cap a : Nat) (h : (regionOf cap a).isReg = true) : regionOf 0 a = regionOf cap a := by
  unfold regionOf at h ⊢
  dsimp only at h ⊢
  split
  · rfl
  split
  · rfl
  split
  · rfl
  split
  · rfl
  split
  · rfl
  · next h1 h2 h3 h4 h5 =>
    exfalso
    rw [if_neg h1, if_neg h2, if_neg h3, if_neg h4, if_neg h5] at h
    split at h
    · cases h
    · split at h <;> cases h

/-- An address in a register block is found there as it stands inside the device. -/
theorem regionOf_localAddr (c : Chip) (a : Nat) (h : (locate c a).isReg = true) : regionOf 0 (localAddr c a) = locate c a := by
  unfold localAddr
  unfold locate at h ⊢
  cases hr : regionOf c.gdCap a <;> rw [hr] at h <;> dsimp only at h ⊢
  case hubReg => rw [regionOf_cap _ _ (by rw [hr]; rfl), hr]
  case tileReg => rw [regionOf_cap _ _ (by rw [hr]; rfl), hr]
  case groveReg => rw [regionOf_cap _ _ (by rw [hr]; rfl), hr]
  case remote dv off =>
    split at h
    · next hd => rw [if_pos hd, if_pos hd, regionOf_cap _ _ h]
    · cases h
  all_goals cases h

/-- The place in a register block of the 64-bit word that a place lies in. -/
def Region.word : Region → Region
  | .hubReg o => .hubReg (o - o % 8)
  | .tileReg t o => .tileReg t (o - o % 8)
  | .groveReg t g o => .groveReg t g (o - o % 8)
  | x => x

/-- The 64-bit word of an address in a register block lies in the same block. -/
theorem regionOf_word (a : Nat) (h : (regionOf 0 a).isReg = true) : regionOf 0 (a - a % 8) = (regionOf 0 a).word := by
  by_cases h1 : a < 0x4000000
  · have : a - a % 8 < 0x4000000 := by omega
    simp [regionOf, h1, this, Region.word]
  · by_cases h2 : 0x10000000 ≤ a ∧ a < 0x50000000
    · have e1 : ¬(a - a % 8 < 0x4000000) := by omega
      have e2 : 0x10000000 ≤ a - a % 8 ∧ a - a % 8 < 0x50000000 := by omega
      have e3 : (a - a % 8) / 0x10000000 = a / 0x10000000 := by omega
      have e4 : (a - a % 8) % 0x10000000 = a % 0x10000000 - a % 0x10000000 % 8 := by omega
      have e5 : (a % 0x10000000 - a % 0x10000000 % 8 < 0x8000000) = (a % 0x10000000 < 0x8000000) := by
        apply propext; omega
      have e6 : (a % 0x10000000 - a % 0x10000000 % 8 - 0x8000000) / 0x10000 = (a % 0x10000000 - 0x8000000) / 0x10000 := by omega
      have e7 : (a % 0x10000000 - a % 0x10000000 % 8) % 0x10000 = a % 0x10000000 % 0x10000 - a % 0x10000000 % 0x10000 % 8 := by omega
      simp only [regionOf, h1, if_false, h2, if_true, e1, e2, and_self, e3, e4, e5, e6, e7]
      split
      · rfl
      · split
        · rfl
        · split
          · rfl
          · next h3 h4 h5 => simp [regionOf, h1, h2, h3, h4, h5, Region.isReg] at h
    · have hne : (regionOf 0 a).isReg = false := by
        unfold regionOf
        dsimp only
        rw [if_neg h1, if_neg h2]
        split
        · split
          · rfl
          · split <;> rfl
        · split
          · split <;> rfl
          · split
            · split <;> rfl
            · split
              · rfl
              · split <;> rfl
      rw [hne] at h
      cases h

/-! ### R9 -/

/-- A word whose bits are 0. -/
theorem data_tword (w : Word) : TWord.data (tword w) = w := by
  unfold TWord.data tword
  ext i hi
  rw [BitVec.getElem_extractLsb', BitVec.getLsbD_append, Nat.zero_add, if_pos hi, BitVec.getLsbD_eq_getElem hi]

/-- At an unpopulated address of a register block lies no register. -/
theorem regAt_unpopulated {c : Chip} {a : Nat} (h : unpopulated c a = true) (hr : (locate c a).isReg = true) :
    regAt (localAddr c a - localAddr c a % 8) = none := by
  unfold unpopulated at h
  cases hl : locate c a <;> rw [hl] at h hr <;> simp only [Bool.and_eq_true, Option.isNone_iff_eq_none] at h
  case hubReg => exact h
  case tileReg => exact h.1
  case groveReg => exact h.1.1
  all_goals cases hr

/-- A write at an unpopulated address of a register block has no effect. -/
theorem wordWrite_unpopulated (m : Master) (wide : Bool) (v : BitVec 64) (d : Dev) {a : Nat} (h : unpopulated d.chip a = true)
    (hr : (locate d.chip a).isReg = true) : wordWrite m (localAddr d.chip a) wide v d = d := by
  simp only [wordWrite, regAt_unpopulated h hr, regionOf_localAddr _ _ hr]
  unfold unpopulated at h
  cases hl : locate d.chip a
  case groveReg t g o =>
    rw [hl] at h
    simp only [Bool.and_eq_true, Bool.not_eq_true', Bool.and_eq_false_iff, decide_eq_false_iff_not] at h
    exact if_neg (by omega)
  all_goals rfl

/-- A read at an unpopulated address of a register block returns 0 and has no effect. -/
theorem wordRead_unpopulated (quiet : Bool) (d : Dev) {a : Nat} (h : unpopulated d.chip a = true)
    (hr : (locate d.chip a).isReg = true) : wordRead quiet (localAddr d.chip a) d = some (0#64, d) := by
  have hv : wordView d.chip (localAddr d.chip a - localAddr d.chip a % 8) = 0#64 := by
    have hloc := regionOf_localAddr _ _ hr
    simp only [wordView, regAt_unpopulated h hr]
    rw [regionOf_word _ (by rw [hloc]; exact hr), hloc]
    unfold unpopulated at h
    cases hl : locate d.chip a <;> rw [hl] at h hr <;>
      simp only [Bool.and_eq_true, Bool.not_eq_true', Bool.and_eq_false_iff, decide_eq_false_iff_not] at h
    case hubReg => rfl
    case tileReg => exact if_neg (by omega)
    case groveReg => exact (if_neg (by omega)).trans (if_neg (by omega))
    all_goals cases hr
  simp only [wordRead, regAt_unpopulated h hr, hv]

/-- An unpopulated address lies in a register block, or at a position without a grove. -/
theorem locate_unpopulated {c : Chip} {a : Nat} (h : unpopulated c a = true) : (locate c a).isReg = true ∨ locate c a = .unpopulated := by
  unfold unpopulated at h
  cases hl : locate c a <;> rw [hl] at h
  case hubReg => exact .inl rfl
  case tileReg => exact .inl rfl
  case groveReg => exact .inl rfl
  case unpopulated => exact .inr rfl
  all_goals cases h

/-- Settles O7: the read mask has no bit outside the fields; at an unpopulated address the word access finds nothing to read or write. -/
theorem reservedAndUnpopulatedReadZero : Obligations.ReservedAndUnpopulatedReadZero := by
  refine ⟨fun c r s i k h => ?_, fun m src quiet b ecc d h => ?_⟩
  · rw [regView, BitVec.getLsbD_and, readMask_reserved r k h, Bool.and_false]
  · unfold serveBeat
    obtain hr | hu := locate_unpopulated h
    · have hw := fun v => wordWrite_unpopulated m b.wide v d h hr
      have hv := wordRead_unpopulated quiet d h hr
      have hreg : ∀ v : BitVec 64, v = 0#64 →
          TWord.data (if b.wide then (tword (v.extractLsb' 0 32), tword (v.extractLsb' 32 32))
            else (tword (v.extractLsb' (if b.a % 8 = 4 then 32 else 0) 32), 0#35)).1 = 0#32 ∧
          (b.wide = true → TWord.data (if b.wide then (tword (v.extractLsb' 0 32), tword (v.extractLsb' 32 32))
            else (tword (v.extractLsb' (if b.a % 8 = 4 then 32 else 0) 32), 0#35)).2 = 0#32) := by
        rintro v rfl
        cases b.wide <;> simp [data_tword]
      cases hl : locate d.chip b.a <;> rw [hl] at hr
      case hubReg => exact ⟨fun ho => by simp only [ho, hw], fun ho => by simpa only [ho, hv, true_and] using hreg _ rfl⟩
      case tileReg => exact ⟨fun ho => by simp only [ho, hw], fun ho => by simpa only [ho, hv, true_and] using hreg _ rfl⟩
      case groveReg => exact ⟨fun ho => by simp only [ho, hw], fun ho => by simpa only [ho, hv, true_and] using hreg _ rfl⟩
      all_goals cases hr
    · simp only [hu]
      refine ⟨fun ho => ?_, fun ho => ?_⟩
      · rw [ho]; rfl
      · rw [ho]
        exact ⟨rfl, rfl, data_tword _, fun _ => data_tword _⟩

end Sys2Proof.Machine
end

section
/-!
SUPPORT. The map of registers (R7, R33, R600): every register lies in its block, no two of a block share an address, and so the register at an address is
the one whose address it is.
-/
namespace Sys2Proof.Machine

/-! ### The table of places -/

/-- The bytes of a register block (R33). -/
def RLoc.size : RLoc → Nat
  | .hub => 0x4000000
  | .tile => 0x8000000
  | .grove => 0x10000

/-- Where a register's last index begins. -/
def RInfo.last (x : RInfo) : Nat := x.off + (x.cnt - 1) * x.stride

/-- Every register lies in its block, at multiples of 8. -/
theorem info_inside (r : Reg) : r.info.last < r.info.loc.size ∧ r.info.off % 8 = 0 ∧ r.info.stride % 8 = 0 ∧ 0 < r.info.stride := by
  cases r <;> decide

/-- The place of an indexed register, within its register's range. -/
theorem info_place (r : Reg) {i : Nat} (h : i < r.info.cnt) : r.info.off + i * r.info.stride ≤ r.info.last :=
  Nat.add_le_add_left (Nat.mul_le_mul_right _ (Nat.le_sub_one_of_lt h)) _

/-- `Reg.all` lists every register, in the order of the type. -/
theorem all_ctorIdx (r : Reg) : Reg.all[r.ctorIdx]? = some r := by
  cases r <;> rfl

/-- `Reg.all` lists every register. -/
theorem mem_all (r : Reg) : r ∈ Reg.all := List.mem_of_getElem? (all_ctorIdx r)

/-- Two registers lie in different blocks, in ranges that do not meet, or interleave with one stride; the trigger times lie inside the pin records. -/
abbrev Reg.Apart (r q : Reg) : Prop :=
  r.info.loc ≠ q.info.loc ∨ r.info.last < q.info.off ∨ q.info.last < r.info.off ∨
    (r.info.stride = q.info.stride ∧ r.info.off % r.info.stride ≠ q.info.off % q.info.stride) ∨ (r = .uioCfg ∧ q = .uioTrigAt)

theorem all_apart : Reg.all.Pairwise Reg.Apart := by
  decide +kernel

/-- Two different members of a list whose members are related in its order are related, in one order or the other. -/
theorem pairwise_mem {α : Type} {R : α → α → Prop} {l : List α} (hp : l.Pairwise R) {a b : α} (ha : a ∈ l) (hb : b ∈ l) (hne : a ≠ b) :
    R a b ∨ R b a := by
  induction hp with
  | nil => cases ha
  | cons hx _ ih =>
    rcases List.mem_cons.1 ha with rfl | har
    · rcases List.mem_cons.1 hb with rfl | hbr
      · exact absurd rfl hne
      · exact .inl (hx _ hbr)
    · rcases List.mem_cons.1 hb with rfl | hbr
      · exact .inr (hx _ har)
      · exact ih har hbr

/-- Two registers are apart, in one order or the other. -/
theorem apart_or (r q : Reg) (h : r ≠ q) : Reg.Apart r q ∨ Reg.Apart q r := pairwise_mem all_apart (mem_all r) (mem_all q) h

/-- A register is kept at an offset of a block. -/
def Reg.At (l : RLoc) (o : Nat) (r : Reg) (i : Nat) : Prop :=
  r.info.loc = l ∧ i < r.info.cnt ∧ r.covered i = false ∧ o = r.info.off + i * r.info.stride

/-- Registers that are apart are kept at different offsets. -/
theorem at_apart {l : RLoc} {o : Nat} {r q : Reg} {i j : Nat} (hr : r.At l o i) (hq : q.At l o j) : ¬Reg.Apart r q := by
  obtain ⟨hl, hi, hc, ho⟩ := hr
  obtain ⟨hl', hj, hc', ho'⟩ := hq
  have h1 := info_place r hi
  have h2 := info_place q hj
  rintro (h | h | h | ⟨h, hm⟩ | ⟨rfl, rfl⟩)
  · exact h (hl.trans hl'.symm)
  · omega
  · omega
  · apply hm
    have := congrArg (· % r.info.stride) (ho.symm.trans ho')
    simpa [Nat.add_mul_mod_self_right, h] using this
  · simp only [Reg.info] at ho ho' hi hj
    simp only [Reg.covered, Bool.and_eq_false_iff, decide_eq_false_iff_not] at hc
    omega

/-- At most one register is kept at an offset. -/
theorem at_unique {l : RLoc} {o : Nat} {r q : Reg} {i j : Nat} (hr : r.At l o i) (hq : q.At l o j) : r = q ∧ i = j := by
  have he : r = q := Classical.byContradiction fun h => (apart_or r q h).elim (at_apart hr hq) (at_apart hq hr)
  subst he
  obtain ⟨-, -, -, ho⟩ := hr
  obtain ⟨-, -, -, ho'⟩ := hq
  obtain ⟨-, -, -, hs⟩ := info_inside r
  exact ⟨rfl, Nat.eq_of_mul_eq_mul_right hs (by omega)⟩

/-- What the search of the table tests of one register. -/
def Reg.hit (l : RLoc) (o : Nat) (r : Reg) : Option (Reg × Nat) :=
  if r.info.loc = l ∧ r.info.off ≤ o ∧ (o - r.info.off) % r.info.stride = 0 ∧ (o - r.info.off) / r.info.stride < r.info.cnt ∧
      !(r.covered ((o - r.info.off) / r.info.stride)) then some (r, (o - r.info.off) / r.info.stride) else none

/-- The test is met by a register exactly at the offsets where it is kept. -/
theorem hit_iff {l : RLoc} {o : Nat} {r : Reg} {x : Reg × Nat} : r.hit l o = some x ↔ x.1 = r ∧ r.At l o x.2 := by
  obtain ⟨-, -, -, hs⟩ := info_inside r
  unfold Reg.hit
  constructor
  · intro h
    split at h
    · next hc =>
      obtain ⟨hl, hle, hm, hlt, hcov⟩ := hc
      cases h
      refine ⟨rfl, hl, hlt, by simpa using hcov, ?_⟩
      have := Nat.div_add_mod' (o - r.info.off) r.info.stride
      dsimp only
      omega
    · cases h
  · rintro ⟨rfl, hl, hlt, hcov, ho⟩
    have hd : o - x.1.info.off = x.2 * x.1.info.stride := by omega
    rw [hd, Nat.mul_div_cancel _ hs, if_pos ⟨hl, by omega, Nat.mul_mod_left .., hlt, by simpa using hcov⟩]

/-- The search of the table finds the register kept at an offset. -/
theorem atOff_of_at {l : RLoc} {o : Nat} {r : Reg} {i : Nat} (h : r.At l o i) : Reg.atOff l o = some (r, i) := by
  have hdef : Reg.atOff l o = Reg.all.findSome? (Reg.hit l o) := rfl
  have hr : Reg.hit l o r = some (r, i) := hit_iff.2 ⟨rfl, h⟩
  cases hf : Reg.all.findSome? (Reg.hit l o) with
  | none => exact absurd (List.findSome?_eq_none_iff.1 hf r (mem_all r)) (by rw [hr]; simp)
  | some x =>
    obtain ⟨q, -, hq⟩ := List.exists_of_findSome?_eq_some hf
    obtain ⟨hxq, hat⟩ := hit_iff.1 hq
    obtain ⟨rfl, hi⟩ := at_unique hat h
    rw [hdef, hf, ← hi, ← hxq]

/-! ### Addresses -/

/-- A populated grove index is one of 256. -/
theorem gpop_lt {g : Nat} (h : gpop g = true) : g < 256 := by
  simp only [gpop, Bool.and_eq_true, decide_eq_true_eq] at h
  omega

/-- An index that the map names has its place in its block. -/
theorem named_at {r : Reg} {s : Site} {i : Nat} (h : r.named s i = true) (hc : r.covered i = false) :
    r.At r.info.loc (r.info.off + i * r.info.stride) i := by
  simp only [Reg.named, Bool.and_eq_true, decide_eq_true_eq] at h
  exact ⟨rfl, h.1, hc, rfl⟩

/-- A place in a block of the map is found in that block. -/
theorem regionOf_site (s : Site) (l : RLoc) (o : Nat) (ho : o < l.size) (hs : match s with
    | .hub => l = .hub
    | .tile t => l = .tile ∧ t < 4
    | .grove t g => l = .grove ∧ t < 4 ∧ gpop g = true) :
    regionOf 0 (s.base + o) = (match s with | .hub => .hubReg o | .tile t => .tileReg t o | .grove t g => .groveReg t g o) := by
  cases s with
  | hub =>
    subst hs
    simp only [RLoc.size] at ho
    simp only [regionOf, Site.base, Nat.zero_add, ho, if_true]
  | tile t =>
    obtain ⟨rfl, ht⟩ := hs
    simp only [RLoc.size] at ho
    have h1 : ¬((0x10000000 + t * 0x10000000) + o < 0x4000000) := by omega
    have h2 : 0x10000000 ≤ (0x10000000 + t * 0x10000000) + o ∧ (0x10000000 + t * 0x10000000) + o < 0x50000000 := by omega
    have h3 : ((0x10000000 + t * 0x10000000) + o) / 0x10000000 - 1 = t := by omega
    have h4 : ((0x10000000 + t * 0x10000000) + o) % 0x10000000 = o := by omega
    simp only [regionOf, Site.base, h1, if_false, h2, and_self, if_true, h3, h4, ho]
  | grove t g =>
    obtain ⟨rfl, ht, hg⟩ := hs
    have hg' := gpop_lt hg
    simp only [RLoc.size] at ho
    have h1 : ¬((0x18000000 + t * 0x10000000 + g * 0x10000) + o < 0x4000000) := by omega
    have h2 : 0x10000000 ≤ (0x18000000 + t * 0x10000000 + g * 0x10000) + o ∧ (0x18000000 + t * 0x10000000 + g * 0x10000) + o < 0x50000000 := by omega
    have h3 : ((0x18000000 + t * 0x10000000 + g * 0x10000) + o) / 0x10000000 - 1 = t := by omega
    have h4 : ((0x18000000 + t * 0x10000000 + g * 0x10000) + o) % 0x10000000 = 0x8000000 + g * 0x10000 + o := by omega
    have h5 : ¬(0x8000000 + g * 0x10000 + o < 0x8000000) := by omega
    have h6 : (0x8000000 + g * 0x10000 + o - 0x8000000) / 0x10000 = g := by omega
    have h7 : ¬(256 ≤ g) := by omega
    have h8 : (0x8000000 + g * 0x10000 + o) % 0x10000 = o := by omega
    simp only [regionOf, Site.base, h1, if_false, h2, and_self, if_true, h3, h4, h5, h6, h7, hg, h8]

/-- The address of an indexed register that no other register covers leads back to it. -/
theorem regAt_addr {r : Reg} {s : Site} {i : Nat} (h : r.named s i = true) (hc : r.covered i = false) : regAt (r.addr s i) = some (r, s, i) := by
  have hat := atOff_of_at (named_at h hc)
  have hin : r.info.off + i * r.info.stride < r.info.loc.size := by
    simp only [Reg.named, Bool.and_eq_true, decide_eq_true_eq] at h
    exact Nat.lt_of_le_of_lt (info_place r h.1) (info_inside r).1
  have ha : r.addr s i = s.base + (r.info.off + i * r.info.stride) := by simp [Reg.addr, hc, Nat.add_assoc]
  unfold regAt
  rw [ha]
  cases s with
  | hub =>
    simp only [Reg.named, Bool.and_eq_true, decide_eq_true_eq] at h
    rw [regionOf_site .hub _ _ hin h.2]
    simp only [← h.2, hat, Option.map_some]
  | tile t =>
    simp only [Reg.named, Bool.and_eq_true, decide_eq_true_eq] at h
    rw [regionOf_site (.tile t) _ _ hin h.2]
    simp only [← h.2.1, hat, Option.map_some]
  | grove t g =>
    simp only [Reg.named, Bool.and_eq_true, decide_eq_true_eq] at h
    obtain ⟨-, ⟨⟨hl, ht⟩, hg⟩, -⟩ := h
    rw [regionOf_site (.grove t g) _ _ hin ⟨hl, ht, hg⟩]
    simp only [← hl, hat, Option.map_some]

/-- The records that another register covers are kept where no block lies. -/
theorem regAt_covered (a : Nat) (h : coveredBase + 256 ≤ a ∧ a < coveredBase + 320) : regAt a = none := by
  have h1 : ¬(a < 0x4000000) := by simp only [coveredBase] at h; omega
  have h2 : ¬(0x10000000 ≤ a ∧ a < 0x50000000) := by simp only [coveredBase] at h; omega
  have h3 : ¬(0x1000000000 ≤ a ∧ a < 0x1400000000) := by simp only [coveredBase] at h; omega
  have h4 : ¬(0x2000000000 ≤ a ∧ a < 0x2400000000) := by simp only [coveredBase] at h; omega
  have h5 : ¬(0x3000000000 ≤ a ∧ a < 0x3400000000) := by simp only [coveredBase] at h; omega
  have h6 : ¬(gdBase ≤ a ∧ a < gdBase + 0) := by omega
  have h7 : ¬(0x800000000000 ≤ a ∧ a < 0x1000000000000) := by simp only [coveredBase] at h; omega
  simp only [regAt, regionOf, h1, h2, h3, h4, h5, h6, h7, if_false]

/-- Only pin records are covered. -/
theorem covered_uioCfg {r : Reg} {i : Nat} (h : r.covered i = true) : r = .uioCfg ∧ 32 ≤ i ∧ i < 40 := by
  unfold Reg.covered at h
  split at h
  · simp only [Bool.and_eq_true, decide_eq_true_eq] at h
    exact ⟨rfl, h⟩
  · cases h

/-- A key among the covered records names a pin record. -/
theorem regKey_covered {a : Nat} (h : coveredBase + 256 ≤ a ∧ a < coveredBase + 320) : regKey a = some (.uioCfg, .hub, (a - coveredBase) / 8) := if_pos h

/-- Any other key is an address. -/
theorem regKey_of_not_covered {a : Nat} (h : ¬(coveredBase + 256 ≤ a ∧ a < coveredBase + 320)) : regKey a = regAt a := if_neg h

/-- The key of every indexed register leads back to it. -/
theorem regKey_addr {r : Reg} {s : Site} {i : Nat} (h : r.named s i = true) : regKey (r.addr s i) = some (r, s, i) := by
  cases hc : r.covered i with
  | true =>
    obtain ⟨rfl, h32, h40⟩ := covered_uioCfg hc
    have hs : s = .hub := by
      cases s <;> simp [Reg.named, Reg.info] at h ⊢
    subst hs
    have ha : Reg.addr .uioCfg .hub i = coveredBase + 8 * i := by simp [Reg.addr, hc]
    rw [ha, regKey_covered (by omega), show (coveredBase + 8 * i - coveredBase) / 8 = i by omega]
  | false =>
    have hr := regAt_addr h hc
    rw [regKey_of_not_covered fun ha => ?_, hr]
    rw [regAt_covered _ ha] at hr
    cases hr

/-- A register block begins at a multiple of 8. -/
theorem base_aligned (s : Site) : s.base % 8 = 0 := by
  cases s <;> simp only [Site.base] <;> omega

/-- Different instances have different addresses. -/
theorem addr_ne {r q : Reg} {s u : Site} {i j : Nat} (hr : r.named s i = true) (hq : q.named u j = true) (h : (r, s, i) ≠ (q, u, j)) :
    r.addr s i ≠ q.addr u j := by
  intro ha
  have h1 := regKey_addr hr
  rw [ha, regKey_addr hq] at h1
  exact h (Option.some.inj h1).symm

/-- A write of one register leaves every other. -/
theorem reg_setReg_other {r q : Reg} {s u : Site} {i j : Nat} (v : BitVec 64) (c : Chip) (hr : r.named s i = true) (hq : q.named u j = true)
    (h : (r, s, i) ≠ (q, u, j)) : (c.setReg r s i v).reg q u j = c.reg q u j :=
  Chip.reg_setReg_ne _ _ _ _ _ _ _ _ (addr_ne hr hq h).symm

/-- Settles O5: the table's registers are apart, so an address leads back to the one register that is kept there. -/
theorem registerAddressesAreDecoded : Obligations.RegisterAddressesAreDecoded := by
  refine ⟨fun r s i h => ⟨regKey_addr h, fun hc => ⟨regAt_addr h hc, ?_⟩⟩, fun r q s u i j v c hr hq h => reg_setReg_other v c hr hq h⟩
  obtain ⟨-, ho, hs, -⟩ := info_inside r
  have hb := base_aligned s
  have hm : i * r.info.stride % 8 = 0 := by rw [Nat.mul_mod, hs, Nat.mul_zero, Nat.zero_mod]
  simp only [Reg.addr, hc, Bool.false_eq_true, if_false]
  omega

end Sys2Proof.Machine
end

section
/-!
SUPPORT. The state after power-on reset (R555), and a command on a device that is left quiet.
-/
namespace Sys2Proof.Machine

/-- RST_CAUSE has one place, in the hub. -/
theorem named_rstCause {s : Site} {i : Nat} (h : Reg.named .rstCause s i = true) : s = .hub ∧ i = 0 := by
  cases s <;> simp [Reg.named, Reg.info] at h ⊢
  exact h

/-- After power-on reset a register holds its table's value, but for RST_CAUSE. -/
theorem reg_reset {r : Reg} {s : Site} {i : Nat} (h : r.named s i = true) : Chip.fresh0.reg r s i = if r = .rstCause then 1#64 else r.rst := by
  have hk : kfind? Chip.fresh0.regs (r.addr s i) = if Reg.addr .rstCause .hub 0 = r.addr s i then some 1#64 else none := rfl
  rw [Chip.reg, kget, hk]
  by_cases hr : r = .rstCause
  · subst hr
    obtain ⟨rfl, rfl⟩ := named_rstCause h
    rfl
  · have hne := addr_ne (by decide : Reg.named .rstCause .hub 0 = true) h (fun he => hr (Prod.mk.inj he).1.symm)
    rw [if_neg hne, if_neg hr]
    rfl

/-- Settles O3: the state is written out; RST_CAUSE is the one register that is set. -/
theorem resetLeavesTheTablesValues : Obligations.ResetLeavesTheTablesValues :=
  ⟨rfl, rfl, fun _ _ _ h => reg_reset h, fun _ _ => ⟨rfl, rfl⟩, rfl, rfl, rfl, rfl⟩

/-- Settles O10: what follows a command leaves a settled device as it is. -/
theorem quietCommandsHaveTheirEffectOnly : Obligations.QuietCommandsHaveTheirEffectOnly := by
  intro i hyp eff h s hs hq
  rw [h s hs, after_settled _ _ hq]

end Sys2Proof.Machine
end

section
/-!
SUPPORT. Lanes of a word (R43, R52, R53): a word put together from its lanes holds each of them, and a lane keeps the integer that it is given, wrapped or
saturated.
-/
namespace Sys2Proof.Machine

/-! ### Bits and lanes -/

/-- A bit of a number. -/
theorem bitOf_eq_testBit (n i : Nat) : bitOf n i = n.testBit i := by
  rw [bitOf, Nat.testBit_eq_decide_div_mod_eq]
  exact Bool.beq_eq_decide_eq _ _

/-- A lane is below 2 to its width. -/
theorem laneOf_lt (x off w : Nat) : laneOf x off w < 2 ^ w := Nat.mod_lt _ (Nat.two_pow_pos w)

/-- A bit of a lane. -/
theorem testBit_laneOf (x off w i : Nat) : (laneOf x off w).testBit i = (decide (i < w) && x.testBit (off + i)) := by
  rw [laneOf, bitsOf, Nat.testBit_mod_two_pow, Nat.testBit_div_two_pow, Nat.add_comm]

/-- Two numbers below 2^w with the same `w` bits are the same. -/
theorem eq_of_testBit_lt {w x y : Nat} (hx : x < 2 ^ w) (hy : y < 2 ^ w) (h : ∀ i < w, x.testBit i = y.testBit i) : x = y := by
  refine Nat.eq_of_testBit_eq fun i => ?_
  by_cases hi : i < w
  · exact h i hi
  · have hp : 2 ^ w ≤ 2 ^ i := Nat.pow_le_pow_right (by decide) (Nat.le_of_not_lt hi)
    rw [Nat.testBit_lt_two_pow (Nat.lt_of_lt_of_le hx hp), Nat.testBit_lt_two_pow (Nat.lt_of_lt_of_le hy hp)]

/-- The word holds each lane `g` gives it. -/
def HoldsLanes (mode : Nat) (g : Nat × Nat → Nat) : Prop :=
  wordOf mode ((lanesOf mode).map g) < 2 ^ 32 ∧ ∀ l ∈ lanesOf mode, laneOf (wordOf mode ((lanesOf mode).map g)) l.1 l.2 = g l

/-- The word of lanes is the sum of the lanes at their places. -/
theorem wordOf_eq (mode : Nat) (g : Nat × Nat → Nat) : wordOf mode ((lanesOf mode).map g) = ((lanesOf mode).map (fun l => g l * 2 ^ l.1)).sum := by
  have h : ∀ (ls : List (Nat × Nat)) (a : Nat), ((ls.zip (ls.map g)).foldl (fun acc p => acc + p.2 * 2 ^ p.1.1) a) =
      a + (ls.map (fun l => g l * 2 ^ l.1)).sum := by
    intro ls
    induction ls with
    | nil => intro a; rfl
    | cons l ls ih => intro a; simp only [List.map_cons, List.zip_cons_cons, List.foldl_cons, ih, List.sum_cons, Nat.add_assoc]
  rw [wordOf, h, Nat.zero_add]

theorem sum_map_two {α : Type} (f : α → Nat) (p q : α) : ([p, q].map f).sum = f p + f q := by simp

theorem sum_map_four {α : Type} (f : α → Nat) (p q r s : α) : ([p, q, r, s].map f).sum = f p + f q + f r + f s := by simp [Nat.add_assoc]

theorem holdsLanes_one {g : Nat × Nat → Nat} (h0 : g (0, 32) < 2 ^ 32) : HoldsLanes 0 g := by
  have he : wordOf 0 ((lanesOf 0).map g) = g (0, 32) * 2 ^ 0 := (wordOf_eq 0 g).trans (Nat.add_zero _)
  rw [HoldsLanes, he]
  refine ⟨by omega, fun l hl => ?_⟩
  obtain rfl : l = (0, 32) := List.mem_singleton.1 hl
  simp only [laneOf, bitsOf]
  omega

theorem holdsLanes_two {g : Nat × Nat → Nat} (h0 : g (0, 16) < 2 ^ 16) (h1 : g (16, 16) < 2 ^ 16) : HoldsLanes 1 g := by
  have he : wordOf 1 ((lanesOf 1).map g) = g (0, 16) * 2 ^ 0 + g (16, 16) * 2 ^ 16 :=
    (wordOf_eq 1 g).trans (sum_map_two (fun l => g l * 2 ^ l.1) _ _)
  rw [HoldsLanes, he]
  refine ⟨by omega, fun l hl => ?_⟩
  simp only [lanesOf, List.mem_cons, List.not_mem_nil, or_false] at hl
  obtain rfl | rfl := hl <;> simp only [laneOf, bitsOf] <;> omega

theorem holdsLanes_four {g : Nat × Nat → Nat} (h0 : g (0, 8) < 2 ^ 8) (h1 : g (8, 8) < 2 ^ 8) (h2 : g (16, 8) < 2 ^ 8) (h3 : g (24, 8) < 2 ^ 8) :
    HoldsLanes 2 g := by
  have he : wordOf 2 ((lanesOf 2).map g) = g (0, 8) * 2 ^ 0 + g (8, 8) * 2 ^ 8 + g (16, 8) * 2 ^ 16 + g (24, 8) * 2 ^ 24 :=
    (wordOf_eq 2 g).trans (sum_map_four (fun l => g l * 2 ^ l.1) _ _ _ _)
  rw [HoldsLanes, he]
  refine ⟨by omega, fun l hl => ?_⟩
  simp only [lanesOf, List.mem_cons, List.not_mem_nil, or_false] at hl
  obtain rfl | rfl | rfl | rfl := hl <;> simp only [laneOf, bitsOf] <;> omega

/-- A word of lanes holds each lane that fits its width. -/
theorem holdsLanes {mode : Nat} (hm : mode ≤ 2) {g : Nat × Nat → Nat} (hg : ∀ l ∈ lanesOf mode, g l < 2 ^ l.2) : HoldsLanes mode g := by
  match mode, hm with
  | 0, _ => exact holdsLanes_one (by simpa using hg (0, 32) (.head _))
  | 1, _ => exact holdsLanes_two (by simpa using hg (0, 16) (.head _)) (by simpa using hg (16, 16) (.tail _ (.head _)))
  | 2, _ =>
    exact holdsLanes_four (by simpa using hg (0, 8) (.head _)) (by simpa using hg (8, 8) (.tail _ (.head _)))
      (by simpa using hg (16, 8) (.tail _ (.tail _ (.head _)))) (by simpa using hg (24, 8) (.tail _ (.tail _ (.tail _ (.head _)))))

/-- The lanes of a mode are at least 8 bits wide and lie in the word. -/
theorem lanesOf_inside {mode : Nat} {l : Nat × Nat} (h : l ∈ lanesOf mode) : 8 ≤ l.2 ∧ l.1 + l.2 ≤ 32 := by
  have hmode : mode = 0 ∨ mode = 1 ∨ mode = 2 ∨ 3 ≤ mode := by omega
  obtain rfl | rfl | rfl | h3 := hmode
  · revert l; decide
  · revert l; decide
  · revert l; decide
  · have hn : lanesOf mode = [] := by
      match mode, h3 with
      | n + 3, _ => rfl
    rw [hn] at h
    cases h

/-! ### Words -/

/-- The data of a result word. -/
theorem data_twordP (p : Bool) (w : Word) : TWord.data (twordP p w) = w := by
  cases p
  · exact data_tword w
  · unfold TWord.data twordP poisoned
    ext i hi
    rw [if_pos rfl, BitVec.getElem_extractLsb', BitVec.getLsbD_append, Nat.zero_add, if_pos hi, BitVec.getLsbD_eq_getElem hi]

/-- The residue that a word carries. -/
theorem res_append (r : BitVec 3) (w : Word) : TWord.res (r ++ w) = r := by
  unfold TWord.res
  ext i hi
  rw [BitVec.getElem_extractLsb', BitVec.getLsbD_append, if_neg (by omega), Nat.add_sub_cancel_left, BitVec.getLsbD_eq_getElem hi]

/-- A residue is never the poison mark. -/
theorem resOf_ne (n : Nat) : resOf n ≠ 7#3 := by
  intro h
  have := congrArg BitVec.toNat h
  simp [resOf] at this
  omega

/-- A result word is poison when an operand was. -/
theorem isPoison_twordP (p : Bool) (w : Word) : TWord.isPoison (twordP p w) = p := by
  cases p
  · exact beq_eq_false_iff_ne.2 (by rw [show twordP false w = resOf w.toNat ++ w from rfl, res_append]; exact resOf_ne _)
  · exact beq_iff_eq.2 (by rw [show twordP true w = 7#3 ++ w from rfl, res_append])

/-! ### Integers in lanes -/

/-- The low bits of an integer. -/
theorem wrapInt_lt (w : Nat) (i : Int) : wrapInt w i < 2 ^ w := by
  have hp : (0 : Int) < ((2 ^ w : Nat) : Int) := by exact_mod_cast Nat.two_pow_pos w
  have h1 := Int.emod_lt_of_pos i hp
  have h2 := Int.emod_nonneg i (Int.ne_of_gt hp)
  unfold wrapInt
  omega

/-- The low bits of an integer are that integer modulo 2^w. -/
theorem wrapInt_cast (w : Nat) (i : Int) : (wrapInt w i : Int) = i % ((2 ^ w : Nat) : Int) := by
  have hp : (0 : Int) < ((2 ^ w : Nat) : Int) := by exact_mod_cast Nat.two_pow_pos w
  exact Int.toNat_of_nonneg (Int.emod_nonneg i (Int.ne_of_gt hp))

/-- Twice a power of two. -/
theorem two_pow_pred {w : Nat} (h : 1 ≤ w) : 2 ^ w = 2 * 2 ^ (w - 1) := by
  rw [← Nat.pow_succ', Nat.succ_eq_add_one, Nat.sub_add_cancel h]

/-- The integer of a lane, by its sign bit. -/
theorem laneInt_eq {w n : Nat} (hn : n < 2 ^ w) (sgn : Bool) :
    laneInt sgn w n = if sgn = true ∧ 2 ^ w ≤ 2 * n then (n : Int) - ((2 ^ w : Nat) : Int) else n := by
  cases sgn
  · simp [laneInt, Nat.mod_eq_of_lt hn]
  · simp only [laneInt, toInt, if_true, Nat.mod_eq_of_lt hn, true_and]
    by_cases h : 2 * n < 2 ^ w
    · rw [if_pos h, if_neg (by omega)]
    · rw [if_neg h, if_pos (by omega)]

/-- The integer of a lane lies in its range. -/
theorem laneInt_range {w n : Nat} (hw : 1 ≤ w) (hn : n < 2 ^ w) (sgn : Bool) : laneMin sgn w ≤ laneInt sgn w n ∧ laneInt sgn w n ≤ laneMax sgn w := by
  have h2 := two_pow_pred hw
  rw [laneInt_eq hn]
  cases sgn <;> simp only [laneMin, laneMax, if_true, true_and, false_and, if_false, Bool.false_eq_true] <;> (try split) <;> omega

/-- An integer in the range of a lane is kept by its low bits. -/
theorem laneInt_wrapInt {w : Nat} (hw : 1 ≤ w) {sgn : Bool} {x : Int} (h1 : laneMin sgn w ≤ x) (h2 : x ≤ laneMax sgn w) :
    laneInt sgn w (wrapInt w x) = x := by
  have hp := two_pow_pred hw
  have hlt := wrapInt_lt w x
  have hc := wrapInt_cast w x
  rw [laneInt_eq hlt]
  cases sgn
  · simp only [laneMin, laneMax, Bool.false_eq_true, if_false, false_and] at h1 h2 ⊢
    rw [hc, Int.emod_eq_of_lt h1 (by omega)]
  · simp only [laneMin, laneMax, if_true, true_and] at h1 h2 ⊢
    by_cases hx : 0 ≤ x
    · rw [Int.emod_eq_of_lt hx (by omega)] at hc
      rw [if_neg (by omega), hc]
    · rw [← Int.add_emod_right, Int.emod_eq_of_lt (by omega) (by omega)] at hc
      rw [if_pos (by omega), hc]
      omega

/-- Lanes with the same integer are the same. -/
theorem laneInt_inj {w m n : Nat} (hm : m < 2 ^ w) (hn : n < 2 ^ w) (sgn : Bool) : laneInt sgn w m = laneInt sgn w n ↔ m = n := by
  rw [laneInt_eq hm, laneInt_eq hn]
  constructor
  · intro h
    split at h <;> split at h <;> omega
  · rintro rfl; rfl

/-- A lane takes an exact result wrapped or saturated. -/
theorem laneHolds_satLane (f : CellField) {w : Nat} (hw : 1 ≤ w) (e : Int) : laneHolds f w (satLane f.sat f.sgn w e) e := by
  have hpos := Nat.two_pow_pos (w - 1)
  have hp := two_pow_pred hw
  have hrange : laneMin f.sgn w ≤ laneMax f.sgn w := by
    cases f.sgn <;> simp only [laneMin, laneMax, if_true, Bool.false_eq_true, if_false] <;> omega
  have hmod : ∀ i, ((wrapInt w i : Nat) : Int) % ((2 ^ w : Nat) : Int) = i % ((2 ^ w : Nat) : Int) := fun i => by
    rw [wrapInt_cast, Int.emod_emod]
  unfold satLane
  by_cases hlo : f.sat = true ∧ e < laneMin f.sgn w
  · rw [if_pos (by simpa using hlo)]
    obtain ⟨hs, hlt⟩ := hlo
    exact ⟨wrapInt_lt .., fun h => absurd h (by simp [hs]; omega), fun _ _ => laneInt_wrapInt hw (Int.le_refl _) hrange,
      fun _ h => absurd h (by omega)⟩
  · rw [if_neg (by simpa using hlo)]
    by_cases hhi : f.sat = true ∧ laneMax f.sgn w < e
    · rw [if_pos (by simpa using hhi)]
      obtain ⟨hs, hlt⟩ := hhi
      exact ⟨wrapInt_lt .., fun h => absurd h (by simp [hs]; omega), fun _ h => absurd h (by omega),
        fun _ _ => laneInt_wrapInt hw hrange (Int.le_refl _)⟩
    · rw [if_neg (by simpa using hhi)]
      exact ⟨wrapInt_lt .., fun _ => hmod e, fun hs h => absurd ⟨hs, h⟩ hlo, fun hs h => absurd ⟨hs, h⟩ hhi⟩

end Sys2Proof.Machine
end

section
/-!
SUPPORT. The result of an operation on lanes (R51): the word that enters the pipeline holds, in each lane, the result of the operation on that lane.
-/
namespace Sys2Proof.Machine

/-! ### The results of one lane fit the lane -/

theorem satLane_lt (sat sgn : Bool) (w : Nat) (i : Int) : satLane sat sgn w i < 2 ^ w := by
  unfold satLane
  split
  · exact wrapInt_lt ..
  · split <;> exact wrapInt_lt ..

theorem clzN_le (n w : Nat) : clzN n w ≤ w := by
  induction w with
  | zero => exact Nat.le_refl 0
  | succ w ih => unfold clzN; split <;> omega

theorem popBits_le (n w : Nat) : popBits n w ≤ w := by
  induction w with
  | zero => exact Nat.le_refl 0
  | succ w ih =>
    have hb : b2n (bitOf n w) ≤ 1 := by unfold b2n; split <;> omega
    unfold popBits
    omega

theorem brevN_lt (n w : Nat) : brevN n w < 2 ^ w := by
  induction w generalizing n with
  | zero => exact Nat.one_pos
  | succ w ih =>
    have hb : b2n (bitOf n 0) ≤ 1 := by unfold b2n; split <;> omega
    have hm : b2n (bitOf n 0) * 2 ^ w ≤ 1 * 2 ^ w := Nat.mul_le_mul_right _ hb
    have := ih (n / 2)
    rw [brevN, Nat.pow_succ]
    omega

/-- A lane rotated: its low part, moved up, and its high part, moved down. -/
theorem rol_lt {a w amt : Nat} (ha : a < 2 ^ w) (h : amt < w) : a * 2 ^ amt % 2 ^ w + a / 2 ^ (w - amt) < 2 ^ w := by
  have hw : 2 ^ w = 2 ^ amt * 2 ^ (w - amt) := by rw [← Nat.pow_add]; congr 1; omega
  have h1 : a * 2 ^ amt % 2 ^ w = 2 ^ amt * (a % 2 ^ (w - amt)) := by rw [hw, Nat.mul_comm a, Nat.mul_mod_mul_left]
  have h2 : a / 2 ^ (w - amt) < 2 ^ amt := Nat.div_lt_of_lt_mul (by rw [Nat.mul_comm, ← hw]; exact ha)
  have h3 : a % 2 ^ (w - amt) + 1 ≤ 2 ^ (w - amt) := Nat.mod_lt _ (Nat.two_pow_pos _)
  have h4 := Nat.mul_le_mul_left (2 ^ amt) h3
  rw [Nat.mul_add_one] at h4
  rw [h1]
  omega

/-- The result of every operation fits its lane. -/
theorem laneOp_lt (f : CellField) {w a b : Nat} (c cin up dup : Nat) (hw : 1 ≤ w) (ha : a < 2 ^ w) (hb : b < 2 ^ w) :
    (laneOp f w a b c cin up dup).y < 2 ^ w := by
  have hpos := Nat.two_pow_pos w
  have hlt : w < 2 ^ w := Nat.lt_two_pow_self
  unfold laneOp
  dsimp only
  split
  case h_1 => exact satLane_lt ..
  case h_2 => exact satLane_lt ..
  case h_3 => exact satLane_lt ..
  case h_4 => exact satLane_lt ..
  case h_5 => exact satLane_lt ..
  case h_6 => dsimp only; split <;> assumption
  case h_7 => dsimp only; split <;> assumption
  case h_8 => dsimp only; split <;> omega
  case h_9 => dsimp only; split <;> omega
  case h_10 => dsimp only; split <;> omega
  case h_11 => exact ha
  case h_12 => exact satLane_lt ..
  case h_13 => exact wrapInt_lt ..
  case h_14 => exact satLane_lt ..
  case h_15 => exact Nat.lt_of_le_of_lt Nat.and_le_left ha
  case h_16 => exact Nat.or_lt_two_pow ha hb
  case h_17 => exact Nat.xor_lt_two_pow ha hb
  case h_18 => exact Nat.lt_of_le_of_lt Nat.and_le_left ha
  case h_19 => dsimp only; omega
  case h_20 => exact Nat.or_lt_two_pow (Nat.lt_of_le_of_lt Nat.and_le_left ha) (Nat.lt_of_le_of_lt Nat.and_le_left hb)
  case h_21 => exact Nat.mod_lt _ hpos
  case h_22 => exact Nat.lt_of_le_of_lt (Nat.div_le_self ..) ha
  case h_23 => exact wrapInt_lt ..
  case h_24 => exact rol_lt ha (Nat.mod_lt _ hw)
  case h_25 => exact Nat.lt_of_le_of_lt (clzN_le ..) hlt
  case h_26 => exact Nat.lt_of_le_of_lt (popBits_le ..) hlt
  case h_27 => exact brevN_lt ..
  case h_28 => exact hpos

/-! ### The word -/

/-- The carry that enters lane 0 of an operation (R68): none but for ADD and SUB. -/
def laneCarry (ti : Tile) (gr : Grove) (n : Nat) (f : CellField) : Nat :=
  if f.opcode = 1 ∨ f.opcode = 2 then carryIn ti gr n f else 0

/-- The word of an operation on lanes without an upset. -/
theorem laneFlight_outWord (ti : Tile) (gr : Grove) (n now : Nat) (f : CellField) (a b c : Nat) (p : Bool) :
    (laneFlight ti gr n now f {} a b c p).outWord =
      some (twordP p (BitVec.ofNat 32 (wordOf f.lane ((aluLanes f a b c (laneCarry ti gr n f) 0 0).map (fun l => l.y))))) := by
  have hz : ∀ m, (0#32 : BitVec 32).toNat &&& m = 0 := fun m => Nat.zero_and m
  simp only [laneFlight, InFlight.outWord, hz, Nat.xor_zero]
  rfl

/-- One lane of an operation's result, as the datapath makes it of the lanes of its operands. -/
def laneY (ti : Tile) (gr : Grove) (n : Nat) (f : CellField) (a b c : Nat) (l : Nat × Nat) : Nat :=
  (laneOp f l.2 (laneOf a l.1 l.2) (laneOf b l.1 l.2) (laneOf c l.1 l.2) (if l.1 = 0 then laneCarry ti gr n f else 0) 0 0).y

/-- The word that enters the pipeline holds each lane's result; it is poison when an operand was. -/
theorem laneFlight_lanes (ti : Tile) (gr : Grove) (n now : Nat) (f : CellField) (a b c : Nat) (p : Bool) (hf : f.lane ≤ 2) (hs : f.opcode ≠ 0x2C) :
    ∃ word, (laneFlight ti gr n now f {} a b c p).outWord = some word ∧ TWord.isPoison word = p ∧
      ∀ l ∈ lanesOf f.lane, laneOf (TWord.data word).toNat l.1 l.2 = laneY ti gr n f a b c l := by
  have hls : (aluLanes f a b c (laneCarry ti gr n f) 0 0).map (fun l => l.y) = (lanesOf f.lane).map (laneY ti gr n f a b c) := by
    rw [aluLanes, if_neg hs, List.map_map]
    refine List.map_congr_left fun l _ => ?_
    have h0 : laneOf 0 l.1 l.2 = 0 := by simp [laneOf, bitsOf]
    simp only [Function.comp, laneY, h0]
  have hlt : ∀ l ∈ lanesOf f.lane, laneY ti gr n f a b c l < 2 ^ l.2 := fun l hl =>
    laneOp_lt f _ _ _ _ (Nat.le_trans (by decide) (lanesOf_inside hl).1) (laneOf_lt ..) (laneOf_lt ..)
  obtain ⟨hw, hl⟩ := holdsLanes hf hlt
  refine ⟨_, laneFlight_outWord .., isPoison_twordP .., ?_⟩
  rw [data_twordP, hls, BitVec.toNat_ofNat, Nat.mod_eq_of_lt hw]
  exact hl

/-! ### Arithmetic and compare -/

/-- A product of two numbers of at most `k` in size is at most `k²` in size. -/
theorem mul_size {k : Nat} {x y : Int} (hx1 : -(k : Int) ≤ x) (hx2 : x ≤ k) (hy1 : -(k : Int) ≤ y) (hy2 : y ≤ k) :
    -((k : Int) * k) ≤ x * y ∧ x * y ≤ (k : Int) * k := by
  have h : (x * y).natAbs ≤ k * k := Int.natAbs_mul x y ▸ Nat.mul_le_mul (by omega) (by omega)
  have hc : ((k * k : Nat) : Int) = (k : Int) * k := Int.natCast_mul k k
  omega

/-- The high half of a product lies in a lane's range. -/
theorem mulh_range {w : Nat} (hw : 1 ≤ w) (sgn : Bool) {a b : Nat} (ha : a < 2 ^ w) (hb : b < 2 ^ w) :
    laneMin sgn w ≤ laneInt sgn w a * laneInt sgn w b / ((2 ^ w : Nat) : Int) ∧
      laneInt sgn w a * laneInt sgn w b / ((2 ^ w : Nat) : Int) ≤ laneMax sgn w := by
  have hp : (0 : Int) < ((2 ^ w : Nat) : Int) := by exact_mod_cast Nat.two_pow_pos w
  obtain ⟨ha1, ha2⟩ := laneInt_range hw ha sgn
  obtain ⟨hb1, hb2⟩ := laneInt_range hw hb sgn
  generalize laneInt sgn w a = A at *
  generalize laneInt sgn w b = B at *
  have hlt : A * B < (laneMax sgn w + 1) * ((2 ^ w : Nat) : Int) → A * B / ((2 ^ w : Nat) : Int) ≤ laneMax sgn w :=
    fun h => Int.le_of_lt_add_one (Int.ediv_lt_of_lt_mul hp h)
  rw [Int.le_ediv_iff_mul_le hp]
  cases sgn
  · simp only [laneMin, laneMax, Bool.false_eq_true, if_false] at *
    have h1 := Int.mul_le_mul ha2 (Int.le_trans hb2 (Int.sub_le_self _ (by decide))) hb1 (Int.le_trans ha1 ha2)
    have h2 := Int.mul_lt_mul_of_pos_right (Int.lt_succ (((2 ^ w : Nat) : Int) - 1)) hp
    exact ⟨by rw [Int.zero_mul]; exact Int.mul_nonneg ha1 hb1, hlt (Int.lt_of_le_of_lt h1 h2)⟩
  · simp only [laneMin, laneMax, if_true] at *
    have hh : 0 < 2 ^ (w - 1) := Nat.two_pow_pos (w - 1)
    have h2 : ((2 ^ w : Nat) : Int) = 2 * ((2 ^ (w - 1) : Nat) : Int) := by exact_mod_cast two_pow_pred hw
    rw [h2] at hlt ⊢
    generalize 2 ^ (w - 1) = k at *
    obtain ⟨hlo, hhi⟩ := mul_size (k := k) ha1 (by omega) hb1 (by omega)
    have hk : (0 : Int) < (k : Int) * k := Int.mul_pos (by omega) (by omega)
    rw [Int.sub_add_cancel, Int.mul_left_comm] at hlt
    rw [Int.neg_mul, Int.mul_left_comm]
    exact ⟨by omega, hlt (by omega)⟩

/-- The lane of a compare. -/
theorem compare_lane {m : Nat} (p : Prop) [Decidable p] (q : Bool) (h : q = true ↔ p) : (if q then m - 1 else 0) = if p then m - 1 else 0 := by
  by_cases hp : p
  · rw [if_pos hp, if_pos (h.2 hp)]
  · rw [if_neg hp, if_neg (fun hq => hp (h.1 hq))]

/-- A mask selects bit by bit. -/
theorem testBit_select {w a b c i : Nat} (hc : c < 2 ^ w) (hi : i < w) :
    ((a &&& c) ||| (b &&& (2 ^ w - 1 - c))).testBit i = if c.testBit i then a.testBit i else b.testBit i := by
  rw [Nat.testBit_or, Nat.testBit_and, Nat.testBit_and, Nat.sub_sub, Nat.add_comm 1, Nat.testBit_two_pow_sub_succ hc]
  cases c.testBit i <;> simp [hi]

/-- A lane of the operands' zero is 0. -/
theorem laneInt_zero (sgn : Bool) (w : Nat) : laneInt sgn w 0 = 0 := by
  cases sgn <;> simp [laneInt, toInt]

/-- Settles O13: the word holds the lanes; each opcode's lane is its exact result, wrapped or saturated, or the operand it selects. -/
theorem cellArithmeticAndCompareLanes : Obligations.CellArithmeticAndCompareLanes := by
  refine ⟨fun ti gr n now f a b c p hf => ?_, fun ti gr n now f a b c p hf => ?_⟩
  · by_cases hs : f.opcode = 0x2C
    · exact ⟨_, laneFlight_outWord .., by rw [isPoison_twordP], fun l hl => by simp [hs]⟩
    obtain ⟨word, hword, hpoison, hlanes⟩ := laneFlight_lanes ti gr n now f a b c p hf hs
    refine ⟨word, hword, by rw [hpoison], fun l hl => ?_⟩
    have hw : 1 ≤ l.2 := Nat.le_trans (by decide) (lanesOf_inside hl).1
    have hcin : ((if l.1 = 0 then carryIn ti gr n f else 0 : Nat) : Int) = if l.1 = 0 then ((carryIn ti gr n f : Nat) : Int) else 0 := by split <;> rfl
    dsimp only
    rw [hlanes l hl]
    refine ⟨fun h => ?_, fun h => ?_, fun h => ?_, fun h => ?_, fun h => ?_, fun h => ?_, fun h => ?_, fun h => ?_⟩ <;>
      simp only [laneY, laneOp, laneAdd, laneSub, laneCarry, h, true_or, or_true, if_true]
    · rw [← hcin]
      exact laneHolds_satLane f hw _
    · rw [← hcin]
      exact laneHolds_satLane f hw _
    · rw [laneInt_zero, Int.zero_sub, Int.natCast_zero, Int.sub_zero]
      exact laneHolds_satLane f hw _
    · exact laneHolds_satLane f hw _
    · exact laneHolds_satLane f hw _
    · exact laneHolds_satLane f hw _
    · obtain ⟨h1, h2⟩ := mulh_range hw f.sgn (laneOf_lt a l.1 l.2) (laneOf_lt b l.1 l.2)
      exact laneInt_wrapInt hw h1 h2
    · exact laneHolds_satLane f hw _
  · by_cases hs : f.opcode = 0x2C
    · exact ⟨_, laneFlight_outWord .., fun l hl => by simp [hs]⟩
    obtain ⟨word, hword, -, hlanes⟩ := laneFlight_lanes ti gr n now f a b c p hf hs
    refine ⟨word, hword, fun l hl => ?_⟩
    have ha := laneOf_lt a l.1 l.2
    have hb := laneOf_lt b l.1 l.2
    have hc := laneOf_lt c l.1 l.2
    dsimp only
    rw [hlanes l hl]
    refine ⟨fun h => ?_, fun h => ?_, fun h => ?_, fun h => ?_, fun h => ?_, fun h => ?_, fun h i hi => ?_⟩ <;> simp only [laneY, laneOp, h]
    · by_cases hlt : laneInt f.sgn l.2 (laneOf a l.1 l.2) < laneInt f.sgn l.2 (laneOf b l.1 l.2)
      · rw [if_pos (decide_eq_true hlt), Int.min_eq_left (Int.le_of_lt hlt)]
      · rw [if_neg (by simpa using hlt), Int.min_eq_right (Int.not_lt.1 hlt)]
    · by_cases hlt : laneInt f.sgn l.2 (laneOf a l.1 l.2) < laneInt f.sgn l.2 (laneOf b l.1 l.2)
      · rw [if_pos (decide_eq_true hlt), Int.max_eq_right (Int.le_of_lt hlt)]
      · rw [if_neg (by simpa using hlt), Int.max_eq_left (Int.not_lt.1 hlt)]
    · simp only [laneInt_inj ha hb]
    · simp only [decide_eq_true_eq]
    · refine compare_lane _ _ ?_
      rw [Bool.or_eq_true, decide_eq_true_eq, beq_iff_eq, ← laneInt_inj ha hb f.sgn]
      exact Int.le_iff_lt_or_eq.symm
    · simp only [bitOf_eq_testBit]
      exact testBit_select hc hi

end Sys2Proof.Machine
end

section
/-!
SUPPORT. The bits of a lane (R51, R54): logic, shifts, counts, the reversal, and the shuffle of bytes.
-/
namespace Sys2Proof.Machine

/-! ### Logic -/

/-- The complement of a lane, bit by bit. -/
theorem testBit_complement {w a i : Nat} (ha : a < 2 ^ w) (hi : i < w) : (2 ^ w - 1 - a).testBit i = !a.testBit i := by
  rw [Nat.sub_sub, Nat.add_comm 1, Nat.testBit_two_pow_sub_succ ha]
  simp [hi]

/-! ### Shifts -/

/-- The integer of a lane shifted right stays in the range of the lane. -/
theorem laneInt_div_range {w x : Nat} (hw : 1 ≤ w) (hx : x < 2 ^ w) (amt : Nat) :
    laneMin true w ≤ toInt w x / ((2 ^ amt : Nat) : Int) ∧ toInt w x / ((2 ^ amt : Nat) : Int) ≤ laneMax true w := by
  have hp : (0 : Int) < ((2 ^ amt : Nat) : Int) := by exact_mod_cast Nat.two_pow_pos amt
  have hh : (0 : Int) < ((2 ^ (w - 1) : Nat) : Int) := by exact_mod_cast Nat.two_pow_pos (w - 1)
  obtain ⟨h1, h2⟩ : laneMin true w ≤ toInt w x ∧ toInt w x ≤ laneMax true w := laneInt_range hw hx true
  simp only [laneMin, laneMax, if_true] at *
  generalize toInt w x = X at *
  generalize ((2 ^ amt : Nat) : Int) = p at *
  generalize ((2 ^ (w - 1) : Nat) : Int) = k at *
  have hk : k * 1 ≤ k * p := Int.mul_le_mul_of_nonneg_left hp (Int.le_of_lt hh)
  rw [Int.mul_one] at hk
  refine ⟨(Int.le_ediv_iff_mul_le hp).2 (by rw [Int.neg_mul]; omega), ?_⟩
  exact Int.le_sub_one_of_lt (Int.ediv_lt_of_lt_mul hp (by omega))

/-- An arithmetic shift divides, toward minus infinity. -/
theorem toInt_sra {w x : Nat} (hw : 1 ≤ w) (hx : x < 2 ^ w) (amt : Nat) :
    toInt w (wrapInt w (toInt w x / ((2 ^ amt : Nat) : Int))) = toInt w x / ((2 ^ amt : Nat) : Int) := by
  obtain ⟨h1, h2⟩ := laneInt_div_range hw hx amt
  exact laneInt_wrapInt hw h1 h2

/-- A rotation moves bit i to bit i + amt, around the lane. -/
theorem testBit_rol {w a amt i : Nat} (ha : a < 2 ^ w) (h : amt < w) (hi : i < w) :
    (a * 2 ^ amt % 2 ^ w + a / 2 ^ (w - amt)).testBit ((i + amt) % w) = a.testBit i := by
  have hw : 2 ^ w = 2 ^ amt * 2 ^ (w - amt) := by rw [← Nat.pow_add]; congr 1; omega
  have h1 : a * 2 ^ amt % 2 ^ w = 2 ^ amt * (a % 2 ^ (w - amt)) := by rw [hw, Nat.mul_comm a, Nat.mul_mod_mul_left]
  have h2 : a / 2 ^ (w - amt) < 2 ^ amt := Nat.div_lt_of_lt_mul (by rw [Nat.mul_comm, ← hw]; exact ha)
  rw [h1, Nat.testBit_two_pow_mul_add _ h2]
  by_cases hlow : i + amt < w
  · rw [Nat.mod_eq_of_lt hlow, if_neg (by omega), Nat.add_sub_cancel, Nat.testBit_mod_two_pow]
    simp [show i < w - amt by omega]
  · rw [show (i + amt) % w = i + amt - w by rw [Nat.mod_eq_sub_mod (by omega), Nat.mod_eq_of_lt (by omega)], if_pos (by omega),
      Nat.testBit_div_two_pow]
    congr 1
    omega

/-! ### Counts and the reversal -/

/-- Leading zeros: every bit above is 0, and the next one is 1. -/
theorem clzN_spec (n w : Nat) : (∀ i < w, w - clzN n w ≤ i → n.testBit i = false) ∧ (clzN n w < w → n.testBit (w - 1 - clzN n w) = true) := by
  induction w with
  | zero => exact ⟨fun i hi => absurd hi (Nat.not_lt_zero i), fun h => absurd h (Nat.not_lt_zero _)⟩
  | succ w ih =>
    obtain ⟨ih1, ih2⟩ := ih
    have hle := clzN_le n w
    cases hb : n.testBit w with
    | true =>
      have he : clzN n (w + 1) = 0 := by rw [clzN, bitOf_eq_testBit, hb]; rfl
      rw [he]
      exact ⟨fun i hi h => by omega, fun _ => hb⟩
    | false =>
      have he : clzN n (w + 1) = 1 + clzN n w := by rw [clzN, bitOf_eq_testBit, hb]; rfl
      rw [he]
      refine ⟨fun i hi h => ?_, fun h => ?_⟩
      · by_cases hiw : i = w
        · rw [hiw, hb]
        · exact ih1 i (by omega) (by omega)
      · rw [← ih2 (by omega)]
        congr 1
        omega

/-- The count of set bits. -/
theorem popBits_eq (n w : Nat) : popBits n w = ((List.range w).filter (fun i => bitOf n i)).length := by
  induction w with
  | zero => rfl
  | succ w ih =>
    rw [popBits, ih, List.range_succ, List.filter_append, List.length_append]
    cases h : bitOf n w <;> simp [b2n, h]

/-- Bit i of the reversal is the bit as far from the other end. -/
theorem testBit_brevN (n w i : Nat) (hi : i < w) : (brevN n w).testBit i = n.testBit (w - 1 - i) := by
  induction w generalizing n i with
  | zero => exact absurd hi (Nat.not_lt_zero i)
  | succ w ih =>
    rw [brevN, Nat.add_comm, Nat.mul_comm, Nat.testBit_two_pow_mul_add _ (brevN_lt ..)]
    by_cases h : i < w
    · rw [if_pos h, ih _ _ h, Nat.testBit_div_two]
      congr 1
      omega
    · rw [if_neg h, show i - w = 0 by omega, show w + 1 - 1 - i = 0 by omega, bitOf_eq_testBit]
      cases n.testBit 0 <;> rfl

/-! ### The shuffle -/

/-- Byte k of a shuffle (R54). -/
def shufByte (f : CellField) (a b k : Nat) : Nat :=
  laneOf (if bitsOf f.shuf (3 * k) 3 < 4 then a else b) (8 * (bitsOf f.shuf (3 * k) 3 % 4)) 8

/-- The shuffled word is the word of its four bytes. -/
theorem shufWord_eq (f : CellField) (a b : Nat) : shufWord f a b = wordOf 2 ((lanesOf 2).map (fun l => shufByte f a b (l.1 / 8))) := by
  have h : ∀ (ls : List Nat) (x : Nat), ls.foldl (fun acc k => acc + shufByte f a b k * 2 ^ (8 * k)) x =
      x + (ls.map (fun k => shufByte f a b k * 2 ^ (8 * k))).sum := by
    intro ls
    induction ls with
    | nil => intro x; rfl
    | cons k ls ih => intro x; rw [List.foldl_cons, ih, List.map_cons, List.sum_cons, Nat.add_assoc]
  have hl : lanesOf 2 = (List.range 4).map (fun k => (8 * k, 8)) := rfl
  have hs : shufWord f a b = (List.range 4).foldl (fun acc k => acc + shufByte f a b k * 2 ^ (8 * k)) 0 := rfl
  rw [wordOf_eq, hs, h, Nat.zero_add, hl, List.map_map]
  refine congrArg List.sum (List.map_congr_left fun k _ => ?_)
  simp only [Function.comp, Nat.mul_div_cancel_left k (by decide : 0 < 8)]

/-- The shuffled word holds the bytes chosen. -/
theorem laneOf_shufWord (f : CellField) (a b : Nat) : shufWord f a b < 2 ^ 32 ∧ ∀ k < 4, laneOf (shufWord f a b) (8 * k) 8 = shufByte f a b k := by
  obtain ⟨hlt, hl⟩ := holdsLanes (mode := 2) (by decide) (g := fun l => shufByte f a b (l.1 / 8)) fun l hl => by
    have h8 : l.2 = 8 := by revert l; decide
    rw [h8]
    exact laneOf_lt ..
  rw [shufWord_eq]
  refine ⟨hlt, fun k hk => ?_⟩
  have hmem : (8 * k, 8) ∈ lanesOf 2 := by
    have : k = 0 ∨ k = 1 ∨ k = 2 ∨ k = 3 := by omega
    obtain rfl | rfl | rfl | rfl := this <;> decide
  rw [hl _ hmem]
  exact congrArg (shufByte f a b) (Nat.mul_div_cancel_left k (by decide : 0 < 8))

/-- The word of a shuffle is the shuffled word. -/
theorem wordOf_shuffle {f : CellField} (hs : f.opcode = 0x2C) (h0 : f.lane = 0) (a b c cin up dup : Nat) :
    wordOf f.lane ((aluLanes f a b c cin up dup).map (fun l => l.y)) = shufWord f a b := by
  rw [aluLanes, if_pos hs, h0]
  exact (wordOf_eq 0 fun _ => shufWord f a b).trans (by rw [lanesOf, List.map_cons, List.map_nil, List.sum_singleton, Nat.pow_zero, Nat.mul_one])

/-- The byte of a shuffle by the operand that it comes from. -/
theorem shufByte_eq (f : CellField) (a b k : Nat) : shufByte f a b k =
    if bitsOf f.shuf (3 * k) 3 < 4 then laneOf a (8 * bitsOf f.shuf (3 * k) 3) 8 else laneOf b (8 * (bitsOf f.shuf (3 * k) 3 - 4)) 8 := by
  have hs : bitsOf f.shuf (3 * k) 3 < 8 := Nat.mod_lt _ (by decide)
  unfold shufByte
  split
  · next h => rw [Nat.mod_eq_of_lt h]
  · next h => rw [show bitsOf f.shuf (3 * k) 3 % 4 = bitsOf f.shuf (3 * k) 3 - 4 by omega]

/-! ### R51, R54 -/

/-- Settles O14: the shuffled word by its four bytes; every other opcode lane by lane, each lane bit by bit. -/
theorem cellBitLanes : Obligations.CellBitLanes := by
  intro ti gr n now f a b c p hf
  by_cases hs : f.opcode = 0x2C
  · refine ⟨_, laneFlight_outWord .., fun _ h0 k hk => ?_, fun l hl => by simp [hs]⟩
    obtain ⟨hlt, hbyte⟩ := laneOf_shufWord f a b
    rw [data_twordP, wordOf_shuffle hs h0, BitVec.toNat_ofNat, Nat.mod_eq_of_lt hlt, hbyte k hk, shufByte_eq]
  obtain ⟨word, hword, -, hlanes⟩ := laneFlight_lanes ti gr n now f a b c p hf hs
  refine ⟨word, hword, fun h => absurd h hs, fun l hl => ?_⟩
  have hw : 1 ≤ l.2 := Nat.le_trans (by decide) (lanesOf_inside hl).1
  have ha := laneOf_lt a l.1 l.2
  have hb := laneOf_lt b l.1 l.2
  dsimp only
  rw [hlanes l hl]
  refine ⟨fun h i hi => ?_, fun h i hi => ?_, fun h i hi => ?_, fun h i hi => ?_, fun h i hi => ?_, fun h => ?_, fun h => ?_, fun h => ?_,
    fun h i hi => ?_, fun h => ?_, fun h => ?_, fun h i hi => ?_⟩ <;> simp only [laneY, laneOp, h, bitOf_eq_testBit]
  · exact Nat.testBit_and ..
  · exact Nat.testBit_or ..
  · exact Nat.testBit_xor ..
  · rw [Nat.testBit_and, testBit_complement hb hi]
  · exact testBit_complement ha hi
  · exact toInt_sra hw ha _
  · exact testBit_rol ha (Nat.mod_lt _ hw) hi
  · obtain ⟨h0, h1⟩ := clzN_spec (laneOf a l.1 l.2) l.2
    exact ⟨clzN_le .., h0, h1⟩
  · simpa only [bitOf_eq_testBit] using popBits_eq (laneOf a l.1 l.2) l.2
  · exact testBit_brevN _ _ _ hi

end Sys2Proof.Machine
end

section
/-!
SUPPORT. A cell that is ready fires at once: the entry that an accumulator operation makes (R64, R66), and the access or the trap of an operation on
the scratchpad (R54, R133).
-/
namespace Sys2Proof.Machine

/-- The field of a cell that is ready holds the operation. -/
theorem cellReady_opcode {op t g n : Nat} {d : Dev} (h : cellReady op t g n d = true) : (cellF t g n d).opcode = op := by
  obtain ⟨-, -, -, -, -, hop, -⟩ := (cellReady_iff op t g n d).1 h
  exact hop

/-- A ready cell with sound operands enters what its operation makes of them, for the operations that make no access. -/
theorem cellFire_op {op t g n : Nat} {d : Dev} (h : cellReady op t g n d = true) (hs : cellSound t g n d = true) (hop : op < 0x40 ∨ 0x44 ≤ op) :
    cellFire op t g n {} d = cellFired t g n (opFlight (d.chip.tile t) (d.chip.grove t g) n (d.chip.grove t g).cycle (cellF t g n d) {}
      (cellA t g n d) (cellB t g n d) (cellC t g n d) (cellPoison t g n d)) d := by
  rw [cellFire_ready op t g n {} d rfl rfl h]
  exact fireNow_op t g n d hs (by rw [cellReady_opcode h]; exact hop)

/-- The same for a command of a cell that has no upset, when the entry is known. -/
theorem cell_does {i : Instr} {op t g n : Nat} {e : Dev → Option InFlight} (hx : ∀ s, exec i s = run (cellFire op t g n {}) s)
    (hop : op < 0x40 ∨ 0x44 ≤ op)
    (he : ∀ d, (cellF t g n d).opcode = op → opFlight (d.chip.tile t) (d.chip.grove t g) n (d.chip.grove t g).cycle (cellF t g n d) {}
      (cellA t g n d) (cellB t g n d) (cellC t g n d) (cellPoison t g n d) = e d) :
    Does i (fun d => cellReady op t g n d = true ∧ cellSound t g n d = true) (fun d => cellFired t g n (e d) d) :=
  does_of_run hx fun d ⟨hr, hs⟩ => by rw [cellFire_op hr hs hop, he d (cellReady_opcode hr)]

/-! ### Accumulators -/

/-- The residue of a 64-bit word is below 7. -/
theorem res64_lt (v : BitVec 64) : (res64 v).toNat < 7 := by
  have h := Nat.mod_lt v.toNat (show 0 < 7 by decide)
  rw [res64, BitVec.toNat_ofNat]
  omega

theorem res64_ne (v : BitVec 64) : res64 v ≠ 7#3 := by
  intro h
  have h1 := res64_lt v
  rw [h] at h1
  exact absurd h1 (by decide)

theorem toNat_res64 (v : BitVec 64) : (res64 v).toNat = v.toNat % 7 := by
  have h := Nat.mod_lt v.toNat (show 0 < 7 by decide)
  rw [res64, BitVec.toNat_ofNat]
  omega

/-- What a write leaves of an accumulator, given the value and whether it is poison: its residue, and its poison, as R64 and R66 say. -/
theorem accRes_of_poison {b : Bool} {v : BitVec 64} {n : Nat} (hn : b = false → n = (res64 v).toNat) :
    let r := if b then 7#3 else res64 v
    (r = 7#3 ∨ (r = res64 v ∧ r.toNat < 7)) ∧ (r = 7#3 ↔ b = true) ∧ (r ≠ 7#3 → n = r.toNat) := by
  cases b with
  | true => simp
  | false =>
    refine ⟨.inr ⟨rfl, res64_lt v⟩, ?_, fun _ => hn rfl⟩
    simp [res64_ne v]

/-- The residue of a sum is predicted from the residues of its terms and its carry (2^64 leaves 2 modulo 7). -/
theorem sum_residue (a s : BitVec 64) :
    mod7 (((a.toNat % 7 : Nat) : Int) + ((s.toNat % 7 : Nat) : Int) - 2 * (b2n (decide (2 ^ 64 ≤ a.toNat + s.toNat)) : Int)) = (a + s).toNat % 7 := by
  have ha := a.isLt
  have hs := s.isLt
  rw [BitVec.toNat_add, mod7, b2n]
  by_cases h : 2 ^ 64 ≤ a.toNat + s.toNat
  · have hm : (a.toNat + s.toNat) % 2 ^ 64 = a.toNat + s.toNat - 2 ^ 64 := by omega
    simp only [h, decide_true, if_true, hm]
    omega
  · simp only [h, decide_false, Bool.false_eq_true, if_false, Nat.mod_eq_of_lt (Nat.lt_of_not_le h)]
    omega

/-- The residue of a difference is predicted from the residues of its terms and its borrow. -/
theorem diff_residue (a s : BitVec 64) :
    mod7 (((a.toNat % 7 : Nat) : Int) - ((s.toNat % 7 : Nat) : Int) + 2 * (b2n (decide (a.toNat < s.toNat)) : Int)) = (a - s).toNat % 7 := by
  have ha := a.isLt
  have hs := s.isLt
  rw [BitVec.toNat_sub, mod7, b2n]
  by_cases h : a.toNat < s.toNat
  · have hm : (2 ^ 64 - s.toNat + a.toNat) % 2 ^ 64 = 2 ^ 64 - s.toNat + a.toNat := Nat.mod_eq_of_lt (by omega)
    simp only [h, decide_true, if_true, hm]
    omega
  · have hm : (2 ^ 64 - s.toNat + a.toNat) % 2 ^ 64 = a.toNat - s.toNat := by omega
    simp only [h, decide_false, Bool.false_eq_true, if_false, hm]
    omega

/-- An accumulator that is not poison holds the residue of its value. -/
theorem acc_residue {a : Accu} {p : Bool} (ha : a.res = 7#3 ∨ a.res = res64 a.val) (hp : (p || a.res == 7#3) = false) : a.res.toNat = a.val.toNat % 7 := by
  simp only [Bool.or_eq_false_iff, beq_eq_false_iff_ne] at hp
  rw [ha.resolve_left hp.2, toNat_res64]

/-- What ADD leaves of the poison of the accumulator and of the word. -/
theorem poison_or (p : Bool) (r : BitVec 3) : (p || r == 7#3) = true ↔ p = true ∨ r = 7#3 := by simp

/-- Settles O15: each accumulator operation enters its write into the pipeline, and a write that lands leaves value, residue and poison as R64 and R66 say. -/
theorem cellAccumulatorOpsFire : Obligations.CellAccumulatorOpsFire := by
  unfold Obligations.CellAccumulatorOpsFire
  refine ⟨fun g n => ?_, fun a s p sgn ha => ?_⟩
  · refine ⟨?_, ?_, ?_, ?_, ?_⟩
    · exact cell_does (exec_cellMac g n {}) (by decide) fun d h => by simp only [opFlight, cleanFlight, h]
    · exact cell_does (exec_cellMsu g n {}) (by decide) fun d h => by simp only [opFlight, cleanFlight, h]
    · exact cell_does (exec_cellAccadd g n {}) (by decide) fun d h => by simp only [opFlight, cleanFlight, h]
    · exact cell_does (exec_cellAccld g n {}) (by decide) fun d h => by simp only [opFlight, cleanFlight, h]
    · exact cell_does (exec_cellAccclr g n {}) (by decide) fun d h => by simp only [opFlight, cleanFlight, h]
  · simp only [List.forall_mem_cons, List.not_mem_nil, false_imp_iff, implies_true, and_true]
    refine ⟨?_, ?_, ?_, ?_⟩
    · obtain ⟨h1, h2, h3⟩ := accRes_of_poison (b := p || a.res == 7#3) (v := a.val + s)
        fun hp => by rw [toNat_res64, ← sum_residue, ← acc_residue ha hp]
      exact ⟨rfl, h1, h2.trans (poison_or p a.res), h3, rfl, rfl⟩
    · obtain ⟨h1, h2, h3⟩ := accRes_of_poison (b := p || a.res == 7#3) (v := a.val - s)
        fun hp => by rw [toNat_res64, ← diff_residue, ← acc_residue ha hp]
      exact ⟨rfl, h1, h2.trans (poison_or p a.res), h3, rfl, rfl⟩
    · obtain ⟨h1, h2, h3⟩ := accRes_of_poison (b := p) (v := s) fun _ => (toNat_res64 s).symm
      exact ⟨rfl, h1, h2, h3, rfl, rfl⟩
    · simp [accWrite]
      decide

/-! ### The scratchpad -/

/-- The sum of a word and an immediate has the residue that is predicted of it: an address without an upset passes its check. -/
theorem sum32_residue {a b : Nat} (ha : a < 2 ^ 32) (hb : b < 2 ^ 32) :
    predAdd 32 a b 0 (decide (2 ^ 32 ≤ a + b)) = (a + b) % 2 ^ 32 % 7 := by
  by_cases h : 2 ^ 32 ≤ a + b
  · have hm : (a + b) % 2 ^ 32 = a + b - 2 ^ 32 := by omega
    simp only [predAdd, mod7, b2n, h, decide_true, if_true, hm]
    omega
  · simp only [predAdd, mod7, b2n, h, decide_false, Bool.false_eq_true, if_false, Nat.mod_eq_of_lt (Nat.lt_of_not_le h)]
    omega

/-- The address of a cell's access (R54). -/
def cellAddr (f : CellField) (a : TWord) : Nat := ((TWord.data a).toNat + (immWord f).toNat) % 2 ^ 32

/-- The data that a cell's access carries: none for a load, the second operand for the others, poison when the address is. -/
def memData (k : MemKind) (a b : TWord) : TWord :=
  match k with
  | .ld => if TWord.isPoison a then poisoned 0#32 else 0#35
  | _ => if TWord.isPoison a then poisoned (TWord.data b) else b

/-- The program index of the task that runs. -/
def Grove.pc (gr : Grove) : Nat := match gr.run with | some r => r.pc | none => 0

/-- An access inside a scratchpad that holds its data enters the pipeline, for the next cycle. -/
theorem memFlight_inside (t g n : Nat) (k : MemKind) (f : CellField) (a b : TWord) (c : Chip) (hi : cellAddr f a < 2 ^ 17)
    (hp : (c.spPwr t g (cellAddr f a)).dead = false) :
    memFlight t g n k f {} a b c = c.modGrove t g (fun gr => gr.push (cleanFlight n ((c.grove t g).cycle + 1)
      (.mem k (cellAddr f a - cellAddr f a % 4) (memData k a b) .ok (if f.wbEn then some f.wbK else none)) f)) := by
  have hx : ∀ x : Nat, x ^^^ (0#32 : BitVec 32).toNat = x := Nat.xor_zero
  have hn : ¬(2 ^ 17 ≤ cellAddr f a ∨ (c.spPwr t g (cellAddr f a)).dead = true) := by rw [hp]; simpa using hi
  unfold memFlight
  simp only [hx, if_neg hn, sum32_residue (BitVec.isLt _) (BitVec.isLt _), ← cellAddr.eq_1, if_true]
  rfl

/-- An access outside the scratchpad takes the address trap. -/
theorem memFlight_outside (t g n : Nat) (k : MemKind) (f : CellField) (a b : TWord) (c : Chip) (ho : 2 ^ 17 ≤ cellAddr f a) :
    memFlight t g n k f {} a b c = takeTrap t g .addr (c.grove t g).pc (cellAddr f a % 2 ^ 26) c := by
  have hx : ∀ x : Nat, x ^^^ (0#32 : BitVec 32).toNat = x := Nat.xor_zero
  unfold memFlight
  simp only [hx, if_pos (Or.inl ho), sum32_residue (BitVec.isLt _) (BitVec.isLt _), ← cellAddr.eq_1, if_true]
  rfl

/-- A cell that fires without a result leaves the cycle of its grove. -/
theorem cellFired_cycle (t g n : Nat) (d : Dev) : ((cellFired t g n none d).chip.grove t g).cycle = (d.chip.grove t g).cycle := by
  unfold cellFired Chip.modRun
  split <;> simp [*]

/-- It leaves the power states of the scratchpad. -/
theorem cellFired_spPwr (t g n a : Nat) (d : Dev) : (cellFired t g n none d).chip.spPwr t g a = d.chip.spPwr t g a := by
  unfold cellFired Chip.modRun Chip.spPwr
  split <;> simp [*]

/-- It leaves the program index. -/
theorem cellFired_pc (t g n : Nat) (d : Dev) : ((cellFired t g n none d).chip.grove t g).pc = (d.chip.grove t g).pc := by
  unfold cellFired Chip.modRun Grove.pc
  cases h : (d.chip.grove t g).run <;> cases hp : cellSeesPoison t g n d <;> simp [h]

/-- A cell's result goes into the pipeline behind what firing itself changes. -/
theorem cellFired_some (t g n : Nat) (x : InFlight) (d : Dev) :
    cellFired t g n (some x) d = (cellFired t g n none d).on (fun c => c.modGrove t g (fun gr => gr.push x)) := rfl

/-- The opcode of each operation that makes an access (R51). -/
def isMemOp (k : MemKind) (op : Nat) : Prop := (k = .ld ∧ op = 0x40) ∨ (k = .st ∧ op = 0x41) ∨ (k = .fadd ∧ op = 0x42) ∨ (k = .swap ∧ op = 0x43)

/-- A ready cell of which the operation is an access makes it. -/
theorem cellFire_mem {k : MemKind} {op t g n : Nat} {d : Dev} (hk : isMemOp k op) (h : cellReady op t g n d = true) (hs : cellSound t g n d = true) :
    cellFire op t g n {} d = (cellFired t g n none d).on (memFlight t g n k (cellF t g n d) {} (cellA t g n d) (cellB t g n d)) := by
  have ho := cellReady_opcode h
  rw [cellFire_ready _ t g n {} d rfl rfl h]
  exact fireNow_mem t g n k d hs (by rw [ho]; exact hk)

/-- The access of a ready cell inside a scratchpad that holds its data. -/
theorem cell_access {k : MemKind} {op t g n : Nat} {d : Dev} (hk : isMemOp k op) (h : cellReady op t g n d = true) (hs : cellSound t g n d = true)
    (hi : cellAddr (cellF t g n d) (cellA t g n d) < 2 ^ 17) (hp : (d.chip.spPwr t g (cellAddr (cellF t g n d) (cellA t g n d))).dead = false) :
    cellFire op t g n {} d = cellFired t g n (some (cleanFlight n ((d.chip.grove t g).cycle + 1)
      (.mem k (cellAddr (cellF t g n d) (cellA t g n d) - cellAddr (cellF t g n d) (cellA t g n d) % 4) (memData k (cellA t g n d) (cellB t g n d)) .ok
        (if (cellF t g n d).wbEn then some (cellF t g n d).wbK else none)) (cellF t g n d))) d := by
  rw [cellFire_mem hk h hs, cellFired_some, Dev.on, memFlight_inside _ _ _ _ _ _ _ _ hi (by rw [cellFired_spPwr]; exact hp), cellFired_cycle]
  rfl

/-- The trap of a ready cell whose access lies outside the scratchpad. -/
theorem cell_addr_trap {k : MemKind} {op t g n : Nat} {d : Dev} (hk : isMemOp k op) (h : cellReady op t g n d = true) (hs : cellSound t g n d = true)
    (ho : 2 ^ 17 ≤ cellAddr (cellF t g n d) (cellA t g n d)) :
    cellFire op t g n {} d =
      (cellFired t g n none d).on (takeTrap t g .addr (d.chip.grove t g).pc (cellAddr (cellF t g n d) (cellA t g n d) % 2 ^ 26)) := by
  rw [cellFire_mem hk h hs, Dev.on, memFlight_outside _ _ _ _ _ _ _ _ ho, cellFired_pc]
  rfl

/-- Settles O17: the four operations on the scratchpad enter their access, or take the address trap. -/
theorem cellMemoryOpsFireOrTrap : Obligations.CellMemoryOpsFireOrTrap := by
  unfold Obligations.CellMemoryOpsFireOrTrap
  refine ⟨fun g n => ⟨?_, ?_, ?_, ?_⟩, fun g n => ?_⟩
  · exact does_of_run (exec_cellLd g n {}) fun d ⟨h, hs, hi, hp⟩ => cell_access (by simp [isMemOp]) h hs hi hp
  · exact does_of_run (exec_cellSt g n {}) fun d ⟨h, hs, hi, hp⟩ => cell_access (by simp [isMemOp]) h hs hi hp
  · exact does_of_run (exec_cellFadd g n {}) fun d ⟨h, hs, hi, hp⟩ => cell_access (by simp [isMemOp]) h hs hi hp
  · exact does_of_run (exec_cellSwap g n {}) fun d ⟨h, hs, hi, hp⟩ => cell_access (by simp [isMemOp]) h hs hi hp
  · simp only [List.forall_mem_cons, List.not_mem_nil, false_imp_iff, implies_true, and_true]
    refine ⟨?_, ?_, ?_, ?_⟩
    · exact does_of_run (exec_cellLd g n {}) fun d ⟨h, hs, ho⟩ => cell_addr_trap (k := .ld) (by simp [isMemOp]) h hs ho
    · exact does_of_run (exec_cellSt g n {}) fun d ⟨h, hs, ho⟩ => cell_addr_trap (k := .st) (by simp [isMemOp]) h hs ho
    · exact does_of_run (exec_cellFadd g n {}) fun d ⟨h, hs, ho⟩ => cell_addr_trap (k := .fadd) (by simp [isMemOp]) h hs ho
    · exact does_of_run (exec_cellSwap g n {}) fun d ⟨h, hs, ho⟩ => cell_addr_trap (k := .swap) (by simp [isMemOp]) h hs ho

end Sys2Proof.Machine
end

section
/-!
SUPPORT. The sequencer issues an instruction: what each group of instructions does once it is ready, said of the device that has issued it (R121).
-/
namespace Sys2Proof.Machine

/-- A command of the sequencer does what its instruction does, on the device that has issued it. -/
theorem seq_does {i : Instr} {op t g : Nat} {hyp : Dev → Prop} {eff : Dev → Dev} (hx : ∀ s, exec i s = run (seqIssue op t g {}) s)
    (h : ∀ d r, (d.chip.grove t g).run = some r → iOp (seqWord t g d) = op → hyp d →
      seqEffect t g (seqWord t g d) {} (seqA t g d) (seqB t g d) (seqIssued t g d) = eff d) :
    Does i (fun d => seqReady op t g d = true ∧ hyp d) eff :=
  does_of_run hx fun d ⟨hr, hh⟩ => by
    obtain ⟨r, hrun, -, -, -, -, -, ho, -⟩ := (seqReady_iff op t g d).1 hr
    have hw : seqWord t g d = imgInstr (d.chip.grove t g).runImg r.pc := by simp [seqWord, hrun]
    rw [seqIssue_ready op t g d hr]
    exact h d r hrun (by rw [hw]; exact ho) hh

/-- The task whose sequencer has issued. -/
def issuedRun (r : Run) : Run := { r with started := true }

/-- The grove whose sequencer has issued. -/
def issuedGrove (r : Run) (gr : Grove) : Grove := { gr with issued := true, resumed := false, run := some (issuedRun r) }

/-- Issuing changes nothing of the grove but that it has issued and its task has started. -/
theorem seqIssued_grove {t g : Nat} {d : Dev} {r : Run} (hr : (d.chip.grove t g).run = some r) :
    (seqIssued t g d).chip.grove t g = issuedGrove r (d.chip.grove t g) := by
  simp [seqIssued, Chip.modRun, issuedGrove, issuedRun, hr]

/-- The task of a grove that has issued. -/
theorem seqIssued_run {t g : Nat} {d : Dev} {r : Run} (hr : (d.chip.grove t g).run = some r) :
    ((seqIssued t g d).chip.grove t g).run = some (issuedRun r) := by
  rw [seqIssued_grove hr]; rfl

theorem runOf_eq {t g : Nat} {d : Dev} {r : Run} (hr : (d.chip.grove t g).run = some r) : runOf t g d = r := by
  simp [runOf, hr]

theorem aluCaught_none (k : ChkClass) (y : Nat) : aluCaught k y (0#32 : BitVec 32).toNat false = false := by
  cases k <;> simp [aluCaught]

/-- An ALU instruction. -/
theorem seqEffect_alu {t g : Nat} {w : Word} {a b : TWord} {d : Dev} {r : Run} {ub : Bool} {m : Nat} (hr : (d.chip.grove t g).run = some r)
    (hlo : 1 ≤ iOp w) (hhi : iOp w ≤ 0x0D) (hf : iForm (iOp w) = some (true, true, ub, m)) (ha : TWord.bad a = false) (hb : (ub && TWord.bad b) = false) :
    seqEffect t g w {} a b d = d.on (fun c => goNext t g (Chip.modGrove (if TWord.isPoison a || (ub && TWord.isPoison b) then
        c.modRun t g (fun r => { r with poisonSeen := true }) else c) t g (fun gr => gr.setW (iD w)
          (twordP (TWord.isPoison a || (ub && TWord.isPoison b)) (BitVec.ofNat 32 (seqAlu (iOp w) (TWord.data a).toNat (TWord.data b).toNat w).1))))) := by
  have hz : ∀ y : Nat, y ^^^ (0#32 : BitVec 32).toNat = y := Nat.xor_zero
  unfold seqEffect
  simp only [hr, hf, Option.getD_some, ha, hb, hlo, hhi, aluCaught_none, hz, Bool.true_and, decide_true, Bool.and_false, Bool.or_false, Bool.false_eq_true, if_false, if_true]

/-! ### The ALU -/

/-- The immediate, sign-extended, is the 14-bit immediate extended by its sign. -/
theorem iSImm_eq (w : Word) : iSImm w = (BitVec.ofNat 14 (iImm w)).signExtend 32 := by
  have hi : iImm w < 2 ^ 14 := Nat.mod_lt _ (by decide)
  rw [BitVec.signExtend, iSImm]
  congr 1

/-- A word as a signed number. -/
theorem toInt_toNat (v : Word) : toInt 32 v.toNat = v.toInt := by
  have hv := v.isLt
  rw [BitVec.toInt_eq_toNat_cond, toInt]
  split <;> split <;> omega

/-- The result of each operation on two registers is the one that R121 names. -/
theorem seqAlu_reg (x y w : Word) :
    BitVec.ofNat 32 (seqAlu 0x01 x.toNat y.toNat w).1 = x + y ∧ BitVec.ofNat 32 (seqAlu 0x02 x.toNat y.toNat w).1 = x - y ∧
    BitVec.ofNat 32 (seqAlu 0x03 x.toNat y.toNat w).1 = x &&& y ∧ BitVec.ofNat 32 (seqAlu 0x04 x.toNat y.toNat w).1 = x ||| y ∧
    BitVec.ofNat 32 (seqAlu 0x05 x.toNat y.toNat w).1 = x ^^^ y ∧
    BitVec.ofNat 32 (seqAlu 0x06 x.toNat y.toNat w).1 = (if x.slt y then 1#32 else 0#32) ∧
    BitVec.ofNat 32 (seqAlu 0x07 x.toNat y.toNat w).1 = (if x.ult y then 1#32 else 0#32) := by
  have hx := x.isLt
  have hy := y.isLt
  refine ⟨?_, ?_, ?_, ?_, ?_, ?_, ?_⟩
  · apply BitVec.eq_of_toNat_eq; simp [seqAlu]
  · apply BitVec.eq_of_toNat_eq; simp [seqAlu, BitVec.toNat_sub]; omega
  · apply BitVec.eq_of_toNat_eq; simp [seqAlu]
  · apply BitVec.eq_of_toNat_eq; simp [seqAlu]
  · apply BitVec.eq_of_toNat_eq; simp [seqAlu]
  · simp only [seqAlu, toInt_toNat, b2n, BitVec.slt]; split <;> rfl
  · simp only [seqAlu, b2n, BitVec.ult]; split <;> rfl

/-- The result of each operation on a register and the immediate is the one that R121 names. -/
theorem seqAlu_imm (x w : Word) (n : Nat) : let i := BitVec.ofNat 14 (iImm w)
    BitVec.ofNat 32 (seqAlu 0x08 x.toNat n w).1 = x + i.signExtend 32 ∧ BitVec.ofNat 32 (seqAlu 0x09 x.toNat n w).1 = x &&& i.setWidth 32 ∧
    BitVec.ofNat 32 (seqAlu 0x0A x.toNat n w).1 = x ||| i.setWidth 32 ∧ BitVec.ofNat 32 (seqAlu 0x0B x.toNat n w).1 = x <<< (i.toNat % 32) ∧
    BitVec.ofNat 32 (seqAlu 0x0C x.toNat n w).1 = x >>> (i.toNat % 32) ∧ BitVec.ofNat 32 (seqAlu 0x0D x.toNat n w).1 = x.sshiftRight (i.toNat % 32) := by
  have hx := x.isLt
  have hi : iImm w < 2 ^ 14 := Nat.mod_lt _ (by decide)
  have hn : (BitVec.ofNat 14 (iImm w)).toNat = iImm w := by rw [BitVec.toNat_ofNat, Nat.mod_eq_of_lt hi]
  dsimp only
  simp only [hn]
  refine ⟨?_, ?_, ?_, ?_, ?_, ?_⟩
  · rw [← iSImm_eq]; apply BitVec.eq_of_toNat_eq; simp [seqAlu]
  · apply BitVec.eq_of_toNat_eq; simp [seqAlu, Nat.mod_eq_of_lt (show iImm w < 16384 from hi)]
  · apply BitVec.eq_of_toNat_eq; simp [seqAlu, Nat.mod_eq_of_lt (show iImm w < 16384 from hi)]
  · apply BitVec.eq_of_toNat_eq; simp [seqAlu, Nat.shiftLeft_eq]
  · have hlt : x.toNat / 2 ^ (iImm w % 32) < 2 ^ 32 := Nat.lt_of_le_of_lt (Nat.div_le_self ..) hx
    apply BitVec.eq_of_toNat_eq; simpa [seqAlu, Nat.shiftRight_eq_div_pow] using hlt
  · rw [BitVec.sshiftRight, Int.shiftRight_eq_div_pow]
    apply BitVec.eq_of_toNat_eq
    simp only [seqAlu, toInt_toNat, BitVec.toNat_ofNat, BitVec.toNat_ofInt, Nat.mod_eq_of_lt (wrapInt_lt ..)]
    rfl

/-- An ALU instruction on two registers. -/
theorem seq_alu {i : Instr} {op t g : Nat} {f : Word → Word → Word} (hx : ∀ s, exec i s = run (seqIssue op t g {}) s)
    (hop : 1 ≤ op ∧ op ≤ 0x0D) (hform : iForm op = some (true, true, true, 0)) (hf : ∀ x y w : Word, BitVec.ofNat 32 (seqAlu op x.toNat y.toNat w).1 = f x y) :
    Does i (fun d => seqReady op t g d = true ∧ seqSound true true t g d = true)
      (fun d => seqGo true true t g (fun c => c.modGrove t g (fun gr => gr.setW (iD (seqWord t g d))
        (twordP (TWord.isPoison (seqA t g d) || TWord.isPoison (seqB t g d)) (f (TWord.data (seqA t g d)) (TWord.data (seqB t g d)))))) d) := by
  refine seq_does hx fun d r hr ho hs => ?_
  simp only [seqSound, Bool.true_and, Bool.and_eq_true, Bool.not_eq_true'] at hs
  have he := seqEffect_alu (w := seqWord t g d) (a := seqA t g d) (b := seqB t g d) (seqIssued_run hr) (by omega) (by omega)
    (by rw [ho]; exact hform) hs.1 (by rw [hs.2]; rfl)
  rw [ho, hf] at he
  exact he

/-- An ALU instruction on a register and the immediate. -/
theorem seq_imm {i : Instr} {op t g : Nat} {f : Word → BitVec 14 → Word} (hx : ∀ s, exec i s = run (seqIssue op t g {}) s)
    (hop : 1 ≤ op ∧ op ≤ 0x0D) (hform : iForm op = some (true, true, false, 0x3FFF)) (hf : ∀ (x w : Word) (n : Nat), BitVec.ofNat 32 (seqAlu op x.toNat n w).1 = f x (BitVec.ofNat 14 (iImm w))) :
    Does i (fun d => seqReady op t g d = true ∧ seqSound true false t g d = true)
      (fun d => seqGo true false t g (fun c => c.modGrove t g (fun gr => gr.setW (iD (seqWord t g d))
        (twordP (TWord.isPoison (seqA t g d)) (f (TWord.data (seqA t g d)) (BitVec.ofNat 14 (iImm (seqWord t g d))))))) d) := by
  refine seq_does hx fun d r hr ho hs => ?_
  simp only [seqSound, Bool.true_and, Bool.false_and, Bool.not_false, Bool.and_true, Bool.not_eq_true'] at hs
  have he := seqEffect_alu (w := seqWord t g d) (a := seqA t g d) (b := seqB t g d) (seqIssued_run hr) (by omega) (by omega)
    (by rw [ho]; exact hform) hs rfl
  rw [ho, hf, Bool.false_and, Bool.or_false] at he
  rw [he]
  simp [seqGo]

/-- Settles O18: each ALU instruction writes the result that R121 names for it and goes on. -/
theorem seqAluOpsIssue : Obligations.SeqAluOpsIssue := by
  unfold Obligations.SeqAluOpsIssue
  intro g
  refine ⟨?_, ?_, ?_, ?_, ?_, ?_, ?_, ?_, ?_, ?_, ?_, ?_, ?_⟩
  · exact fun s h1 h2 => seq_alu (f := fun x y => x + y) (exec_seqAdd g {}) (by decide) rfl
      (fun x y w => (seqAlu_reg x y w).1) s ⟨h1, h2⟩
  · exact fun s h1 h2 => seq_alu (f := fun x y => x - y) (exec_seqSub g {}) (by decide) rfl
      (fun x y w => (seqAlu_reg x y w).2.1) s ⟨h1, h2⟩
  · exact fun s h1 h2 => seq_alu (f := fun x y => x &&& y) (exec_seqAnd g {}) (by decide) rfl
      (fun x y w => (seqAlu_reg x y w).2.2.1) s ⟨h1, h2⟩
  · exact fun s h1 h2 => seq_alu (f := fun x y => x ||| y) (exec_seqOr g {}) (by decide) rfl
      (fun x y w => (seqAlu_reg x y w).2.2.2.1) s ⟨h1, h2⟩
  · exact fun s h1 h2 => seq_alu (f := fun x y => x ^^^ y) (exec_seqXor g {}) (by decide) rfl
      (fun x y w => (seqAlu_reg x y w).2.2.2.2.1) s ⟨h1, h2⟩
  · exact fun s h1 h2 => seq_alu (f := fun x y => if x.slt y then 1#32 else 0#32) (exec_seqSlt g {}) (by decide) rfl
      (fun x y w => (seqAlu_reg x y w).2.2.2.2.2.1) s ⟨h1, h2⟩
  · exact fun s h1 h2 => seq_alu (f := fun x y => if x.ult y then 1#32 else 0#32) (exec_seqSltu g {}) (by decide) rfl
      (fun x y w => (seqAlu_reg x y w).2.2.2.2.2.2) s ⟨h1, h2⟩
  · exact fun s h1 h2 => seq_imm (f := fun x i => x + i.signExtend 32) (exec_seqAddi g {}) (by decide) rfl
      (fun x w n => (seqAlu_imm x w n).1) s ⟨h1, h2⟩
  · exact fun s h1 h2 => seq_imm (f := fun x i => x &&& i.setWidth 32) (exec_seqAndi g {}) (by decide) rfl
      (fun x w n => (seqAlu_imm x w n).2.1) s ⟨h1, h2⟩
  · exact fun s h1 h2 => seq_imm (f := fun x i => x ||| i.setWidth 32) (exec_seqOri g {}) (by decide) rfl
      (fun x w n => (seqAlu_imm x w n).2.2.1) s ⟨h1, h2⟩
  · exact fun s h1 h2 => seq_imm (f := fun x i => x <<< (i.toNat % 32)) (exec_seqShli g {}) (by decide) rfl
      (fun x w n => (seqAlu_imm x w n).2.2.2.1) s ⟨h1, h2⟩
  · exact fun s h1 h2 => seq_imm (f := fun x i => x >>> (i.toNat % 32)) (exec_seqShri g {}) (by decide) rfl
      (fun x w n => (seqAlu_imm x w n).2.2.2.2.1) s ⟨h1, h2⟩
  · exact fun s h1 h2 => seq_imm (f := fun x i => x.sshiftRight (i.toNat % 32)) (exec_seqSrai g {}) (by decide) rfl
      (fun x w n => (seqAlu_imm x w n).2.2.2.2.2) s ⟨h1, h2⟩

end Sys2Proof.Machine
end

section
/-!
SUPPORT. The instructions of the sequencer that steer the task, the cells, the windows, the ports and the memory (R121–R135).
-/
namespace Sys2Proof.Machine

/-- A command of the sequencer whose instruction needs no more than to be ready. -/
theorem seq_does_ready {i : Instr} {op t g : Nat} {eff : Dev → Dev} (hx : ∀ s, exec i s = run (seqIssue op t g {}) s)
    (h : ∀ d r, (d.chip.grove t g).run = some r → iOp (seqWord t g d) = op →
      seqEffect t g (seqWord t g d) {} (seqA t g d) (seqB t g d) (seqIssued t g d) = eff d) :
    Does i (fun d => seqReady op t g d = true) eff :=
  fun s hs => seq_does (hyp := fun _ => True) hx (fun d r hr ho _ => h d r hr ho) s ⟨hs, trivial⟩

/-- The first register of an instruction is sound. -/
theorem seqSound_a {t g : Nat} {d : Dev} : seqSound true false t g d = true ↔ TWord.bad (seqA t g d) = false := by
  simp [seqSound]

/-- Both registers are sound. -/
theorem seqSound_ab {t g : Nat} {d : Dev} : seqSound true true t g d = true ↔ TWord.bad (seqA t g d) = false ∧ TWord.bad (seqB t g d) = false := by
  simp [seqSound]

/-- The first register is sound and no poison. -/
theorem seqClean_a {t g : Nat} {d : Dev} : seqClean true false t g d = true ↔ TWord.bad (seqA t g d) = false ∧ TWord.isPoison (seqA t g d) = false := by
  simp [seqClean, seqSound]

/-- Both registers are sound and neither is poison. -/
theorem seqClean_ab {t g : Nat} {d : Dev} : seqClean true true t g d = true ↔
    (TWord.bad (seqA t g d) = false ∧ TWord.bad (seqB t g d) = false) ∧ TWord.isPoison (seqA t g d) = false ∧ TWord.isPoison (seqB t g d) = false := by
  simp [seqClean, seqSound, and_assoc]

/-- The condition bits of the cells of a grove, as GETC reads them (R121). -/
def condWord (gr : Grove) : Nat := (List.range 16).foldl (fun n i => n + b2n (condBit (gr.cell i) (cellField (imgCell gr.runImg i))) * 2 ^ i) 0

/-- GETC (R121). -/
theorem seqEffect_getc {t g : Nat} {w : Word} {a b : TWord} {d : Dev} {r : Run} (hr : (d.chip.grove t g).run = some r) (ho : iOp w = 0x23) :
    seqEffect t g w {} a b d = d.on (fun c => goNext t g (c.modGrove t g (fun gr => gr.setW (iD w) (tword (BitVec.ofNat 32 (condWord (d.chip.grove t g))))))) := by
  unfold seqEffect
  simp only [hr, ho]
  rfl

/-- GETO of a sound OUT (R121). -/
theorem seqEffect_geto {t g : Nat} {w : Word} {a b : TWord} {d : Dev} {r : Run} (hr : (d.chip.grove t g).run = some r) (ho : iOp w = 0x24)
    (hs : TWord.bad ((d.chip.grove t g).cell (iImm w % 16)).out = false) :
    seqEffect t g w {} a b d = d.on (fun c => goNext t g (c.modGrove t g (fun gr => gr.setW (iD w) ((d.chip.grove t g).cell (iImm w % 16)).out))) := by
  unfold seqEffect
  simp [hr, ho, hs, iForm]

/-- The cells of a grove that has issued are as they were. -/
theorem issuedGrove_cell (r : Run) (gr : Grove) (n : Nat) : (issuedGrove r gr).cell n = gr.cell n := rfl

/-- So is the program of its slot. -/
theorem issuedGrove_runImg {r : Run} {gr : Grove} (hr : gr.run = some r) : (issuedGrove r gr).runImg = gr.runImg := by
  simp [Grove.runImg, issuedGrove, issuedRun, hr, Grove.slot]

/-- So are the condition bits. -/
theorem issuedGrove_condWord {r : Run} {gr : Grove} (hr : gr.run = some r) : condWord (issuedGrove r gr) = condWord gr := by
  rw [condWord, condWord, issuedGrove_runImg hr]
  rfl

/-- An instruction that reads no register goes on without poison. -/
theorem seqGo_none (t g : Nat) (f : Chip → Chip) (d : Dev) : seqGo false false t g f d = (seqIssued t g d).on (fun c => goNext t g (f c)) := by
  simp [seqGo]

/-- Settles O21: each instruction that waits, strobes, reads or sets the cells has the effect that R121 names for it. -/
theorem seqCellOpsIssue : Obligations.SeqCellOpsIssue := by
  unfold Obligations.SeqCellOpsIssue
  intro g
  refine ⟨?_, ?_, ?_, ?_, ?_, ?_, ?_, ?_⟩
  · refine seq_does_ready (exec_seqWaitn g {}) fun d r hr ho => ?_
    simp [seqEffect, seqIssued_grove hr, issuedGrove, ho, iForm, seqGo]
  · refine seq_does_ready (exec_seqStep g {}) fun d r hr ho => ?_
    simp [seqEffect, seqIssued_grove hr, issuedGrove, ho, iForm, seqGo]
  · refine seq_does (exec_seqStepr g {}) fun d r hr ho hc => ?_
    obtain ⟨ha, hp⟩ := seqClean_a.1 hc
    simp [seqEffect, seqIssued_grove hr, issuedGrove, ho, iForm, seqGo, ha, hp]
  · refine seq_does (exec_seqSqo g {}) fun d r hr ho hs => ?_
    simp [seqEffect, seqIssued_grove hr, issuedGrove, ho, iForm, seqGo, seqSound_a.1 hs]
  · refine seq_does_ready (exec_seqGetc g {}) fun d r hr ho => ?_
    rw [seqEffect_getc (seqIssued_run hr) ho, seqIssued_grove hr, seqGo_none, issuedGrove_condWord hr]
    rfl
  · refine seq_does (exec_seqGeto g {}) fun d r hr ho hs => ?_
    rw [seqEffect_geto (seqIssued_run hr) ho (by rw [seqIssued_grove hr]; exact hs), seqIssued_grove hr, seqGo_none, issuedGrove_cell]
  · refine seq_does (exec_seqSetk g {}) fun d r hr ho hs => ?_
    simp [seqEffect, seqIssued_grove hr, issuedGrove, ho, iForm, seqGo, seqSound_a.1 hs]
  · refine seq_does_ready (exec_seqSig g {}) fun d r hr ho => ?_
    simp [seqEffect, seqIssued_grove hr, issuedGrove, ho, iForm, seqGo]

/-! ### Control flow -/

/-- A condition is the same after issuing (R122). -/
theorem issuedGrove_seqCond {r : Run} {gr : Grove} (hr : gr.run = some r) (cond n : Nat) :
    seqCond (issuedGrove r gr) (issuedRun r) cond n = seqCond gr r cond n := by
  unfold seqCond
  rw [issuedGrove_runImg hr]
  rfl

/-- An instruction that is not the last of a loop body goes on to the next one (R125). -/
theorem loopNext_within (i : Nat) (ls : List LoopLvl) (h : ∀ l ∈ ls, i ≠ l.last) : loopNext i ls = (i + 1, ls) := by
  induction ls with
  | nil => rfl
  | cons l ls ih =>
    obtain ⟨hl, hls⟩ := List.forall_mem_cons.1 h
    rw [loopNext, if_neg hl, ih hls]

/-- LOOP and LOOPR inside no body that ends there open their level (R125). -/
theorem goLoop_within {t g e n : Nat} {c : Chip} {r : Run} (hr : (c.grove t g).run = some r) (h : ∀ l ∈ r.loops, r.pc ≠ l.last) :
    goLoop t g e n c = if n = 0 then stepPc t g (e + 1) r.loops c else stepPc t g (r.pc + 1) (⟨r.pc + 1, e, n⟩ :: r.loops) c := by
  simp only [goLoop, hr, loopNext_within r.pc r.loops h, if_true]
  split <;> rfl

/-- BC (R121). -/
theorem seqEffect_bc {t g : Nat} {w : Word} {a b : TWord} {d : Dev} {r : Run} (hr : (d.chip.grove t g).run = some r) (ho : iOp w = 0x11) :
    seqEffect t g w {} a b d = if xor (seqCond (d.chip.grove t g) r (iCond w) r.words) (iInv w) then d.on (goTo t g (iTgt w)) else d.on (goNext t g) := by
  unfold seqEffect
  simp only [hr, ho]
  rfl

/-- WAITC (R121). -/
theorem seqEffect_waitc {t g : Nat} {w : Word} {a b : TWord} {d : Dev} {r : Run} (hr : (d.chip.grove t g).run = some r) (ho : iOp w = 0x19) :
    seqEffect t g w {} a b d = if xor (seqCond (d.chip.grove t g) r (iCond w) r.words) (iInv w) then d.on (goNext t g) else d := by
  unfold seqEffect
  simp only [hr, ho]
  rfl

/-- BZ and BNZ of a sound word (R121). -/
theorem seqEffect_bz {t g : Nat} {w : Word} {a b : TWord} {d : Dev} {r : Run} (hr : (d.chip.grove t g).run = some r) (ho : iOp w = 0x12)
    (ha : TWord.bad a = false ∧ TWord.isPoison a = false) :
    seqEffect t g w {} a b d = if TWord.data a = 0#32 then d.on (goTo t g (iTgt w)) else d.on (goNext t g) := by
  simp [seqEffect, hr, ho, iForm, ha, BitVec.toNat_eq]

theorem seqEffect_bnz {t g : Nat} {w : Word} {a b : TWord} {d : Dev} {r : Run} (hr : (d.chip.grove t g).run = some r) (ho : iOp w = 0x13)
    (ha : TWord.bad a = false ∧ TWord.isPoison a = false) :
    seqEffect t g w {} a b d = if TWord.data a = 0#32 then d.on (goNext t g) else d.on (goTo t g (iTgt w)) := by
  simp [seqEffect, hr, ho, iForm, ha, BitVec.toNat_eq]

/-- LOOP and LOOPR with a level free. -/
theorem seqEffect_loop {t g : Nat} {w : Word} {a b : TWord} {d : Dev} {r : Run} (hr : (d.chip.grove t g).run = some r) (ho : iOp w = 0x14)
    (hf : r.loops.length < 2) : seqEffect t g w {} a b d = d.on (goLoop t g (iTgt w) (iCount w)) := by
  have hf : ¬2 ≤ r.loops.length := by omega
  simp [seqEffect, hr, ho, iForm, hf]

theorem seqEffect_loopr {t g : Nat} {w : Word} {a b : TWord} {d : Dev} {r : Run} (hr : (d.chip.grove t g).run = some r) (ho : iOp w = 0x15)
    (ha : TWord.bad a = false ∧ TWord.isPoison a = false) (hf : r.loops.length < 2) :
    seqEffect t g w {} a b d = d.on (goLoop t g (iTgt w) (TWord.data a).toNat) := by
  have hf : ¬2 ≤ r.loops.length := by omega
  simp [seqEffect, hr, ho, iForm, hf, ha]

/-- Issuing leaves the registers. -/
theorem seqIssued_rbit (t g : Nat) (d : Dev) (r : Reg) (s : Site) (i b : Nat) : (seqIssued t g d).chip.rbit r s i b = d.chip.rbit r s i b := rfl

/-- Settles O19: branches, waits, loops, END and BRK, each with the conditions that R121 and R125 name. -/
theorem seqControlFlowIssues : Obligations.SeqControlFlowIssues := by
  unfold Obligations.SeqControlFlowIssues
  refine ⟨fun g => ⟨?_, ?_, ?_, ?_, ?_, ?_, ?_, ?_, ?_, ?_⟩, fun g => ⟨?_, ?_, ?_, ?_, ?_, ?_, ?_, ?_, ?_, ?_, ?_⟩⟩
  · refine seq_does_ready (exec_seqNop g {}) fun d r hr ho => ?_
    simp [seqEffect, seqIssued_run hr, ho, iForm, seqGo]
  · refine seq_does_ready (exec_seqBr g {}) fun d r hr ho => ?_
    simp [seqEffect, seqIssued_run hr, ho, iForm]
  · refine seq_does (exec_seqBc g {}) fun d r hr ho hc => ?_
    simp only [hr] at hc
    rw [seqEffect_bc (seqIssued_run hr) ho, seqIssued_grove hr, issuedGrove_seqCond hr]
    exact if_pos hc
  · refine seq_does (exec_seqBc g {}) fun d r hr ho hc => ?_
    simp only [hr] at hc
    rw [seqEffect_bc (seqIssued_run hr) ho, seqIssued_grove hr, issuedGrove_seqCond hr, seqGo_none]
    exact if_neg (Bool.eq_false_iff.1 hc)
  · refine seq_does (exec_seqBz g {}) fun d r hr ho ⟨hc, hz⟩ => ?_
    rw [seqEffect_bz (seqIssued_run hr) ho (seqClean_a.1 hc), if_pos hz]
  · refine seq_does (exec_seqBz g {}) fun d r hr ho ⟨hc, hz⟩ => ?_
    rw [seqEffect_bz (seqIssued_run hr) ho (seqClean_a.1 hc), if_neg hz, seqGo_none]
    rfl
  · refine seq_does (exec_seqBnz g {}) fun d r hr ho ⟨hc, hz⟩ => ?_
    rw [seqEffect_bnz (seqIssued_run hr) ho (seqClean_a.1 hc), if_neg hz]
  · refine seq_does (exec_seqBnz g {}) fun d r hr ho ⟨hc, hz⟩ => ?_
    rw [seqEffect_bnz (seqIssued_run hr) ho (seqClean_a.1 hc), if_pos hz, seqGo_none]
    rfl
  · refine seq_does (exec_seqWaitc g {}) fun d r hr ho hc => ?_
    simp only [hr] at hc
    rw [seqEffect_waitc (seqIssued_run hr) ho, seqIssued_grove hr, issuedGrove_seqCond hr, seqGo_none]
    exact if_pos hc
  · refine seq_does (exec_seqWaitc g {}) fun d r hr ho hc => ?_
    simp only [hr] at hc
    rw [seqEffect_waitc (seqIssued_run hr) ho, seqIssued_grove hr, issuedGrove_seqCond hr]
    exact if_neg (Bool.eq_false_iff.1 hc)
  · refine seq_does (exec_seqLoop g {}) fun d r hr ho ⟨hf, hw, hn⟩ => ?_
    simp only [runOf_eq hr] at hf hw ⊢
    rw [seqEffect_loop (seqIssued_run hr) ho hf, Dev.on, goLoop_within (seqIssued_run hr) hw, if_neg hn]
    rfl
  · refine seq_does (exec_seqLoop g {}) fun d r hr ho ⟨hf, hw, hn⟩ => ?_
    simp only [runOf_eq hr] at hf hw ⊢
    rw [seqEffect_loop (seqIssued_run hr) ho hf, Dev.on, goLoop_within (seqIssued_run hr) hw, if_pos hn]
    rfl
  · refine seq_does (exec_seqLoop g {}) fun d r hr ho hf => ?_
    simp only [runOf_eq hr] at hf ⊢
    simp [seqEffect, seqIssued_run hr, ho, iForm, issuedRun, Nat.le_of_not_lt hf]
  · refine seq_does (exec_seqLoopr g {}) fun d r hr ho ⟨hc, hf, hw, hn⟩ => ?_
    simp only [runOf_eq hr] at hf hw ⊢
    rw [seqEffect_loopr (seqIssued_run hr) ho (seqClean_a.1 hc) hf, Dev.on, goLoop_within (seqIssued_run hr) hw, if_neg hn]
    rfl
  · refine seq_does (exec_seqLoopr g {}) fun d r hr ho ⟨hc, hf, hw, hn⟩ => ?_
    simp only [runOf_eq hr] at hf hw ⊢
    rw [seqEffect_loopr (seqIssued_run hr) ho (seqClean_a.1 hc) hf, Dev.on, goLoop_within (seqIssued_run hr) hw, if_pos hn]
    rfl
  · refine seq_does (exec_seqLoopr g {}) fun d r hr ho ⟨hc, hf⟩ => ?_
    simp only [runOf_eq hr] at hf ⊢
    simp [seqEffect, seqIssued_run hr, ho, iForm, issuedRun, seqClean_a.1 hc, Nat.le_of_not_lt hf]
  · refine seq_does (exec_seqLoop g {}) fun d r hr ho hf => ?_
    simp only [runOf_eq hr] at hf
    exact seqEffect_loop (seqIssued_run hr) ho hf
  · refine seq_does (exec_seqLoopr g {}) fun d r hr ho ⟨hc, hf⟩ => ?_
    simp only [runOf_eq hr] at hf
    exact seqEffect_loopr (seqIssued_run hr) ho (seqClean_a.1 hc) hf
  · refine seq_does_ready (exec_seqEnd g {}) fun d r hr ho => ?_
    simp [seqEffect, seqIssued_grove hr, issuedGrove, ho, iForm]
  · refine seq_does (exec_seqBrk g {}) fun d r hr ho hb => ?_
    simp [seqEffect, seqIssued_run hr, ho, iForm, seqGo, seqIssued_rbit, hb]
  · refine seq_does (exec_seqBrk g {}) fun d r hr ho hb => ?_
    simp [seqEffect, seqIssued_run hr, ho, iForm, seqGo, seqIssued_rbit, hb]

end Sys2Proof.Machine
end

section
/-!
SUPPORT. CALL and RET (R134, R135), and the reads of memory (R128) of the sequencer.
-/
namespace Sys2Proof.Machine

/-- What a change of the running task does to the task that runs is all that it does. -/
theorem modRun_congr {t g : Nat} {c : Chip} {r : Run} {f h : Run → Run} (hr : (c.grove t g).run = some r) (hf : f r = h r) :
    c.modRun t g f = c.modRun t g h := by
  simp [Chip.modRun, Chip.modGrove, hr, hf]

/-- The window of a task that has issued is the one it had. -/
theorem issuedGrove_curWin {r : Run} {gr : Grove} (hr : gr.run = some r) : (issuedGrove r gr).curWin = gr.curWin := by
  simp only [Grove.curWin, issuedGrove, hr]
  rfl

/-- The depth at which a task may open no further window (R139). -/
def depthLimit (gr : Grove) (r : Run) : Nat := if r.doubled then 2 * imgSpillLen gr.runImg else imgSpillLen gr.runImg

theorem issuedGrove_depthLimit {r : Run} {gr : Grove} (hr : gr.run = some r) : depthLimit (issuedGrove r gr) (issuedRun r) = depthLimit gr r := by
  rw [depthLimit, depthLimit, issuedGrove_runImg hr]
  rfl

/-- CALL (R135). -/
theorem seqEffect_call {t g : Nat} {w : Word} {a b : TWord} {d : Dev} {r : Run} (hr : (d.chip.grove t g).run = some r) (ho : iOp w = 0x16) :
    seqEffect t g w {} a b d =
      if depthLimit (d.chip.grove t g) r ≤ r.depth then d.on (takeTrap t g .spill r.pc 0)
      else if (d.chip.grove t g).freeWin = 0 then d
      else d.on (fun c => (c.modGrove t g (fun x => { x with windows := x.windows ++ [⟨r.slot, r.depth + 1,
          (List.range 4).foldl (fun m i => kset m i (kget 0#35 (d.chip.grove t g).curWin.regs (i + 4))) [], r.pc + 1⟩] })).modRun t g
        (fun r => { r with depth := r.depth + 1, pc := iTgt w })) := by
  unfold seqEffect
  simp only [hr, ho]
  rfl

/-- RET (R135). -/
theorem seqEffect_ret {t g : Nat} {w : Word} {a b : TWord} {d : Dev} {r : Run} (hr : (d.chip.grove t g).run = some r) (ho : iOp w = 0x17)
    (hd : 2 ≤ r.depth) (hw : ((d.chip.grove t g).window? r.slot (r.depth - 1)).isSome = true) :
    seqEffect t g w {} a b d = d.on (fun c => (c.modGrove t g (fun x => { x with
          inflight := x.inflight.map (fun f => if f.depth = r.depth then { f with depth := 0 } else f)
          windows := (x.windows.filter (fun y => !(y.slot == r.slot && y.depth == r.depth))).map (fun y =>
            if y.slot == r.slot && y.depth == r.depth - 1 then
              { y with regs := (List.range 4).foldl (fun m i => kset m (i + 4) (kget 0#35 (d.chip.grove t g).curWin.regs i)) y.regs } else y) })).modRun t g
        (fun r => { r with
          depth := r.depth - 1
          pc := (d.chip.grove t g).curWin.ret
          mrds := r.mrds.map (fun m => if m.depth = r.depth then { m with depth := 0 } else m) })) := by
  have hd : ¬r.depth ≤ 1 := by omega
  obtain ⟨y, hy⟩ := Option.isSome_iff_exists.1 hw
  unfold seqEffect
  simp only [hr, ho, hd, if_false, hy]
  rfl

/-- Settles O20: CALL and RET open and close a window, or take their traps. -/
theorem seqCallAndReturnIssue : Obligations.SeqCallAndReturnIssue := by
  unfold Obligations.SeqCallAndReturnIssue
  intro g
  refine ⟨?_, ?_, ?_, ?_⟩
  · refine seq_does (exec_seqCall g {}) fun d r hr ho ⟨hl, hf⟩ => ?_
    simp only [runOf_eq hr] at hl ⊢
    have hl : ¬depthLimit (d.chip.grove g.t.val (gOf g)) r ≤ r.depth := Nat.not_le.2 hl
    rw [seqEffect_call (seqIssued_run hr) ho, seqIssued_grove hr, issuedGrove_depthLimit hr, issuedGrove_curWin hr]
    exact (if_neg hl).trans (if_neg hf)
  · refine seq_does (exec_seqCall g {}) fun d r hr ho hl => ?_
    simp only [runOf_eq hr] at hl ⊢
    rw [seqEffect_call (seqIssued_run hr) ho, seqIssued_grove hr, issuedGrove_depthLimit hr]
    exact if_pos hl
  · refine seq_does (exec_seqRet g {}) fun d r hr ho ⟨hd, hw⟩ => ?_
    simp only [runOf_eq hr] at hd hw ⊢
    rw [seqEffect_ret (seqIssued_run hr) ho hd (by rw [seqIssued_grove hr]; exact hw), seqIssued_grove hr, issuedGrove_curWin hr]
    exact congrArg (Dev.mk d.mem) (modRun_congr (r := issuedRun r) (by rw [Chip.grove_modGrove, seqIssued_run hr]) rfl)
  · refine seq_does (exec_seqRet g {}) fun d r hr ho hd => ?_
    simp only [runOf_eq hr] at hd ⊢
    simp [seqEffect, seqIssued_run hr, ho, iForm, issuedRun, hd]

/-! ### Memory -/

/-- An image whose first instruction is an MRD of the address that w1 and w2 hold. -/
def mrdImg : BitVec 4096 := BitVec.ofNat 4096 ((0x32 * 2 ^ 26 + 2 ^ 18 + 2 * 2 ^ 14) * 2 ^ 3392 + (5 * 2 ^ 22 + 2 * 2 ^ 48 + 2 ^ 32) * 2 ^ 3200)

/-- A grove that stands at it, with an address in device 2 in its window. -/
def mrdGrove : Grove :=
  { run := some { slot := 0, desc := 0 }, windows := [⟨0, 1, [(1, tword 0#32), (2, tword 0x8400#32)], 0⟩],
    slots := [(0, { state := .running, img := mrdImg })] }

/-- A device with that grove, whose port 0 is up and leads to device 2. -/
def mrdAway : Dev :=
  { mem := []
    chip := Chip.setRf { groves := [(gkey 0 50, mrdGrove)],
                         hub := { firebreaks := [(0, ⟨false, false, 0, 0, [(0, 2 ^ 48 - 1)]⟩)], links := [(0, { st := .active })] } } .fabEp .hub 2 63 1 1 }

/-- The requests that the device has outstanding toward other devices after a command. -/
def requestsAfter : Answer → Nat
  | .next s => s.dev.chip.hub.remote.length
  | _ => 0

/-- Refutes O24: an MRD of an address in another device that can be reached leaves for it at once (R36, R398), so the device also has a request
outstanding after the command. -/
theorem not_seqMemoryOpsIssue : ¬ Obligations.SeqMemoryOpsIssue := by
  unfold Obligations.SeqMemoryOpsIssue
  intro h
  obtain ⟨-, -, hm, -⟩ := h ⟨0, 2, 3⟩
  have he := hm { dev := mrdAway } (by decide +kernel)
  have hone : requestsAfter (exec (.seqMrd ⟨0, 2, 3⟩ {}) { dev := mrdAway }) = 1 := by decide +kernel
  rw [he] at hone
  exact absurd hone (by decide +kernel)

end Sys2Proof.Machine
end

section
/-!
SUPPORT. The queue ports of the sequencer (R126, R133, R262).
-/
namespace Sys2Proof.Machine

/-- A change of the running task before the next index depends on that task alone. -/
theorem on_modRun_congr {t g : Nat} {d : Dev} {r : Run} {f h : Run → Run} (hr : (d.chip.grove t g).run = some r) (hf : f r = h r) :
    d.on (fun c => goNext t g (c.modRun t g f)) = d.on (fun c => goNext t g (c.modRun t g h)) := by
  simp only [Dev.on, modRun_congr hr hf]

/-- QBIND of a queue of the grove's own firebreak, to a port without an open item (R133). -/
theorem seqEffect_qbind {t g : Nat} {w : Word} {a b : TWord} {d : Dev} {r : Run} (hr : (d.chip.grove t g).run = some r) (ho : iOp w = 0x28)
    (ha : TWord.bad a = false ∧ TWord.isPoison a = false) (hb : TWord.bad b = false ∧ TWord.isPoison b = false)
    (hf : fld (d.chip.qcfg ((TWord.data a).toNat % 16384)) 53 8 = kget 0 (d.chip.tile t).groveFb g) (hq : (r.qw (iD w)).openAsm = none)
    (he : boundElsewhere d.chip t g (iD w) r ((TWord.data a).toNat % 16384) = false) :
    seqEffect t g w {} a b d = d.on (fun c => goNext t g (c.modRun t g (fun r => r.modQw (iD w) (fun x =>
      { x with queue := some ((TWord.data a).toNat % 16384), flow := BitVec.ofNat 24 (TWord.data b).toNat })))) := by
  simp [seqEffect, hr, ho, iForm, ha, hb, hf, hq, he]

/-- QSOI of a bound queue that takes an item (R126). -/
theorem seqEffect_qsoi {t g q id : Nat} {w : Word} {a b : TWord} {d : Dev} {r : Run} {c' : Chip} (hr : (d.chip.grove t g).run = some r) (ho : iOp w = 0x29)
    (hq : (r.qw (iD w)).queue = some q ∧ (r.qw (iD w)).openAsm = none) (hs : (d.chip.queue q).err = false ∧ (d.chip.queue q).closed = false)
    (he : d.chip.qen q = true) (ha : d.chip.openAsm q (.grove (gkey t g) (iD w)) (r.qw (iD w)).flow = some (c', id)) :
    seqEffect t g w {} a b d = { d with chip := goNext t g ((c'.noteWait q (.grove (gkey t g) (iD w)) false).modRun t g (fun r =>
      (r.modQw (iD w) (fun x => { x with openAsm := some id, pushed := 0 })).modCv (iD w) (fun v => { v with crc := 0xFFFFFFFF#32, next := 0 }))) } := by
  simp [seqEffect, hr, ho, iForm, hq, hs, he, ha, Dev.on]

/-- QEOI of an open item with words, of a queue without check values (R126, R262). -/
theorem seqEffect_qeoi {t g q id : Nat} {w : Word} {a b : TWord} {d : Dev} {r : Run} (hr : (d.chip.grove t g).run = some r) (ho : iOp w = 0x2A)
    (hq : (r.qw (iD w)).queue = some q ∧ (r.qw (iD w)).openAsm = some id) (ha : TWord.bad a = false) (hp : (r.qw (iD w)).pushed ≠ 0)
    (hv : fld (d.chip.qcfg q) 51 2 ≠ 1) :
    seqEffect t g w {} a b d = d.on (fun c => goNext t g ((c.modQueue q (fun Q => { Q with asms := Q.asms.map (fun x =>
        if x.id = id then { x with vb := (TWord.data a).toNat % 4, closed := true } else x) })).modRun t g
      (fun r => { (r.modQw (iD w) (fun x => { x with openAsm := none })) with closed := r.closed ++ [(q, id)] }))) := by
  simp [seqEffect, hr, ho, iForm, hq, ha, hp, hv]

/-- Settles O23: each instruction on a queue port has the effect that R126 and R262 name for it. -/
theorem seqPortOpsIssue : Obligations.SeqPortOpsIssue := by
  unfold Obligations.SeqPortOpsIssue
  intro g
  refine ⟨?_, ?_, ?_, ?_, fun q id c' => ⟨?_, ?_⟩⟩
  · refine seq_does (exec_seqQread g {}) fun d r hr ho ⟨hm, hi⟩ => ?_
    simp only [runOf_eq hr] at hm hi ⊢
    simp [seqEffect, seqIssued_run hr, ho, iForm, issuedRun, hm, hi, seqGo_none]
    exact on_modRun_congr (seqIssued_run hr) rfl
  · refine seq_does (exec_seqQreadr g {}) fun d r hr ho ⟨⟨hm, hi⟩, hc⟩ => ?_
    simp only [runOf_eq hr] at hm hi ⊢
    simp [seqEffect, seqIssued_run hr, ho, iForm, issuedRun, hm, hi, seqGo, seqClean_a.1 hc]
    exact on_modRun_congr (seqIssued_run hr) rfl
  · refine seq_does (exec_seqQseek g {}) fun d r hr ho ⟨⟨hm, hi⟩, hc⟩ => ?_
    simp only [runOf_eq hr] at hm hi ⊢
    simp [seqEffect, seqIssued_run hr, ho, iForm, issuedRun, hm, hi, seqGo, seqClean_a.1 hc]
    exact on_modRun_congr (seqIssued_run hr) rfl
  · refine seq_does (exec_seqQbind g {}) fun d r hr ho ⟨hc, hf, ho', hb⟩ => ?_
    simp only [runOf_eq hr] at ho' hb
    obtain ⟨⟨ha, hb1⟩, hpa, hpb⟩ := seqClean_ab.1 hc
    rw [seqEffect_qbind (seqIssued_run hr) ho ⟨ha, hpa⟩ ⟨hb1, hpb⟩ hf ho' hb]
    simp [seqGo, hpa, hpb]
  · refine seq_does (exec_seqQsoi g {}) fun d r hr ho ⟨hq, ha, he, hcl, hen, hop⟩ => ?_
    simp only [runOf_eq hr] at hq ha hop
    exact seqEffect_qsoi (seqIssued_run hr) ho ⟨hq, ha⟩ ⟨he, hcl⟩ hen hop
  · refine seq_does (exec_seqQeoi g {}) fun d r hr ho ⟨hq, ha, hc, hp, hcv⟩ => ?_
    simp only [runOf_eq hr] at hq ha hp
    obtain ⟨hb, hpa⟩ := seqClean_a.1 hc
    rw [seqEffect_qeoi (seqIssued_run hr) ho ⟨hq, ha⟩ hb hp hcv]
    simp [seqGo, hpa]

end Sys2Proof.Machine
end

section
/-!
SUPPORT. Frames: what a change inside one grove leaves of the rest of the device, and what a cell that fires, an ALU instruction and a write of UIO_OE
leave.
-/
namespace Sys2Proof.Machine

/-! ### The frame of a grove -/

theorem sameBeside_refl (t g : Nat) (d : Dev) : sameBeside t g d d := ⟨rfl, rfl, rfl, rfl, rfl, rfl, rfl, fun _ _ => rfl⟩

/-- A change inside a grove, after others inside it, is one. -/
theorem sameBeside_modGrove {t g : Nat} {d : Dev} {c : Chip} (f : Grove → Grove) (h : sameBeside t g d { d with chip := c }) :
    sameBeside t g d { d with chip := c.modGrove t g f } := by
  obtain ⟨hm, hr, ht, hh, he, hp, hf, hg⟩ := h
  exact ⟨hm, hr, ht, hh, he, hp, hf, fun k hk => (kfind_kset_ne _ _ _ _ hk).trans (hg k hk)⟩

/-- So is one of its task, if it happens. -/
theorem sameBeside_modRun_if {t g : Nat} {d : Dev} {c : Chip} (b : Bool) (f : Run → Run) (h : sameBeside t g d { d with chip := c }) :
    sameBeside t g d { d with chip := if b then c.modRun t g f else c } := by
  cases b with
  | false => exact h
  | true => rw [if_pos rfl]; exact sameBeside_modGrove _ h

/-- So is going on to the next instruction. -/
theorem sameBeside_goNext {t g : Nat} {d : Dev} {c : Chip} (h : sameBeside t g d { d with chip := c }) : sameBeside t g d { d with chip := goNext t g c } := by
  unfold goNext
  split
  · exact sameBeside_modGrove _ h
  · exact h

/-! ### A cell that fires -/

/-- A cell that fires changes its grove only. -/
theorem cellFired_beside (t g n : Nat) (fl : Option InFlight) (d : Dev) : sameBeside t g d (cellFired t g n fl d) := by
  have h1 := sameBeside_modRun_if (cellSeesPoison t g n d) (fun r => { r with poisonSeen := true })
    (sameBeside_modGrove (fun gr => { gr with fired := kset gr.fired n true }) (sameBeside_refl t g d))
  cases fl with
  | none => exact h1
  | some x => exact sameBeside_modGrove _ h1

/-- Of its grove it leaves the cells, banks, slots and windows. -/
theorem cellFired_stores (t g n : Nat) (fl : Option InFlight) (d : Dev) : let gr := d.chip.grove t g; let e := (cellFired t g n fl d).chip.grove t g
    e.cells = gr.cells ∧ e.banks = gr.banks ∧ e.slots = gr.slots ∧ e.windows = gr.windows := by
  unfold cellFired Chip.modRun
  cases fl <;> cases cellSeesPoison t g n d <;> simp [Grove.push]

/-- Each operation on lanes is the command of its opcode, and none makes an access. -/
theorem laneOps_exec : ∀ x ∈ laneOps, x.1 < 0x40 ∧ ∀ (g : GroveId) (n : Fin 16) (s : State),
    exec (x.2 g n {}) s = run (cellFire x.1 g.t.val (gOf g) n.val {}) s := by
  simp only [laneOps, List.cons_append, List.nil_append, List.forall_mem_cons, List.not_mem_nil, false_imp_iff, implies_true, and_true]
  and_intros
  all_goals first | decide | exact fun _ _ _ => rfl

/-! ### An ALU instruction -/

/-- An instruction that goes on changes its grove only, if `f` does. -/
theorem seqGo_beside (ua ub : Bool) (t g : Nat) (f : Grove → Grove) (d : Dev) :
    sameBeside t g d (seqGo ua ub t g (fun c => c.modGrove t g f) d) := by
  have h1 : sameBeside t g d (seqIssued t g d) := sameBeside_modGrove _ (sameBeside_modGrove _ (sameBeside_refl t g d))
  exact sameBeside_goNext (sameBeside_modGrove f (sameBeside_modRun_if _ _ h1))

/-- What a change of a grove leaves: its cells, banks and slots, and the registers of its window that `p` names. -/
def keepsRegs (p : Nat → Prop) (gr e : Grove) : Prop :=
  e.cells = gr.cells ∧ e.banks = gr.banks ∧ e.slots = gr.slots ∧ ∀ j, j < 8 → p j → seqReg e j = seqReg gr j

theorem keepsRegs_trans {p : Nat → Prop} {x y z : Grove} (h1 : keepsRegs p x y) (h2 : keepsRegs p y z) : keepsRegs p x z := by
  obtain ⟨hc, hb, hs, hr⟩ := h1
  obtain ⟨hc', hb', hs', hr'⟩ := h2
  exact ⟨hc'.trans hc, hb'.trans hb, hs'.trans hs, fun j hj hp => (hr' j hj hp).trans (hr j hj hp)⟩

/-- Setting a register leaves the others. -/
theorem keepsRegs_setW (gr : Grove) (i : Nat) (w : TWord) : keepsRegs (fun j => j ≠ i) gr (gr.setW i w) := by
  cases hr : gr.run with
  | none => simp [keepsRegs, Grove.setW, hr]
  | some r =>
    refine ⟨by simp [Grove.setW, hr], by simp [Grove.setW, hr], by simp [Grove.setW, hr], fun j hj h => ?_⟩
    simp only [Grove.setW, seqReg, hr, hj, if_true, Grove.curWin, Grove.window?, List.find?_map]
    have hp : ((fun y : Window => y.slot == r.slot && y.depth == r.depth) ∘ fun x : Window =>
        if (x.slot == r.slot && x.depth == r.depth) = true then { x with regs := kset x.regs i w } else x) =
        fun y => y.slot == r.slot && y.depth == r.depth := by
      funext x
      simp only [Function.comp]
      split <;> rfl
    rw [hp]
    cases hf : gr.windows.find? (fun y => y.slot == r.slot && y.depth == r.depth) with
    | none => rfl
    | some y =>
      have hy := List.find?_some hf
      simp only [Option.map_some, Option.getD_some, hy, if_true]
      exact kget_kset_ne _ _ _ _ _ h

/-- A change of the running task that keeps its window leaves every register. -/
theorem keepsRegs_run (p : Nat → Prop) (gr : Grove) (f : Run → Run) (hf : ∀ r, (f r).slot = r.slot ∧ (f r).depth = r.depth) :
    keepsRegs p gr { gr with run := gr.run.map f } := by
  refine ⟨rfl, rfl, rfl, fun j hj _ => ?_⟩
  cases hr : gr.run with
  | none => simp [seqReg, hr]
  | some r => simp [seqReg, hr, hj, Grove.curWin, Grove.window?, hf r]

theorem keepsRegs_refl (p : Nat → Prop) (gr : Grove) : keepsRegs p gr gr := ⟨rfl, rfl, rfl, fun _ _ _ => rfl⟩

/-- Going on leaves every register. -/
theorem keepsRegs_goNext (p : Nat → Prop) (t g : Nat) (c : Chip) : keepsRegs p (c.grove t g) ((goNext t g c).grove t g) := by
  unfold goNext stepPc Chip.modRun
  split
  · rw [Chip.grove_modGrove]
    exact keepsRegs_run p _ _ fun _ => ⟨rfl, rfl⟩
  · exact keepsRegs_refl p _

/-- An instruction that sets a register and goes on leaves the others. -/
theorem keepsRegs_seqGo (ua ub : Bool) (t g i : Nat) (w : TWord) (d : Dev) :
    keepsRegs (fun j => j ≠ i) (d.chip.grove t g) ((seqGo ua ub t g (fun c => c.modGrove t g (fun gr => gr.setW i w)) d).chip.grove t g) := by
  have h1 : keepsRegs (fun j => j ≠ i) (d.chip.grove t g) ((seqIssued t g d).chip.grove t g) := by
    rw [seqIssued, Dev.on_chip, Chip.modRun, Chip.modGrove_modGrove, Chip.grove_modGrove]
    exact keepsRegs_run _ _ _ fun _ => ⟨rfl, rfl⟩
  refine keepsRegs_trans h1 (keepsRegs_trans ?_ (keepsRegs_goNext _ t g _))
  rw [Chip.grove_modGrove]
  refine keepsRegs_trans ?_ (keepsRegs_setW _ i w)
  split
  · rw [Chip.modRun, Chip.grove_modGrove]
    exact keepsRegs_run _ _ _ fun _ => ⟨rfl, rfl⟩
  · exact keepsRegs_refl _ _

/-! ### The statement -/

/-- What a command's effect brings. -/
theorem brings_of_does {i : Instr} {hyp : Dev → Prop} {eff : Dev → Dev} {post : Dev → Dev → Prop} (h : Does i hyp eff)
    (hp : ∀ d, hyp d → post d (eff d)) : Brings i hyp post := fun s hs => ⟨eff (start s.dev), h s hs, hp _ hs⟩

/-- An ALU instruction leaves everything beside its grove, and in it all but the destination. -/
theorem alu_frame {i : Instr} {op : Nat} {f : Word → Word → Word} {g : GroveId} (h : Does i
      (fun d => seqReady op g.t.val (gOf g) d = true ∧ seqSound true true g.t.val (gOf g) d = true)
      (fun d => seqGo true true g.t.val (gOf g) (fun c => c.modGrove g.t.val (gOf g) (fun gr => gr.setW (iD (seqWord g.t.val (gOf g) d))
        (twordP (TWord.isPoison (seqA g.t.val (gOf g) d) || TWord.isPoison (seqB g.t.val (gOf g) d))
          (f (TWord.data (seqA g.t.val (gOf g) d)) (TWord.data (seqB g.t.val (gOf g) d)))))) d)) :
    Brings i (fun d => seqReady op g.t.val (gOf g) d = true ∧ seqSound true true g.t.val (gOf g) d = true)
      (fun d e => sameBeside g.t.val (gOf g) d e ∧
        keepsRegs (fun j => j ≠ iD (seqWord g.t.val (gOf g) d)) (d.chip.grove g.t.val (gOf g)) (e.chip.grove g.t.val (gOf g))) :=
  brings_of_does h fun _ _ => ⟨seqGo_beside _ _ _ _ _ _, keepsRegs_seqGo _ _ _ _ _ _ _⟩

/-- What the comparators see of a write changes nothing else. -/
theorem noted_rest (m : Master) (r : Reg) (s : Site) (i : Nat) (v : BitVec 64) (d : Dev) : let e := noted m r s i v d
    e.mem = d.mem ∧ e.chip.regs = d.chip.regs ∧ e.chip.groves = d.chip.groves ∧ e.chip.tiles = d.chip.tiles ∧ e.chip.hub = d.chip.hub ∧
      e.chip.evt = d.chip.evt := by
  refine ⟨rfl, ?_⟩
  unfold noted Chip.see Dev.on
  dsimp only
  split <;> exact ⟨rfl, rfl, rfl, rfl, rfl⟩

/-- A register is what the map of registers holds. -/
theorem Chip.reg_of_regs {c e : Chip} (h : e.regs = c.regs) (q : Reg) (u : Site) (j : Nat) : e.reg q u j = c.reg q u j := by
  simp only [Chip.reg, h]

/-- A write of UIO_OE that takes effect leaves every other register. -/
theorem uioOe_frame (m : Master) (v : BitVec 64) (d : Dev) (h : writable m .uioOe .hub 0 d = true) :
    let e := namedWrite m .uioOe .hub 0 v d
    e.mem = d.mem ∧ e.chip.groves = d.chip.groves ∧ e.chip.tiles = d.chip.tiles ∧ e.chip.hub = d.chip.hub ∧ e.chip.evt = d.chip.evt ∧
      ∀ (q : Reg) (u : Site) (j : Nat), q.named u j = true → q ≠ .uioOe → e.chip.reg q u j = d.chip.reg q u j := by
  have hw : regWrite m .uioOe .hub 0 v d = d.on (uioWrite .uioOe v) := rfl
  have hr : ∀ (x : Nat) (q : Reg) (u : Site) (j : Nat), q.named u j = true → q ≠ .uioOe → (d.chip.setRf .uioOe .hub 0 0 48 x).reg q u j = d.chip.reg q u j :=
    fun x q u j hq hne => reg_setReg_other _ _ (by decide) hq fun h => hne (congrArg Prod.fst h).symm
  rw [namedWrite_writable m _ _ _ v d h, hw]
  obtain ⟨hm, hreg, hg, ht, hh, he⟩ := noted_rest m .uioOe .hub 0 v (d.on (uioWrite .uioOe v))
  dsimp only
  rw [hm, hg, ht, hh, he]
  simp only [Chip.reg_of_regs hreg]
  unfold uioWrite Dev.on
  dsimp only
  split
  · exact ⟨rfl, rfl, rfl, rfl, rfl, hr _⟩
  · exact ⟨rfl, rfl, rfl, rfl, rfl, fun _ _ _ _ _ => rfl⟩

/-- Settles O11: the frames of an operation on lanes, of an ALU instruction and of a write of UIO_OE. -/
theorem commandsLeaveTheRest : Obligations.CommandsLeaveTheRest := by
  unfold Obligations.CommandsLeaveTheRest
  refine ⟨fun x hx g n => ?_, ?_, fun m v s hs => ⟨_, exec_uioOeWrite m v s, uioOe_frame m v _ hs⟩⟩
  · obtain ⟨hop, hexec⟩ := laneOps_exec x hx
    refine brings_of_does (does_of_run (hexec g n) fun d ⟨hr, hs⟩ => cellFire_op hr hs (.inl hop)) fun d _ => ?_
    exact ⟨cellFired_beside _ _ _ _ d, cellFired_stores _ _ _ _ d⟩
  · simp only [seqAluOps, List.forall_mem_cons, List.not_mem_nil, false_imp_iff, implies_true, and_true]
    refine ⟨fun g => ?_, fun g => ?_, fun g => ?_, fun g => ?_, fun g => ?_, fun g => ?_, fun g => ?_⟩
    all_goals obtain ⟨hadd, hsub, hand, hor, hxor, hslt, hsltu, -⟩ := seqAluOpsIssue g
    · exact alu_frame (f := fun x y => x + y) fun s ⟨hr, hs⟩ => hadd s hr hs
    · exact alu_frame (f := fun x y => x - y) fun s ⟨hr, hs⟩ => hsub s hr hs
    · exact alu_frame (f := fun x y => x &&& y) fun s ⟨hr, hs⟩ => hand s hr hs
    · exact alu_frame (f := fun x y => x ||| y) fun s ⟨hr, hs⟩ => hor s hr hs
    · exact alu_frame (f := fun x y => x ^^^ y) fun s ⟨hr, hs⟩ => hxor s hr hs
    · exact alu_frame (f := fun x y => if x.slt y then 1#32 else 0#32) fun s ⟨hr, hs⟩ => hslt s hr hs
    · exact alu_frame (f := fun x y => if x.ult y then 1#32 else 0#32) fun s ⟨hr, hs⟩ => hsltu s hr hs

end Sys2Proof.Machine
end

section
/-!
SUPPORT. Accesses of the management core at the address of a hub register (R7, R8, R33): a request of one beat of eight bytes.
-/
namespace Sys2Proof.Machine

/-- The addresses of the hub's registers (R33). -/
theorem regionOf_hub {cap a x : Nat} (h : regionOf cap a = .hubReg x) : a < 0x4000000 := by
  unfold regionOf at h
  by_cases hlt : a < 0x4000000
  · exact hlt
  · rw [if_neg hlt] at h
    dsimp only at h
    repeat' split at h
    all_goals cases h

/-- They are the same on every device. -/
theorem locate_hub {a : Nat} (h : a < 0x4000000) (c : Chip) : locate c a = .hubReg a := by
  have hr : ∀ cap, regionOf cap a = .hubReg a := fun cap => if_pos h
  simp only [locate, hr]

theorem localAddr_hub {a : Nat} (h : a < 0x4000000) (c : Chip) : localAddr c a = a := by
  have hr : ∀ cap, regionOf cap a = .hubReg a := fun cap => if_pos h
  simp only [localAddr, hr]

/-- The windows of other devices lie above the memory (R36). -/
theorem regionOf_remote {cap a dv off : Nat} (h : regionOf cap a = .remote dv off) : 0x800000000000 ≤ a := by
  by_cases hlt : 0x800000000000 ≤ a
  · exact hlt
  · unfold regionOf at h
    dsimp only at h
    repeat' split at h
    all_goals cases h
    omega

/-- An address below the memory that the device finds among the hub's registers lies there. -/
theorem hub_of_locate {c : Chip} {a : Nat} (hg : a < gdBase) (h : locate c a = .hubReg a) : a < 0x4000000 := by
  unfold locate at h
  split at h
  · next hr => exact absurd (regionOf_remote hr) (by unfold gdBase at hg; omega)
  · exact regionOf_hub h

/-! ### A request of eight bytes -/

/-- A request of two whole words at an address. -/
def pairReq (op : MemOp) (a : Nat) (ws : List TWord) : Req := { op := op, a := a, n := 2, ws := ws }

variable {a : Nat} (ha : a < 0x4000000) (h8 : a % 8 = 0)
include ha h8

/-- The second word lies in the hub, too. -/
theorem pair_locate (c : Chip) : locate c (a + 4) = .hubReg (a + 4) := locate_hub (by omega) c

/-- Such a request needs no tile, no memory channel and no grove. -/
theorem pair_tiles (op : MemOp) (ws : List TWord) (c : Chip) : (pairReq op a ws).tiles c = [] := by
  simp [Req.tiles, pairReq, List.range_succ, pair_locate ha h8 c, Region.tile?, locate_hub ha c]

theorem pair_blocks (op : MemOp) (ws : List TWord) (c : Chip) : (pairReq op a ws).blocks c = [] := by
  simp [Req.blocks, pairReq, List.range_succ, pair_locate ha h8 c, locate_hub ha c]

theorem pair_waits (op : MemOp) (ws : List TWord) (c : Chip) : (gddrWaits (pairReq op a ws) c || copyWaits (pairReq op a ws) c) = false := by
  simp [gddrWaits, copyWaits, pairReq, List.range_succ, pair_locate ha h8 c, locate_hub ha c]

/-- It is served as one beat of eight bytes. -/
theorem pair_words (m : Master) (src : Nat) (op : MemOp) (ws : List TWord) (d : Dev) (x : AccessOut × Dev)
    (hx : serveBeat m src false { a := a, op := op, wide := true, lo := ws[0]?.getD 0#35, hi := ws[1]?.getD 0#35 } .ok d = x) (hw : x.1.waits = false)
    (hs : x.1.st = 0) : serveWords m src false (pairReq op a ws) .ok 3 0 {} d = ({ ws := [x.1.lo, x.1.hi] }, x.2) := by
  have hm : ∀ old w, mergeWord 15 old w = w := fun old w => by simp [mergeWord]
  simp [serveWords, pairReq, localAddr_hub ha, h8, Req.be, List.range_succ, hm, hx, hw, hs]

/-- The device serves it, and the comparators see it (R577). -/
theorem pair_serve (op : MemOp) (ws : List TWord) (d : Dev) (x : AccessOut × Dev)
    (hx : serveBeat .core (nodeOf .core) false { a := a, op := op, wide := true, lo := ws[0]?.getD 0#35, hi := ws[1]?.getD 0#35 } .ok d = x)
    (hw : x.1.waits = false) (hs : x.1.st = 0) : serveReq .core (nodeOf .core) false (pairReq op a ws) .ok d =
      ({ ws := [x.1.lo, x.1.hi] }, x.2.on (fun c => c.see ⟨2, 4, 0, op != .read, a, TWord.data (if op = .read then x.1.lo else ws.headD 0#35), none⟩)) := by
  unfold serveReq
  have hid : ∀ e : Dev, e.on (fun c => c) = e := fun _ => rfl
  simp only [pair_tiles ha h8, List.foldl_nil, List.any_nil, pair_waits ha h8, hid]
  have hn : (pairReq op a ws).n + 1 = 3 := rfl
  rw [hn, pair_words ha h8 .core _ op ws d x hx hw hs]
  simp only [pair_blocks ha h8, List.foldl_nil, hid]
  simp [pairReq, locate_hub ha, localAddr_hub ha, Region.tile?, groveOf]

/-- A write of a register at its address writes it. -/
theorem beat_write {r : Reg} {i : Nat} (hr : regAt a = some (r, .hub, i)) (v : BitVec 64) (d : Dev) :
    serveBeat .core (nodeOf .core) false
      { a := a, op := .write, wide := true, lo := tword (v.extractLsb' 0 32), hi := tword (v.extractLsb' 32 32) } .ok d =
      ({}, regWrite .core r .hub i v d) := by
  have hv : v.extractLsb' 32 32 ++ v.extractLsb' 0 32 = v := by
    have h := BitVec.extractLsb'_append_extractLsb'_eq_extractLsb' (x := v) (start₁ := 0) (len₁ := 32) (start₂ := 32) (len₂ := 32) rfl
    exact h.trans BitVec.extractLsb'_eq_self
  simp [serveBeat, locate_hub ha, localAddr_hub ha, wordWrite, h8, hr, data_tword, hv]

/-- A read of a register at its address reads it, and clears what a read clears. -/
theorem beat_read {r : Reg} {i : Nat} (hr : regAt a = some (r, .hub, i)) (hf : r ≠ .evtFwq) (lo hi : TWord) (d : Dev) :
    serveBeat .core (nodeOf .core) false { a := a, op := .read, wide := true, lo := lo, hi := hi } .ok d =
      ({ lo := tword ((regView d.chip r .hub i).extractLsb' 0 32), hi := tword ((regView d.chip r .hub i).extractLsb' 32 32) },
        d.on (clearRC r .hub i)) := by
  simp [serveBeat, locate_hub ha, localAddr_hub ha, wordRead, h8, hr]

omit ha h8

/-- The hypotheses on the address, in the words of the request. -/
theorem pair_addr {a : BitVec 48} (h8 : a.toNat % 8 = 0) : a.toNat - a.toNat % (4 * 2) = a.toNat := by omega

/-- Settles O34: an aligned access of eight bytes in the hub is served as one beat, which is the register's read or write. -/
theorem registerAddressesReachRegisters : Obligations.RegisterAddressesReachRegisters := by
  unfold Obligations.RegisterAddressesReachRegisters
  intro r i a
  refine ⟨fun v => does_of_run (exec_registerWrite .core a true v) fun d ⟨h8, hg, hl, hr⟩ => ?_,
    does_of_run (exec_counterRcRead .core a true) fun d ⟨h8, hg, hl, hr, _, hf⟩ => ?_⟩
  · have ha := hub_of_locate hg hl
    have hs := pair_serve ha h8 .write [tword (v.extractLsb' 0 32), tword (v.extractLsb' 32 32)] d _ (beat_write ha h8 hr v d) rfl rfl
    have hm : mayAccess .core true a.toNat 2 d.chip = true := by simp [mayAccess, mayReachAll, mayReach, fbOf]
    simp only [pairReq] at hs
    simp [regWriteCmd, pair_addr h8, hm, hl, hs, data_tword]
    rfl
  · have ha := hub_of_locate hg hl
    have hs := pair_serve ha h8 .read [] d _ (beat_read ha h8 hr hf _ _ d) rfl rfl
    have hm : mayAccess .core false a.toNat 2 d.chip = true := by simp [mayAccess, mayReachAll, mayReach, fbOf]
    simp only [pairReq] at hs
    simp [regReadCmd, pair_addr h8, hm, hl, hs, data_tword]
    rfl

end Sys2Proof.Machine
end

section
/-!
SUPPORT. The user I/O bank (R588–R598): writes of its registers, pulses, and edges at pads.
-/
namespace Sys2Proof.Machine

/-- A write of a hub register that takes effect has the register's action. -/
theorem hubWrite {m : Master} {r : Reg} {i : Nat} {v : BitVec 64} {d e : Dev} (hw : writable m r .hub i d = true) (he : hubRegWrite r i v d = e) :
    namedWrite m r .hub i v d = noted m r .hub i v e := by
  have hm := writable_may m r .hub i d hw
  have hr : regWrite m r .hub i v d = hubRegWrite r i v d := by simp [regWrite, hm]
  rw [namedWrite_writable m r .hub i v d hw, hr, he]

/-- A change that changes nothing. -/
theorem on_id {d : Dev} {f : Chip → Chip} (h : f d.chip = d.chip) : d.on f = d := by simp [Dev.on, h]

/-- A change is what it does to the device. -/
theorem on_eq {d : Dev} {f h : Chip → Chip} (hc : f d.chip = h d.chip) : d.on f = d.on h := by simp [Dev.on, hc]

/-- A write of UIO_OUT or UIO_OE while the hub clock runs, and while it stands (R597). -/
theorem uioWrite_clocked (r : Reg) (v : BitVec 64) {c : Chip} (h : c.hubClocked = true) : uioWrite r v c = c.setRf r .hub 0 0 48 (fld v 0 48) := if_pos h

theorem uioWrite_stopped (r : Reg) (v : BitVec 64) {c : Chip} (h : ¬c.hubClocked = true) : uioWrite r v c = c := if_neg h

/-- The edges that a pin takes (R593): the select field, and the level after inversion. -/
def edgeSel (c : Chip) (n : Nat) (level : Bool) : Bool :=
  match c.rf .uioCfg .hub n 34 2 with
  | 1 => level != c.pinInv n
  | 2 => !(level != c.pinInv n)
  | 3 => true
  | _ => false

theorem edgeSel_iff (c : Chip) (n : Nat) (level : Bool) : edgeSel c n level = true ↔ (c.rf .uioCfg .hub n 34 2 = 3 ∨
    (c.rf .uioCfg .hub n 34 2 = 1 ∧ level = !(c.pinInv n)) ∨ (c.rf .uioCfg .hub n 34 2 = 2 ∧ level = c.pinInv n)) := by
  unfold edgeSel
  generalize c.pinInv n = inv
  split
  next h => rw [h]; cases level <;> cases inv <;> decide
  next h => rw [h]; cases level <;> cases inv <;> decide
  next h => simp [h]
  next h1 h2 h3 =>
    refine iff_of_false Bool.false_ne_true ?_
    rintro (h | ⟨h, -⟩ | ⟨h, -⟩)
    · exact h3 h
    · exact h1 h
    · exact h2 h

/-- The level at a pad after an edge. -/
def padSet (n : Nat) (level : Bool) (c : Chip) : Chip := c.modHub (fun h => { h with padIn := kset h.padIn n level })

/-- What a selected edge does, by the function of the pin (R593, R596). -/
def edgeTaken (n : Nat) (c : Chip) : Chip :=
  match c.pinFunc n with
  | 4 => raise (.hub (27 + c.pinIdx n)) n (c.capture .uioTrigTs .hub (c.pinIdx n) (mkReg [(0, 48, c.edgeTime n % 2 ^ 48)]))
  | 2 => ppsEdge (c.edgeTime n) c
  | _ => c

/-- An edge moves the level at the pad; a live pin takes it if it is selected. -/
theorem pinEdge_eq (n : Nat) (level : Bool) (c : Chip) : pinEdge n level c =
    if !(padSet n level c).pinsOn || !c.hubClocked || !(edgeSel c n level) then padSet n level c else edgeTaken n (padSet n level c) := rfl

/-- An edge that is not selected moves the level only. -/
theorem pinEdge_unselected {n : Nat} {level : Bool} {c : Chip} (h : ¬edgeSel c n level = true) : pinEdge n level c = padSet n level c := by
  rw [pinEdge_eq, if_pos (by simp [h])]

/-- So does an edge at a GPIO pin. -/
theorem pinEdge_gpio {n : Nat} {level : Bool} {c : Chip} (h : c.pinFunc n = 1) : pinEdge n level c = padSet n level c := by
  have h' : (padSet n level c).pinFunc n = 1 := h
  rw [pinEdge_eq, edgeTaken, h']
  exact ite_self _

/-- A selected edge at a live pin is taken. -/
theorem pinEdge_selected {n : Nat} {level : Bool} {c : Chip} (hp : (padSet n level c).pinsOn = true) (hc : c.hubClocked = true)
    (hs : edgeSel c n level = true) : pinEdge n level c = edgeTaken n (padSet n level c) := by
  rw [pinEdge_eq, if_neg (by simp [hp, hc, hs])]

/-- A write of a trigger output's time while the hub clock runs (R594): the new time and arm, and whether the time is past. -/
theorem trigAtWrite_eq {k : Nat} {v : BitVec 64} {c : Chip} (hc : c.hubClocked = true) (hl : fld v 62 1 = 0) : trigAtWrite k v c =
    ((c.setRf .uioTrigAt .hub k 63 1 (fld v 63 1)).setRf .uioTrigAt .hub k 0 48 (fld v 0 48)).modHub (fun h =>
      { h with trigLate := h.trigLate.filter (fun x => x != k) ++
          (if fld v 63 1 = 1 ∧ serialLater 48 (c.hub.time.toNat % 2 ^ 48) (fld v 0 48) = true then [k] else []) }) := by
  simp only [trigAtWrite, hc, hl, Bool.not_true, Bool.false_eq_true, if_false, Nat.zero_ne_one, Chip.setRf_hub, Bool.and_eq_true, beq_iff_eq]

/-- The pulse of an armed trigger output (R594): late is set when its time was past. -/
theorem trigPulse_armed {k n : Nat} {c : Chip} (hn : c.pinOf 5 k = some n) (hc : c.hubClocked = true) (ha : c.rbit .uioTrigAt .hub k 63 = true) :
    trigPulse k c = Chip.modHub (if c.hub.trigLate.contains k then (c.setRf .uioTrigAt .hub k 63 1 0).setRf .uioTrigAt .hub k 62 1 1
      else c.setRf .uioTrigAt .hub k 63 1 0) (fun h =>
      { h with trigLate := h.trigLate.filter (fun x => x != k), pulses := h.pulses.filter (fun x => x != n) ++ [n] }) := by
  simp only [trigPulse, hn, ha, hc, Bool.not_true, Bool.or_self, Bool.false_eq_true, if_false, Chip.setRf_hub]
  rfl

/-- Settles O60: the registers of the bank, its pulses, and edges at its pads. -/
theorem pinsDriveAndCapture : Obligations.PinsDriveAndCapture := by
  unfold Obligations.PinsDriveAndCapture
  refine ⟨⟨fun m v => ⟨?_, fun k => ⟨?_, ?_⟩⟩, fun k n => ⟨?_, ?_, ?_⟩, fun n => ⟨?_, ?_⟩⟩, fun n level => ⟨fun z hz => ⟨?_, ?_⟩, fun k => ?_, ?_⟩, ?_, ?_, ?_⟩
  · simp only [List.forall_mem_cons, List.not_mem_nil, false_imp_iff, implies_true, and_true]
    refine ⟨⟨?_, ?_⟩, ⟨?_, ?_⟩, ⟨?_, ?_⟩, ?_, ?_⟩
    · exact does_of_run (exec_uioOutWrite m v) fun d ⟨hw, hc⟩ => hubWrite hw (on_eq (uioWrite_clocked _ _ hc))
    · exact does_of_run (exec_uioOutWrite m v) fun d ⟨hw, hc⟩ => hubWrite hw (on_id (uioWrite_stopped _ _ hc))
    · exact does_of_run (exec_uioOeWrite m v) fun d ⟨hw, hc⟩ => hubWrite hw (on_eq (uioWrite_clocked _ _ hc))
    · exact does_of_run (exec_uioOeWrite m v) fun d ⟨hw, hc⟩ => hubWrite hw (on_id (uioWrite_stopped _ _ hc))
    · exact does_of_run (exec_uioOutSet m v) fun d ⟨hw, hc⟩ => hubWrite hw (on_eq (uioWrite_clocked _ _ hc))
    · exact does_of_run (exec_uioOutSet m v) fun d ⟨hw, hc⟩ => hubWrite hw (on_id (uioWrite_stopped _ _ hc))
    · exact does_of_run (exec_uioOutClr m v) fun d ⟨hw, hc⟩ => hubWrite hw (on_eq (uioWrite_clocked _ _ hc))
    · exact does_of_run (exec_uioOutClr m v) fun d ⟨hw, hc⟩ => hubWrite hw (on_id (uioWrite_stopped _ _ hc))
  · refine does_of_run (exec_uioTrigAtWrite m k v) fun d ⟨⟨hw, hc, hl⟩, hp⟩ => hubWrite hw (on_eq ?_)
    rw [trigAtWrite_eq hc hl, if_neg hp]
    simp only [List.append_nil]
  · refine does_of_run (exec_uioTrigAtWrite m k v) fun d ⟨⟨hw, hc, hl⟩, hp⟩ => hubWrite hw (on_eq ?_)
    rw [trigAtWrite_eq hc hl, if_pos hp]
  · refine does_of_run (exec_trigOutPulseStart k) fun d ⟨⟨hn, hc⟩, ha, hl⟩ => on_eq ?_
    rw [trigPulse_armed hn hc ha, hl]
    rfl
  · refine does_of_run (exec_trigOutPulseStart k) fun d ⟨⟨hn, hc⟩, ha, hl⟩ => on_eq ?_
    rw [trigPulse_armed hn hc ha, hl]
    rfl
  · refine does_of_run (exec_trigOutPulseStart k) fun d ⟨⟨hn, hc⟩, ha⟩ => on_id ?_
    simp [trigPulse, hn, ha]
  · exact does_of_run (exec_tbOutPulse n) fun d h => on_eq (if_pos h)
  · exact does_of_run (exec_pulseEnd n) fun d h => on_eq (if_pos h)
  · refine does_of_run (exec_gpioPinEdge z level) fun d h => on_eq ?_
    rw [gpioPinEdge, if_pos z.isLt, hz, pinEdge_gpio h]
    rfl
  · refine does_of_run (exec_gpioPinEdge z level) fun d h => on_eq ?_
    rw [gpioPinEdge, if_pos z.isLt, hz, pinEdge_unselected (mt (edgeSel_iff _ _ _).1 h)]
    rfl
  · refine does_of_run (exec_trigInEdge k level) fun d ⟨hn, hf, hi, ⟨hp, hc⟩, hs⟩ => congrArg (Dev.mk d.mem) ?_
    have hf' : (padSet n level d.chip).pinFunc n = 4 := hf
    have hi' : (padSet n level d.chip).pinIdx n = k.val := hi
    simp only [trigInEdge, hn]
    rw [pinEdge_selected hp hc ((edgeSel_iff _ _ _).2 hs), edgeTaken, hf', hi']
    rfl
  · refine does_of_run (exec_ppsInEdge level) fun d ⟨hn, hf, ⟨hp, hc⟩, hs, hfol⟩ => congrArg (Dev.mk d.mem) ?_
    have hf' : (padSet n level d.chip).pinFunc n = 2 := hf
    simp only [ppsInEdge, hn]
    rw [pinEdge_selected hp hc ((edgeSel_iff _ _ _).2 hs), edgeTaken, hf']
    exact if_neg (Bool.eq_false_iff.1 hfol)
  · exact does_of_run exec_ppsHoldover fun d _ => rfl
  · exact does_of_run exec_delayLineCalibration fun d _ => rfl
  · exact does_of_run exec_timeBaseSlewEnd fun d _ => rfl

end Sys2Proof.Machine
end

section
/-!
SUPPORT. Voltage, power states and clocks (R547–R552), and the watchdogs (R557, R558).
-/
namespace Sys2Proof.Machine

/-- The voltage target (R547): the override, or the lowest 5 mV step at or above need and floor. -/
theorem avsUpdate_answered (need : Nat) (c : Chip) : avsUpdate true need c =
    hubLevels ((c.setReg .pwrAvs .hub 0 (setFld (setFld (c.reg .pwrAvs .hub) 0 16
      (if fld (c.reg .pwrAvs .hub) 63 1 = 1 then fld (c.reg .pwrAvs .hub) 32 16 else min 800 (max (fld (c.reg .pwrAvs .hub) 16 16) ((need + 4) / 5 * 5)))) 62 1 0)).modHub
      (fun h => { h with avsMiss := 0 })) := rfl

/-- A transaction without an answer (R547). -/
theorem avsUpdate_unanswered (need : Nat) (c : Chip) : avsUpdate false need c =
    if 3 ≤ c.hub.avsMiss + 1 then hubLevels ((c.modHub (fun h => { h with avsMiss := h.avsMiss + 1 })).setRf .pwrAvs .hub 0 62 1 1)
    else c.modHub (fun h => { h with avsMiss := h.avsMiss + 1 }) := rfl

/-- An event leaves every tile's state. -/
theorem raise_tile (e : EvSrc) (info : Nat) (c : Chip) (t : Nat) : (raise e info c).tile t = c.tile t := by simp [Chip.tile]

theorem pllOffEnter_pllOff (t : Nat) (c : Chip) : ((pllOffEnter t c).tile t).pllOff = true := by simp [pllOffEnter, raise_tile]

/-- A tile that has woken (R550). -/
theorem tileWakeDone_tile {t : Nat} {c : Chip} (h : (c.tile t).pllOff = true) (hw : (c.tile t).waking = true) :
    ((tileWakeDone t c).tile t).pllOff = false ∧ ((tileWakeDone t c).tile t).waking = false := by
  have hn : (!((c.tile t).pllOff && (c.tile t).waking)) = false := by simp [h, hw]
  simp [tileWakeDone, hn, raise_tile]

/-- The number of a grove is populated. -/
theorem gpop_gidx (x y : Fin 12) : gpop (gidx x.val y.val) = true := by
  have hx := x.isLt
  have hy := y.isLt
  exact Bool.and_eq_true_iff.2 ⟨decide_eq_true (by unfold gidx; omega), decide_eq_true (by unfold gidx; omega)⟩

/-- The word that PWR_WAKE takes (R561). -/
theorem wakeWord_fields {t g : Nat} (ht : t < 4) (hg : g < 256) : let v := mkReg [(63, 1, 1), (8, 2, t), (0, 8, g)]
    fld v 63 1 = 1 ∧ fld v 8 2 = t ∧ fld v 0 8 = g := by
  intro v
  have hv : v = setFld (setFld (setFld 0#64 63 1 1) 8 2 t) 0 8 g := rfl
  refine ⟨?_, ?_, ?_⟩
  · rw [hv, fld_setFld_other _ _ _ _ _ _ (by omega) (by omega), fld_setFld_other _ _ _ _ _ _ (by omega) (by omega), fld_setFld_same _ _ _ _ (by omega),
      show 1 % 2 ^ 1 = 1 from rfl]
  · rw [hv, fld_setFld_other _ _ _ _ _ _ (by omega) (by omega), fld_setFld_same _ _ _ _ (by omega), Nat.mod_eq_of_lt (by omega)]
  · rw [hv, fld_setFld_same _ _ _ _ (by omega), Nat.mod_eq_of_lt (by omega)]

/-- PWR_WAKE of a grove wakes it and its tile (R548, R550). -/
theorem pwrWake_grove (g : GroveId) (c : Chip) : pwrWake (mkReg [(63, 1, 1), (8, 2, g.t.val), (0, 8, gidx g.x.val g.y.val)]) c =
    wakeGrove g.t.val (gidx g.x.val g.y.val) (tileWake g.t.val c) := by
  have hg := gpop_gidx g.x g.y
  have hlt : gidx g.x.val g.y.val < 192 := by unfold gidx; omega
  obtain ⟨ha, ht, hn⟩ := wakeWord_fields g.t.isLt (by omega : gidx g.x.val g.y.val < 256)
  have hne : (gidx g.x.val g.y.val != 255) = true := by simp; omega
  simp only [pwrWake, ha, ht, hn, Nat.one_ne_zero, if_false, hg, Bool.and_true]
  rw [if_pos]
  simp; omega

/-- A multiplier in range is taken, and the tile goes through PLL-off (R552). -/
theorem clkTileWrite_taken {t : Nat} {v : BitVec 64} {c : Chip} (h0 : 20 ≤ fld v 0 6) (h1 : fld v 0 6 ≤ 60) : clkTileWrite t v c =
    if (c.tile t).pllOff then tileWake t ((c.setRf .clkTile .hub t 0 6 (fld v 0 6)).setRf .clkTile .hub t 63 1 1)
    else tilePllOff t ((c.setRf .clkTile .hub t 0 6 (fld v 0 6)).setRf .clkTile .hub t 63 1 1) :=
  if_neg (by omega)

/-- A period in range that keeps the ratio of the two, with its warning point (R557, R562). -/
theorem wdgCtlWrite_fw {v : BitVec 64} {c : Chip} (hl : c.rbit .wdgFwCtl .hub 0 63 = false) (h0 : 100 ≤ fld v 0 16) (h1 : fld v 0 16 ≤ 60000)
    (hr : 2 * fld v 0 16 ≤ 1000 * c.rf .wdgDevCtl .hub 0 0 16) (hw : fld v 32 16 < fld v 0 16) (hk : fld v 63 1 = 0) :
    wdgCtlWrite false v c = (c.setRf .wdgFwCtl .hub 0 0 16 (fld v 0 16)).setRf .wdgFwCtl .hub 0 32 16 (fld v 32 16) := by
  have hp : (c.setRf .wdgFwCtl .hub 0 0 16 (fld v 0 16)).rf .wdgFwCtl .hub 0 0 16 = fld v 0 16 := by
    rw [rf_setRf_same _ _ _ _ _ _ _ (by omega), Nat.mod_eq_of_lt (by omega)]
  simp [wdgCtlWrite, hl, h0, h1, hr, hp, hw, hk]

theorem wdgCtlWrite_dev {v : BitVec 64} {c : Chip} (hl : c.rbit .wdgDevCtl .hub 0 63 = false) (h0 : 2 ≤ fld v 0 16) (h1 : fld v 0 16 ≤ 600)
    (hr : 2 * c.rf .wdgFwCtl .hub 0 0 16 ≤ 1000 * fld v 0 16) (hw : fld v 32 16 < 10 * fld v 0 16) (hk : fld v 63 1 = 0) :
    wdgCtlWrite true v c = (c.setRf .wdgDevCtl .hub 0 0 16 (fld v 0 16)).setRf .wdgDevCtl .hub 0 32 16 (fld v 32 16) := by
  have hp : (c.setRf .wdgDevCtl .hub 0 0 16 (fld v 0 16)).rf .wdgDevCtl .hub 0 0 16 = fld v 0 16 := by
    rw [rf_setRf_same _ _ _ _ _ _ _ (by omega), Nat.mod_eq_of_lt (by omega)]
  simp [wdgCtlWrite, hl, h0, h1, hr, hp, hw, hk]

/-- A locked register keeps its values. -/
theorem wdgCtlWrite_locked {dev : Bool} {v : BitVec 64} {c : Chip} (hl : c.rbit (if dev then .wdgDevCtl else .wdgFwCtl) .hub 0 63 = true) (hk : fld v 63 1 = 0) :
    wdgCtlWrite dev v c = c := by
  simp [wdgCtlWrite, hl, hk]

/-- A reset is what it does to the device. -/
theorem reset_eq {d : Dev} {f h : Chip → Chip} (hc : f d.chip = h d.chip) : d.reset f = d.reset h := by
  unfold Dev.reset
  rw [on_eq hc]

/-- A reset that changes nothing rearranges no memory. -/
theorem reset_id {d : Dev} {f : Chip → Chip} (h : f d.chip = d.chip) : d.reset f = d := by
  unfold Dev.reset
  rw [on_id h]
  exact List.foldlRecOn (motive := fun e => e = d) (List.range 4) _ rfl fun e he t _ => by
    rw [he, if_neg (by simp)]

/-- Settles O57: the voltage, the power states of tiles and groves, and the watchdogs. -/
theorem powerStatesAndWatchdogs : Obligations.PowerStatesAndWatchdogs := by
  unfold Obligations.PowerStatesAndWatchdogs
  refine ⟨⟨fun need => ⟨?_, ?_, ?_, ?_⟩, fun t => ⟨?_, ?_⟩, fun m g => ⟨?_, ?_⟩, fun m t v => ⟨?_, ?_, ?_⟩⟩,
    fun m v => ⟨?_, ?_, ?_, ?_, ?_, ?_, fun dev => ?_⟩, ?_, ?_, ?_, ?_, ?_⟩
  · refine does_of_run (exec_avsUpdate true need) fun d h => on_eq ?_
    rw [avsUpdate_answered, if_pos h]
  · refine does_of_run (exec_avsUpdate true need) fun d h => on_eq ?_
    rw [avsUpdate_answered, if_neg (fun h1 => Nat.one_ne_zero (h1.symm.trans h))]
  · refine does_of_run (exec_avsUpdate false need) fun d h => on_eq ?_
    rw [avsUpdate_unanswered, if_neg (by omega)]
  · refine does_of_run (exec_avsUpdate false need) fun d h => on_eq ?_
    rw [avsUpdate_unanswered, if_pos (by omega)]
  · refine brings_of_does (does_of_run (exec_tilePllOffEntry t) fun d ⟨hi, ha⟩ => on_eq (if_pos ?_)) fun d _ => pllOffEnter_pllOff t.val d.chip
    simpa [hi] using ha
  · exact brings_of_does (does_of_run (exec_tileWakeDone t) fun d _ => rfl) fun d ⟨h, hw⟩ => tileWakeDone_tile h hw
  · exact does_of_run (exec_pwrWake m g.t (some g)) fun d hw => hubWrite hw (on_eq (pwrWake_grove g d.chip))
  · refine does_of_run (exec_groveRetentionEntry g) fun d ⟨he, hr, hp, hf, hh, ho⟩ => on_eq (if_neg ?_)
    have hg : gpop (gOf g) = true := gpop_gidx g.x g.y
    have hr' : (d.chip.grove g.t.val (gOf g)).run = none := hr
    have hp' : (d.chip.grove g.t.val (gOf g)).pagein = none := hp
    have hf' : (d.chip.grove g.t.val (gOf g)).forcedSave = false := hf
    have hh' : (d.chip.grove g.t.val (gOf g)).halted = false := hh
    have ho' : (d.chip.tile g.t.val).onGrove (gOf g) (fun s => s == .placed || s == .resumable) = false := ho
    simp [he, hr', hp', hf', hh', hg, ho']
  · exact does_of_run (exec_clkTileWrite m t v) fun d ⟨hw, h⟩ => hubWrite hw (on_id (if_pos h))
  · refine does_of_run (exec_clkTileWrite m t v) fun d ⟨hw, h0, h1, hp, hi⟩ => hubWrite hw (on_eq ?_)
    rw [clkTileWrite_taken h0 h1, if_neg (by simp [hp])]
    exact if_neg (by simp [hi])
  · refine does_of_run (exec_clkTileWrite m t v) fun d ⟨hw, h0, h1, hp⟩ => hubWrite hw (on_eq ?_)
    rw [clkTileWrite_taken h0 h1, if_pos hp]
  · exact does_of_run (exec_wdgFwSvc m v) fun d ⟨hw, h⟩ => hubWrite hw (on_eq (if_pos h))
  · exact does_of_run (exec_wdgFwSvc m v) fun d ⟨hw, h⟩ => hubWrite hw (on_id (if_neg h))
  · exact does_of_run (exec_wdgDevSvc m v) fun d ⟨hw, h⟩ => hubWrite hw (on_eq (if_pos h))
  · exact does_of_run (exec_wdgDevSvc m v) fun d ⟨hw, h⟩ => hubWrite hw (on_id (if_neg h))
  · exact does_of_run (exec_wdgCtlWrite m false v) fun d ⟨hw, hl, h0, h1, hr, hb, hk⟩ => hubWrite hw (on_eq (wdgCtlWrite_fw hl h0 h1 hr hb hk))
  · exact does_of_run (exec_wdgCtlWrite m true v) fun d ⟨hw, hl, h0, h1, hr, hb, hk⟩ => hubWrite hw (on_eq (wdgCtlWrite_dev hl h0 h1 hr hb hk))
  · refine does_of_run (exec_wdgCtlWrite m dev v) fun d ⟨hw, hl, hk⟩ => hubWrite hw ?_
    cases dev
    · exact on_id (wdgCtlWrite_locked hl hk)
    · exact on_id (wdgCtlWrite_locked hl hk)
  · exact does_of_run exec_wdgFwWarn fun d ⟨hw, hf⟩ => on_eq (if_neg (by simp [hw, hf]))
  · exact does_of_run exec_wdgDevWarn fun d ⟨hw, hf⟩ => on_eq (if_neg (by simp [hw, hf]))
  · exact does_of_run exec_wdgFwExpiry fun d hf => on_eq (if_neg (by simp [hf]))
  · exact does_of_run exec_wdgDevExpiry fun d hf => reset_eq (if_neg (by simp [hf]))
  · simp only [List.forall_mem_cons, List.not_mem_nil, false_imp_iff, implies_true, and_true]
    refine ⟨?_, ?_, ?_, ?_⟩
    · exact does_of_run exec_wdgFwWarn fun d hf => on_id (if_pos (by simp [hf]))
    · exact does_of_run exec_wdgDevWarn fun d hf => on_id (if_pos (by simp [hf]))
    · exact does_of_run exec_wdgFwExpiry fun d hf => on_id (if_pos hf)
    · exact does_of_run exec_wdgDevExpiry fun d hf => reset_id (if_pos hf)

end Sys2Proof.Machine
end

section
/-!
SUPPORT. The lookout port (R563–R568): what a frame is answered, by its head, its operation and its address.
-/
namespace Sys2Proof.Machine

/-- A frame while the port waits for a line reset. -/
theorem dbgFrame_lost {op : Nat} {f : DbgFrame} {ecc : Ecc} {d : Dev} (hl : d.chip.hub.dbg.lost = true) : dbgFrame op f ecc d = d :=
  if_pos (by simp [hl])

/-- A frame whose head fails its parity. -/
theorem dbgFrame_bad {op : Nat} {f : DbgFrame} {ecc : Ecc} {d : Dev} (hw : d.chip.hub.warmHeld = []) (hl : d.chip.hub.dbg.lost = false) (hf : f.hok = false) :
    dbgFrame op f ecc d = d.on (fun c => dbgOut 7 0#64 (c.modDbg (fun p => { p with perr := true, lost := true }))) := by
  simp [dbgFrame, hw, hl, hf]

/-- The frame that the port takes: it is up and the head is good. -/
def portTakes (f : DbgFrame) (d : Dev) : Prop := (d.chip.hub.warmHeld = [] ∧ d.chip.hub.dbg.lost = false) ∧ f.hok = true

theorem dbgFrame_reserved {op : Nat} {f : DbgFrame} {ecc : Ecc} {d : Dev} (h : portTakes f d) (ho : op = 0 ∨ 8 < op) :
    dbgFrame op f ecc d = d.on (dbgFault 4) := by
  obtain ⟨⟨hw, hl⟩, hf⟩ := h
  simp [dbgFrame, hw, hl, hf, ho]

theorem dbgFrame_portRead {f : DbgFrame} {ecc : Ecc} {d : Dev} (h : portTakes f d) : dbgFrame 7 f ecc d =
    if f.wide then d.on (dbgFault 4) else d.on (fun c => dbgOut 1 (portReg c (f.operand.toNat % 16)) c) := by
  obtain ⟨⟨hw, hl⟩, hf⟩ := h
  simp [dbgFrame, hw, hl, hf]

theorem dbgFrame_portWrite_wide {f : DbgFrame} {ecc : Ecc} {d : Dev} (h : portTakes f d) (hw : f.wide = true) : dbgFrame 8 f ecc d = d.on (dbgFault 4) := by
  obtain ⟨⟨hh, hl⟩, hf⟩ := h
  simp [dbgFrame, hh, hl, hf, hw]

/-- PWR of DBG_CTL with both action bits (R582). -/
theorem dbgFrame_portWrite_ctl {f : DbgFrame} {ecc : Ecc} {d : Dev} (h : portTakes f d) (hw : f.wide = false) (hd : f.dok = true)
    (ho : f.operand.toNat % 16 = 2) (ha : fld f.data 31 1 = 1) (hc : fld f.data 30 1 = 1) :
    dbgFrame 8 f ecc d = d.on (fun c => dbgClr (dbgAbort (dbgOut 1 0#64 c))) := by
  obtain ⟨⟨hh, hl⟩, hf⟩ := h
  simp [dbgFrame, hh, hl, hf, hw, hd, ho, ha, hc, Dev.on]

/-- The address that an access of the port names. -/
def portAddr (incr : Bool) (f : DbgFrame) (d : Dev) : Nat := if incr then d.chip.hub.dbg.auto else f.operand.toNat

/-- The operation of an access command: its number gives its kind and whether it takes the auto address. -/
structure AccessFrame (i : Instr) (f : DbgFrame) (ecc : Ecc) (op : Nat) (incr : Bool) (kind : Nat) : Prop where
  runs : ∀ s, exec i s = run (dbgFrame op f ecc) s
  low : 1 ≤ op
  high : op ≤ 6
  autos : decide (4 ≤ op) = incr
  kinds : (op - 1) % 3 = kind

/-- The six access commands are access frames. -/
theorem accessFrames (f : DbgFrame) (ecc : Ecc) : ∀ z ∈ [(Instr.rd f ecc, false, 0), (.rdq f ecc, false, 1), (.wr f ecc, false, 2), (.rdi f ecc, true, 0),
    (.rdqi f ecc, true, 1), (.wri f ecc, true, 2)], ∃ op, AccessFrame z.1 f ecc op z.2.1 z.2.2 := by
  simp only [List.forall_mem_cons, List.not_mem_nil, false_imp_iff, implies_true, and_true]
  exact ⟨⟨1, exec_rd f ecc, by decide, by decide, rfl, rfl⟩, ⟨2, exec_rdq f ecc, by decide, by decide, rfl, rfl⟩, ⟨3, exec_wr f ecc, by decide, by decide, rfl, rfl⟩,
    ⟨4, exec_rdi f ecc, by decide, by decide, rfl, rfl⟩, ⟨5, exec_rdqi f ecc, by decide, by decide, rfl, rfl⟩, ⟨6, exec_wri f ecc, by decide, by decide, rfl, rfl⟩⟩

/-- An access frame (R566–R568): FORMAT, PERM, and then the write or the read. -/
theorem dbgFrame_access {i : Instr} {op kind : Nat} {incr : Bool} {f : DbgFrame} {ecc : Ecc} {d : Dev} (h : portTakes f d)
    (hi : AccessFrame i f ecc op incr kind) : dbgFrame op f ecc d =
    if portAddr incr f d % (if f.wide then 8 else 4) ≠ 0 then d.on (dbgFault 4)
    else if !(dbgMay (kind == 1) (kind == 2) (portAddr incr f d) d.chip) then d.on (dbgFault 1)
    else if kind = 2 then dbgWrite (portAddr incr f d) f.wide f.dok f.data ecc d
    else dbgRead { quiet := kind == 1, incr := incr, wide := f.wide, addr := portAddr incr f d } f.fast ecc d := by
  obtain ⟨⟨hw, hl⟩, hf⟩ := h
  obtain ⟨-, h1, h6, rfl, rfl⟩ := hi
  rw [dbgFrame, if_neg (by simp [hw, hl]), if_neg (by simp [hf]), if_neg (by omega), if_neg (by omega), if_neg (by omega)]
  rfl

/-- An aligned address that the level does not allow (R568). -/
theorem dbgFrame_forbidden {i : Instr} {op kind : Nat} {incr : Bool} {f : DbgFrame} {ecc : Ecc} {d : Dev} (h : portTakes f d)
    (hi : AccessFrame i f ecc op incr kind) (ha : portAddr incr f d % (if f.wide then 8 else 4) = 0)
    (hm : dbgMay (kind == 1) (kind == 2) (portAddr incr f d) d.chip = false) : dbgFrame op f ecc d = d.on (dbgFault 1) := by
  rw [dbgFrame_access h hi, if_neg (not_not_intro ha), if_pos (by simp [hm])]

/-- A frame whose address is aligned and permitted is served. -/
theorem dbgFrame_serves {i : Instr} {op kind : Nat} {incr : Bool} {f : DbgFrame} {ecc : Ecc} {d : Dev} (h : portTakes f d)
    (hi : AccessFrame i f ecc op incr kind) (ha : portAddr incr f d % (if f.wide then 8 else 4) = 0)
    (hm : dbgMay (kind == 1) (kind == 2) (portAddr incr f d) d.chip = true) : dbgFrame op f ecc d =
    if kind = 2 then dbgWrite (portAddr incr f d) f.wide f.dok f.data ecc d
    else dbgRead { quiet := kind == 1, incr := incr, wide := f.wide, addr := portAddr incr f d } f.fast ecc d := by
  rw [dbgFrame_access h hi, if_neg (not_not_intro ha), if_neg (by simp [hm])]

/-- A read frame with no read pending: it is noted and answered WAIT. -/
theorem dbgRead_first {x : DbgAcc} {ecc : Ecc} {d : Dev} (hp : d.chip.hub.dbg.pend = none) (hr : isRemote d.chip x.addr = false) :
    dbgRead x false ecc d = d.on (fun c => dbgOut 2 0#64 (c.modDbg (fun p => { p with pend := some x }))) := by
  have hr' : isRemote (d.chip.modDbg (fun p => { p with pend := some x })) x.addr = false := hr
  simp [dbgRead, hp, hr, Dev.on, hr']

/-- A read frame of another address than the pending read's. -/
theorem dbgRead_other {x y : DbgAcc} {fast : Bool} {ecc : Ecc} {d : Dev} (hp : d.chip.hub.dbg.pend = some y) (hy : y ≠ x) :
    dbgRead x fast ecc d = d.on (dbgOut 2 0#64) := by
  simp [dbgRead, hp, hy]

/-- The frame of the pending read takes the result, which moves the auto address on. -/
theorem dbgRead_result {x : DbgAcc} {fast : Bool} {ecc : Ecc} {d : Dev} {v : BitVec 64} (hp : d.chip.hub.dbg.pend = some x)
    (hr : d.chip.hub.dbg.result = some (0, v)) : dbgRead x fast ecc d =
    d.on (fun c => dbgOut 1 v (c.modDbg (fun p => { p with pend := none, result := none, auto := x.addr + if x.wide then 8 else 4 }))) := by
  simp only [dbgRead, hp, if_true]
  refine on_eq ?_
  simp only [dbgReturn, hr]
  rfl

/-- A read that completes keeps its result (R566). -/
theorem dbgReadComplete_kept {ecc : Ecc} {d : Dev} {x : DbgAcc} {r : (Nat × BitVec 64) × Dev} (hd : d.chip.hub.dbg.drop = [])
    (hp : d.chip.hub.dbg.pend = some x) (hr : d.chip.hub.dbg.result = none) (ho : d.chip.outstanding (fun w => w == .debug false) = false)
    (hl : isRemote d.chip x.addr = false) (hs : dbgServe x ecc d = some r) :
    dbgReadComplete ecc d = r.2.on (fun c => c.modDbg (fun p => { p with result := some r.1 })) := by
  simp only [dbgReadComplete, hd, dbgReadNow, hp, hr, ho, Option.isSome_none, Bool.or_self, Bool.false_eq_true, if_false]
  split
  next dv off hloc => simp [isRemote, hloc] at hl
  · simp [hs]

/-- Settles O58: frames by their head, their operation and their address, and what the port keeps. -/
theorem lookoutFramesAnswer : Obligations.LookoutFramesAnswer := by
  unfold Obligations.LookoutFramesAnswer
  intro f ecc
  refine ⟨?_, ?_, ?_, ?_, ?_, ?_, fun z hz => ?_, fun x r => ?_, ?_, ?_, ?_⟩
  · have key : ∀ {i : Instr} {op : Nat}, (∀ s, exec i s = run (dbgFrame op f ecc) s) →
        Does i (fun d => (d.chip.hub.warmHeld = [] ∧ d.chip.hub.dbg.lost = false) ∧ f.hok = false)
          (fun d => d.on (fun c => dbgOut 7 0#64 (c.modDbg (fun p => { p with perr := true, lost := true })))) ∧
        Does i (fun d => d.chip.hub.warmHeld = [] ∧ d.chip.hub.dbg.lost = true) (fun d => d) := fun hx =>
      ⟨does_of_run hx fun d ⟨⟨hw, hl⟩, hf⟩ => dbgFrame_bad hw hl hf, does_of_run hx fun d ⟨_, hl⟩ => dbgFrame_lost hl⟩
    simp only [List.forall_mem_cons, List.not_mem_nil, false_imp_iff, implies_true, and_true]
    exact ⟨key (exec_rd f ecc), key (exec_rdq f ecc), key (exec_wr f ecc), key (exec_rdi f ecc), key (exec_rdqi f ecc), key (exec_wri f ecc),
      key (exec_prd f ecc), key (exec_pwr f ecc)⟩
  · exact does_of_run exec_lineReset fun d hw => on_eq (if_pos (by simp [hw]))
  · intro op ho
    have hop : ¬(1 ≤ op.toNat ∧ op.toNat ≤ 8) ∧ (op.toNat = 0 ∨ 8 < op.toNat) := by
      revert op; decide
    exact does_of_run (exec_reservedFrame op f) fun d h => (if_neg hop.1).trans (dbgFrame_reserved h hop.2)
  · exact does_of_run (exec_prd f ecc) fun d ⟨h, hw⟩ => (dbgFrame_portRead h).trans (if_neg (by simp [hw]))
  · exact does_of_run (exec_pwr f ecc) fun d ⟨h, hw, hd, ho, ha, hc⟩ => dbgFrame_portWrite_ctl h hw hd ho ha hc
  · simp only [List.forall_mem_cons, List.not_mem_nil, false_imp_iff, implies_true, and_true]
    exact ⟨does_of_run (exec_prd f ecc) fun d ⟨h, hw⟩ => (dbgFrame_portRead h).trans (if_pos hw),
      does_of_run (exec_pwr f ecc) fun d ⟨h, hw⟩ => dbgFrame_portWrite_wide h hw⟩
  · obtain ⟨op, hi⟩ := accessFrames f ecc z hz
    refine ⟨?_, ?_, fun hk => ⟨?_, fun y => ?_, fun v => ?_⟩, fun hk => ⟨?_, ?_, ?_⟩⟩
    · exact does_of_run hi.runs fun d ⟨h, ha⟩ => (dbgFrame_access h hi).trans (if_pos ha)
    · refine does_of_run hi.runs fun d ⟨h, ha, hm⟩ => ?_
      exact dbgFrame_forbidden h hi ha hm
    · refine does_of_run hi.runs fun d ⟨⟨h, ha, hm⟩, hp, hf, hr⟩ => ?_
      rw [dbgFrame_serves h hi ha hm, if_neg hk, hf]
      exact dbgRead_first hp hr
    · refine does_of_run hi.runs fun d ⟨⟨h, ha, hm⟩, hp, hy⟩ => ?_
      rw [dbgFrame_serves h hi ha hm, if_neg hk]
      exact dbgRead_other hp hy
    · refine does_of_run hi.runs fun d ⟨⟨h, ha, hm⟩, hp, hr⟩ => ?_
      rw [dbgFrame_serves h hi ha hm, if_neg hk]
      exact dbgRead_result hp hr
    · refine does_of_run hi.runs fun d ⟨⟨h, ha, hm⟩, hw⟩ => ?_
      rw [dbgFrame_serves h hi ha hm, if_pos hk]
      exact if_pos hw
    · refine does_of_run hi.runs fun d ⟨⟨h, ha, hm⟩, hw, hd⟩ => ?_
      rw [dbgFrame_serves h hi ha hm, if_pos hk, dbgWrite, if_neg (by simp [hw]), if_pos (by simp [hd])]
    · refine does_of_run hi.runs fun d ⟨⟨h, ha, hm⟩, hw, hd⟩ => ?_
      rw [dbgFrame_serves h hi ha hm, if_pos hk, dbgWrite, if_neg (by simp [hw]), if_neg (by simp [hd])]
      rfl
  · exact does_of_run (exec_debugReadComplete ecc) fun d ⟨hd, hp, hr, ho, hl, hs⟩ => dbgReadComplete_kept hd hp hr ho hl hs
  · exact does_of_run exec_dbgPortAbort fun d hp => on_id (by rw [dbgAbort, hp])
  · refine brings_of_does (does_of_run exec_dbgPortAbort fun d _ => rfl) fun d hp => ?_
    obtain ⟨x, hx⟩ := Option.isSome_iff_exists.1 hp
    simp only [Dev.on, dbgAbort, hx]
    exact ⟨rfl, rfl⟩
  · exact does_of_run exec_dbgPortClr fun d _ => rfl

end Sys2Proof.Machine
end

section
/-!
SUPPORT. The action bits of LNK_CTL and D2D_CTL (R427–R433).
-/
namespace Sys2Proof.Machine

/-- A field apart from every field that a list of settings writes keeps its value. -/
theorem fld_settings_apart {lo w : Nat} {fs : List (Nat × Nat × Nat)} (h : ∀ f ∈ fs, f.1 + f.2.1 ≤ 64 ∧ (lo + w ≤ f.1 ∨ f.1 + f.2.1 ≤ lo)) (v : BitVec 64) :
    fld (fs.foldl (fun v f => setFld v f.1 f.2.1 f.2.2) v) lo w = fld v lo w :=
  List.foldlRecOn (motive := fun u => fld u lo w = fld v lo w) fs _ rfl fun u hu f hf => by
    rw [fld_setFld_other _ _ _ _ _ _ (h f hf).1 (h f hf).2, hu]

/-- What a command that names fields writes in a field that software does not set: 0, unless it names that field. -/
theorem fld_kept_apart {r : Reg} {lo w : Nat}
    (h : ∀ f ∈ r.fields, (f.acc = .rw || f.acc = .rwl) = true → f.lo + f.wd ≤ 64 ∧ (lo + w ≤ f.lo ∨ f.lo + f.wd ≤ lo)) (s : Site) (i : Nat) (d : Dev) :
    fld (fieldValue r s i [] d) lo w = 0 :=
  List.foldlRecOn (motive := fun u => fld u lo w = 0) r.fields _ (fld_zero lo w) fun u hu f hf => by
    by_cases ha : (f.acc = .rw || f.acc = .rwl) = true
    · rw [if_pos ha, fld_setFld_other _ _ _ _ _ _ (h f hf ha).1 (h f hf ha).2, hu]
    · rw [if_neg ha, hu]

/-- The values of the settings are written over what the fields hold. -/
theorem fieldValue_settings (r : Reg) (s : Site) (i : Nat) (fs : List (Nat × Nat × Nat)) (d : Dev) :
    fieldValue r s i fs d = fs.foldl (fun v f => setFld v f.1 f.2.1 f.2.2) (fieldValue r s i [] d) := rfl

/-- An action bit that a command does not name is not set. -/
theorem fld_fieldValue_apart {r : Reg} {lo w : Nat} {fs : List (Nat × Nat × Nat)}
    (hr : ∀ f ∈ r.fields, (f.acc = .rw || f.acc = .rwl) = true → f.lo + f.wd ≤ 64 ∧ (lo + w ≤ f.lo ∨ f.lo + f.wd ≤ lo))
    (hf : ∀ f ∈ fs, f.1 + f.2.1 ≤ 64 ∧ (lo + w ≤ f.1 ∨ f.1 + f.2.1 ≤ lo)) (s : Site) (i : Nat) (d : Dev) : fld (fieldValue r s i fs d) lo w = 0 := by
  rw [fieldValue_settings, fld_settings_apart hf, fld_kept_apart hr]

/-- A field that a command names has the value given, if what it names after leaves it. -/
theorem fld_fieldValue_named {r : Reg} {lo w x : Nat} {fs : List (Nat × Nat × Nat)} (es gs : List (Nat × Nat × Nat)) (he : fs = es ++ (lo, w, x) :: gs)
    (hw : lo + w ≤ 64) (hg : ∀ f ∈ gs, f.1 + f.2.1 ≤ 64 ∧ (lo + w ≤ f.1 ∨ f.1 + f.2.1 ≤ lo)) (s : Site) (i : Nat) (d : Dev) :
    fld (fieldValue r s i fs d) lo w = x % 2 ^ w := by
  rw [he, fieldValue_settings, List.foldl_append, List.foldl_cons, fld_settings_apart hg, fld_setFld_same _ _ _ _ hw]

/-- The enable bit of LNK_CTL acts, and the other fields are kept. -/
def lnkCtlKeep (p : Nat) (v : BitVec 64) (c : Chip) : Chip :=
  lnkEnable p (fld v 63 1 == 1) (putReg .lnkCtl .hub p (setFld v 63 1 (c.rf .lnkCtl .hub p 63 1)) c)

/-- LNK_CTL by its action bits (R431). -/
theorem lnkCtlWrite_eq {p x y z : Nat} {v : BitVec 64} (hx : fld v 62 1 = x) (hy : fld v 61 1 = y) (hz : fld v 60 1 = z) (c : Chip) : lnkCtlWrite p v c =
    (let c := lnkCtlKeep p v c
     let c := if x = 1 then retrainReq p c else c
     let c := if y = 1 then lnkDownReq p c else c
     if z = 1 then moveReq p (fld v 57 3) (fld v 56 1 == 1) c else c) := by
  subst hx hy hz
  rfl

/-- D2D_CTL by its action bits (R431). -/
theorem d2dCtlWrite_eq {m x y : Nat} {v : BitVec 64} (hx : fld v 63 1 = x) (hy : fld v 62 1 = y) (c : Chip) : d2dCtlWrite m v c =
    (let c := putReg .d2dCtl .hub m v c
     let c := if x = 1 then retrainReq (16 + 2 * m) c else c
     if y = 1 then moveReq (16 + 2 * m) (fld v 55 7) (fld v 54 1 == 1) c else c) := by
  subst hx hy
  rfl

/-- An active link retrains at a request. -/
theorem retrainReq_active {k : Nat} {c : Chip} (h : (c.link k).st = .active) : retrainReq k c = startRetrain k false c := if_pos h

/-- A write of LNK_CTL that retrains only. -/
theorem lnkCtlWrite_retrain (p : Nat) (d : Dev) (h : ((lnkCtlKeep p (fieldValue .lnkCtl .hub p [(62, 1, 1)] d) d.chip).link p).st = .active) :
    lnkCtlWrite p (fieldValue .lnkCtl .hub p [(62, 1, 1)] d) d.chip =
      startRetrain p false (lnkCtlKeep p (fieldValue .lnkCtl .hub p [(62, 1, 1)] d) d.chip) := by
  refine Eq.trans (lnkCtlWrite_eq (fld_fieldValue_named [] [] rfl (by decide) (by decide) _ _ d) (fld_fieldValue_apart (by decide) (by decide) _ _ d)
    (fld_fieldValue_apart (by decide) (by decide) _ _ d) _) ?_
  exact retrainReq_active h

/-- A write of LNK_CTL that takes the port down only. -/
theorem lnkCtlWrite_down (p : Nat) (d : Dev) : lnkCtlWrite p (fieldValue .lnkCtl .hub p [(61, 1, 1)] d) d.chip =
    portGoesDown p (lnkCtlKeep p (fieldValue .lnkCtl .hub p [(61, 1, 1)] d) d.chip) := by
  refine Eq.trans (lnkCtlWrite_eq (fld_fieldValue_apart (by decide) (by decide) _ _ d) (fld_fieldValue_named [] [] rfl (by decide) (by decide) _ _ d)
    (fld_fieldValue_apart (by decide) (by decide) _ _ d) _) ?_
  rfl

/-- A write of LNK_CTL that sets the enable bit only. -/
theorem lnkCtlWrite_enable (p : Nat) (en : Bool) (d : Dev) : lnkCtlWrite p (fieldValue .lnkCtl .hub p [(63, 1, b2n en)] d) d.chip =
    lnkEnable p en (putReg .lnkCtl .hub p (setFld (fieldValue .lnkCtl .hub p [(63, 1, b2n en)] d) 63 1 (d.chip.rf .lnkCtl .hub p 63 1)) d.chip) := by
  have he : (fld (fieldValue .lnkCtl .hub p [(63, 1, b2n en)] d) 63 1 == 1) = en := by
    refine Eq.trans (congrArg (· == 1) (fld_fieldValue_named [] [] rfl (by decide) (by decide) _ _ d)) ?_
    cases en <;> rfl
  have hf : ∀ f ∈ [(63, 1, b2n en)], f.1 + f.2.1 ≤ 64 ∧ (62 + 1 ≤ f.1 ∨ f.1 + f.2.1 ≤ 62) := by simp
  refine Eq.trans (lnkCtlWrite_eq (fld_fieldValue_apart (by decide) (by simp) _ _ d) (fld_fieldValue_apart (by decide) (by simp) _ _ d)
    (fld_fieldValue_apart (by decide) (by simp) _ _ d) _) ?_
  simp [lnkCtlKeep, he]

/-- A lane of an active port moves to the spare by a retraining (R419). -/
theorem moveReq_port {p lane : Nat} {dir : Bool} {c : Chip} (hp : p < 16) (hl : lane ≤ 3) (ha : (c.link p).st = .active) :
    moveReq p lane dir c = startRetrain p false (c.modLink p (fun e => { e with moving := [(dir, lane)] })) := by
  have hq : isPort p = true := decide_eq_true hp
  simp [moveReq, linkEnds, hq, ha, Nat.not_lt.2 hl]

/-- A lane of an active module moves to a spare at both ends (R423). -/
theorem moveReq_module {k lane : Nat} {dir : Bool} {c : Chip} (hl : lane ≤ 63) (ha : (c.link (16 + 2 * k)).st = .active) :
    moveReq (16 + 2 * k) lane dir c = startRetrain (16 + 2 * k) false ((c.modLink (16 + 2 * k) (fun e => { e with moving := [(dir, lane)] })).modLink
      (16 + 2 * k + 1) (fun e => { e with moving := [(dir, lane)] })) := by
  have hq : isPort (16 + 2 * k) = false := decide_eq_false (by omega)
  have hm : 16 + 2 * k - (16 + 2 * k) % 2 = 16 + 2 * k := by omega
  simp only [moveReq, linkEnds, hq, hm, Bool.false_eq_true, if_false, ha, if_true, List.foldl_cons, List.foldl_nil]
  rw [if_neg (by simp; omega)]

/-- A write of LNK_CTL that moves a lane. -/
theorem lnkCtlWrite_move {p : Nat} (hp : p < 16) (lane : Fin 4) (rx : Bool) (d : Dev) {v : BitVec 64}
    (hv : v = fieldValue .lnkCtl .hub p [(60, 1, 1), (57, 3, lane.val), (56, 1, b2n rx)] d) (h : ((lnkCtlKeep p v d.chip).link p).st = .active) :
    lnkCtlWrite p v d.chip = startRetrain p false ((lnkCtlKeep p v d.chip).modLink p (fun x => { x with moving := [(rx, lane.val)] })) := by
  have hr : fld v 62 1 = 0 := hv ▸ fld_fieldValue_apart (by decide) (by simp) _ _ d
  have ho : fld v 61 1 = 0 := hv ▸ fld_fieldValue_apart (by decide) (by simp) _ _ d
  have hm : fld v 60 1 = 1 := hv ▸ fld_fieldValue_named [] [(57, 3, lane.val), (56, 1, b2n rx)] rfl (by decide) (by simp) _ _ d
  have hl : fld v 57 3 = lane.val % 2 ^ 3 := hv ▸ fld_fieldValue_named [(60, 1, 1)] [(56, 1, b2n rx)] rfl (by decide) (by simp) _ _ d
  have hd : fld v 56 1 = b2n rx % 2 ^ 1 := hv ▸ fld_fieldValue_named [(60, 1, 1), (57, 3, lane.val)] [] rfl (by decide) (by simp) _ _ d
  have hx : (b2n rx % 2 ^ 1 == 1) = rx := by cases rx <;> rfl
  rw [lnkCtlWrite_eq hr ho hm, hl, hd, hx, Nat.mod_eq_of_lt (by omega)]
  exact moveReq_port hp (by omega) h

/-- A write of D2D_CTL that retrains only. -/
theorem d2dCtlWrite_retrain (k : Nat) (d : Dev) (h : (d.chip.link (16 + 2 * k)).st = .active) :
    d2dCtlWrite k (fieldValue .d2dCtl .hub k [(63, 1, 1)] d) d.chip =
      startRetrain (16 + 2 * k) false (putReg .d2dCtl .hub k (fieldValue .d2dCtl .hub k [(63, 1, 1)] d) d.chip) := by
  refine Eq.trans (d2dCtlWrite_eq (fld_fieldValue_named [] [] rfl (by decide) (by decide) _ _ d) (fld_fieldValue_apart (by decide) (by decide) _ _ d) _) ?_
  exact retrainReq_active h

/-- A write of D2D_CTL that moves a lane. -/
theorem d2dCtlWrite_move (k : Nat) (lane : Fin 64) (dir : Bool) (d : Dev) {v : BitVec 64}
    (hv : v = fieldValue .d2dCtl .hub k [(62, 1, 1), (55, 7, lane.val), (54, 1, b2n dir)] d) (h : (d.chip.link (16 + 2 * k)).st = .active) :
    d2dCtlWrite k v d.chip = startRetrain (16 + 2 * k) false (((putReg .d2dCtl .hub k v d.chip).modLink
      (16 + 2 * k) (fun x => { x with moving := [(dir, lane.val)] })).modLink (16 + 2 * k + 1) (fun x => { x with moving := [(dir, lane.val)] })) := by
  have hr : fld v 63 1 = 0 := hv ▸ fld_fieldValue_apart (by decide) (by simp) _ _ d
  have hm : fld v 62 1 = 1 := hv ▸ fld_fieldValue_named [] [(55, 7, lane.val), (54, 1, b2n dir)] rfl (by decide) (by simp) _ _ d
  have hl : fld v 55 7 = lane.val % 2 ^ 7 := hv ▸ fld_fieldValue_named [(62, 1, 1)] [(54, 1, b2n dir)] rfl (by decide) (by simp) _ _ d
  have hd : fld v 54 1 = b2n dir % 2 ^ 1 := hv ▸ fld_fieldValue_named [(62, 1, 1), (55, 7, lane.val)] [] rfl (by decide) (by simp) _ _ d
  have hx : (b2n dir % 2 ^ 1 == 1) = dir := by cases dir <;> rfl
  rw [d2dCtlWrite_eq hr hm, hl, hd, hx, Nat.mod_eq_of_lt (by omega)]
  exact moveReq_module (by omega) h

/-- A write of shot arms one injection at a port (R433). -/
theorem fiWrite_port {p : Nat} (hp : p < 16) (d : Dev) : fiWrite .lnkFi p p (fieldValue .lnkFi .hub p [(62, 1, 1)] d) d.chip =
    (putReg .lnkFi .hub p (fieldValue .lnkFi .hub p [(62, 1, 1)] d) d.chip).modLink p (fun x => { x with fiShot := true }) := by
  have hs : fld (fieldValue .lnkFi .hub p [(62, 1, 1)] d) 62 1 = 1 := fld_fieldValue_named [] [] rfl (by decide) (by decide) _ _ d
  have hq : isPort p = true := decide_eq_true hp
  simp only [fiWrite, hs, if_true, fiShot, hq]

/-- Settles O45: the action bits of LNK_CTL and D2D_CTL. -/
theorem linkRequestsAct : Obligations.LinkRequestsAct := by
  unfold Obligations.LinkRequestsAct
  refine fun m => ⟨fun p => ⟨?_, ?_, fun lane rx => ?_, fun en => ?_, ?_⟩, fun n => ⟨?_, fun lane dir => ?_⟩⟩
  · exact does_of_run (exec_lnkRetrainReq m p) fun d ⟨hw, h⟩ => hubWrite hw (on_eq (lnkCtlWrite_retrain p d h))
  · exact does_of_run (exec_lnkDownReq m p) fun d hw => hubWrite hw (on_eq (lnkCtlWrite_down p d))
  · exact does_of_run (exec_lnkFailoverReq m p _ rx) fun d ⟨hw, h⟩ => hubWrite hw (on_eq (lnkCtlWrite_move (by omega) lane rx d rfl h))
  · exact does_of_run (exec_lnkEnable m p en) fun d hw => hubWrite hw (on_eq (lnkCtlWrite_enable p en d))
  · exact does_of_run (exec_fiShot m (.port p)) fun d hw => hubWrite hw (on_eq (fiWrite_port (by omega) d))
  · exact does_of_run (exec_d2dRetrainReq m n) fun d ⟨hw, h⟩ => hubWrite hw (on_eq (d2dCtlWrite_retrain n d h))
  · exact does_of_run (exec_d2dRepairReq m n _ dir) fun d ⟨hw, h⟩ => hubWrite hw (on_eq (d2dCtlWrite_move n lane dir d rfl h))

end Sys2Proof.Machine
end

section
/-!
SUPPORT. Accesses of scratchpads and of tile memory (R276–R286): how they are served, and what they leave in memory.
-/
namespace Sys2Proof.Machine

/-- An aligned offset is aligned. -/
theorem alignTo_aligned (wide : Bool) (o : Nat) : alignTo wide o - alignTo wide o % (if wide then 8 else 4) = alignTo wide o := by
  cases wide <;> simp [alignTo] <;> omega

/-! ### What a served access leaves -/

theorem poison_read_outside (d : Dev) {a x : Nat} (h : x < a - a % 8 ∨ a - a % 8 + 8 ≤ x) : (d.poison a).mem.read x = d.mem.read x := by
  unfold Dev.poison
  split
  · rfl
  · exact Mem.read_store_outside _ _ _ _ _ h

theorem wrBytes_read_outside (d : Dev) {a n v x : Nat} (h : x < a ∨ a + n ≤ x) : (d.wrBytes a n v).mem.read x = d.mem.read x := by
  unfold Dev.wrBytes
  split
  · split
    · rfl
    · exact Mem.read_store_outside _ _ _ _ _ h
  · split
    · rfl
    · exact Mem.read_store_outside _ _ _ _ _ h

theorem wr32_read_outside (d : Dev) {a x : Nat} {w : TWord} (h : x < a - a % 8 ∨ a - a % 8 + 8 ≤ x) : (d.wr32 a w).mem.read x = d.mem.read x := by
  have hp (e : Dev) : (e.poison (a - a % 4)).mem.read x = e.mem.read x := poison_read_outside e (by omega)
  have hb (v : Nat) : (d.wrBytes (a - a % 4) 4 v).mem.read x = d.mem.read x := wrBytes_read_outside d (by omega)
  unfold Dev.wr32
  dsimp only
  split
  · split
    · rw [hp, hb]
    · exact hp d
  · exact hb _

theorem wrRow_read_outside (d : Dev) {a x : Nat} {lo hi : TWord} (h : x < a - a % 8 ∨ a - a % 8 + 8 ≤ x) : (d.wrRow a lo hi).mem.read x = d.mem.read x := by
  have hp (e : Dev) : (e.poison (a - a % 8)).mem.read x = e.mem.read x := poison_read_outside e (by omega)
  have hb (v : Nat) : (d.wrBytes (a - a % 8) 8 v).mem.read x = d.mem.read x := wrBytes_read_outside d (by omega)
  unfold Dev.wrRow
  dsimp only
  split
  · split
    · rw [hp, hb]
    · exact hp d
  · exact hb _

/-- A write of one or two words leaves every byte outside its row. -/
theorem wrW_read_outside (d : Dev) {a x : Nat} {wide : Bool} {lo hi : TWord} (h : x < a - a % 8 ∨ a - a % 8 + 8 ≤ x) :
    (d.wrW a wide lo hi).mem.read x = d.mem.read x := by
  cases wide
  · exact wr32_read_outside d h
  · exact wrRow_read_outside d h

/-- A served access answers 0, or 8 for an atomic operation of a word that its residue belies (R285). -/
theorem serveAccess_st (a : Nat) (op : MemOp) (wide : Bool) (lo hi : TWord) (pc uc : Chip → Chip) (d : Dev) :
    (serveAccess a op wide lo hi pc uc d).1.st = 0 ∨ (serveAccess a op wide lo hi pc uc d).1.st = 8 := by
  unfold serveAccess
  dsimp only
  generalize a - a % (if wide then 8 else 4) = b
  cases op
  case read => exact .inl rfl
  case write => exact .inl (by dsimp only; split <;> rfl)
  all_goals
    dsimp only
    split
    · exact .inr rfl
    · exact .inl (by split <;> rfl)

theorem serveAccess_write_st (a : Nat) (wide : Bool) (lo hi : TWord) (pc uc : Chip → Chip) (d : Dev) : (serveAccess a .write wide lo hi pc uc d).1.st = 0 := by
  unfold serveAccess
  dsimp only
  generalize a - a % (if wide then 8 else 4) = b
  split <;> rfl

/-! ### Port B -/

/-- Nothing waits for port B and it has carried no access in this cycle. -/
theorem portBFree_free {t g : Nat} {d : Dev} (h : (d.chip.grove t g).portB = []) (ha : (d.chip.grove t g).portBAt ≠ some (d.chip.grove t g).cycle) :
    portBFree t g d = d := by
  simp [portBFree, portBRepeats, h, ha]

/-- An access through port B, as the log of observations takes it and with port B taken for this cycle. -/
def portBSeen (t g : Nat) (p : PortB) (d : Dev) : Dev :=
  (d.on (fun c => c.see { kind := 1, die := t, g := g, wr := p.op != .read, addr := p.addr, data := TWord.data (if p.op = .read then d.rd32 (spBase t g + p.addr) else p.lo) })).on
    (fun c => c.modGrove t g (fun gr => { gr with portBAt := some gr.cycle }))

theorem see_grove (o : Obs) (c : Chip) (t g : Nat) : (c.see o).grove t g = c.grove t g := by
  unfold Chip.see
  split <;> rfl

/-- Without an access of port A, an access is tried by its own scratchpad only. -/
theorem portBTry_alone {t g : Nat} {p : PortB} {ecc : Ecc} {d : Dev} (h : (d.chip.grove t g).accA = []) :
    portBTry t g p ecc d = ((spadAccess t g p ecc (portBSeen t g p d)).1, false, (spadAccess t g p ecc (portBSeen t g p d)).2) := by
  simp only [portBTry, Dev.on_chip, see_grove, h, List.filter_nil, List.any_nil, List.isEmpty_nil, Bool.not_true, Bool.false_and, Bool.not_false, if_true, ite_self]
  rfl

/-- An access that is served answers its master, unless it is a write that was taken. -/
theorem portBDone_served {t g : Nat} {p : PortB} {x : AccessOut × Dev} (h : x.1.st ≠ 1) : portBDone t g p (x.1, false, x.2) =
    if p.op = .write ∧ x.1.st = 0 then x.2 else x.2.on (fun c => c.answer (spBase t g + p.addr) x.1.st (TWord.data x.1.hi ++ TWord.data x.1.lo)) := by
  simp only [portBDone, Bool.false_eq_true, if_false, if_neg h, Bool.and_eq_true, decide_eq_true_eq, beq_iff_eq]

/-- A powered bank is not woken, and its row passes its code. -/
theorem spWake_on {c : Chip} {t g a : Nat} (h : c.spPwr t g a = .on) : c.spWake t g a = c := by simp [Chip.spWake, h]

theorem spmEcc_ok (d : Dev) (t g a src : Nat) : d.spmEcc t g a .ok src = d := ite_self _

theorem tmbEcc_ok (d : Dev) (t a src : Nat) : d.tmbEcc t a .ok src = d := ite_self _

theorem tmWake_on {c : Chip} {t a : Nat} (h : c.tmPwr t a = .on) : c.tmWake t a = c := by simp [Chip.tmWake, h]

/-- An access of whole words to a powered row. -/
theorem spadAccess_on {t g : Nat} {p : PortB} {d : Dev} (hb : p.be = 255) (h : d.chip.spPwr t g p.addr = .on) : spadAccess t g p .ok d =
    serveAccess (spBase t g + p.addr) p.op p.wide p.lo p.hi (fun c => c.bump .spmPoisonCnt (.grove t g)) (fun c => c.bump .spmUeCnt (.grove t g)) d := by
  have hd : (d.chip.spPwr t g p.addr).dead = false := by rw [h]; rfl
  have hm : p.be % ((if p.wide then 255 else 15) + 1) = if p.wide then 255 else 15 := by rw [hb]; cases p.wide <;> rfl
  have hs : sumBad .ok = false := rfl
  have hw : d.on (fun c => c.spWake t g p.addr) = d := on_id (spWake_on h)
  simp only [spadAccess, hd, spmEcc_ok, hw, hm, hs, ite_self, bne_self_eq_false, Bool.false_and, Bool.and_false, Bool.false_eq_true, if_false]

/-! ### Tile memory -/

/-- The block serves an access with the mark of its round (R280). -/
def tmbMarked (t : Nat) (a : TmbAcc) (d : Dev) : Dev :=
  d.on (fun c => c.modTile t (fun ti => { ti with tmbLast := kset ti.tmbLast (c.tmBlock t (alignTo a.wide a.off.toNat)) (tmbCode a.who) }))

/-- What a powered row of tile memory serves. -/
def tmbServed (t : Nat) (a : TmbAcc) (d : Dev) : AccessOut × Dev :=
  serveAccess (tmBase t + alignTo a.wide a.off.toNat) a.op a.wide a.lo a.hi (if a.who = .network then fun c => c.bump .tmbPoisonCnt (.tile t) else id)
    (fun c => c.bump .tmbUeCnt (.tile t)) d

theorem tmemAccess_on {t : Nat} {a : TmbAcc} {d : Dev} (h : d.chip.tmPwr t (alignTo a.wide a.off.toNat) = .on) :
    tmemAccess t (alignTo a.wide a.off.toNat) a.who a.op a.wide a.lo a.hi .ok d = tmbServed t a d := by
  have hd : (d.chip.tmPwr t (alignTo a.wide a.off.toNat)).dead = false := by rw [h]; rfl
  have hs : sumBad .ok = false := rfl
  have hw : d.on (fun c => c.tmWake t (alignTo a.wide a.off.toNat)) = d := on_id (tmWake_on h)
  simp only [tmemAccess, hd, tmbEcc_ok, hw, hs, ite_self, Bool.false_and, Bool.false_eq_true, if_false, tmbServed]

/-- A powered row serves an access: a write is not answered. -/
theorem tmbServe_on {t src : Nat} {a : TmbAcc} {d : Dev} (he : a.ecc = .ok) (h : d.chip.tmPwr t (alignTo a.wide a.off.toNat) = .on) :
    tmbServe t src a d = if a.op = .write then (tmbServed t a (tmbMarked t a d)).2
      else (tmbServed t a (tmbMarked t a d)).2.on (fun c => c.answer (tmBase t + alignTo a.wide a.off.toNat) (tmbServed t a (tmbMarked t a d)).1.st
        (TWord.data (tmbServed t a (tmbMarked t a d)).1.hi ++ TWord.data (tmbServed t a (tmbMarked t a d)).1.lo)) := by
  have hm : (tmbMarked t a d).chip.tmPwr t (alignTo a.wide a.off.toNat) = .on := by
    rw [← h]
    simp only [tmbMarked, Chip.tmPwr, Chip.tmBlock, Dev.on_chip, Chip.tile_modTile]
    rfl
  have hx : tmbServe t src a d = (let r := tmemAccess t (alignTo a.wide a.off.toNat) a.who a.op a.wide a.lo a.hi a.ecc (tmbMarked t a d)
      if a.op = .write && r.1.st == 0 then r.2
      else (if r.1.st = 1 then r.2.on (fun c => raise (.hub 6) src (c.bump .fabUnmappedCnt .hub)) else r.2).on
        (fun c => c.answer (tmBase t + alignTo a.wide a.off.toNat) r.1.st (TWord.data r.1.hi ++ TWord.data r.1.lo))) := rfl
  rw [hx, he, tmemAccess_on hm]
  have hst : (tmbServed t a (tmbMarked t a d)).1.st ≠ 1 := by
    rcases serveAccess_st (tmBase t + alignTo a.wide a.off.toNat) a.op a.wide a.lo a.hi (if a.who = .network then fun c => c.bump .tmbPoisonCnt (.tile t) else id)
      (fun c => c.bump .tmbUeCnt (.tile t)) (tmbMarked t a d) with h0 | h8
    · exact fun h => absurd (h0.symm.trans h) (by decide)
    · exact fun h => absurd (h8.symm.trans h) (by decide)
  by_cases ho : a.op = .write
  · have h0 : (tmbServed t a (tmbMarked t a d)).1.st = 0 := by
      unfold tmbServed
      rw [ho]
      exact serveAccess_write_st _ _ _ _ _ _ _
    simp only [ho, h0, decide_true, beq_self_eq_true, Bool.and_self, if_true]
  · simp only [ho, decide_false, Bool.false_and, Bool.false_eq_true, if_false, if_neg hst]

/-- The turn of a requester in the round of a block that last served `last` (R280). -/
def tmbTurn (last : Nat) (a : TmbAcc) : Nat := (tmbCode a.who + 2 - last % 3) % 3

theorem tmbTurn_values (last : Nat) (a : TmbAcc) : tmbTurn last a = 0 ∨ tmbTurn last a = 1 ∨ tmbTurn last a = 2 := by
  have h : tmbTurn last a < 3 := Nat.mod_lt _ (by decide)
  omega

/-- A requester is served in the place of its turn. -/
theorem tmbCode_turn (last : Nat) (a : TmbAcc) {k : Nat} (hk : k < 3) : (tmbCode a.who == (last + 1 + k) % 3) = (tmbTurn last a == k) := by
  have hc : tmbCode a.who < 3 := by cases a.who <;> decide
  rw [Bool.eq_iff_iff, beq_iff_eq, beq_iff_eq, tmbTurn]
  omega

/-- The accesses that wait, by their turns. -/
theorem tmbAccess_turns (t src : Nat) (a : TmbAcc) (others : List TmbAcc) (d : Dev) : tmbAccess t src a others d =
    (let last := kget 2 (d.chip.tile t).tmbLast (d.chip.tmBlock t (alignTo a.wide a.off.toNat))
     let of (k : Nat) : List TmbAcc := (a :: others).filter (fun x => tmbTurn last x == k)
     tmbAccess.go t src (3 * (others.length + 1)) (of 0) (of 1) (of 2) d) := by
  dsimp only
  simp only [← fun (last : Nat) (x : TmbAcc) => tmbCode_turn last x (show (0 : Nat) < 3 by decide), ← fun (last : Nat) (x : TmbAcc) => tmbCode_turn last x (show (1 : Nat) < 3 by decide),
    ← fun (last : Nat) (x : TmbAcc) => tmbCode_turn last x (show (2 : Nat) < 3 by decide)]
  rfl

/-- One access that waits is served. -/
theorem tmbAccess_one (t src : Nat) (a : TmbAcc) (d : Dev) : tmbAccess t src a [] d = tmbServe t src a d := by
  rw [tmbAccess_turns]
  dsimp only
  generalize kget 2 (d.chip.tile t).tmbLast (d.chip.tmBlock t (alignTo a.wide a.off.toNat)) = last
  rcases tmbTurn_values last a with hi | hi | hi <;> simp [hi, tmbAccess.go]

/-- Of two that wait, the one whose turn comes first is served first. -/
theorem tmbAccess_two {t src : Nat} {a b : TmbAcc} {d : Dev} {last : Nat}
    (hl : kget 2 (d.chip.tile t).tmbLast (d.chip.tmBlock t (alignTo a.wide a.off.toNat)) = last) :
    (tmbTurn last a < tmbTurn last b → tmbAccess t src a [b] d = tmbServe t src b (tmbServe t src a d)) ∧
    (tmbTurn last b < tmbTurn last a → tmbAccess t src a [b] d = tmbServe t src a (tmbServe t src b d)) := by
  rw [tmbAccess_turns]
  dsimp only
  rw [hl]
  rcases tmbTurn_values last a with hi | hi | hi <;> rcases tmbTurn_values last b with hj | hj | hj <;> simp [hi, hj, tmbAccess.go]

/-- Settles O36: accesses through port B and to tile memory, write-backs, and what a served access leaves. -/
theorem memoryAccessesAreServed : Obligations.MemoryAccessesAreServed := by
  unfold Obligations.MemoryAccessesAreServed
  refine ⟨⟨fun m g o op wide be lo hi ecc => ⟨?_, fun e h => ?_, fun p => ?_⟩, fun m tt a => ?_, fun m tt a b => ⟨?_, ?_⟩, fun t g b j => ⟨?_, ?_⟩⟩,
    fun a wide lo hi pc uc d => ⟨rfl, fun hb => ⟨?_, fun hp => ⟨?_, ?_⟩, fun hp => ⟨?_, ?_⟩⟩, fun hb => ⟨?_, ?_, ?_, ?_, ?_⟩, fun x hx => wrW_read_outside d hx⟩⟩
  · refine does_of_run (exec_portBAccess m g o op ⟨wide, be⟩ lo hi ecc) fun d ⟨hp, ha, ⟨hA, hd, hc⟩, hst⟩ => ?_
    have hc' : d.chip.copying g.t.val (gOf g) = false := hc
    simp only [portBAccess, portBFree_free hp ha, hp, hc', alignTo_aligned, List.isEmpty_nil, Bool.not_true, Bool.or_self, Bool.false_eq_true, if_false]
    rw [portBTry_alone hA]
    exact portBDone_served hst
  · exact spadAccess_on rfl h
  · refine does_of_run (exec_portBRepeat g ecc) fun d hp => ?_
    simp only [portBRepeat, hp]
  · exact does_of_run (exec_tmbAccess m tt a.off a.who a.op a.wide a.lo a.hi ⟨a.ecc, []⟩) fun d ⟨he, h⟩ =>
      (tmbAccess_one tt.val (nodeOf m) a d).trans (tmbServe_on he h)
  · exact does_of_run (exec_tmbAccess m tt a.off a.who a.op a.wide a.lo a.hi ⟨a.ecc, [b]⟩) fun d h => (tmbAccess_two (a := a) rfl).1 h
  · exact does_of_run (exec_tmbAccess m tt a.off a.who a.op a.wide a.lo a.hi ⟨a.ecc, [b]⟩) fun d h => (tmbAccess_two (a := a) rfl).2 h
  · exact does_of_run (exec_eccWriteback _) fun d _ => rfl
  · exact does_of_run (exec_eccWriteback _) fun d _ => rfl
  · exact congrArg Prod.snd (if_neg (Bool.eq_false_iff.1 hb))
  · exact congrArg Prod.snd ((if_neg (Bool.eq_false_iff.1 hb)).trans (if_neg (Bool.eq_false_iff.1 ((Bool.or_assoc _ _ _).symm.trans hp))))
  · exact congrArg Prod.snd ((if_neg (Bool.eq_false_iff.1 hb)).trans (if_neg (Bool.eq_false_iff.1 ((Bool.or_assoc _ _ _).symm.trans hp))))
  · exact congrArg Prod.snd ((if_neg (Bool.eq_false_iff.1 hb)).trans (if_pos ((Bool.or_assoc _ _ _).symm.trans hp)))
  · exact congrArg Prod.snd ((if_neg (Bool.eq_false_iff.1 hb)).trans (if_pos ((Bool.or_assoc _ _ _).symm.trans hp)))
  · exact congrArg Prod.snd (if_pos hb)
  · exact congrArg (fun r : AccessOut × Dev => r.1.st) (if_pos hb)
  · exact congrArg (fun r : AccessOut × Dev => r.1.st) (if_pos hb)
  · exact congrArg (fun r : AccessOut × Dev => r.2.mem) (if_pos hb)
  · exact congrArg (fun r : AccessOut × Dev => r.2.mem) (if_pos hb)

end Sys2Proof.Machine
end

section
/-!
SUPPORT. GDDR7 channels (R312–R317): how the commands of a channel change it.
-/
namespace Sys2Proof.Machine

/-- Changes of a channel that agree on it are the same. -/
theorem modChan_congr {c : Chip} {t i : Nat} {f h : Chan → Chan} (hc : f (c.chan t i) = h (c.chan t i)) : c.modChan t i f = c.modChan t i h := by
  have ht : ∀ g : Chan → Chan, c.modChan t i g = c.modTile t (fun _ => { c.tile t with chans := kset (c.tile t).chans i (g (c.chan t i)) }) := fun g => rfl
  rw [ht, ht, hc]

/-- Two changes of a tile are one. -/
theorem modTile_modTile (c : Chip) (t : Nat) (f h : Tile → Tile) : (c.modTile t f).modTile t h = c.modTile t (fun x => h (f x)) := by
  simp only [Chip.modTile, Chip.setTile, Chip.tile, kget_kset_same, kset_kset_same]

/-- Two changes of a channel are one. -/
theorem modChan_modChan (c : Chip) (t i : Nat) (f h : Chan → Chan) : (c.modChan t i f).modChan t i h = c.modChan t i (fun x => h (f x)) := by
  simp only [Chip.modChan, kmod, modTile_modTile, kget_kset_same, kset_kset_same]

/-- What a channel is after a change. -/
theorem chan_modChan (c : Chip) (t i : Nat) (f : Chan → Chan) : (c.modChan t i f).chan t i = f (c.chan t i) := by
  simp [Chip.modChan, Chip.chan, kmod]

/-- A write of a tile register that takes effect has the register's action. -/
theorem tileWrite {m : Master} {t : Nat} {r : Reg} {i : Nat} {v : BitVec 64} {d e : Dev} (hw : writable m r (.tile t) i d = true)
    (he : tileRegWrite m t r i v d = e) : namedWrite m r (.tile t) i v d = noted m r (.tile t) i v e := by
  have hm := writable_may m r (.tile t) i d hw
  have hr : regWrite m r (.tile t) i v d = tileRegWrite m t r i v d := by simp [regWrite, hm]
  rw [namedWrite_writable m r (.tile t) i v d hw, hr, he]

/-- A channel that is ready starts to retrain (R316). -/
theorem gd7Retrain_ready {t i : Nat} {c : Chip} (h : (c.chan t i).state = .ready) :
    gd7Retrain t i c = gd7Level t ((c.modChan t i (fun x => { x with state := .retraining })).bump .gd7RetrainCnt (.tile t)) := by
  simp only [gd7Retrain, h]

/-- What a transfer counts (R312, R319). -/
def transferCount (o crc ode : Nat) (d : Dev) : Dev :=
  d.on (fun c => ((c.bump .gd7CrcCnt (.tile (gdChan o).1) 0 crc).bump .gd7OdeCnt (.tile (gdChan o).1) 0 ode).modChan (gdChan o).1 (gdChan o).2
    (fun x => { x with crcInPeriod := x.crcInPeriod + crc, pdown := false, outst := x.outst - 1 }))

/-- A transfer that succeeded, while no threshold of mismatches is set. -/
theorem gd7TransferDone_ok {o crc ode : Nat} {d : Dev} (hc : crc < 4) (ht : (transferCount o crc ode d).chip.rf .gd7TrainCtl (.tile (gdChan o).1) 0 24 8 = 0) :
    gd7TransferDone o crc ode .ok d = transferCount o crc ode d := by
  have ht' := ht
  simp only [transferCount] at ht'
  simp only [gd7TransferDone, ht', if_neg (show ¬5 ≤ crc by omega), show ¬4 ≤ crc by omega, decide_false, Nat.lt_irrefl, Bool.false_and, Bool.or_self, Bool.false_eq_true, if_false]
  rfl

/-- A block is poisoned after the fifth mismatch (R312). -/
def transferFailed (o crc ode : Nat) (d : Dev) : Dev :=
  ((transferCount o crc ode d).poison (gdBase + o)).on
    (fun c => raise (.tile (gdChan o).1 27) (gdChan o).2 (c.bump .gd7UeCnt (.tile (gdChan o).1)))

theorem gd7TransferDone_many {o crc ode : Nat} {d : Dev} (hc : 5 ≤ crc) : gd7TransferDone o crc ode .ok d =
    if ((transferCount o crc ode d).chip.chan (gdChan o).1 (gdChan o).2).state = .retraining then
      (transferFailed o crc ode d).on (fun c => gd7Level (gdChan o).1 (c.modChan (gdChan o).1 (gdChan o).2 (fun x => { x with state := .down })))
    else (transferFailed o crc ode d).on (gd7Retrain (gdChan o).1 (gdChan o).2) := if_pos hc

/-- A transfer poisoned after its fifth mismatch, on a ready channel. -/
theorem gd7TransferDone_failed {o crc ode : Nat} {d : Dev} (hc : 5 ≤ crc) (hs : ((transferCount o crc ode d).chip.chan (gdChan o).1 (gdChan o).2).state = .ready) :
    gd7TransferDone o crc ode .ok d = (transferFailed o crc ode d).on (gd7Retrain (gdChan o).1 (gdChan o).2) := by
  rw [gd7TransferDone_many hc, hs]
  exact if_neg (by decide)

/-- Settles O38: the life of a GDDR7 channel, its transfers and its refreshes. -/
theorem gddr7ChannelsRun : Obligations.Gddr7ChannelsRun := by
  unfold Obligations.Gddr7ChannelsRun
  refine fun tt j => ⟨fun ok density temp => ?_, fun m v => ?_, ?_, fun ok => ?_, fun o crc ode => ⟨?_, ?_⟩, ?_, fun b hot => ⟨?_, ?_⟩⟩
  · refine does_of_run (exec_gd7BringupDone tt j ok density temp) fun d h => on_eq ?_
    have hd : density.val % 4 = density.val := Nat.mod_eq_of_lt density.isLt
    have ht : temp.val % 128 = temp.val := Nat.mod_eq_of_lt temp.isLt
    rcases h with h | h | h
    all_goals simp only [gd7BringupDone, h, hd, ht]
  · exact does_of_run (exec_gd7TrainStart m tt v) fun d hw => tileWrite hw rfl
  · refine does_of_run (exec_gd7RetrainPeriod tt j) fun d ⟨hp, hs⟩ => on_eq ?_
    have hr : ((d.chip.modChan tt.val j.val (fun x => { x with crcInPeriod := 0 })).chan tt.val j.val).state = .ready := by
      rw [chan_modChan]
      exact hs
    have hn : ¬(d.chip.rf .gd7TrainCtl (.tile tt.val) 0 16 8 = 0 ∨ (d.chip.chan tt.val j.val).state ≠ .ready) := not_or.2 ⟨hp, not_not_intro hs⟩
    rw [gd7Period, if_neg hn, gd7Retrain_ready hr, modChan_modChan]
  · refine does_of_run (exec_gd7RetrainDone tt j ok) fun d h => on_eq ?_
    simp only [gd7RetrainDone, h]
  · exact does_of_run (exec_gd7TransferDone o crc ode .ok) fun d ⟨hc, ht⟩ => gd7TransferDone_ok hc ht
  · exact does_of_run (exec_gd7TransferDone o crc ode .ok) fun d ⟨hc, hs⟩ => gd7TransferDone_failed hc hs
  · refine does_of_run (exec_gd7PowerDown tt j) fun d ⟨hp, hs⟩ => on_eq ?_
    have hs' : (d.chip.chan tt.val j.val).state = .ready := hs
    exact if_pos (by simp [hp, hs'])
  · refine does_of_run (exec_gd7Refresh tt ⟨j, b, hot⟩) fun d ⟨ht, hr⟩ => on_eq (modChan_congr ?_)
    split
    next h => exact absurd h ht
    next h => exact absurd h hr
    next => rfl
  · refine does_of_run (exec_gd7Refresh tt ⟨j, b, hot⟩) fun d h => on_eq (modChan_congr ?_)
    rcases h with h | h
    all_goals
      have h' : (d.chip.chan tt.val j.val).state = _ := h
      simp only [h']

end Sys2Proof.Machine
end

section
/-!
SUPPORT. Substitution of groves and of memory rows (R355–R376).
-/
namespace Sys2Proof.Machine

/-- A field that a word names has the value given, if what it names after leaves it. -/
theorem fld_mkReg_named {lo w x : Nat} {fs : List (Nat × Nat × Nat)} (es gs : List (Nat × Nat × Nat)) (he : fs = es ++ (lo, w, x) :: gs)
    (hw : lo + w ≤ 64) (hg : ∀ f ∈ gs, f.1 + f.2.1 ≤ 64 ∧ (lo + w ≤ f.1 ∨ f.1 + f.2.1 ≤ lo)) : fld (mkReg fs) lo w = x % 2 ^ w := by
  rw [he, mkReg, List.foldl_append, List.foldl_cons, fld_settings_apart hg, fld_setFld_same _ _ _ _ hw]

/-- A field apart from every field that a word names is 0. -/
theorem fld_mkReg_apart {lo w : Nat} {fs : List (Nat × Nat × Nat)} (hf : ∀ f ∈ fs, f.1 + f.2.1 ≤ 64 ∧ (lo + w ≤ f.1 ∨ f.1 + f.2.1 ≤ lo)) :
    fld (mkReg fs) lo w = 0 := by
  rw [mkReg, fld_settings_apart hf, fld_zero]

/-- The word of a substitution (R373): its kind, tile, column and row. -/
theorem swapWord_fields {k t x y : Nat} {v : BitVec 64} (hv : v = mkReg [(63, 1, 1), (18, 2, k), (16, 2, t), (8, 4, x), (0, 4, y)]) :
    fld v 62 1 = 0 ∧ fld v 63 1 = 1 ∧ fld v 18 2 = k % 2 ^ 2 ∧ fld v 16 2 = t % 2 ^ 2 ∧ fld v 8 4 = x % 2 ^ 4 ∧ fld v 0 4 = y % 2 ^ 4 := by
  rw [hv]
  exact ⟨fld_mkReg_apart (by simp), fld_mkReg_named [] [(18, 2, k), (16, 2, t), (8, 4, x), (0, 4, y)] rfl (by decide) (by simp),
    fld_mkReg_named [(63, 1, 1)] [(16, 2, t), (8, 4, x), (0, 4, y)] rfl (by decide) (by simp),
    fld_mkReg_named [(63, 1, 1), (18, 2, k)] [(8, 4, x), (0, 4, y)] rfl (by decide) (by simp),
    fld_mkReg_named [(63, 1, 1), (18, 2, k), (16, 2, t)] [(0, 4, y)] rfl (by decide) (by simp),
    fld_mkReg_named [(63, 1, 1), (18, 2, k), (16, 2, t), (8, 4, x)] [] rfl (by decide) (by simp)⟩

/-- SPR_SWAP_CTL of a direct substitution. -/
theorem swapCtlWrite_direct {t x y : Nat} (ht : t < 4) (hx : x < 16) (hy : y < 16) (c : Chip) :
    swapCtlWrite (mkReg [(63, 1, 1), (18, 2, 0), (16, 2, t), (8, 4, x), (0, 4, y)]) c = swapDirect t x y c := by
  obtain ⟨ha, hg, hk, hv, hu, hw⟩ := swapWord_fields (k := 0) (t := t) (x := x) (y := y) rfl
  simp only [swapCtlWrite, ha, hg, hk, hv, hu, hw, Nat.zero_ne_one, Nat.one_ne_zero, if_false, Nat.zero_mod, Nat.mod_eq_of_lt (show t < 2 ^ 2 by omega),
    Nat.mod_eq_of_lt (show x < 2 ^ 4 by omega), Nat.mod_eq_of_lt (show y < 2 ^ 4 by omega)]

/-- SPR_SWAP_CTL of a shift repair. -/
theorem swapCtlWrite_shift {t x y : Nat} (ht : t < 4) (hx : x < 16) (hy : y < 16) (c : Chip) :
    swapCtlWrite (mkReg [(63, 1, 1), (18, 2, 1), (16, 2, t), (8, 4, x), (0, 4, y)]) c = swapShift t x y c := by
  obtain ⟨ha, hg, hk, hv, hu, hw⟩ := swapWord_fields (k := 1) (t := t) (x := x) (y := y) rfl
  simp only [swapCtlWrite, ha, hg, hk, hv, hu, hw, Nat.zero_ne_one, Nat.one_ne_zero, if_false, show 1 % 2 ^ 2 = 1 from rfl, Nat.mod_eq_of_lt (show t < 2 ^ 2 by omega),
    Nat.mod_eq_of_lt (show x < 2 ^ 4 by omega), Nat.mod_eq_of_lt (show y < 2 ^ 4 by omega)]

/-- SPR_SWAP_CTL of an abort. -/
theorem swapCtlWrite_abort (c : Chip) : swapCtlWrite (mkReg [(62, 1, 1)]) c = swapAbort c := by
  have ha : fld (mkReg [(62, 1, 1)]) 62 1 = 1 := fld_mkReg_named [] [] rfl (by decide) (by decide)
  have hg : fld (mkReg [(62, 1, 1)]) 63 1 = 0 := fld_mkReg_apart (by decide)
  simp only [swapCtlWrite, ha, hg, if_true]

/-- A row that is free of a substitution and whose spare stands starts one (R361). -/
theorem swapDirect_starts {t : Nat} {x y : Fin 12} {c : Chip} (hs : c.hub.swap = none) (hm : c.rf .sprGmap .hub (12 * t + y.val) 4 2 = 0)
    (hf : c.rf .sprGmap .hub (12 * t + y.val) 0 4 ≠ 15) (he : (c.grove t (gidx x.val y.val)).usesEdge = false) : swapDirect t x.val y.val c =
    swapPhase 1 ((c.setRf .schGrove (.tile t) (gidx x.val y.val) 63 1 1).modHub (fun h =>
      { h with swap := some ⟨1, false, t, x.val, y.val, c.rbit .schGrove (.tile t) (gidx x.val y.val) 63⟩ })) := by
  rw [swapDirect, hs]
  exact (if_neg (by decide)).trans ((if_neg (by omega)).trans ((if_neg (not_or.2 ⟨not_not_intro hm, hf⟩)).trans (if_neg (by simp [he]))))

/-- A shift repair starts in a maintenance window (R365). -/
theorem swapShift_starts {t f : Nat} {y : Fin 12} {c : Chip} (hs : c.hub.swap = none) (h12 : f < 12) (hm : c.rf .sprGmap .hub (12 * t + y.val) 4 2 = 0)
    (hf : c.rf .sprGmap .hub (12 * t + y.val) 0 4 ≠ 15) (hw : maintWindow c t y.val = true) : swapShift t f y.val c =
    swapPhase 1 (c.modHub (fun h => { h with swap := some ⟨1, true, t, f, y.val, false⟩ })) := by
  rw [swapShift, hs]
  exact (if_neg (by decide)).trans ((if_neg (by omega)).trans ((if_neg (not_or.2 ⟨fun h => h.1 hm, hf⟩)).trans (if_neg (by simp [hw]))))

/-- A spare row is requested (R367). -/
theorem sprRowGo_starts {v : BitVec 64} {c : Chip} {j : RowJob} (hj : j = ⟨fld v 56 2, fld v 54 2, fld v 46 8, fld v 40 6, fld v 0 16⟩)
    (hg : fld v 63 1 = 1) (hb : c.hub.rowJob = none) (hv : rowValid j = true) (hu : kget 0 c.hub.rowUsed (rowUnit j) < rowSpares j.kind) : sprRowGo v c =
    (c.setReg .sprRowCtl .hub 0 (setFld (setFld (setFld (v &&& 0x03FFFF000000FFFF#64) 63 1 0) 62 1 1) 58 4 0)).modHub (fun h => { h with rowJob := some j }) := by
  subst hj
  rw [sprRowGo, hb]
  exact (if_neg (by decide)).trans ((if_neg (by omega)).trans ((if_neg (by simp [hv])).trans (if_neg (Nat.not_le.2 hu))))

/-- The copy of a memory row ends (R367). -/
theorem rowCopy_ends {d : Dev} {j : RowJob} (h : d.chip.hub.rowJob = some j) (hk : j.kind < 2) : rowCopy .ok d = d.on (fun c =>
    ((c.setRf .sprRowCtl .hub 0 62 1 0).modHub (fun h =>
      { h with rowJob := none, rowUsed := kmod 0 h.rowUsed (rowUnit j) (fun n => n + 1) })).logRepair (5 + j.kind)
      (Config.repairCause (5 + j.kind) (j.tile * 2 ^ 30 + (if j.kind = 0 then j.grove * 2 ^ 22 else 0) + j.part * 2 ^ 16 + j.row))
      (j.tile * 2 ^ 30 + (if j.kind = 0 then j.grove * 2 ^ 22 else 0) + j.part * 2 ^ 16 + j.row)) := by
  simp only [rowCopy, h, if_pos (show j.kind ≤ 1 by omega)]
  split
  · rw [spmEcc_ok]
  · rw [tmbEcc_ok]
  next h0 h1 => exact absurd hk (by have h0 : j.kind ≠ 0 := h0; have h1 : j.kind ≠ 1 := h1; omega)

/-- The copy of a direct substitution ends with the map of the row changed and its repair due (R361, R365). -/
theorem swapCopyDone_direct {s : SwapSt} {c : Chip} (h : c.hub.swap = some s) (hp : s.phase = 3) (hs : s.shift = false) : swapCopyDone c =
    swapEnd 0 (((raise (.hub 35) (s.tile * 256 + gidx s.col s.row)
      (((moveGrove s.tile (gidx s.col s.row) c).setRf .sprGmap .hub (12 * s.tile + s.row) 4 2 1).setRf .sprGmap .hub (12 * s.tile + s.row) 0 4 s.col)).bump
        .sprSwapCnt .hub).logRepair 2 (Config.repairCause 2 (s.tile * 2 ^ 30 + gidx s.col s.row * 2 ^ 22 + s.col * 2 ^ 16))
          (s.tile * 2 ^ 30 + gidx s.col s.row * 2 ^ 22 + s.col * 2 ^ 16)) := by
  simp only [swapCopyDone, h, hp, hs, ne_eq, not_true_eq_false, if_false, Bool.false_eq_true, List.foldl_cons, List.foldl_nil]

/-- Settles O39: the substitution of groves, of memory rows and of cache entries, and the record of aging. -/
theorem groveAndRowSparesSubstitute : Obligations.GroveAndRowSparesSubstitute := by
  unfold Obligations.GroveAndRowSparesSubstitute
  refine ⟨⟨fun m tt x y => ⟨?_, ?_⟩, fun m tt f y => ?_, fun m s => ⟨?_, ?_, ?_, ?_, ?_⟩⟩, fun m v => ?_, fun j => ?_, fun m n v => ⟨?_, ?_⟩,
    fun n slow => ⟨?_, ?_⟩⟩
  · exact does_of_run (exec_swapDirect m tt x y) fun d ⟨hw, hs, hm, hf, he⟩ =>
      hubWrite hw (on_eq ((swapCtlWrite_direct tt.isLt (by omega) (by omega) _).trans (swapDirect_starts hs hm hf he)))
  · exact does_of_run (exec_swapDirect m tt x y) fun d ⟨hw, hs⟩ =>
      hubWrite hw (on_id ((swapCtlWrite_direct tt.isLt (by omega) (by omega) _).trans (if_pos hs)))
  · exact does_of_run (exec_swapShift m tt f y) fun d ⟨hw, h12, hs, hm, hf, hwin⟩ =>
      hubWrite hw (on_eq ((swapCtlWrite_shift tt.isLt (by omega) (by omega) _).trans (swapShift_starts hs h12 hm hf hwin)))
  · refine does_of_run (exec_swapAbort m) fun d ⟨hw, hs, hp⟩ => hubWrite hw (on_eq ((swapCtlWrite_abort _).trans ?_))
    rw [swapAbort, hs]
    exact if_pos hp
  · refine does_of_run (exec_swapPrepareDone true) fun d ⟨hs, hp⟩ => on_eq ?_
    rw [swapPrepareDone, hs]
    exact if_neg (not_not_intro hp)
  · refine does_of_run (exec_swapPrepareDone false) fun d ⟨hs, hp⟩ => on_eq ?_
    rw [swapPrepareDone, hs]
    exact if_neg (not_not_intro hp)
  · refine does_of_run exec_swapDrainDone fun d ⟨hs, hp, hf, hd, hh⟩ => on_eq ?_
    rw [swapDrainDone, hs]
    exact if_pos ⟨hp, by simp [hf, hd, hh]⟩
  · exact does_of_run exec_swapCopyDone fun d ⟨hs, hp, hf⟩ => on_eq (swapCopyDone_direct hs hp hf)
  · refine does_of_run (exec_sprRowCtlGo m v) fun d ⟨hw, hb, hv, hu⟩ => hubWrite hw (on_eq (sprRowGo_starts ?_ ?_ hb hv hu))
    · simp only [fld_setFld_other v 63 1 1 _ _ (by decide) (Or.inl (show 56 + 2 ≤ 63 by decide)), fld_setFld_other v 63 1 1 _ _ (by decide) (Or.inl (show 54 + 2 ≤ 63 by decide)),
        fld_setFld_other v 63 1 1 _ _ (by decide) (Or.inl (show 46 + 8 ≤ 63 by decide)), fld_setFld_other v 63 1 1 _ _ (by decide) (Or.inl (show 40 + 6 ≤ 63 by decide)),
        fld_setFld_other v 63 1 1 _ _ (by decide) (Or.inl (show 0 + 16 ≤ 63 by decide))]
    · exact fld_setFld_same v 63 1 1 (by decide)
  · exact does_of_run (exec_rowSpareCopy .ok) fun d ⟨h, hk⟩ => rowCopy_ends h hk
  · exact does_of_run (exec_sprGmapWrite m n v) fun d ⟨hw, hd⟩ => hubWrite hw (on_eq (if_pos hd))
  · exact does_of_run (exec_sprGmapWrite m n v) fun d ⟨hw, hd⟩ => hubWrite hw (on_id (if_neg (Bool.eq_false_iff.1 hd)))
  · refine does_of_run (exec_ageSample n slow) fun d h => on_eq (if_neg fun hx => h ⟨?_, ?_⟩)
    · rw [Nat.mod_eq_of_lt slow.isLt] at hx
      exact hx.1
    · exact Bool.eq_false_iff.2 hx.2
  · refine does_of_run (exec_ageSample n slow) fun d ⟨ht, ho⟩ => on_eq (if_pos ⟨?_, Bool.eq_false_iff.1 ho⟩)
    rw [Nat.mod_eq_of_lt slow.isLt]
    exact ht

end Sys2Proof.Machine
end

section
/-!
SUPPORT. The checks of an arriving packet (R385, R402, R403).
-/
namespace Sys2Proof.Machine

/-- A packet whose checks count: the device has its ID and runs, the packet is no message between neighbours, and no source of its link or port is
resynchronised or in quarantine. -/
structure Checked (p : Packet) (c : Chip) : Prop where
  id : c.idValid = true
  runs : c.hub.bare = false
  routed : p.isLocal = false
  synced : c.hub.resync = []
  open_ : c.rbit .fabVl .hub p.vl 62 = false

/-- The sequence number expected of a packet's source on its channel (R385). -/
def rxExpected (p : Packet) (c : Chip) : Nat := if p.seq = 0 then 0 else kget 0 c.hub.rxSeq (p.src * 4 + p.vc)

/-- The sequence number of a packet is noted. -/
def rxNoted (p : Packet) (c : Chip) : Chip :=
  c.modHub (fun h => { h with rxSeq := kset h.rxSeq (p.src * 4 + p.vc) ((p.seq + 1) % 65536), resync := [] })

/-- What a packet needs of its virtual link (R402, R408). -/
def linkLacks (p : Packet) (v : BitVec 64) : Bool :=
  match permBit p.type with
  | some b => fld v b 1 == 0
  | none => false

/-- A packet with the right CRC has its sequence number noted and goes on to the other checks. -/
theorem arrive_crcOk {p : Packet} {c : Chip} (h : Checked p c) (hc : (packetCrc p.hdr p.payload p.mask (rxExpected p c) p.vc c.devId == p.crc) = true) :
    arrive p c = (
      let v := c.reg .fabVl .hub p.vl
      if typeVc p.type != some p.vc || p.type == 0x1C || p.type == 0x1D then (.drop, answerViol p 6 (violate p 3 (rxNoted p c)))
      else if formatBad p then (.drop, answerViol p 6 (violate p 4 (rxNoted p c)))
      else if p.src != fld v 28 12 && !(fld v 7 1 == 1 && c.rbit .fabEp .hub p.src 63 && c.rf .fabEp .hub p.src 8 3 == p.port) then
        (.drop, answerViol p 5 (violate p 5 (rxNoted p c)))
      else if fld v 63 1 == 0 || linkLacks p v then (.drop, answerViol p 5 (violate p 6 (rxNoted p c)))
      else (.accept, rxNoted p c)) := by
  obtain ⟨hid, hb, hl, hr, hq⟩ := h
  have hn : c.modHub (fun h => { h with rxSeq := kset h.rxSeq (p.src * 4 + p.vc) ((p.seq + 1) % 65536), resync := h.resync }) = rxNoted p c := by
    simp only [rxNoted, Chip.modHub, hr]
  have hi : (rxNoted p c).idValid = true := hid
  have hk : [p.vl, 4096 + p.port].filter (khas ([] : KMap (List Nat))) = [] := rfl
  unfold rxExpected at hc
  simp only [arrive, hid, hb, hl, hr, hq, hk, List.any_nil, List.foldl_nil, Bool.not_true, Bool.or_self, Bool.false_and,
    Bool.and_false, Bool.false_eq_true, if_false, hc, hn, if_true, hi]
  rfl

/-- A packet whose CRC fails for the number expected and for the number it carries is counted and dropped (R385, R402). -/
theorem arrive_crcBad {p : Packet} {c : Chip} (h : Checked p c) (hc : (packetCrc p.hdr p.payload p.mask (rxExpected p c) p.vc c.devId == p.crc) = false)
    (hh : (packetCrc p.hdr p.payload p.mask p.seq p.vc p.dst == p.crc) = false) : arrive p c = (.drop, violate p 1 (c.bump .fabCrcCnt .hub)) := by
  obtain ⟨hid, hb, hl, hr, hq⟩ := h
  have hk : [p.vl, 4096 + p.port].filter (khas ([] : KMap (List Nat))) = [] := rfl
  unfold rxExpected at hc
  simp only [arrive, hid, hb, hl, hr, hq, hk, List.any_nil, Bool.not_true, Bool.or_self, Bool.false_and,
    Bool.and_false, Bool.false_eq_true, if_false, hc, hh, Bool.not_false, Bool.and_self, if_true]

/-- A bit that is set is not 0. -/
theorem fld_of_rbit {c : Chip} {r : Reg} {s : Site} {i b : Nat} (h : c.rbit r s i b = true) : (fld (c.reg r s i) b 1 == 0) = false := by
  have h1 : fld (c.reg r s i) b 1 = 1 := beq_iff_eq.1 h
  rw [h1]
  rfl

/-- Settles O40: what passes the checks, and what a wrong CRC and a reserved type lead to. -/
theorem packetsAreChecked : Obligations.PacketsAreChecked := by
  unfold Obligations.PacketsAreChecked
  refine ⟨fun p b c hid hb hl hr hq => ?_, fun p => ?_⟩
  · have h : Checked p c := ⟨hid, hb, hl, hr, hq⟩
    refine ⟨fun hc ht hf hs he hb hp hn => ?_, fun hc ht => ?_, fun _ hc hh => arrive_crcBad h hc hh⟩
    · have hs' : (p.src != fld (c.reg .fabVl .hub p.vl) 28 12) = false := bne_eq_false_iff_eq.2 hs
      have he' : (fld (c.reg .fabVl .hub p.vl) 63 1 == 0) = false := fld_of_rbit he
      have hk : linkLacks p (c.reg .fabVl .hub p.vl) = false := by
        simp only [linkLacks, hb, fld_of_rbit hp]
      have htype : (typeVc p.type != some p.vc || p.type == 0x1C || p.type == 0x1D) = false := by
        simp [ht, hn.2.1, hn.2.2]
      rw [arrive_crcOk h hc]
      simp only [htype, hf, hs', he', hk, Bool.false_and, Bool.or_self, Bool.false_eq_true, if_false]
      rfl
    · rw [arrive_crcOk h hc]
      exact if_pos (by simp [ht])
  · refine does_of_run (exec_reservedTypePacket p) fun d ⟨ht, hu, hi⟩ => ?_
    have hr : ((typeVc p.type).isSome && p.type != 0x1C && p.type != 0x1D) = false := by simp [ht]
    simp only [reservedCmd, hr, hu, Bool.not_true, Bool.or_self, Bool.false_eq_true, if_false]
    refine on_eq ?_
    simp only [hi, if_true, reservedType, hr, Bool.false_eq_true, if_false]

end Sys2Proof.Machine
end

section
/-!
SUPPORT. The packets to queues (R390–R396, R607).
-/
namespace Sys2Proof.Machine

/-- What a command on packets answers to a packet that passes its checks. -/
theorem does_of_comes {i : Instr} {ty : Nat} {ts : List Nat} {p : Packet} {f : Dev → Dev → Dev} {hyp : Dev → Prop} {eff : Dev → Dev}
    (hx : ∀ s, exec i s = run (takePkt ts p f) s) (ht : ts.contains ty = true) (hc : ∀ d, hyp d → comes ty p d)
    (h : ∀ d, hyp d → (arrive p (takeRx p d.chip)).1 = .accept → f (d.on (await p)) (d.on (takeRx p)) = eff d) : Does i hyp eff :=
  does_of_run hx fun d hd => (takePkt_of_comes (hc d hd) ht).trans (h d hd (hc d hd).2.2.2)

/-- A message is taken while the queue has room (R396). -/
theorem queueMsg_room {m : MsgIn} {c : Chip} (h : c.hub.msgQ.length < 64) : queueMsg m c = c.modHub (fun h => { h with msgQ := h.msgQ ++ [m] }) :=
  if_neg (Nat.not_le.2 h)

/-- The marks that a producer's new item ends (R392). -/
def unmarked (q : Nat) (pr : Producer) (c : Chip) : Chip := c.modQueue q (fun Q => { Q with
  silent := Q.silent.filter (fun x => x != pr), lost := Q.lost.filter (fun x => x != pr), refusing := Q.refusing.filter (fun x => x != pr) })

/-- The first words of an item under a live stream's balance are pushed (R390–R392). -/
theorem puhanQwr_pushed {p : Packet} {keep d e : Dev} {c : Chip} {i : Nat} {s : StreamSlot} (ht : p.type = 0x01) (ha : arrive p d.chip = (.accept, c))
    (hh : c.hub.held.contains (p.f 74 14 / 4096) = false) (hf : fbRefuse p (p.f 74 14) c = none)
    (hm : (c.queue (p.f 74 14)).streams.filter (fun x => x.2.src == p.src && x.2.sid == p.tag % 8) = [(i, s)]) (hl : s.live = true)
    (he : p.f 116 4 = c.epochOf (p.f 74 14) i) (hb : p.len ≤ s.bal) (hs : p.f 88 1 = 1) (hc : (c.queue (p.f 74 14)).closed = false)
    (hn : c.qen (p.f 74 14) = true)
    (ho : (c.queue (p.f 74 14)).asms.find? (fun a => a.prod == .stream p.src (p.f 74 14) (p.tag % 8) && !a.closed) = none) (hlen : p.len ≤ 16384)
    (hp : pushStream (p.f 74 14) (.stream p.src (p.f 74 14) (p.tag % 8)) (BitVec.ofNat 24 (p.f 92 24)) (p.f 90 2) (p.f 89 1 == 1) p.words true
      ((({ d with chip := c } : Dev).on (unmarked (p.f 74 14) (.stream p.src (p.f 74 14) (p.tag % 8)))).on (useBalance (p.f 74 14) i p.len)) = some e) :
    puhanQwr p keep d = e.on (fun c => c.noteWait (p.f 74 14) (.stream p.src (p.f 74 14) (p.tag % 8)) false) := by
  have hq : ((({ d with chip := c } : Dev).on (unmarked (p.f 74 14) (.stream p.src (p.f 74 14) (p.tag % 8)))).on (useBalance (p.f 74 14) i p.len)).chip.qen (p.f 74 14) = true := hn
  have hlong : decide (16384 < 0 + p.len) = false := decide_eq_false (by omega)
  unfold unmarked at hp hq
  simp only [puhanQwr, ht, ha, hh, hf, hm, hl, he, hs, hc, ho, hp, hq, ne_eq, not_true_eq_false, if_false, beq_self_eq_true, Bool.not_true, Bool.false_and,
    Bool.false_eq_true, List.find?_cons, Option.some_or, Bool.false_or, decide_eq_true_eq, Nat.not_lt.2 hb, Bool.or_self, Bool.and_false, hlong]

/-- Settles O41: the packets to queues. -/
theorem queuePacketsAreServed : Obligations.QueuePacketsAreServed := by
  unfold Obligations.QueuePacketsAreServed
  refine fun p => ⟨fun i s e => ?_, ?_, ?_, fun vs e => ?_, ?_, ?_, fun k => ?_⟩
  · refine does_of_comes (exec_puhanQwr p false) (ty := 0x01) (by decide) (fun d h => h.1.1) fun d ⟨⟨hc, hf, hh⟩, hm, hl, he, hb, hs, hcl, hn, ho, hlen, hp⟩ ha => ?_
    exact puhanQwr_pushed hc.1 (Prod.ext ha rfl) hh hf hm hl he hb hs hcl hn ho hlen hp
  · refine does_of_comes (exec_puhanNtc p) (ty := 0x03) (by decide) (fun d h => h.1) fun d ⟨hc, hr⟩ ha => congrArg (Dev.mk d.mem) ?_
    simp only [puhanNtc, Dev.on_chip, hc.1, ha, ne_eq, not_true_eq_false, if_false]
    exact queueMsg_room hr
  · refine does_of_comes (exec_puhanMsg p) (ty := 0x1A) (by decide) (fun d h => h.1) fun d ⟨hc, hr⟩ ha => congrArg (Dev.mk d.mem) ?_
    simp only [puhanMsg, Dev.on_chip, hc.1, ha, ne_eq, not_true_eq_false, if_false]
    exact queueMsg_room hr
  · refine does_of_comes (exec_puhanQrd p) (ty := 0x0B) (by decide) (fun d h => h.1) fun d ⟨hc, hf, hm, hcol⟩ ha => ?_
    have hf' : fbRefuse p (p.f 74 14) (arrive p (takeRx p d.chip)).2 = none := hf
    have hm' : (arrive p (takeRx p d.chip)).2.qmode (p.f 74 14) = 3 := hm
    simp only [Dev.on_chip, ha, hf', hm', hcol, ne_eq, not_true_eq_false, if_false]
  · refine does_of_comes (exec_puhanQcq p) (ty := 0x18) (by decide) (fun d h => h.1.1) fun d ⟨⟨hc, hf, hh⟩, hb, hcl, hn, hs⟩ ha => congrArg (Dev.mk d.mem) ?_
    have hf' : fbRefuse p (p.f 74 14) (arrive p (takeRx p d.chip)).2 = none := hf
    have hh' : (arrive p (takeRx p d.chip)).2.hub.held.contains (p.f 74 14 / 4096) = false := hh
    have hcl' : ((arrive p (takeRx p d.chip)).2.queue (p.f 74 14)).closed = false := hcl
    have hn' : (arrive p (takeRx p d.chip)).2.qen (p.f 74 14) = true := hn
    have hs' : ((arrive p (takeRx p d.chip)).2.queue (p.f 74 14)).streams.find? (fun x => x.2.live && x.2.src == p.src && x.2.sid == p.tag % 8) = none := hs
    simp only [puhanQcq, Dev.on_chip, hc.1, ha, hf', hh', hb, hcl', hn', hs', ne_eq, not_true_eq_false, if_false, Bool.false_and, Bool.false_eq_true, Bool.not_true, Bool.or_self]
    rfl
  · refine does_of_comes (exec_puhanQcq p) (ty := 0x18) (by decide) (fun d h => h.1.1) fun d ⟨⟨hc, hf, hh⟩, hb, hcl⟩ ha => congrArg (Dev.mk d.mem) ?_
    have hf' : fbRefuse p (p.f 74 14) (arrive p (takeRx p d.chip)).2 = none := hf
    have hh' : (arrive p (takeRx p d.chip)).2.hub.held.contains (p.f 74 14 / 4096) = false := hh
    have hcl' : ((arrive p (takeRx p d.chip)).2.queue (p.f 74 14)).closed = true := hcl
    simp only [puhanQcq, Dev.on_chip, hc.1, ha, hf', hh', hb, hcl', ne_eq, not_true_eq_false, if_false, Bool.false_and, Bool.false_eq_true, Bool.true_or, if_true]
    rfl
  · refine does_of_comes (exec_puhanQcg p) (ty := 0x19) (by decide) (fun d h => h.1) fun d ⟨hc, hk, hz, hq⟩ ha => congrArg (Dev.mk d.mem) ?_
    have hk' : drainOf (arrive p (takeRx p d.chip)).2 p (fun x => (drainTo (arrive p (takeRx p d.chip)).2 x).2.2.2.1 == p.f 74 14) = some k := hk
    have hq' : (kget {} (arrive p (takeRx p d.chip)).2.hub.drains k).asked = true := hq
    simp only [puhanQcg, Dev.on_chip, hc.1, ha, hk', hz, hq', ne_eq, not_true_eq_false, if_false, if_true]
    rfl

end Sys2Proof.Machine
end

section
/-!
SUPPORT. A grant of a flow that spans tiles (R192), on its way to a tile where no task of the flow is left.
-/
namespace Sys2Proof.Machine

/-- A device whose tile 0 has an entry for flow 0 that asked for its grant and no task of that flow; the grant is on its way. -/
def grantLate : Dev :=
  { mem := []
    chip := { tiles := [(0, { locks := [(8 * flowSet 0#24, { flow := 0#24, xspan := true, asked := true })] })], hub := { xgrants := [(0, 0#24)] } } }

/-- The releases and requests that tile 0 has to send to the forwarder after a command. -/
def exchangesAfter : Answer → Nat
  | .next s => (s.dev.chip.tile 0).xreq.length
  | _ => 0

/-- Refutes O42: the grant of a flow of which the tile has no task is not kept; the tile releases it (R192), so it also has a release to send. -/
theorem not_requestPacketsAreServed : ¬ Obligations.RequestPacketsAreServed := by
  unfold Obligations.RequestPacketsAreServed
  intro h
  obtain ⟨-, -, -, -, -, hg⟩ := h { port := 0, hdr := 0#128, payload := [], mask := [], crc := 0#32 }
  have he := hg 0 0#24 (8 * flowSet 0#24) { dev := grantLate } (by decide +kernel)
  have hone : exchangesAfter (exec (.puhanLck 0 1) { dev := grantLate }) = 1 := by decide +kernel
  rw [he] at hone
  exact absurd hone (by decide +kernel)

end Sys2Proof.Machine
end

section
/-!
SUPPORT. Credit of streams and drains (R390, R391, R402, R403, R607).
-/
namespace Sys2Proof.Machine

/-- The oldest request for credit of a live stream is granted (R390). -/
theorem creditGrant_held {q i : Nat} {r : CreditReq} {rest : List CreditReq} {s : StreamSlot} {c : Chip} (hq : (c.queue q).creditQ = r :: rest)
    (hh : c.hub.held.contains (q / 4096) = false) (hc : (c.queue q).closed = false) (he : c.qen q = true)
    (hf : c.rf .fabVl .hub (256 * r.port + r.vlink) 40 8 = c.queueFb q)
    (hs : (c.queue q).streams.find? (fun x => x.2.live && x.2.src == r.src && x.2.sid == r.sid) = some (i, s))
    (hn : min (min r.blocks (reservable c q)) (1023 - (s.bal + 15) / 16) ≠ 0) : creditGrant q c =
    (let n := min (min r.blocks (reservable c q)) (1023 - (s.bal + 15) / 16)
     let c := ((c.modQueue q (fun x => { x with creditQ := rest })).noteWait q (.stream r.src q r.sid) false).modQueue q (fun x => { x with
       streams := kset x.streams i ⟨r.src, r.sid, s.bal + 16 * n, true⟩, reserved := x.reserved + 16 * n })
     sendQcg r q n (c.epochOf q i) 0 c) := by
  simp only [creditGrant, hq, hh, hc, he, hf, hs, hn, Bool.false_eq_true, if_false, Bool.not_true, Bool.or_self, ne_eq, not_true_eq_false]

/-- An idle stream without an open item gives up its slot (R391). -/
theorem streamReclaim_idle {q i : Nat} {s : StreamSlot} {c : Chip} (hs : kfind? (c.queue q).streams i = some s) (hl : s.live = true)
    (ho : (c.queue q).asms.any (fun a => a.prod == .stream s.src q s.sid && !a.closed) = false) :
    streamReclaim q i c = freeSlot q i (sendReclaim q i c) := by
  simp only [streamReclaim, hs]
  exact if_neg (by simp only [hl, ho]; decide)

/-- An open item of a stream that is idle is discarded as a violation on its virtual link (R402). -/
theorem asmIdle_open {q i v : Nat} {s : StreamSlot} {c : Chip} (hs : kfind? (c.queue q).streams i = some s)
    (ho : (c.queue q).asms.any (fun a => a.prod == .stream s.src q s.sid && !a.closed) = true)
    (hv : (List.range 2048).find? (fun n => c.rbit .fabVl .hub n 63 && c.rf .fabVl .hub n 28 12 == s.src) = some v) : asmIdle q i c =
    violate { port := v / 256, hdr := mkHdr [(48, 8, v % 256), (20, 12, s.src), (74, 14, q), (64, 10, s.sid)] } 9 (discardOpen q s.src s.sid c) := by
  simp only [asmIdle, hs, ho, hv, if_true, Option.getD_some]

/-- What a drain-mode queue has to send: its next item, on a link that takes it, without a hold. -/
structure DrainsNext (q : Nat) (it : Item) (c : Chip) : Prop where
  mode : c.qmode q = 2
  sound : (c.queue q).err = false
  item : (c.queue q).items.find? (fun i => !i.gone && !i.waitAck) = some it
  link : c.linkHeld (drainTo c q).1 (drainTo c q).2.1 = false
  free : (kget {} c.hub.drains q).held = false

/-- Without credit a drain asks for it (R607). -/
theorem drainSend_asks {q : Nat} {it : Item} {d : Dev} (h : DrainsNext q it d.chip) (hb : (kget {} d.chip.hub.drains q).bal = 0)
    (ha : (kget {} d.chip.hub.drains q).asked = false) : drainSend q d = d.on (fun c =>
      (sendPacket (drainTo d.chip q).1 (drainTo d.chip q).2.1 0x18 (drainTo d.chip q).2.2.2.2 0 (drainTo d.chip q).2.2.1
        [(74, 14, (drainTo d.chip q).2.2.2.1), (88, 10, min 1023 ((it.words.length - (kget {} d.chip.hub.drains q).sent + 15) / 16))] [] c).modDrain q
          (fun x => { x with asked := true })) := by
  obtain ⟨hm, he, hi, hl, hf⟩ := h
  simp only [drainSend, hm, he, hi, hl, hf, hb, ha, ne_eq, not_true_eq_false, Bool.false_eq_true, or_self, if_false, Bool.or_self, if_true]

/-- With credit a drain sends an item of one word whole (R607). -/
theorem drainSend_word {q : Nat} {it : Item} {d : Dev} (h : DrainsNext q it d.chip) (hw : it.words.length = 1) (hb : (kget {} d.chip.hub.drains q).bal ≠ 0)
    (hs : (kget {} d.chip.hub.drains q).sent = 0) : drainSend q d =
    (d.on (fun c => (sendPacket (drainTo d.chip q).1 (drainTo d.chip q).2.1 0x01 (drainTo d.chip q).2.2.2.2 1 (drainTo d.chip q).2.2.1
        [(74, 14, (drainTo d.chip q).2.2.2.1), (88, 1, 1), (89, 1, 1), (90, 2, it.vb), (92, 24, it.flow.toNat), (116, 4, (kget {} d.chip.hub.drains q).epoch)]
        (it.words.map (fun w => d.qword q w.checked)) c).modDrain q (fun x => { x with used := true, bal := x.bal - 1, sent := 0 }))).on
      (fun c => (c.shiftQueue q (fun x => x.readAt it.seq [0])).modQueue q (fun x => { x with
        items := x.items.map (fun i => if i.seq = it.seq then { i with sending := true, waitAck := true } else i) })) := by
  obtain ⟨hm, he, hi, hl, hf⟩ := h
  have hn : min (min 64 (kget {} d.chip.hub.drains q).bal) (1 - 0) = 1 := by omega
  have ht : it.words.take 1 = it.words := List.take_of_length_le (Nat.le_of_eq hw)
  simp only [drainSend, hm, he, hi, hl, hf, hb, hs, hw, hn, ht, ne_eq, not_true_eq_false, Bool.false_eq_true, or_self, if_false, Bool.or_self, List.drop_zero,
    Nat.zero_add, beq_self_eq_true, if_true, List.range_one, List.map_cons, List.map_nil, b2n]

/-- Settles O43: credit, reclaiming, idle items, the count of violations, and drains. -/
theorem creditsAndStreamsMove : Obligations.CreditsAndStreamsMove := by
  unfold Obligations.CreditsAndStreamsMove
  refine fun q => ⟨fun r rest i s => ?_, fun j s => ?_, fun j s v => ?_, fun j => ?_, fun n => ?_, fun m n => ?_, fun it => ⟨?_, ?_⟩, ?_⟩
  · exact does_of_run (exec_queueCreditGrant q) fun d ⟨hq, hh, hc, he, hf, hs, hn⟩ => on_eq (creditGrant_held hq hh hc he hf hs hn)
  · exact does_of_run (exec_streamReclaim q j) fun d ⟨hs, hl, ho⟩ => on_eq (streamReclaim_idle hs hl ho)
  · exact does_of_run (exec_assemblyIdleLimit q j) fun d ⟨hj, hs, ho, hv⟩ => on_eq ((if_pos hj).trans (asmIdle_open hs ho hv))
  · refine does_of_run (exec_assemblyIdleLimit q j) fun d ⟨hj, ho⟩ => on_eq ((if_neg (Nat.not_lt.2 hj)).trans ?_)
    exact if_pos ho
  · exact does_of_run (exec_vcountDecay n) fun d h => on_eq (if_neg h)
  · exact does_of_run (exec_quarantineClear m n) fun d hw => hubWrite hw rfl
  · exact does_of_run (exec_drainSend q) fun d ⟨⟨hm, he, hi, hl, hf⟩, hb, ha⟩ => drainSend_asks ⟨hm, he, hi, hl, hf⟩ hb ha
  · exact does_of_run (exec_drainSend q) fun d ⟨⟨hm, he, hi, hl, hf⟩, hw, hb, hs⟩ => drainSend_word ⟨hm, he, hi, hl, hf⟩ hw hb hs
  · exact does_of_run (exec_drainCreditRetry q) fun d h => on_eq (if_pos h)

end Sys2Proof.Machine
end

section
/-!
SUPPORT. A ROUTES message that routes a partner attached to the device (R446).
-/
namespace Sys2Proof.Machine

/-- A ROUTES message: endpoint 100 by port 0 and virtual link 0. -/
def routesMsg : MsgIn := { src := 0, cls := 0x07, payload := [BitVec.ofNat 32 (2 ^ 16 + 100), 0x8000#32], port := 1, vlink := 0 }

/-- A device with that message, whose port 0 leads to endpoint 100, a partner; the personality binds virtual link 5 of the port to it. -/
def partnerDev : Chip :=
  (({ hub := { mbxState := 2, msgQ := [routesMsg], links := [(0, { st := .active, peerEp := some 100, peerRole := some true })] } : Chip }).setRf .fabVl .hub 5 63 1 1).setRf
    .fabVl .hub 5 28 12 100

/-- The virtual link of the route to endpoint 100 after a command. -/
def routeLinkAfter : Answer → Nat
  | .next s => s.dev.chip.rf .fabEp .hub 100 0 8
  | _ => 0

/-- The message is the one taken. -/
theorem routes_taken : takeMsg 0x07 (start { mem := [], chip := partnerDev }).chip =
    some (routesMsg, { partnerDev with hits := [], hub := { partnerDev.hub with msgQ := [] } }) := by
  have hc : (start { mem := [], chip := partnerDev }).chip.coreUp = true := by decide +kernel
  have hf : (start { mem := [], chip := partnerDev }).chip.hub.msgQ.find? (fun m => m.cls == 0x07) = some routesMsg := by decide +kernel
  simp only [takeMsg, hc, hf, Bool.not_true, Bool.false_eq_true, if_false]
  rfl

/-- Refutes O46: a route to a partner attached to the device uses the virtual link that is bound to the partner's endpoint (R446), not the one that
ROUTES names. -/
theorem not_startUpMessagesAct : ¬ Obligations.StartUpMessagesAct := by
  unfold Obligations.StartUpMessagesAct
  intro h
  obtain ⟨-, -, -, -, -, -, hr, -⟩ := (h.1 routesMsg { partnerDev with hits := [], hub := { partnerDev.hub with msgQ := [] } })
  have he := hr { dev := { mem := [], chip := partnerDev } } ⟨routes_taken, by decide +kernel, by decide +kernel, by decide +kernel⟩
  have hfive : routeLinkAfter (exec .msgRoutes { dev := { mem := [], chip := partnerDev } }) = 5 := by decide +kernel
  rw [he] at hfive
  exact absurd hfive (by decide +kernel)

end Sys2Proof.Machine
end

section
/-!
SUPPORT. Firmware and personalities for members (R450), and the shared time base (R452, R455).
-/
namespace Sys2Proof.Machine

/-- A command on messages handles the first message of its class. -/
theorem msgCmd_handled {cls : Nat} {d e : Dev} {m : MsgIn} {c : Chip} (h : takeMsg cls d.chip = some (m, c)) (h8 : cls ≠ 8)
    (he : handleMsg m { d with chip := c } = some e) : msgCmd cls d = e := by
  simp only [msgCmd, h, if_neg h8, he, Option.getD_some]

/-- A chunk of firmware in its turn, before the last (R450). -/
theorem hFwData_chunk {m : MsgIn} {d : Dev} (hs : d.chip.hub.mbxState = 1) (hw : m.w 1 % 256 ≤ 62) (h0 : m.w 1 % 256 ≠ 0)
    (ho : m.chunk.1 = (d.chip.hub.fwIn.getD []).length) (hl : m.chunk.2.2 = false) : hFwData m d =
    d.on (fun c => ack m 0x10 0 (m.chunk.1 / 4) (c.modHub (fun h => { h with fwIn := some (d.chip.hub.fwIn.getD [] ++ m.chunk.2.1) }))) := by
  have hn : ¬(d.chip.hub.mbxState ≠ 1 ∨ 62 < m.w 1 % 256 ∨ m.w 1 % 256 = 0) := by omega
  have hlt : ¬m.chunk.1 < (d.chip.hub.fwIn.getD []).length := by omega
  have hgt : ¬(d.chip.hub.fwIn.getD []).length < m.chunk.1 := by omega
  simp only [hFwData, if_neg hn, if_neg hlt, if_neg hgt, hl, Bool.not_false, if_true]

/-- A chunk of a personality in its turn, before the last (R450). -/
theorem hPersData_chunk {m : MsgIn} {d e : Dev} {l : Load} (hw : m.w 1 % 256 ≤ 62) (h0 : m.w 1 % 256 ≠ 0) (hl : d.chip.hub.load = some l) (hc : l.chan = none)
    (hs : l.staged = false) (ho : m.chunk.1 = l.got) (he : m.chunk.2.2 = false)
    (hd : loadData m.chunk.1 (m.chunk.2.1.take (l.length - l.got)) d = (0, e)) : hPersData m d = e.on (ack m 0x12 0 (m.chunk.1 / 4)) := by
  have hn : ¬(62 < m.w 1 % 256 ∨ m.w 1 % 256 = 0) := by omega
  have hlt : ¬m.chunk.1 < l.got := by omega
  have hgt : ¬l.got < m.chunk.1 := by omega
  simp only [hPersData, if_neg hn, hl, hc, hs, Option.isNone_none, Bool.not_false, Bool.and_self, if_true, Option.isNone_some, Bool.false_eq_true, and_false, if_false,
    ne_eq, not_true_eq_false, if_neg hlt, if_neg hgt, hd, he]

/-- A time exchange that is asked for is answered with the times of both messages (R452). -/
theorem hTime_asked {m : MsgIn} {c : Chip} (hk : bitOf (m.w 0) 8 = false) : hTime m c =
    (let s := m.w 0 % 256
     let c := tsCapture .tbsTxTs m.port s (tsCapture .tbsRxTs m.port s (tsArm m.port c))
     tsArm m.port (sendLocal m.port 0x20 (wordOfParts [(0, s), (8, 1)] :: (wordsN (c.rf .tbsRxTs .hub m.port 0 48) 2 ++ wordsN (c.rf .tbsTxTs .hub m.port 0 48) 2)) c)) := by
  simp only [hTime, hk, Bool.false_eq_true, if_false]

/-- Settles O47: the chunks of a member's images, the time exchange, and the adjustment of the time base. -/
theorem membersLoadAndKeepTime : Obligations.MembersLoadAndKeepTime := by
  unfold Obligations.MembersLoadAndKeepTime
  refine ⟨fun m c1 => ⟨?_, fun l e => ?_, ?_⟩, fun k o x r => ?_, fun p => ?_, fun m v => ⟨?_, ?_⟩, ?_⟩
  · refine does_of_run exec_msgFwData fun d ⟨hm, hs, hw, h0, ho, hl⟩ => msgCmd_handled hm (by decide) ?_
    simp only [handleMsg, takeMsg_cls hm]
    exact congrArg some (hFwData_chunk hs hw h0 ho hl)
  · refine does_of_run exec_msgPersData fun d ⟨hm, hw, h0, hl, hc, hs, ho, he, hd⟩ => msgCmd_handled hm (by decide) ?_
    simp only [handleMsg, takeMsg_cls hm]
    exact congrArg some (hPersData_chunk hw h0 hl hc hs ho he hd)
  · refine does_of_run exec_msgTime fun d ⟨hm, hk⟩ => msgCmd_handled hm (by decide) ?_
    simp only [handleMsg, takeMsg_cls hm]
    exact congrArg (fun c => some (Dev.mk d.mem c)) (hTime_asked hk)
  · refine does_of_run exec_fwDataResend fun d ⟨hu, hx, ho, hf⟩ => on_eq ?_
    simp only [fwResend, hu, hx, ho, hf, Bool.not_true, Bool.false_eq_true, if_false, List.foldl_cons, List.foldl_nil]
  · refine does_of_run exec_timeSyncPeriod fun d ⟨hp, hm, hu⟩ => on_eq ?_
    simp only [timeSync, hp, hm, hu, Bool.and_self, if_true]
  · exact does_of_run (exec_tbsAdjWrite m v) fun d ⟨hw, h⟩ => hubWrite hw (on_eq (if_pos h))
  · exact does_of_run (exec_tbsAdjWrite m v) fun d ⟨hw, h⟩ => hubWrite hw (on_eq (if_neg (fun h1 => Nat.one_ne_zero (h1.symm.trans h))))
  · exact does_of_run exec_timeBaseSlewEnd fun d _ => rfl

end Sys2Proof.Machine
end

section
/-!
SUPPORT. The rings of a mailbox channel (R501–R507, R512–R520).
-/
namespace Sys2Proof.Machine

/-- The host writes a register of a page that is a channel's, over a link that is up. -/
theorem hostWrites_up {fn pg k : Nat} {f : Nat → Chip → Chip} {c : Chip} (hl : c.rbit .pciLinkStat .hub 0 63 = true) (hp : pageChan c fn pg = some k) :
    hostWrites fn pg f c = f k c := by
  simp only [hostWrites, hl, hp, if_true]

/-- A well-formed packet with room for its answer is fetched (R503, R504). -/
theorem commandFetch_ok {k : Nat} {pkt : List Byte} {c : Chip} (hen : c.rbit .mbxCtl .hub k 63 = true) (herr : c.rf .mbxHdr .hub k 56 4 = 0)
    (hcmds : (c.mbx k).cmds = []) (hfn : c.fnOn (c.chanFn k) = true) (hst : c.hub.mbxState = 2) (hns0 : leAt pkt 3 1 ≠ 0)
    (hns : leAt pkt 3 1 ≤ ((c.mbx k).prod + 2 ^ 32 - c.cmdCons k) % 2 ^ 32) (hav : ((c.mbx k).prod + 2 ^ 32 - c.cmdCons k) % 2 ^ 32 ≠ 0)
    (hroom : (c.rspProd k + 2 ^ 32 - (c.mbx k).rspCons) % 2 ^ 32 + leAt pkt 4 1 ≤ 2 ^ c.rf .mbxRspBase .hub k 0 4) (hfl : leAt pkt 2 1 < 2)
    (hn : leAt pkt 3 1 = (32 + leAt pkt 12 4 + 63) / 64) (hlen : leAt pkt 12 4 ≤ 4064) (hz : leAt pkt 5 3 = 0) (hr1 : 1 ≤ leAt pkt 4 1) (hr64 : leAt pkt 4 1 ≤ 64)
    (hn64 : leAt pkt 3 1 ≤ 64) (hop : knownOp (leAt pkt 0 2) = true) : commandFetch k pkt .ok c =
    (c.setRf .mbxStat .hub k 0 32 (c.cmdCons k + leAt pkt 3 1)).modMbx k (fun x => { x with cmds := x.cmds ++
      [⟨leAt pkt 0 2, bitOf (leAt pkt 2 1) 0, leAt pkt 4 1, leAt pkt 8 4, (pkt.drop 16).take 16, (pkt.drop 32).take (leAt pkt 12 4), none, false, false⟩] }) := by
  have hlost : (decide (leAt pkt 3 1 = 0) || decide (64 < leAt pkt 3 1)) = false := by simp [hns0, hn64]
  have hrsv : ¬(leAt pkt 4 1 = 0 ∨ 64 < leAt pkt 4 1) := by omega
  have hwait : (decide (2 ^ c.rf .mbxRspBase .hub k 0 4 < (c.rspProd k + 2 ^ 32 - (c.mbx k).rspCons) % 2 ^ 32 + 0 + leAt pkt 4 1) ||
      (!false && decide (((c.mbx k).prod + 2 ^ 32 - c.cmdCons k) % 2 ^ 32 < leAt pkt 3 1))) = false := by
    rw [decide_eq_false (by omega), decide_eq_false (by omega)]
    rfl
  have hok : (!false && decide (leAt pkt 2 1 < 2) && decide (leAt pkt 3 1 = (32 + leAt pkt 12 4 + 63) / 64) && decide (leAt pkt 12 4 ≤ 4064) && leAt pkt 5 3 == 0 &&
      decide (1 ≤ leAt pkt 4 1) && decide (leAt pkt 4 1 ≤ 64)) = true := by
    simp [hfl, hlen, hz, hr1, hr64, ← hn]
  have hgate : (!(c.rbit .mbxCtl .hub k 63) || c.rf .mbxHdr .hub k 56 4 != 0 || ((c.mbx k).prod + 2 ^ 32 - c.cmdCons k) % 2 ^ 32 == 0 ||
      decide (64 ≤ ([] : List MbxCmd).length) || !(c.fnOn (c.chanFn k)) || (c.hub.mbxState != 1 && c.hub.mbxState != 2 && c.hub.mbxState != 3)) = false := by
    rw [hen, herr, beq_false_of_ne hav, hfn, hst]
    rfl
  simp only [commandFetch, hcmds, hlost, if_neg hrsv, List.foldl_nil, hwait, hok, hgate, hop, Bool.not_true, Bool.false_eq_true, if_false, ne_eq, not_true_eq_false]

/-- The answer of the command at the front of a channel is written, its header slot last (R505, R506). -/
def responseSent (k : Nat) (x : MbxCmd) (r : MbxResp) (c : Chip) : Chip :=
  let h := c.rspProd k
  let b := c.reg .mbxRspBase .hub k
  let size := 2 ^ fld b 0 4
  let bs := respBytes x r (h / size % 2 == 0)
  let slot (j : Nat) : Nat × List Byte := (4096 * fld b 12 52 + 64 * ((h + j) % size), (bs.drop (64 * j)).take 64)
  let c := c.modHub (fun y => { y with hostWr := y.hostWr ++ ((List.range (bs.length / 64 - 1)).map (fun j => slot (j + 1))) ++ [slot 0] })
  let c := (c.setRf .mbxStat .hub k 32 32 (h + bs.length / 64)).modMbx k (fun y => { y with cmds := y.cmds.eraseIdx 0 })
  let v := vecDeliver (c.bump .mbxCmdCnt .hub) (chanVector c k)
  if v.2 then v.1.bump .pciMsixDropCnt .hub else v.1

theorem responseWrite_front {k : Nat} {c : Chip} {x : MbxCmd} {r : MbxResp} {rest : List MbxCmd} (hl : c.rbit .pciLinkStat .hub 0 63 = true)
    (hs : c.hub.mbxState = 2) (hc : (c.mbx k).cmds = x :: rest) (hr : x.resp = some r) (h22 : x.opcode ≠ 0x22) (h23 : x.opcode ≠ 0x23) :
    responseWrite k c = responseSent k x r c := by
  have ho : (x.opcode == 0x22 || x.opcode == 0x23) = false := by simp [h22, h23]
  simp only [responseWrite, hl, hs, hc, List.length_cons, List.range_succ_eq_map, List.find?_cons, List.getElem?_cons_zero, hr, Option.isSome_some, List.take_zero,
    List.all_nil, Bool.or_true, ho, Bool.false_and, Bool.not_false, Bool.and_self, Option.bind_some, Bool.not_true, Bool.false_or]
  rfl

/-- Writing an answer takes its command from the channel and puts its slots into host memory. -/
theorem responseSent_hub (k : Nat) (x : MbxCmd) (r : MbxResp) (c : Chip) : (responseSent k x r c).hub =
    (let h := c.rspProd k
     let b := c.reg .mbxRspBase .hub k
     let size := 2 ^ fld b 0 4
     let bs := respBytes x r (h / size % 2 == 0)
     let slot (j : Nat) : Nat × List Byte := (4096 * fld b 12 52 + 64 * ((h + j) % size), (bs.drop (64 * j)).take 64)
     { c.hub with
       hostWr := c.hub.hostWr ++ ((List.range (bs.length / 64 - 1)).map (fun j => slot (j + 1))) ++ [slot 0]
       chans := kset c.hub.chans k { c.mbx k with cmds := (c.mbx k).cmds.eraseIdx 0 } }) := by
  unfold responseSent
  dsimp only
  split
  · rw [bump_hub, (same_vecDeliver _ _).1, bump_hub]
    rfl
  · rw [(same_vecDeliver _ _).1, bump_hub]
    rfl

/-- Settles O50: doorbells, fetches, answers, timeouts, and the ring registers. -/
theorem mailboxRingsTurn : Obligations.MailboxRingsTurn := by
  unfold Obligations.MailboxRingsTurn
  refine fun fn pg k v => ⟨?_, ?_, ?_, ?_, ?_, fun rsp => ⟨?_, ?_⟩, fun pkt => ?_, fun x r rest => ?_, fun n m => ?_⟩
  · exact does_of_run (exec_mbxCmdDbWrite fn pg v) fun d ⟨⟨hl, hp⟩, h⟩ => on_eq ((hostWrites_up hl hp).trans (if_pos h))
  · exact does_of_run (exec_mbxCmdDbWrite fn pg v) fun d ⟨⟨hl, hp⟩, h⟩ => on_eq ((hostWrites_up hl hp).trans (if_neg h))
  · exact does_of_run (exec_mbxRspDbWrite fn pg v) fun d ⟨⟨hl, hp⟩, h⟩ => on_eq ((hostWrites_up hl hp).trans (if_pos h))
  · exact does_of_run (exec_mbxRspDbWrite fn pg v) fun d ⟨⟨hl, hp⟩, h⟩ => on_eq ((hostWrites_up hl hp).trans (if_neg h))
  · exact does_of_run (exec_mbxCtlClr fn pg) fun d ⟨hl, hp⟩ => on_eq (hostWrites_up hl hp)
  · exact does_of_run (exec_mbxRingBaseWrite fn pg rsp v) fun d ⟨⟨hl, hp⟩, he⟩ => on_eq ((hostWrites_up hl hp).trans (if_pos he))
  · exact does_of_run (exec_mbxRingBaseWrite fn pg rsp v) fun d ⟨⟨hl, hp⟩, he, h4, h14⟩ =>
      on_eq ((hostWrites_up hl hp).trans ((if_neg (Bool.eq_false_iff.1 he)).trans (if_pos ⟨h4, h14⟩)))
  · exact does_of_run (exec_commandFetch k pkt .ok) fun d ⟨hen, herr, hcmds, hfn, hst, hns0, hns, hav, hroom, hfl, hn, hlen, hz, hr1, hr64, hn64, hop⟩ =>
      on_eq (commandFetch_ok hen herr hcmds hfn hst hns0 hns hav hroom hfl hn hlen hz hr1 hr64 hn64 hop)
  · refine brings_of_does (does_of_run (exec_responseWrite k) fun d ⟨hl, hs, hc, hr, h22, h23⟩ => on_eq (responseWrite_front hl hs hc hr h22 h23)) ?_
    rintro d ⟨-, -, hc, -, -, -⟩
    have hh := responseSent_hub k.val x r d.chip
    refine ⟨?_, congrArg Hub.hostWr hh⟩
    have hm : (responseSent k.val x r d.chip).mbx k.val = { d.chip.mbx k.val with cmds := (d.chip.mbx k.val).cmds.eraseIdx 0 } := by
      unfold Chip.mbx
      rw [hh]
      exact kget_kset_same _ _ _ _
    have hcm : ((responseSent k.val x r d.chip).mbx k.val).cmds = (d.chip.mbx k.val).cmds.eraseIdx 0 := congrArg MbxChan.cmds hm
    exact hcm.trans (congrArg (List.eraseIdx · 0) hc)
  · refine does_of_run (exec_commandTimeout k n) fun d ⟨hm, hr, hc, ho⟩ => on_eq ?_
    simp only [commandTimeout, hm, hr, hc, Option.isSome_none, Bool.or_self, Bool.false_eq_true, if_false, if_neg ho]

end Sys2Proof.Machine
end

section
/-!
SUPPORT. The mailbox commands on the device itself (R510, R511, R532).
-/
namespace Sys2Proof.Machine

/-- A command that is asked for and decided answers. -/
theorem serve_done {op k i st : Nat} {m : MbxCmd} {d e : Dev} {data res : List Byte} {f : MbxCmd → Dev → Served} (h : asks op k i m d)
    (hf : f m d = .done st data res e) : serve op k f d = answered k i st data res e := by
  rw [serve_asks f h, hf]

/-- An answer leaves what the device runs. -/
theorem answered_hub (k i st : Nat) (data res : List Byte) (d : Dev) : (answered k i st data res d).chip.hub.mbxState = d.chip.hub.mbxState ∧
    (answered k i st data res d).chip.hub.fwRunning = d.chip.hub.fwRunning := by
  simp only [answered, Dev.on_chip, decideAt]
  split
  · exact ⟨rfl, rfl⟩
  · split
    · exact ⟨rfl, rfl⟩
    · unfold malformed
      split
      · rw [raise_hub, bump_hub]
        exact ⟨rfl, rfl⟩
      · exact ⟨rfl, rfl⟩

/-- DEVICE_RESET of a known kind: the answer, then the reset (R510, R555). -/
theorem deviceReset_asked {k i : Nat} {m : MbxCmd} {d : Dev} (h : asks 0x05 k i m d) (hp : m.p 16 1 ≤ 1)
    (hs : (answered k i 0 [] [] d).chip.hub.mbxState = 2) : deviceReset k d =
    (answered k i 0 [] [] d).reset (fun c => (if m.p 16 1 = 0 then hubReset 6 else internalReset 7) (flushResponses k 64 c)) := by
  have hd : serve 0x05 k (fun m d => if 1 < m.p 16 1 then .done 0x8003 [] [] d else .done 0 [] [] d) d = answered k i 0 [] [] d :=
    serve_done h (if_neg (Nat.not_lt.2 hp))
  obtain ⟨hh, hst, hpick, hadm⟩ := h
  have ha : d.chip.chanAdmin k = true := hadm (by decide)
  simp only [deviceReset, hpick, hd, hs, hh, hst, ha, Nat.lt_irrefl, decide_false, Bool.not_true, Bool.or_self, Bool.false_eq_true, if_false,
    decide_eq_false (Nat.not_lt.2 hp)]

/-- What FW_END leaves of the load: the event of its verdict (R530). -/
def fwJudged (e : Nat) (d : Dev) : Dev := d.on (fun c => raise (.hub e) 1 (c.modHub (fun h => { h with fwLoad := none })))

/-- What FW_END answers of a whole image of ROM's load (R532). -/
def fwEndStep (k : Nat) (_ : MbxCmd) (d : Dev) : Served :=
  match d.chip.hub.fwLoad with
  | none => cfgError 0x21 d
  | some l =>
    if l.chan ≠ k then .done 0x8007 [] [] d
    else if d.chip.hub.signing.isSome then .wait
    else
      let st := if l.got.length ≠ l.length then 0x0A else fwVerify d.chip l.got
      let d := d.on (fun c => raise (if st = 0 then .hub 17 else .hub 18) 1 (c.modHub (fun h => { h with fwLoad := none })))
      if st ≠ 0 then .done 0x800F [] (bytesOf st 4) d
      else if l.mode = 1 then
        let base := if d.chip.hub.bootSlot = 0 then 0x400000 else 0
        .done 0 [] (bytesOf 0 4) (d.on (fun c => c.modHub (fun h => { h with
          flash := h.flash.map (fun f => (l.got.zipIdx).foldl (fun f x => kset f (base + x.2) x.1) f) })))
      else .done 0 [] (bytesOf 0 4) (d.on (fun c => c.modHub (fun h => { h with fwRam := l.got, fwRunning := true })))

theorem fwEnd_eq (k : Nat) (d0 : Dev) : fwEnd k d0 = (let d := serve 0x12 k (fwEndStep k) d0
    if d.chip.hub.mbxState = 1 ∧ d.chip.hub.fwRunning then bootEnd (d.on (fun c => fwStart c.hub.fwRam c)) else d) := rfl

theorem fwEndStep_whole {k : Nat} {m : MbxCmd} {d : Dev} {l : FwLoad} (hl : d.chip.hub.fwLoad = some l) (hk : l.chan = k) (hm : l.mode = 0)
    (hn : l.got.length = l.length) (hs : d.chip.hub.signing = none) : fwEndStep k m d =
    if fwVerify d.chip l.got = 0 then
      .done 0 [] (bytesOf 0 4) ((fwJudged 17 d).on (fun c => c.modHub (fun h => { h with fwRam := l.got, fwRunning := true })))
    else .done 0x800F [] (bytesOf (fwVerify d.chip l.got) 4) (fwJudged 18 d) := by
  simp only [fwEndStep, hl, hk, hm, hn, hs, ne_eq, not_true_eq_false, if_false, Option.isSome_none, Bool.false_eq_true, Nat.zero_ne_one]
  by_cases hv : fwVerify d.chip l.got = 0
  · simp only [hv, not_true_eq_false, if_false, if_true]
    rfl
  · simp only [hv, not_false_eq_true, if_false, if_true]
    rfl

/-- FW_END of a whole image before any firmware runs: a verified one starts (R532). -/
theorem fwEnd_whole {k i : Nat} {m : MbxCmd} {d : Dev} {l : FwLoad} (h : asks 0x12 k i m d) (hl : d.chip.hub.fwLoad = some l) (hk : l.chan = k) (hm : l.mode = 0)
    (hn : l.got.length = l.length) (h1 : d.chip.hub.mbxState = 1) (hr : d.chip.hub.fwRunning = false) (hs : d.chip.hub.signing = none) : fwEnd k d =
    if fwVerify d.chip l.got = 0 then
      bootEnd ((answered k i 0 [] (bytesOf 0 4) ((fwJudged 17 d).on (fun c => c.modHub (fun h => { h with fwRam := l.got, fwRunning := true })))).on
        (fun c => fwStart c.hub.fwRam c))
    else answered k i 0x800F [] (bytesOf (fwVerify d.chip l.got) 4) (fwJudged 18 d) := by
  have hj : ∀ e, (fwJudged e d).chip.hub = { d.chip.hub with fwLoad := none } := fun e => raise_hub _ _ _
  rw [fwEnd_eq]
  have hw := fwEndStep_whole (m := m) hl hk hm hn hs
  by_cases hv : fwVerify d.chip l.got = 0
  · rw [if_pos hv] at hw ⊢
    rw [serve_done h hw]
    refine if_pos ⟨?_, ?_⟩
    · rw [(answered_hub _ _ _ _ _ _).1]
      exact (congrArg Hub.mbxState (hj 17)).trans h1
    · rw [(answered_hub _ _ _ _ _ _).2]
      rfl
  · rw [if_neg hv] at hw ⊢
    rw [serve_done h hw]
    refine if_neg fun hx => ?_
    have hf := hx.2
    rw [(answered_hub _ _ _ _ _ _).2, congrArg Hub.fwRunning (hj 18)] at hf
    exact Bool.false_ne_true (hr.symm.trans hf)

/-- Settles O51: the commands on the device itself. -/
theorem deviceCommandsAnswer : Obligations.DeviceCommandsAnswer := by
  unfold Obligations.DeviceCommandsAnswer
  refine fun k i m => ⟨?_, ?_, ?_, ?_, ?_, ?_, ?_, ?_, fun l => ⟨?_, ?_⟩⟩
  · exact does_of_run (exec_mbxNop k) fun d h => serve_done h rfl
  · exact does_of_run (exec_identify k) fun d h => serve_done h rfl
  · refine does_of_run (exec_chanConfig k) fun d ⟨h, ht, hf, he, hc, hn⟩ => serve_done h ?_
    refine (if_neg (by omega)).trans ((if_neg ?_).trans (if_neg ?_))
    · simp [he, hc]
    · rintro ⟨h0, h16⟩
      rcases hn with hn | hn
      · exact h0 hn
      · exact absurd hn (Nat.not_lt.2 h16)
  · refine does_of_run (exec_setDeadline k) fun d ⟨h, h1, h6, hb⟩ => serve_done h ((if_neg (by omega)).trans ?_)
    simp only [hb, Bool.false_eq_true, if_false]
  · exact does_of_run (exec_setDeadline k) fun d ⟨h, h0⟩ => serve_done h (if_pos (.inl h0))
  · refine does_of_run (exec_deviceReset k) fun d ⟨h, h0, hs⟩ => ?_
    rw [deviceReset_asked h (by omega) hs, if_pos h0]
  · refine does_of_run (exec_deviceReset k) fun d ⟨h, h0, hs⟩ => ?_
    rw [deviceReset_asked h (by omega) hs, if_neg (by omega)]
  · refine does_of_run (exec_fwBegin k) fun d ⟨h, h1, h2, h0, hl, hs⟩ => serve_done h ?_
    refine (if_neg (by omega)).trans ((if_neg (by simp [hl])).trans ((if_neg (by omega)).trans ?_))
    simp only [h0, Nat.zero_ne_one, if_false]
  · refine does_of_run (exec_fwData k) fun d ⟨h, hl, hk, ho, hn⟩ => serve_done h ?_
    simp only [hl, hk, ho, ne_eq, not_true_eq_false, if_false, if_neg (Nat.not_lt.2 hn)]
  · exact does_of_run (exec_fwEnd k) fun d ⟨h, hl, hk, hm, hn, h1, hr, hs⟩ => fwEnd_whole h hl hk hm hn h1 hr hs

end Sys2Proof.Machine
end

section
/-!
Flow locks (O30): each operation of the scheduler and of the inter-tile forwarder on the path that its clause names.
-/
namespace Sys2Proof.Machine

/-- A change of the hub leaves every tile. -/
theorem tile_modHub (c : Chip) (f : Hub → Hub) (t : Nat) : (c.modHub f).tile t = c.tile t := rfl

/-- A free flow with a waiting chain and no ready task: its first task becomes ready (R190). -/
theorem chainAdvance_head {t k n : Nat} {f : Flow} {c : Chip} (hl : (c.tile t).lockOf f = some k)
    (hh : (kget { flow := f } (c.tile t).locks k).holder = none)
    (ha : (c.tile t).anyTask f (fun x => x.state == .ready || x.state == .placed) = false) (hn : (c.tile t).chainHead f = some n) :
    chainAdvance t f c = ((c.modTile t (fun x => { x with releaseQ := x.releaseQ.filter (fun y => y != f), ord := x.ord + 1 })).modDesc t n
      (fun x => { x with state := .ready, ord := (c.tile t).ord })).askGrant t f := by
  unfold chainAdvance
  simp only [hl, hh, ha, hn, Option.isSome_none, Bool.or_self, Bool.false_eq_true, if_false]

/-- A task at the head of the overflow FIFO enters at its flow's way, or at a free one (R191). -/
theorem fifoDrain_enters {t n k : Nat} {x : Desc} {r : List (Nat × Desc)} {c : Chip} (hf : (c.tile t).fifo = (n, x) :: r)
    (hk : (c.tile t).lockOf x.flow = some k ∨ ((c.tile t).lockOf x.flow = none ∧ (c.tile t).freeWay x.flow = some k)) :
    fifoDrain t c = c.enterTable t n k x.flow := by
  unfold fifoDrain
  rcases hk with h | ⟨h, hw⟩
  · simp only [hf, h]
  · simp only [hf, h, hw]

/-- An entry without task and lock is freed, its grant released (R188, R192). -/
theorem entryFree_unused {t k : Nat} {f : Flow} {c : Chip} (hl : (c.tile t).lockOf f = some k)
    (hh : (kget { flow := f } (c.tile t).locks k).holder = none) (ha : (c.tile t).anyTask f (fun x => x.state.live) = false) :
    entryFree t f c = c.modTile t (fun x => { x with
      locks := kdel x.locks k, xreq := if (kget { flow := f } (c.tile t).locks k).xgrant then x.xreq ++ [(f, false)] else x.xreq }) := by
  unfold entryFree
  simp only [hl, hh, ha, Option.isSome_none, Bool.or_self, Bool.false_eq_true, if_false]

/-- The holder's release reaches the forwarder (R192). -/
theorem xlockRequest_release {t : Nat} {f : Flow} {e : XEntry} {r : List (Flow × Bool)} {c : Chip} (hq : (c.tile t).xreq = (f, false) :: r)
    (he : c.hub.xlocks.find? (fun x => x.flow == f) = some e) (hh : e.holder = some t) :
    xlockRequest t c = xdrainAll 256 (xgrantNext f ((c.modTile t (fun x => { x with xreq := r })).modHub
      (fun h => { h with xlocks := xput h.xlocks f (some { e with holder := none }) }))) := by
  unfold xlockRequest xrelease
  simp only [hq, he, hh, Chip.modTile_hub, if_true]

/-- The request of a tile that neither holds the grant nor waits for it joins the flow's queue (R192). -/
theorem xlockRequest_queued {t : Nat} {f : Flow} {e : XEntry} {r : List (Flow × Bool)} {c : Chip} (hq : (c.tile t).xreq = (f, true) :: r)
    (he : c.hub.xlocks.find? (fun x => x.flow == f) = some e) (hh : e.holder ≠ some t) (hw : e.queue.contains t = false) :
    xlockRequest t c = (xgrantNext f (c.modHub (fun h => { h with xlocks := xput h.xlocks f (some { e with queue := e.queue ++ [t] }) }))).modTile t
      (fun x => { x with xreq := r }) := by
  unfold xlockRequest xrequest
  simp only [hq, he, hh, hw, Bool.false_eq_true, or_self, if_false, if_true]

/-- A grant that a task waits for is kept (R192). -/
theorem xlockGrant_kept {t k : Nat} {f : Flow} {c : Chip} (hg : c.hub.xgrants.find? (fun x => x.1 == t) = some (t, f))
    (hl : (c.tile t).lockOf f = some k) (ha : (c.tile t).anyTask f (fun x => x.state.live && !x.marked) = true) :
    xlockGrant t c = (c.modHub (fun h => { h with xgrants := h.xgrants.erase (t, f) })).modLock t f (fun e => { e with xgrant := true, asked := false }) := by
  unfold xlockGrant
  simp only [hg, tile_modHub, hl, ha]

/-- A grant of a flow without an entry is released again (R192). -/
theorem xlockGrant_returned {t : Nat} {f : Flow} {c : Chip} (hg : c.hub.xgrants.find? (fun x => x.1 == t) = some (t, f))
    (hl : (c.tile t).lockOf f = none) :
    xlockGrant t c = ((c.modHub (fun h => { h with xgrants := h.xgrants.erase (t, f) })).modLock t f (fun e => { e with asked := false })).modTile t
      (fun x => { x with xreq := x.xreq ++ [(f, false)] }) := by
  unfold xlockGrant
  simp only [hg, tile_modHub, hl]

/-- A failed exchange raises its error and stays the oldest (R193). -/
theorem xlockError_raises {t : Nat} {f : Flow} {b : Bool} {r : List (Flow × Bool)} {c : Chip} (hq : (c.tile t).xreq = (f, b) :: r) :
    xlockError t c = raise (.tile t 4) f.toNat c := by
  unfold xlockError
  simp only [hq]

/-- A tile that holds and wants nothing re-announces nothing, before the last one (R193). -/
theorem xlockReannounce_nothing {t : Nat} {c : Chip} (hm : c.hub.xreann.contains t = true)
    (ho : (c.hub.xreann.filter (fun x => x != t)).isEmpty = false) (hl : (c.tile t).locks = []) (hd : (c.tile t).descs = []) :
    xlockReannounce t c = (c.modTile t (fun x => { x with xreq := [] })).modHub (fun h => { h with xreann := h.xreann.filter (fun x => x != t) }) := by
  unfold xlockReannounce
  rw [if_neg (by rw [hm]; exact Bool.false_ne_true)]
  simp only [hl, hd, List.filter_nil, List.map_nil, List.foldl_nil, List.mergeSort_nil]
  exact if_neg fun h => Bool.false_ne_true (ho.symm.trans h)

/-- Settles O30: the operations on flow locks, clause by clause. -/
theorem flowLocksMove : Obligations.FlowLocksMove := by
  unfold Obligations.FlowLocksMove
  refine fun tt => ⟨fun f k n => ?_, fun n k x r => ?_, fun f k => ?_, fun f e r => ⟨?_, ?_⟩, fun f k => ?_, fun f => ?_, fun f b r => ?_, ?_⟩
  · exact does_of_run (exec_flowChainAdvance tt f) fun d ⟨hl, hh, ha, hn⟩ => congrArg (Dev.mk d.mem) (chainAdvance_head hl hh ha hn)
  · exact does_of_run (exec_lockOverflowDrain tt) fun d ⟨hf, hk⟩ => congrArg (Dev.mk d.mem) (fifoDrain_enters hf hk)
  · exact does_of_run (exec_flowEntryFree tt f) fun d ⟨hl, hh, ha⟩ => congrArg (Dev.mk d.mem) (entryFree_unused hl hh ha)
  · exact does_of_run (exec_xlockRequest tt) fun d ⟨hq, he, hh⟩ => congrArg (Dev.mk d.mem) (xlockRequest_release hq he hh)
  · exact does_of_run (exec_xlockRequest tt) fun d ⟨hq, he, hh, hw⟩ => congrArg (Dev.mk d.mem) (xlockRequest_queued hq he hh hw)
  · exact does_of_run (exec_xlockGrant tt) fun d ⟨hg, hl, ha⟩ => congrArg (Dev.mk d.mem) (xlockGrant_kept hg hl ha)
  · exact does_of_run (exec_xlockGrant tt) fun d ⟨hg, hl⟩ => congrArg (Dev.mk d.mem) (xlockGrant_returned hg hl)
  · exact does_of_run (exec_xlockError tt) fun d hq => congrArg (Dev.mk d.mem) (xlockError_raises hq)
  · exact does_of_run (exec_xlockReannounce tt) fun d ⟨hm, ho, hl, hd⟩ => congrArg (Dev.mk d.mem) (xlockReannounce_nothing hm ho hl hd)

end Sys2Proof.Machine
end

section
/-!
SUPPORT. Boot without an image, resets of functions, and the host link (O55). Raising an event leaves the MSI-X enables and masks of the
functions.
-/
namespace Sys2Proof.Machine

/-- Two devices have the same MSI-X enables and masks of functions (R516). -/
def SameEnables (c e : Chip) : Prop := e.evt.msixEn = c.evt.msixEn ∧ e.evt.fnMask = c.evt.fnMask

theorem SameEnables.refl (c : Chip) : SameEnables c c := ⟨rfl, rfl⟩

theorem SameEnables.trans {a b c : Chip} (h : SameEnables a b) (k : SameEnables b c) : SameEnables a c := ⟨k.1.trans h.1, k.2.trans h.2⟩

theorem enables_setEv (c : Chip) (e : EvSrc) (v : BitVec 64) : SameEnables c (c.setEv e v) := .refl c

theorem enables_schDeliver (e : EvSrc) (v : BitVec 64) (c : Chip) : SameEnables c (schDeliver e v c) := by
  unfold schDeliver
  split <;> exact .refl c

theorem enables_msixDue (c : Chip) (v : Nat) : SameEnables c (msixDue c v).1 := by
  unfold msixDue
  dsimp only
  split
  · exact .refl c
  · split <;> exact .refl c

theorem enables_vecDeliver (c : Chip) (v : Nat) : SameEnables c (vecDeliver c v).1 := by
  unfold vecDeliver
  dsimp only
  split
  · exact (SameEnables.refl c).trans (enables_msixDue _ _)
  · exact .refl c

/-- The place of an event in the firmware queue, where its route asks for one (R224). -/
theorem enables_fwq (b d : Prop) [Decidable b] [Decidable d] {c : Chip} {x y z : Chip × Bool} (hx : SameEnables c x.1) (hy : SameEnables c y.1)
    (hz : SameEnables c z.1) : SameEnables c (if b then (if d then x else y) else z).1 := by
  split
  · split
    · exact hx
    · exact hy
  · exact hz

theorem enables_hubDeliver (num : Nat) (info : BitVec 32) (v : BitVec 64) (c : Chip) : SameEnables c (hubDeliver num info v c).1 := by
  have key : ∀ p : Chip × Bool, SameEnables c p.1 → SameEnables c
      (if fld v 59 1 == 1 then ((vecDeliver p.1 (fld v 48 11)).1, p.2, (vecDeliver p.1 (fld v 48 11)).2) else (p.1, p.2, false)).1 := by
    intro p h
    split
    · exact h.trans (enables_vecDeliver _ _)
    · exact h
  exact key _ (enables_fwq _ _ (.refl c) (.refl c) (.refl c))

theorem enables_announce (e : EvSrc) (info : BitVec 32) (v : BitVec 64) (c : Chip) : SameEnables c (announce e info v c).1 := by
  unfold announce
  split
  · dsimp only
    split
    · exact (enables_hubDeliver _ info v c).trans (.refl _)
    · exact enables_hubDeliver _ info v c
  · exact .refl c

theorem enables_countRaise (sel cnt : Reg) (s : Site) (o : EvSrc) (num k : Nat) (c : Chip) : SameEnables c (countRaise sel cnt s o num k c).1 := by
  induction k with
  | zero => exact .refl c
  | succ k ih =>
    unfold countRaise
    dsimp only
    split
    · exact ih.trans (.refl _)
    · exact ih

theorem enables_raiseOne (e : EvSrc) (info : BitVec 32) (c : Chip) : SameEnables c (raiseOne e info c).1 := by
  unfold raiseOne
  dsimp only
  have h : SameEnables c (if fld (c.ev e) 63 1 == 1 then (c.setEv e (setFld (c.ev e) 62 1 1), [])
      else announce e info (c.ev e) (schDeliver e (c.ev e) (c.setEv e (setFld (setFld (c.ev e) 63 1 1) 0 32 info.toNat)))).1 := by
    split
    · exact enables_setEv c e _
    · exact ((enables_setEv c e _).trans (enables_schDeliver _ _ _)).trans (enables_announce _ _ _ _)
  cases e <;> exact h.trans (enables_countRaise _ _ _ _ _ _ _)

theorem enables_raiseAll (n : Nat) (l : List RaiseReq) (c : Chip) : SameEnables c (raiseAll n l c) := by
  induction n generalizing l c with
  | zero => cases l <;> exact .refl c
  | succ n ih =>
    cases l with
    | nil => exact .refl c
    | cons x r => exact (enables_raiseOne x.1 x.2 c).trans (ih _ _)

/-- Raising an event leaves the enables and masks of the functions. -/
theorem enables_raise (e : EvSrc) (info : Nat) (c : Chip) : SameEnables c (raise e info c) := by
  unfold raise
  split
  · exact .refl c
  · exact enables_raiseAll _ _ _

/-- A key that a filter takes out is not kept. -/
theorem kget_filter_out {α : Type} (m : KMap α) (d : α) (k : Nat) (p : Nat → Bool) (hp : p k = false) : kget d (m.filter (fun x => p x.1)) k = d := by
  have h : kfind? (m.filter (fun x => p x.1)) k = none := by
    induction m with
    | nil => rfl
    | cons x r ih =>
      rw [List.filter_cons]
      split
      · next hx =>
        have hk : x.1 ≠ k := fun hk => Bool.false_ne_true (hp.symm.trans (hk ▸ hx))
        simp only [kfind?, hk, if_false, ih]
      · exact ih
  simp only [kget, h, Option.getD_none]

/-- After an FLR of a function without channels its MSI-X enable and mask are off (R509). -/
theorem pciFlr_disables {fn : Nat} {c : Chip} (hf : 1 ≤ fn) (hn : (List.range 256).filter (fun k => c.chanFn k == fn) = []) :
    kget false (pciFlr fn c).evt.msixEn fn = false ∧ kget false (pciFlr fn c).evt.fnMask fn = false := by
  have h0 : fn ≠ 0 := by omega
  have hb : (fn == 0) = false := beq_eq_false_iff_ne.2 h0
  unfold pciFlr
  simp only [hb, Bool.false_or, hn, List.foldl_nil, h0, if_false]
  obtain ⟨he, hm⟩ := enables_raise (.hub 5) fn ({ c with evt := { c.evt with
    msixEn := c.evt.msixEn.filter (fun x => !(x.1 == fn)), fnMask := c.evt.fnMask.filter (fun x => !(x.1 == fn))
    msixMask := c.evt.msixMask.filter (fun x => !(vecFn x.1 == fn)), msixPba := c.evt.msixPba.filter (fun x => !(vecFn x.1 == fn)) } })
  rw [he, hm]
  exact ⟨kget_filter_out _ _ _ (fun k => !(k == fn)) (by simp), kget_filter_out _ _ _ (fun k => !(k == fn)) (by simp)⟩

/-- A hot reset of a device without VFs is an FLR of the PF (R509). -/
theorem hotReset_noVfs {c : Chip} (h : c.rf .pciLinkStat .hub 0 48 6 = 0) : hotReset c = pciFlr 0 c := by
  unfold hotReset
  simp only [h, List.range_zero, List.foldl_nil]

/-- A link that forms at x16 (R498). -/
theorem pciLink_x16 (flit : Bool) (rate : Nat) (c : Chip) : pciLink true flit rate 16 c =
    hubLevels (c.setReg .pciLinkStat .hub 0 (mkReg [(63, 1, 1), (62, 1, b2n flit), (59, 3, rate), (54, 5, 16), (48, 6, c.rf .pciLinkStat .hub 0 48 6)])) := rfl

/-- The VFs that a request enables, up to 31 (R500). -/
theorem configRequest_numVf {n : Nat} (h : n ≤ 31) (c : Chip) : configRequest (.numVf n) c =
    ({ c with evt := { c.evt with vfEn := (List.range n).map (fun i => (i + 1, true)) } } : Chip).setRf .pciLinkStat .hub 0 48 6 n := by
  simp only [configRequest, Nat.min_eq_left h]

/-- The ports that the ROM enables, after step 1 of the chain (R443, R530). -/
def romPorts (c : Chip) : Chip :=
  (List.range 8).foldl (fun c p => lnkEnable p true c) (extendM 0 (sha256 (c.otpBytes 0 0x40 ++ c.otpBytes 0x70 0x150)) c)

/-- The chain without delivered firmware and without flash ends in BOOT (R530). -/
theorem romBoot_noImage {d : Dev} (hr : d.chip.hub.fwRunning = false) (hw : d.chip.hub.warmHeld = []) (hm : d.chip.hub.mbxState = 0)
    (hh : d.chip.hub.core.halted = false) (ha : (romPorts d.chip).hub.afterHub = false) (hf : (romPorts d.chip).hub.flash = none) :
    romBoot d = d.on (fun c => (romPorts c).modHub (fun h => { h with mbxState := 1 })) := by
  unfold romBoot
  unfold romPorts at ha hf
  simp only [hr, hw, hm, hh, ha, hf, List.isEmpty_nil, Bool.not_true, bne_self_eq_false, Bool.false_and, Bool.or_self, Bool.false_eq_true, if_false,
    List.filter_nil, List.length_nil, Nat.lt_irrefl]
  rfl

/-- Settles O55: boot, resets and the host link, clause by clause. -/
theorem hostLinkAndBoot : Obligations.HostLinkAndBoot := by
  unfold Obligations.HostLinkAndBoot
  refine ⟨?_, fun fn => ?_, ?_, fun flit rate => ?_, fun v => ?_, fun i a n v => ⟨?_, ?_, ?_, ?_⟩⟩
  · exact does_of_run exec_romBoot fun d ⟨hr, hw, hm, hh, _, _, ha, hf⟩ => romBoot_noImage hr hw hm hh ha hf
  · exact brings_of_does (does_of_run (exec_pciFlr fn) fun _ _ => rfl) fun d ⟨hf, hn⟩ => pciFlr_disables hf hn
  · exact does_of_run exec_hotReset fun d h => congrArg (Dev.mk d.mem) (hotReset_noVfs h)
  · exact does_of_run (exec_pciLinkChange true flit rate 16) fun d _ => congrArg (Dev.mk d.mem) (pciLink_x16 flit rate.val d.chip)
  · exact does_of_run (exec_msixUnmask v) fun _ _ => rfl
  · exact does_of_run (exec_configurationRequest (.bar i a)) fun _ _ => rfl
  · exact does_of_run (exec_configurationRequest (.numVf n)) fun d h => congrArg (Dev.mk d.mem) (configRequest_numVf h d.chip)
  · exact does_of_run (exec_configurationRequest (.entryMask v)) fun _ _ => rfl
  · exact does_of_run (exec_configurationRequest (.other v)) fun _ _ => rfl

end Sys2Proof.Machine
end

section
/-!
SUPPORT. The canonical form of memory (O4), part 1: what joins the pieces of an effect, then queues, codes, landing accesses and the tick of a
tile. Each lemma says that one effect of the model keeps the form; its proof splits the effect's branches and cites the lemma of what a branch runs.
-/
namespace Sys2Proof.Machine

/-! ### The pieces of an effect

An effect is built of changes of the chip, branches, pairs with an answer, and folds; each keeps the form where its parts do. -/

/-- A change of the chip. -/
theorem wf_on {d : Dev} {f : Chip → Chip} (h : d.mem.wf = true) : (d.on f).mem.wf = true := h

/-- A device with another chip. -/
theorem wf_mk {m : Mem} {c : Chip} (h : m.wf = true) : (Dev.mk m c).mem.wf = true := h

/-- A device paired with what it answers. -/
theorem wf_fst {α : Type} {d : Dev} {x : α} (h : d.mem.wf = true) : (d, x).1.mem.wf = true := h

theorem wf_snd {α : Type} {d : Dev} {x : α} (h : d.mem.wf = true) : (x, d).2.mem.wf = true := h

/-- A branch. -/
theorem wf_ite {b : Prop} [Decidable b] {x y : Dev} (hx : x.mem.wf = true) (hy : y.mem.wf = true) : (if b then x else y).mem.wf = true := by
  split
  · exact hx
  · exact hy

/-- A branch whose second side goes on from the device of the first. -/
theorem wf_ite_then {b : Prop} [Decidable b] {x y : Dev} (hx : x.mem.wf = true) (hy : x.mem.wf = true → y.mem.wf = true) :
    (if b then x else y).mem.wf = true := wf_ite hx (hy hx)

theorem wf_ite_fst {α : Type} {b : Prop} [Decidable b] {x y : Dev × α} (hx : x.1.mem.wf = true) (hy : y.1.mem.wf = true) :
    (if b then x else y).1.mem.wf = true := by
  split
  · exact hx
  · exact hy

theorem wf_ite_snd {α : Type} {b : Prop} [Decidable b] {x y : α × Dev} (hx : x.2.mem.wf = true) (hy : y.2.mem.wf = true) :
    (if b then x else y).2.mem.wf = true := by
  split
  · exact hx
  · exact hy

/-- An effect for each of a list. -/
theorem foldl_wf {β : Type} {f : Dev → β → Dev} {l : List β} {d : Dev} (hf : ∀ d x, d.mem.wf = true → (f d x).mem.wf = true)
    (h : d.mem.wf = true) : (l.foldl f d).mem.wf = true := by
  induction l generalizing d with
  | nil => exact h
  | cons x r ih => exact ih (hf d x h)

theorem foldl_fst_wf {β γ : Type} {f : Dev × γ → β → Dev × γ} {l : List β} {x : Dev × γ}
    (hf : ∀ x b, x.1.mem.wf = true → (f x b).1.mem.wf = true) (h : x.1.mem.wf = true) : (l.foldl f x).1.mem.wf = true := by
  induction l generalizing x with
  | nil => exact h
  | cons b r ih => exact ih (hf x b h)

theorem foldl_snd_wf {β γ : Type} {f : γ × Dev → β → γ × Dev} {l : List β} {x : γ × Dev}
    (hf : ∀ x b, x.2.mem.wf = true → (f x b).2.mem.wf = true) (h : x.2.mem.wf = true) : (l.foldl f x).2.mem.wf = true := by
  induction l generalizing x with
  | nil => exact h
  | cons b r ih => exact ih (hf x b h)

/-- An effect that may not be there. -/
theorem getD_wf {o : Option Dev} {d : Dev} (ho : ∀ e, o = some e → e.mem.wf = true) (h : d.mem.wf = true) : (o.getD d).mem.wf = true := by
  cases o with
  | none => exact h
  | some e => exact ho e rfl

/-! ### Queues, codes and the tick of a tile -/

theorem spillTail_wf {d : Dev} {q : Nat} (h : d.mem.wf = true) : (Dev.spillTail d q).1.mem.wf = true := by
  unfold Dev.spillTail
  dsimp only
  refine wf_ite_fst (wf_fst h) ?_
  split
  · exact wf_fst h
  · exact wf_ite_fst (wf_fst (wf_mk h)) (wf_fst (wrBlock_wf _ _ _ (wf_mk h)))

theorem placeWord_wf {d : Dev} {q id : Nat} {w : TWord} (h : d.mem.wf = true) : (Dev.placeWord d q id w).1.mem.wf = true := by
  unfold Dev.placeWord
  dsimp only
  split
  · exact wf_fst h
  · refine wf_ite_fst (wf_ite_fst (wf_fst (spillTail_wf (wf_mk h))) (wf_fst (wf_mk (spillTail_wf (wf_mk h))))) ?_
    split
    · exact wf_fst h
    · split
      · exact wf_fst h
      · exact wf_ite_fst (wf_fst (wf_on (wf_mk h))) (wf_fst (wr32_wf _ _ _ (wf_ite (wrBlock_wf _ _ _ (wf_mk h)) (wf_mk h))))

theorem place_wf {d : Dev} {q id : Nat} {w : TWord} (h : d.mem.wf = true) : (Dev.place d q id w).1.mem.wf = true := by
  unfold Dev.place
  dsimp only
  exact wf_ite_fst (wf_fst (wf_on (placeWord_wf h))) (placeWord_wf h)

theorem hubPush_wf {d : Dev} {q : Nat} {p : Producer} {w : TWord} {start stop : Bool} {vb : Nat} {flow : Option Flow} (h : d.mem.wf = true) :
    (Dev.hubPush d q p w start stop vb flow).1.mem.wf = true := by
  unfold Dev.hubPush
  dsimp only
  refine wf_ite_fst (wf_fst h) (wf_ite_fst (wf_fst (wf_mk h)) (wf_ite_fst (wf_fst (wf_mk h)) ?_))
  split
  · exact wf_ite_fst (wf_fst (wf_mk h)) (wf_ite_fst (wf_fst (wf_mk (place_wf (wf_mk h)))) (wf_fst h))
  · refine wf_ite_fst (wf_fst (wf_mk h)) (wf_ite_fst (wf_fst (wf_mk h)) ?_)
    split
    · exact wf_fst h
    · exact wf_ite_fst (wf_fst (wf_mk (place_wf (wf_mk h)))) (wf_fst h)

theorem pop_wf {d : Dev} {q : Nat} {x : BitVec 64} {e : Dev} (hs : d.pop q = some (x, e)) (h : d.mem.wf = true) : e.mem.wf = true := by
  unfold Dev.pop at hs
  dsimp only at hs
  split at hs
  · cases hs; exact h
  · split at hs
    · cases hs
    · split at hs
      · cases hs; exact h
      · split at hs <;> cases hs
        exact h

theorem popNext_wf {d : Dev} {q : Nat} {x : BitVec 64} {e : Dev} (hs : d.popNext q = some (x, e)) (h : d.mem.wf = true) : e.mem.wf = true := by
  unfold Dev.popNext at hs
  split at hs
  · cases hs
  · exact pop_wf hs h

theorem popSome_wf {q n : Nat} {d : Dev} (h : d.mem.wf = true) : (popSome q n d).2.mem.wf = true := by
  induction n generalizing d with
  | zero => exact h
  | succ n ih =>
    unfold popSome
    split
    · exact h
    · next hp =>
      split
      · exact pop_wf hp h
      · exact ih (pop_wf hp h)

theorem refill_wf {d : Dev} {q : Nat} (h : d.mem.wf = true) : (Dev.refill d q).mem.wf = true := by
  unfold Dev.refill
  dsimp only
  split
  · exact h
  · exact wf_mk h

theorem gdClean_wf {d : Dev} {o : Nat} {l : List (BitVec 8)} (h : d.mem.wf = true) : (d.gdClean o l).mem.wf = true :=
  Mem.wf_foldl _ _ _ (fun m _ hm => Mem.wf_write m _ _ hm) h

theorem spmEcc_wf {d : Dev} {t g a : Nat} {e : Ecc} {src : Nat} (h : d.mem.wf = true) : (Dev.spmEcc d t g a e src).mem.wf = true := by
  unfold Dev.spmEcc
  dsimp only
  refine wf_ite h ?_
  split
  · exact h
  · exact h
  · exact h
  · exact wf_on h
  · exact wf_on (poison_wf _ _ h)

theorem tmbEcc_wf {d : Dev} {t a : Nat} {e : Ecc} {src : Nat} (h : d.mem.wf = true) : (Dev.tmbEcc d t a e src).mem.wf = true := by
  unfold Dev.tmbEcc
  dsimp only
  refine wf_ite h ?_
  split
  · exact h
  · exact h
  · exact h
  · exact wf_on h
  · exact wf_on (poison_wf _ _ h)

theorem gd7Ecc_wf {d : Dev} {o : Nat} {e : Ecc} {src : Nat} (h : d.mem.wf = true) : (Dev.gd7Ecc d o e src).mem.wf = true := by
  unfold Dev.gd7Ecc
  dsimp only
  split
  · exact h
  · exact h
  · exact wf_on h
  · exact wf_on (poison_wf _ _ h)
  · split
    · exact gdClean_wf h
    · exact wf_on (gdClean_wf h)
    · exact poison_wf _ _ h
    · exact wf_on (poison_wf _ _ h)

theorem lvlEcc_wf {d : Dev} {t : Nat} {l : Level} {e : Ecc} (h : d.mem.wf = true) : (Dev.lvlEcc d t l e).mem.wf = true := by
  unfold Dev.lvlEcc
  refine wf_ite h ?_
  split
  · exact tmbEcc_wf h
  · exact gd7Ecc_wf h
  · exact h

theorem performA_wf {t g now : Nat} {f : InFlight} {k : MemKind} {addr : Nat} {data : TWord} {ecc : Ecc} {wb : Option Nat} {d : Dev}
    (h : d.mem.wf = true) : (performA t g now f k addr data ecc wb d).mem.wf = true := by
  unfold performA
  dsimp only
  split
  · exact wf_on (spmEcc_wf (wf_on h))
  · exact wf_on (spmEcc_wf (wf_on h))
  · exact wf_ite (wf_on (wf_on h)) (wr32_wf _ _ _ (spmEcc_wf (wf_on h)))
  · exact wf_ite (wf_on (wf_on h)) (wr32_wf _ _ _ (spmEcc_wf (wf_on h)))
  · exact wf_ite_then (wf_on (wf_on (spmEcc_wf (wf_on h)))) fun h => wf_ite (poison_wf _ _ h) (wf_ite h (wr32_wf _ _ _ h))
  · exact wf_ite_then (wf_on (wf_on (spmEcc_wf (wf_on h)))) fun h => wf_ite (poison_wf _ _ h) (wr32_wf _ _ _ h)

/-- An entry that lands: only an access of the scratchpad reaches memory. -/
theorem landOne_wf {t g now : Nat} {f : InFlight} {d : Dev} (h : d.mem.wf = true) : (landOne t g now f d).mem.wf = true := by
  unfold landOne
  dsimp only
  split
  case h_3 => exact wf_on (performA_wf h)
  all_goals exact wf_on h

theorem qrTick_wf {t g u : Nat} {d : Dev} (h : d.mem.wf = true) : (qrTick t g u d).mem.wf = true := by
  unfold qrTick
  dsimp only
  split
  · exact h
  · refine wf_ite (wf_on h) ?_
    split
    · exact wf_on h
    · refine wf_ite (wf_on h) ?_
      split <;> exact wf_on h

theorem tickGrove_wf {t g : Nat} {d : Dev} (h : d.mem.wf = true) : (tickGrove t g d).mem.wf = true := by
  unfold tickGrove
  dsimp only
  refine wf_ite (wf_ite h h) (wf_ite_then ?_ fun h => qrTick_wf (qrTick_wf h))
  exact foldl_wf (fun _ _ h => foldl_wf (fun _ _ h => landOne_wf h) h) h

theorem tickTile_wf {t : Nat} {d : Dev} (h : d.mem.wf = true) : (tickTile t d).mem.wf = true := by
  unfold tickTile
  dsimp only
  exact wf_on (foldl_wf (fun _ _ h => tickGrove_wf h) h)

theorem settleGrove_wf {t g : Nat} {busy : Grove → Bool} {n : Nat} {d : Dev} (h : d.mem.wf = true) : (settleGrove t g busy n d).mem.wf = true := by
  induction n generalizing d with
  | zero => exact h
  | succ n ih => exact wf_ite (ih (tickTile_wf h)) h

theorem settleDev_wf {t : Nat} {busy : Dev → Bool} {n : Nat} {d : Dev} (h : d.mem.wf = true) : (settleDev t busy n d).mem.wf = true := by
  induction n generalizing d with
  | zero => exact h
  | succ n ih => exact wf_ite (ih (tickTile_wf h)) h

end Sys2Proof.Machine
end

section
/-!
SUPPORT. The canonical form of memory (O4), part 2: cells, sequencer, scheduler and tasks.
-/
namespace Sys2Proof.Machine

theorem saveAcc_wf {t g i : Nat} {d : Dev} (h : d.mem.wf = true) : (saveAcc t g i d).mem.wf = true := by
  unfold saveAcc
  dsimp only
  exact wf_on (wf_ite (wf_on h) (wrRow_wf _ _ _ _ (wf_on h)))

theorem restoreAcc_wf {t g slot i : Nat} {e : Ecc} {d : Dev} (h : d.mem.wf = true) : (restoreAcc t g slot i e d).mem.wf = true := by
  unfold restoreAcc
  dsimp only
  exact wf_on (wf_ite (wf_on h) (tmbEcc_wf (wf_on h)))

theorem acquire_wf {t g slot : Nat} {hit : Nat × Ecc} {d : Dev} (h : d.mem.wf = true) : (acquire t g slot hit d).mem.wf = true := by
  unfold acquire
  extract_lets d1 d2
  have h1 : d1.mem.wf = true := foldl_wf (fun _ _ h => wf_ite (saveAcc_wf h) h) h
  have h2 : d2.mem.wf = true := wf_ite (foldl_wf (fun _ _ h => restoreAcc_wf h) h1) (wf_on h1)
  exact wf_on h2

theorem fireNow_wf {t g n : Nat} {f : CellField} {u : CellUpset} {d : Dev} (h : d.mem.wf = true) : (fireNow t g n f u d).mem.wf = true := by
  unfold fireNow
  dsimp only
  exact wf_on h

theorem cellFire_wf {op t g n : Nat} {u : CellUpset} {d0 : Dev} (h : d0.mem.wf = true) : (cellFire op t g n u d0).mem.wf = true := by
  unfold cellFire
  extract_lets d gr
  have hd : d.mem.wf = true := settleDev_wf h
  split
  · exact h
  · exact wf_ite h (wf_ite hd (wf_ite hd (wf_ite (wf_ite hd (fireNow_wf (acquire_wf hd))) (fireNow_wf hd))))

theorem acquisitionEnd_wf {t g : Nat} {hit : Nat × Ecc} {d : Dev} (h : d.mem.wf = true) : (acquisitionEnd t g hit d).mem.wf = true := by
  unfold acquisitionEnd
  dsimp only
  split
  · exact fireNow_wf (acquire_wf (wf_on (tickTile_wf h)))
  · exact h

theorem setLast_wf {d : Dev} {q id : Nat} {w : TWord} (h : d.mem.wf = true) : (Dev.setLast d q id w).mem.wf = true := by
  unfold Dev.setLast
  dsimp only
  split
  · exact h
  · split
    · exact h
    · split
      · exact wf_on h
      · exact wf_on h
      · exact wr32_wf _ _ _ (wf_on h)

/-- An instruction of the sequencer; of its arms QEOI alone writes memory, where it masks the item's last word and places its check value. -/
theorem seqEffect_wf {t g : Nat} {w : Word} {u : SeqUpset} {a b : TWord} {d : Dev} (h : d.mem.wf = true) : (seqEffect t g w u a b d).mem.wf = true := by
  unfold seqEffect
  dsimp only
  split
  · exact h
  · refine wf_ite (wf_on h) (wf_ite (wf_ite (wf_on h) (wf_on h)) ?_)
    split
    case h_2 | h_5 | h_15 | h_18 | h_23 => exact wf_ite (wf_on h) (wf_on h)
    case h_3 | h_4 | h_6 | h_20 | h_24 | h_25 | h_26 | h_27 | h_29 => exact wf_ite (wf_on h) (wf_ite (wf_on h) (wf_on h))
    case h_7 | h_28 => exact wf_ite (wf_on h) (wf_ite h (wf_on h))
    case h_8 =>
      refine wf_ite (wf_on h) ?_
      split
      · exact h
      · exact wf_on h
    case h_10 => exact wf_ite (wf_on h) h
    case h_12 => exact wf_ite (wf_on h) (wf_ite h (wf_ite (wf_on h) (wf_on h)))
    case h_13 => exact wf_ite (wf_on (wf_on h)) (wf_on h)
    case h_21 =>
      split
      · exact wf_on h
      · refine wf_ite (wf_on h) (wf_ite (wf_on h) (wf_ite (wf_on h) ?_))
        split
        · exact wf_on h
        · exact wf_on (wf_mk h)
    case h_22 =>
      split
      · exact wf_ite (wf_on h) (wf_ite (wf_ite (wf_on h) (wf_ite (wf_on h) (wf_on (wf_on (place_wf (setLast_wf h)))))) (wf_on h))
      · exact wf_on h
    all_goals exact wf_on h

theorem seqIssue_wf {op t g : Nat} {u : SeqUpset} {d0 : Dev} (h : d0.mem.wf = true) : (seqIssue op t g u d0).mem.wf = true := by
  unfold seqIssue
  extract_lets d gr
  have hd : d.mem.wf = true := settleGrove_wf h
  split
  · exact h
  · exact wf_ite h (wf_ite h (wf_ite hd (wf_ite hd (wf_ite hd (wf_ite hd (seqEffect_wf hd))))))

theorem startWaiting_wf {t n : Nat} {d : Dev} (h : d.mem.wf = true) : (startWaiting t n d).mem.wf = true := by
  induction n generalizing d with
  | zero => exact h
  | succ n ih =>
    unfold startWaiting
    split
    · exact h
    · exact wf_ite h (ih h)

theorem startPaging_wf {d : Dev} {t : Nat} (h : d.mem.wf = true) : (Dev.startPaging d t).mem.wf = true := by
  unfold Dev.startPaging
  exact startWaiting_wf h

theorem askPage_wf {d : Dev} {t g ctx n : Nat} (h : d.mem.wf = true) : (Dev.askPage d t g ctx n).mem.wf = true := by
  unfold Dev.askPage
  exact startPaging_wf (wf_on h)

theorem placeTask_wf {t n g : Nat} {d : Dev} (h : d.mem.wf = true) : (placeTask t n g d).mem.wf = true := by
  unfold placeTask
  dsimp only
  exact wf_ite (wf_on h) (askPage_wf (wf_on h))

theorem gangReserve_wf {t g : Nat} {d : Dev} (h : d.mem.wf = true) : (gangReserve t g d).mem.wf = true := by
  unfold gangReserve
  dsimp only
  split
  · exact wf_on h
  · split
    · exact wf_on h
    · exact wf_ite (wf_on h) (wf_ite (wf_on (wf_on h)) (askPage_wf (wf_on (wf_on h))))

theorem dispatch_wf {t : Nat} {d : Dev} (h : d.mem.wf = true) : (dispatch t d).mem.wf = true := by
  unfold dispatch
  dsimp only
  split
  · exact placeTask_wf (wf_on h)
  · exact wf_on (wf_on h)
  · exact wf_on h

theorem gangStart_wf {t : Nat} {d : Dev} (h : d.mem.wf = true) : (gangStart t d).mem.wf = true := by
  unfold gangStart
  split
  · exact wf_on h
  · exact h

theorem taskEnd_wf {t g : Nat} {d0 : Dev} (h : d0.mem.wf = true) : (taskEnd t g d0).mem.wf = true := by
  unfold taskEnd
  dsimp only
  split
  · exact h
  · exact wf_ite (wf_ite (settleGrove_wf h) h) (wf_ite (wf_on (wf_on (settleGrove_wf h))) (wf_on (settleGrove_wf h)))

theorem genCheck_wf {d : Dev} {q id : Nat} (h : d.mem.wf = true) : (Dev.genCheck d q id).mem.wf = true := by
  unfold Dev.genCheck
  dsimp only
  refine wf_ite h ?_
  split
  · exact h
  · exact setLast_wf h

theorem joinOutputs_wf {l : List (Nat × Nat)} {d : Dev} (h : d.mem.wf = true) : (joinOutputs l d).mem.wf = true := by
  unfold joinOutputs
  exact foldl_wf (fun _ _ h => wf_on (genCheck_wf h)) h

theorem commitMember_wf {t : Nat} {m : Nat × Run × Bool} {d : Dev} (h : d.mem.wf = true) : (commitMember t m d).mem.wf = true := by
  unfold commitMember
  dsimp only
  exact wf_on h

theorem taskCommit_wf {t g : Nat} {d : Dev} (h : d.mem.wf = true) : (taskCommit t g d).1.mem.wf = true := by
  unfold taskCommit
  dsimp only
  split
  · exact wf_fst h
  · exact wf_ite_fst (wf_fst (wf_on (foldl_wf (fun _ _ h => commitMember_wf h) (joinOutputs_wf h)))) (wf_fst h)

theorem pushItem_wf {q : Nat} {p : Producer} {flow : Option Flow} {vb : Nat} {ws : List TWord} {start : Bool} {d e : Dev}
    (hs : d.pushItem q p flow vb ws start = some e) (h : d.mem.wf = true) : e.mem.wf = true := by
  induction ws generalizing d start with
  | nil => cases hs; exact h
  | cons w r ih =>
    unfold Dev.pushItem at hs
    obtain ⟨-, hs⟩ := Option.ite_none_left_eq_some.1 hs
    exact ih hs (hubPush_wf h)

theorem pushItems_wf {qs : List Nat} {p : Producer} {flow : Option Flow} {vb : Nat} {ws : List TWord} {o : Option Dev} {e : Dev}
    (ho : ∀ d, o = some d → d.mem.wf = true)
    (hs : qs.foldl (fun (acc : Option Dev) q => acc.bind (fun d => d.pushItem q p flow vb ws true)) o = some e) : e.mem.wf = true := by
  induction qs generalizing o with
  | nil => exact ho e hs
  | cons q r ih =>
    refine ih (fun d hd => ?_) hs
    cases o with
    | none => cases hd
    | some a => exact pushItem_wf hd (ho a rfl)

theorem placeholderDelivery_wf {t n : Nat} {d : Dev} (h : d.mem.wf = true) : (placeholderDelivery t n d).mem.wf = true := by
  have ho : ∀ e, some d = some e → e.mem.wf = true := fun e he => Option.some.inj he ▸ h
  unfold placeholderDelivery
  dsimp only
  split
  · exact h
  · split
    · exact h
    · next hs =>
      rw [on_mem]
      exact pushItems_wf ho hs

theorem pageImage_wf {t : Nat} {p : PageIn} {d : Dev} (h : d.mem.wf = true) : (pageImage t p d).2.2.mem.wf = true := by
  unfold pageImage
  dsimp only
  split <;> exact wf_on h

theorem pageInComplete_wf {t g : Nat} {ue : Bool} {d : Dev} (h : d.mem.wf = true) : (pageInComplete t g ue d).mem.wf = true := by
  unfold pageInComplete
  dsimp only
  split
  · exact h
  · refine startPaging_wf ?_
    split
    · split
      · exact wf_ite (wf_on (wf_on (pageImage_wf h))) (wf_on (wf_on (pageImage_wf h)))
      · exact wf_on (wf_on (pageImage_wf h))
    · refine wf_ite (wf_on (pageImage_wf h)) ?_
      split
      · exact wf_on (wf_on (pageImage_wf h))
      · exact wf_ite (wf_on (wf_on (pageImage_wf h))) (wf_on (wf_on (pageImage_wf h)))

theorem windowSpill_wf {t g : Nat} {ue : Bool} {d : Dev} (h : d.mem.wf = true) : (windowSpill t g ue d).mem.wf = true := by
  unfold windowSpill
  dsimp only
  refine wf_ite h ?_
  split
  · exact h
  · exact wf_ite (wf_on h) (wf_on (wrWords_wf _ _ _ (wf_on h)))

theorem windowRefill_wf {t g : Nat} {ecc : Ecc} {d : Dev} (h : d.mem.wf = true) : (windowRefill t g ecc d).mem.wf = true := by
  unfold windowRefill
  dsimp only
  split
  · exact h
  · exact wf_ite h (wf_ite (wf_on (spmEcc_wf (wf_on h))) (wf_on (spmEcc_wf (wf_on h))))

theorem qrFetch_wf {t g u n : Nat} {e : Ecc} {hit : Option Nat} {d : Dev} (h : d.mem.wf = true) : (qrFetch t g u n e hit d).mem.wf = true := by
  unfold qrFetch
  dsimp only
  split
  · exact h
  · split
    · refine wf_on (wf_on ?_)
      split
      · exact lvlEcc_wf h
      · exact h
    · exact h

theorem pushWord_wf {t g p q id : Nat} {w : TWord} {d : Dev} (h : d.mem.wf = true) : (pushWord t g p q id w d).mem.wf = true := by
  unfold pushWord
  dsimp only
  split
  · exact wf_on h
  · exact wf_ite (wf_on h) (wf_ite (wf_on (place_wf h)) (wf_on h))

theorem qwPush_wf {t g p : Nat} {up : BitVec 35} {rail : Bool} {d0 : Dev} (h : d0.mem.wf = true) : (qwPush t g p up rail d0).mem.wf = true := by
  have hd (busy : Grove → Bool) : (settleGrove t g busy 8 d0).mem.wf = true := settleGrove_wf h
  unfold qwPush
  dsimp only
  split
  · exact h
  · split
    · exact wf_ite h (wf_ite (wf_on (wf_on (hd _))) (wf_ite (wf_on (wf_on (hd _))) (wf_ite (wf_on (wf_on (hd _))) (pushWord_wf (wf_on (hd _))))))
    · exact h

theorem qwAccepted_wf {t g p : Nat} {d : Dev} (h : d.mem.wf = true) : (qwAccepted t g p d).mem.wf = true := by
  unfold qwAccepted
  dsimp only
  split
  · exact h
  · split
    · exact pushWord_wf (wf_on h)
    · exact h

theorem forcedSave_wf {t g : Nat} {d : Dev} (h : d.mem.wf = true) : (forcedSave t g d).mem.wf = true := by
  unfold forcedSave
  dsimp only
  exact wf_ite h (wf_on (foldl_wf (fun _ _ h => wf_ite (saveAcc_wf h) h) h))

end Sys2Proof.Machine
end

section
/-!
SUPPORT. The canonical form of memory (O4), part 3: queue rows, the ports of memories, scrubbing, and queue packets.
-/
namespace Sys2Proof.Machine

theorem queueSpill_wf {q : Nat} {bad : Option Nat} {d : Dev} (h : d.mem.wf = true) : (queueSpill q bad d).mem.wf = true := by
  unfold queueSpill
  refine spillTail_wf ?_
  split
  · exact h
  · exact wf_on h

theorem popRead_wf {q : Nat} {d : Dev} (h : d.mem.wf = true) : (popRead q d).mem.wf = true := by
  unfold popRead
  dsimp only
  split
  · exact wf_on (popNext_wf ‹_› h)
  · exact wf_on h

theorem servePops_wf {q n : Nat} {d : Dev} (h : d.mem.wf = true) : (servePops q n d).mem.wf = true := by
  induction n generalizing d with
  | zero => exact h
  | succ n ih =>
    unfold servePops
    split
    · exact h
    · split
      · next hp =>
        have hd := pop_wf hp h
        exact ih hd
      · exact h

theorem collect_wf {q : Nat} {host : Bool} {who tag n : Nat} {d0 : Dev} (h : d0.mem.wf = true) : (collect q host who tag n d0).2.2.mem.wf = true := by
  unfold collect
  extract_lets d go
  have hd : d.mem.wf = true := wf_ite (servePops_wf h) h
  have hgo (ws : List (BitVec 64)) : (go ws).2.2.mem.wf = true := by
    unfold go
    extract_lets r all
    split
    · exact servePops_wf (popSome_wf hd)
    · exact popSome_wf hd
  split
  · split
    · exact hgo _
    · exact hd
  · split
    · exact hgo _
    · exact hd

theorem collect_eq_wf {q : Nat} {host : Bool} {who tag n : Nat} {d e : Dev} {b : Bool} {vs : List (BitVec 64)}
    (hc : collect q host who tag n d = (b, vs, e)) (h : d.mem.wf = true) : e.mem.wf = true := by
  have he := collect_wf (q := q) (host := host) (who := who) (tag := tag) (n := n) h
  rwa [hc] at he

theorem refillCode_wf {q row : Nat} {e : Ecc} {d : Dev} (h : d.mem.wf = true) : (refillCode q row e d).mem.wf = true := by
  unfold refillCode
  dsimp only
  split
  · exact h
  · exact wf_on (lvlEcc_wf h)

theorem refillLand_wf {q row : Nat} {e : Ecc} {d : Dev} (h : d.mem.wf = true) : (refillLand q row e d).mem.wf = true := by
  unfold refillLand
  exact servePops_wf (refill_wf (refillCode_wf h))

theorem serveAccess_wf {a : Nat} {op : MemOp} {wide : Bool} {lo hi : TWord} {poisonCnt ueCnt : Chip → Chip} {d : Dev} (h : d.mem.wf = true) :
    (serveAccess a op wide lo hi poisonCnt ueCnt d).2.mem.wf = true := by
  unfold serveAccess
  dsimp only
  split
  · exact wf_snd h
  · exact wf_ite_snd (wf_snd (wf_on (poison_wf _ _ h))) (wf_snd (wrW_wf _ _ _ _ _ h))
  · exact wf_ite_snd (wf_snd (wf_on h)) (wf_ite_snd (wf_snd (poison_wf _ _ h)) (wf_snd (wrW_wf _ _ _ _ _ h)))
  · exact wf_ite_snd (wf_snd (wf_on h)) (wf_ite_snd (wf_snd (poison_wf _ _ h)) (wf_snd (wrW_wf _ _ _ _ _ h)))

theorem wrEn_wf {d : Dev} {a be : Nat} {lo hi : TWord} (h : d.mem.wf = true) : (Dev.wrEn d a be lo hi).mem.wf = true := by
  unfold Dev.wrEn
  dsimp only
  exact wf_ite (wf_ite h (wr32_wf _ _ _ h)) (wr32_wf _ _ _ (wf_ite h (wr32_wf _ _ _ h)))

theorem spadAccess_wf {t g : Nat} {p : PortB} {ecc : Ecc} {d : Dev} (h : d.mem.wf = true) : (spadAccess t g p ecc d).2.mem.wf = true := by
  unfold spadAccess
  extract_lets off all whole s d1 d2
  have h2 : d2.mem.wf = true := wf_ite (wf_on h) (spmEcc_wf (wf_on h))
  exact wf_ite_snd (wf_snd h) (wf_ite_snd (wf_snd (wf_on h2)) (wf_ite_snd (wf_snd (wrEn_wf h2)) (serveAccess_wf h2)))

theorem tmemAccess_wf {t off : Nat} {who : TmbReq} {op : MemOp} {wide : Bool} {lo hi : TWord} {ecc : Ecc} {d : Dev} (h : d.mem.wf = true) :
    (tmemAccess t off who op wide lo hi ecc d).2.mem.wf = true := by
  unfold tmemAccess
  extract_lets s d1 d2
  have h2 : d2.mem.wf = true := wf_ite (wf_on h) (tmbEcc_wf (wf_on h))
  exact wf_ite_snd (wf_ite_snd (wf_snd h) (wf_snd (wf_on h))) (wf_ite_snd (wf_snd (wf_on h2)) (serveAccess_wf h2))

theorem gddrAccess_wf {o : Nat} {op : MemOp} {wide : Bool} {lo hi : TWord} {ecc : Ecc} {d : Dev} (h : d.mem.wf = true) :
    (gddrAccess o op wide lo hi ecc d).2.mem.wf = true := by
  unfold gddrAccess
  dsimp only
  split
  · exact wf_snd h
  · exact wf_ite_snd (wf_snd (wf_on (gd7Ecc_wf (wf_on h)))) (serveAccess_wf (gd7Ecc_wf (wf_on h)))
  · exact wf_snd h

theorem undefRead_wf {t g : Nat} {cells : List Nat} {d : Dev} (h : d.mem.wf = true) : (undefRead t g cells d).mem.wf = true := by
  unfold undefRead
  dsimp only
  exact wf_on h

theorem portBTry_wf {t g : Nat} {p : PortB} {ecc : Ecc} {d0 : Dev} (h : d0.mem.wf = true) : (portBTry t g p ecc d0).2.2.mem.wf = true := by
  unfold portBTry
  extract_lets d1 gr d hits aW bW coll
  split
  · exact spadAccess_wf h
  · split
    · exact h
    · exact undefRead_wf (spadAccess_wf h)

theorem portBDone_wf {t g : Nat} {p : PortB} {r : AccessOut × Bool × Dev} (h : r.2.2.mem.wf = true) : (portBDone t g p r).mem.wf = true := by
  unfold portBDone
  exact wf_ite h (wf_ite h (wf_ite h h))

theorem portBRepeat_wf {t g : Nat} {ecc : Ecc} {d : Dev} (h : d.mem.wf = true) : (portBRepeat t g ecc d).mem.wf = true := by
  unfold portBRepeat
  dsimp only
  split
  · exact h
  · exact portBDone_wf (portBTry_wf (tickTile_wf (wf_on h)))

theorem portBRepeats_wf {t g n : Nat} {d : Dev} (h : d.mem.wf = true) : (portBRepeats t g n d).mem.wf = true := by
  induction n generalizing d with
  | zero => exact h
  | succ n ih => exact wf_ite h (ih (portBRepeat_wf h))

theorem portBFree_wf {t g : Nat} {d : Dev} (h : d.mem.wf = true) : (portBFree t g d).mem.wf = true := by
  unfold portBFree
  dsimp only
  exact wf_ite (tickTile_wf (portBRepeats_wf h)) (portBRepeats_wf h)

theorem portBAccess_wf {t g src addr : Nat} {op : MemOp} {wide : Bool} {be : Nat} {lo hi : TWord} {ecc : Ecc} {d : Dev} (h : d.mem.wf = true) :
    (portBAccess t g src addr op wide be lo hi ecc d).mem.wf = true := by
  unfold portBAccess
  dsimp only
  exact wf_ite (portBFree_wf h) (portBDone_wf (portBTry_wf (portBFree_wf h)))

theorem tmbServe_wf {t src : Nat} {a : TmbAcc} {d : Dev} (h : d.mem.wf = true) : (tmbServe t src a d).mem.wf = true := by
  unfold tmbServe
  dsimp only
  exact wf_ite (tmemAccess_wf (wf_on h)) (wf_on (wf_ite (wf_on (tmemAccess_wf (wf_on h))) (tmemAccess_wf (wf_on h))))

theorem tmbAccess_go_wf {t src n : Nat} {x y z : List TmbAcc} {d : Dev} (h : d.mem.wf = true) : (tmbAccess.go t src n x y z d).mem.wf = true := by
  induction n generalizing x y z d with
  | zero => exact h
  | succ n ih =>
    unfold tmbAccess.go
    split
    · exact ih (tmbServe_wf h)
    · exact wf_ite h (ih h)

theorem tmbAccess_wf {t src : Nat} {a : TmbAcc} {others : List TmbAcc} {d : Dev} (h : d.mem.wf = true) :
    (tmbAccess t src a others d).mem.wf = true := tmbAccess_go_wf h

theorem spmScrubRow_wf {t g : Nat} {ecc : Ecc} {d : Dev} (h : d.mem.wf = true) : (spmScrubRow t g ecc d).mem.wf = true := by
  unfold spmScrubRow
  dsimp only
  exact wf_ite h (wf_on (wf_ite (spmEcc_wf (portBFree_wf h)) (portBFree_wf h)))

theorem tmbScrubRow_wf {t : Nat} {ecc : Ecc} {d : Dev} (h : d.mem.wf = true) : (tmbScrubRow t ecc d).mem.wf = true := by
  unfold tmbScrubRow
  dsimp only
  exact wf_ite h (wf_on (wf_ite (tmbEcc_wf h) h))

theorem gd7ScrubBlock_wf {t : Nat} {ecc : Ecc} {d : Dev} (h : d.mem.wf = true) : (gd7ScrubBlock t ecc d).mem.wf = true := by
  unfold gd7ScrubBlock
  dsimp only
  exact wf_ite h (wf_on (wf_ite (gd7Ecc_wf h) h))

theorem powerDone_wf {u : MemUnit} {d : Dev} (h : d.mem.wf = true) : (powerDone u d).mem.wf = true := by
  unfold powerDone
  dsimp only
  split
  · split
    · exact wf_on (zeroBank_wf _ _ _ _ (wf_on h))
    · exact wf_on (wf_on h)
    · exact wf_on h
  · split
    · exact wf_on (zeroBlock_wf _ _ _ h)
    · exact h

theorem gd7TransferDone_wf {o crc ode : Nat} {ecc : Ecc} {d : Dev} (h : d.mem.wf = true) : (gd7TransferDone o crc ode ecc d).mem.wf = true := by
  unfold gd7TransferDone
  dsimp only
  exact wf_ite (wf_ite (wf_on (wf_on (poison_wf _ _ (wf_on h)))) (wf_on (wf_on (poison_wf _ _ (wf_on h))))) (gd7Ecc_wf (wf_ite (wf_on (wf_on h)) (wf_on h)))

theorem rowCopy_wf {ecc : Ecc} {d : Dev} (h : d.mem.wf = true) : (rowCopy ecc d).mem.wf = true := by
  unfold rowCopy
  dsimp only
  split
  · exact h
  · refine wf_on ?_
    split
    · exact spmEcc_wf h
    · exact tmbEcc_wf h
    · exact wf_on h

theorem pushStream_wf {q : Nat} {pr : Producer} {flow : Flow} {vb : Nat} {stop : Bool} {ws : List TWord} {start : Bool} {d e : Dev}
    (hs : pushStream q pr flow vb stop ws start d = some e) (h : d.mem.wf = true) : e.mem.wf = true := by
  induction ws generalizing d start with
  | nil => cases hs; exact h
  | cons w r ih =>
    unfold pushStream at hs
    obtain ⟨-, hs⟩ := Option.ite_none_left_eq_some.1 hs
    exact ih hs (hubPush_wf h)

theorem puhanQwr_wf {p : Packet} {keep d0 : Dev} (hkeep : keep.mem.wf = true) (hd0 : d0.mem.wf = true) : (puhanQwr p keep d0).mem.wf = true := by
  unfold puhanQwr
  refine wf_ite hkeep ?_
  extract_lets r d q sid start stop pr Q mine slot openA unmark quiet old spend d1 d2 before tooLong
  have hd : d.mem.wf = true := hd0
  clear_value start slot openA
  split
  · exact hd
  · split
    · exact hd
    · refine wf_ite hd (wf_ite hd (wf_ite hd (wf_ite (getD_wf (fun e he => pushStream_wf he hd) hkeep) ?_)))
      split
      · exact hd
      · have hd2 : d2.mem.wf = true := by
          unfold d2
          split
          · exact hd
          · exact hd
        refine wf_ite hd (wf_ite hd (wf_ite hd (wf_ite hd2 ?_)))
        split
        · exact hkeep
        · next he =>
          have hw := pushStream_wf he hd2
          exact wf_ite hw hw

theorem drainSend_wf {q : Nat} {d : Dev} (h : d.mem.wf = true) : (drainSend q d).mem.wf = true := by
  unfold drainSend
  dsimp only
  refine wf_ite h ?_
  split
  · exact h
  · exact wf_ite h (wf_ite (wf_ite h (wf_on h)) (wf_on (wf_on h)))

end Sys2Proof.Machine
end

section
/-!
SUPPORT. The canonical form of memory (O4), part 4: resets, repair, the loader, the ranger and the messages of start-up.
-/
namespace Sys2Proof.Machine

theorem reset_wf {d : Dev} {f : Chip → Chip} (h : d.mem.wf = true) : (Dev.reset d f).mem.wf = true := by
  unfold Dev.reset
  exact foldl_wf (fun _ _ h => wf_ite (wf_mk (tmbRemap_wf _ _ _ (wf_mk h))) h) (wf_on h)

theorem applyRec_wf {r : RlogRec} {d : Dev} (h : d.mem.wf = true) : (applyRec r d).mem.wf = true := by
  unfold applyRec
  dsimp only
  split
  case h_5 | h_6 => exact rowCopy_wf (wf_on h)
  case h_7 => exact wf_ite (rowCopy_wf (wf_on h)) h
  case h_10 => exact h
  all_goals exact wf_ite (wf_on h) h

theorem rlogBoot_wf {d : Dev} (h : d.mem.wf = true) : (rlogBoot d).mem.wf = true := by
  unfold rlogBoot
  dsimp only
  exact wf_ite h (wf_on (foldl_fst_wf (fun _ _ h => wf_ite_fst (wf_fst (wf_on h)) (wf_fst (applyRec_wf h))) (wf_fst h)))

theorem loadData_wf {off : Nat} {bs : List Byte} {d : Dev} (h : d.mem.wf = true) : (loadData off bs d).2.mem.wf = true := by
  unfold loadData
  dsimp only
  split
  · exact wf_snd h
  · refine wf_ite_snd (wf_snd h) (wf_ite_snd (wf_snd (wf_on h)) (wf_ite_snd (wf_snd (wf_on h)) ?_))
    split
    · exact wf_snd (wf_on (wf_on (putBytes_wf _ _ _ h)))
    · exact wf_snd (wf_on (putBytes_wf _ _ _ h))

theorem loadEnd_wf {d : Dev} (h : d.mem.wf = true) : (loadEnd d).2.mem.wf = true := by
  unfold loadEnd
  dsimp only
  split
  · exact wf_snd h
  · refine wf_ite_snd (wf_snd h) ?_
    split
    · exact wf_snd (wf_on h)
    · exact wf_snd (wf_on (wf_ite (expand_wf _ _ _ (wf_on h)) (wf_on h)))

theorem applyMeminit_wf {i : Image} {place : Nat → Bool} {d : Dev} (h : d.mem.wf = true) : (applyMeminit i place d).mem.wf = true := by
  unfold applyMeminit
  dsimp only
  exact foldl_wf (fun _ _ h => wf_ite (putBytes_wf _ _ _ h) h) h

theorem applyTile_wf {t : Nat} {i : Image} {k epoch : Nat} {digest : BitVec 256} {d : Dev} (h : d.mem.wf = true) :
    (applyTile t i k epoch digest d).mem.wf = true := by
  unfold applyTile
  dsimp only
  exact applyMeminit_wf (wf_on h)

theorem commitPers_wf {d : Dev} (h : d.mem.wf = true) : (commitPers d).2.mem.wf = true := by
  unfold commitPers
  split
  · exact h
  · extract_lets k i ep d1 d2 d3 d4 d5 d6
    have h1 : d1.mem.wf = true := wf_on (rlogBoot_wf h)
    have h2 : d2.mem.wf = true := reset_wf h1
    have h3 : d3.mem.wf = true := foldl_wf (fun _ _ h => applyTile_wf h) h2
    have h4 : d4.mem.wf = true := applyMeminit_wf h3
    have h6 : d6.mem.wf = true := wf_on (wf_on h4)
    exact wf_ite_snd h (wf_ite_snd h (wf_ite (wf_on h6) h6))

theorem commitPartial_wf {d : Dev} (h : d.mem.wf = true) : (commitPartial d).2.mem.wf = true := by
  unfold commitPartial
  dsimp only
  split
  · exact wf_snd h
  · refine wf_ite_snd (wf_snd h) ?_
    split
    · exact wf_snd (wf_on h)
    · exact wf_snd (wf_on (wf_on (foldl_wf (fun _ _ h => putImage_wf _ _ _ h) (foldl_wf (fun _ _ h => putImage_wf _ _ _ h) h))))

theorem loadCommit_wf {d : Dev} (h : d.mem.wf = true) : (loadCommit d).2.mem.wf = true := by
  unfold loadCommit
  split
  · exact wf_ite_snd (commitPers_wf h) (commitPartial_wf h)
  · exact wf_snd h

theorem tileRelease_wf {t : Nat} {d : Dev} (h : d.mem.wf = true) : (tileRelease t d).mem.wf = true := by
  unfold tileRelease
  dsimp only
  exact wf_ite h (wf_ite (wf_on (wf_on h)) (wf_on h))

theorem reapply_wf {t : Nat} {d : Dev} (h : d.mem.wf = true) : (reapply t d).mem.wf = true := by
  unfold reapply
  dsimp only
  exact wf_ite (applyTile_wf h) h

theorem tileResetApply_wf {t : Nat} {d : Dev} (h : d.mem.wf = true) : (tileResetApply t d).mem.wf = true := by
  unfold tileResetApply
  exact reapply_wf (reset_wf h)

theorem journalRestart_wf {d : Dev} (h : d.mem.wf = true) : (journalRestart d).mem.wf = true := by
  unfold journalRestart
  extract_lets d' arm hubAgain toActive
  have hhub (d : Dev) (h : d.mem.wf = true) : (hubAgain d).mem.wf = true := by
    unfold hubAgain
    extract_lets d1
    exact wf_on <| foldl_wf (fun _ _ h => wf_ite (tileResetApply_wf h) (wf_ite (reapply_wf h) h)) h
  have hactive (d : Dev) (h : d.mem.wf = true) : (toActive d).mem.wf = true := wf_ite (hhub _ h) h
  split
  · exact hactive _ h
  · exact hactive _ h
  · exact reset_wf h
  · exact hhub _ h
  · exact hactive _ (foldl_wf (fun _ _ h => wf_on (putImage_wf _ _ _ h)) h)
  · exact h

theorem slotCheck_wf {t g s src : Nat} {e : Ecc} {flip : Option Nat} {d : Dev} (h : d.mem.wf = true) : (slotCheck t g s src e flip d).mem.wf = true := by
  unfold slotCheck
  dsimp only
  refine wf_ite h (wf_ite (wf_on h) (wf_ite (wf_on h) ?_))
  split
  · exact h
  · exact wf_on h

theorem cacheCheck_wf {t i : Nat} {e : Ecc} {flip : Option Nat} {d : Dev} (h : d.mem.wf = true) : (cacheCheck t i e flip d).mem.wf = true := by
  unfold cacheCheck
  dsimp only
  split
  · exact h
  · refine wf_ite (wf_on h) (wf_ite (wf_on h) ?_)
    split
    · exact wf_on h
    · exact h

theorem rangerUnit_wf {t : Nat} {e : Ecc} {flip : Option Nat} {d : Dev} (h : d.mem.wf = true) : (rangerUnit t e flip d).mem.wf = true := by
  unfold rangerUnit
  dsimp only
  refine wf_ite h (wf_on (wf_ite (slotCheck_wf (wf_on h)) (wf_ite (cacheCheck_wf (wf_on h)) (wf_ite (wf_on (wf_on h)) (wf_ite ?_ ?_)))))
  · split
    · exact wf_on (wf_on h)
    · exact wf_on (wf_on h)
    · exact wf_on h
    · exact wf_on h
    · exact wf_on h
  · exact wf_ite (wf_on (wf_on h)) (wf_on (wf_on h))

theorem rangerRewrite_wf {t : Nat} {d : Dev} (h : d.mem.wf = true) : (rangerRewrite t d).mem.wf = true := by
  unfold rangerRewrite
  dsimp only
  refine wf_ite h ?_
  split
  · split
    · exact h
    · exact wf_on h
  · exact wf_ite (wf_on h) (wf_ite (wf_on (wf_on h)) (wf_on (wf_on h)))

theorem icpHead_wf {t op : Nat} {d : Dev} {x : IcpCmd} {e : Dev} (hs : icpHead t op d = some (x, e)) (h : d.mem.wf = true) : e.mem.wf = true := by
  unfold icpHead at hs
  split at hs
  · split at hs <;> cases hs
    exact h
  · cases hs

theorem icpReplace_wf {t : Nat} {d0 : Dev} (h : d0.mem.wf = true) : (icpReplace t d0).mem.wf = true := by
  unfold icpReplace
  dsimp only
  split
  · exact h
  · split
    · exact wf_on (icpHead_wf ‹_› h)
    · exact wf_on (putImage_wf _ _ _ (icpHead_wf ‹_› h))

theorem icpRead_wf {t : Nat} {d0 : Dev} (h : d0.mem.wf = true) : (icpRead t d0).mem.wf = true := by
  unfold icpRead
  dsimp only
  split
  · exact h
  · exact wf_ite (wf_on (icpHead_wf ‹_› h)) (wf_on (putBytes_wf _ _ _ (icpHead_wf ‹_› h)))

theorem icpSlotchk_wf {t : Nat} {e : Ecc} {flip : Option Nat} {d0 : Dev} (h : d0.mem.wf = true) : (icpSlotchk t e flip d0).mem.wf = true := by
  unfold icpSlotchk
  dsimp only
  split
  · exact h
  · exact wf_ite (wf_on (icpHead_wf ‹_› h)) (wf_on (wf_ite (slotCheck_wf (icpHead_wf ‹_› h)) (icpHead_wf ‹_› h)))

theorem icpRestore_wf {t : Nat} {d0 : Dev} (h : d0.mem.wf = true) : (icpRestore t d0).mem.wf = true := by
  unfold icpRestore
  dsimp only
  split
  · exact h
  · exact wf_ite (wf_on (icpHead_wf ‹_› h)) (wf_ite (wf_on (icpHead_wf ‹_› h)) (wf_on (putImage_wf _ _ _ (icpHead_wf ‹_› h))))

theorem por_wf {d : Dev} : (por d).mem.wf = true := rfl

theorem warm_wf {cause : Nat} {d : Dev} : (warm cause d).mem.wf = true := rfl

theorem bootEnd_wf {d : Dev} (h : d.mem.wf = true) : (bootEnd d).mem.wf = true := by
  unfold bootEnd
  exact wf_ite (wf_on (journalRestart_wf h)) (wf_on (wf_ite (rlogBoot_wf h) h))

theorem romBoot_wf {d : Dev} (h : d.mem.wf = true) : (romBoot d).mem.wf = true := by
  unfold romBoot
  dsimp only
  refine wf_ite h (wf_ite (bootEnd_wf (wf_mk h)) ?_)
  split
  · exact wf_mk h
  · exact bootEnd_wf (wf_mk h)
  · exact bootEnd_wf (wf_mk h)

theorem railFault_wf {r : Nat} {brown : Bool} {d : Dev} (h : d.mem.wf = true) : (railFault r brown d).mem.wf = true := by
  unfold railFault
  dsimp only
  exact wf_ite (wf_on h) (wf_ite por_wf warm_wf)

theorem pllRelock_wf {n : Nat} {late : Bool} {d : Dev} (h : d.mem.wf = true) : (pllRelock n late d).mem.wf = true := by
  unfold pllRelock
  dsimp only
  exact wf_ite h (wf_ite (tileResetApply_wf (wf_on h)) (wf_ite (wf_on (wf_on h)) (wf_ite (wf_on h) (wf_on (wf_on h)))))

theorem hFwData_wf {m : MsgIn} {d : Dev} (h : d.mem.wf = true) : (hFwData m d).mem.wf = true := by
  unfold hFwData
  dsimp only
  exact wf_ite (wf_on h) (wf_ite (wf_on h) (wf_ite h (wf_ite (wf_on h) (wf_ite (bootEnd_wf (wf_on (wf_on h))) (wf_on (wf_on h))))))

theorem hPersData_wf {m : MsgIn} {d : Dev} (h : d.mem.wf = true) : (hPersData m d).mem.wf = true := by
  unfold hPersData
  extract_lets ch seq got b r
  have hr : r.2.mem.wf = true := wf_ite_snd h h
  refine wf_ite h (wf_ite h ?_)
  split
  · exact h
  · have hq (o : Nat) (bs : List Byte) : (loadData o bs r.2).2.mem.wf = true := loadData_wf hr
    exact wf_ite h (wf_ite h (wf_ite (hq _ _) (wf_ite (hq _ _) (wf_ite (loadEnd_wf (hq _ _)) (loadCommit_wf (loadEnd_wf (hq _ _)))))))

theorem handleMsg_wf {m : MsgIn} {d e : Dev} (hs : handleMsg m d = some e) (h : d.mem.wf = true) : e.mem.wf = true := by
  have hmap : ∀ o : Option Chip, o.map (fun c => ({ d with chip := c } : Dev)) = some e → e.mem.wf = true := by
    rintro (_ | c) ho <;> cases ho
    exact h
  unfold handleMsg at hs
  split at hs
  case h_9 => exact hmap _ hs
  case h_14 => exact hmap _ hs
  case h_11 => cases hs; exact hFwData_wf h
  case h_12 => cases hs; exact hPersData_wf h
  all_goals cases hs; exact h

theorem hRelay_wf {m : MsgIn} {d e : Dev} (hs : hRelay m d = some e) (h : d.mem.wf = true) : e.mem.wf = true := by
  unfold hRelay at hs
  dsimp only at hs
  split at hs
  · cases hs; exact h
  · split at hs
    · split at hs <;> cases hs <;> exact h
    · split at hs
      · cases hs; exact h
      · exact handleMsg_wf hs h

theorem msgCmd_wf {cls : Nat} {d : Dev} (h : d.mem.wf = true) : (msgCmd cls d).mem.wf = true := by
  unfold msgCmd
  split
  · exact h
  · refine getD_wf (fun e he => ?_) h
    split at he
    · exact hRelay_wf he h
    · exact handleMsg_wf he h

end Sys2Proof.Machine
end

section
/-!
SUPPORT. The canonical form of memory (O4), part 5: the mailbox commands and register writes.
-/
namespace Sys2Proof.Machine

/-- The device that a mailbox command leaves, where it leaves one, keeps the form. -/
def Served.Formed : Served → Prop
  | .wait => True
  | .goesOn d => d.mem.wf = true
  | .done _ _ _ d => d.mem.wf = true

theorem formed_ite {b : Prop} [Decidable b] {x y : Served} (hx : x.Formed) (hy : y.Formed) : (if b then x else y).Formed := by
  split
  · exact hx
  · exact hy

theorem serve_wf {op k : Nat} {f : MbxCmd → Dev → Served} {d : Dev} (hf : ∀ m d, d.mem.wf = true → (f m d).Formed) (h : d.mem.wf = true) :
    (serve op k f d).mem.wf = true := by
  unfold serve
  refine wf_ite h ?_
  split
  · exact h
  · next m _ =>
    refine wf_ite h (wf_ite h ?_)
    have hm := hf m d h
    split
    · exact h
    · next he => rw [he] at hm; exact hm
    · next he => rw [he] at hm; exact hm

theorem cfgError_wf {code : Nat} {d : Dev} (h : d.mem.wf = true) : (cfgError code d).Formed := by
  unfold cfgError
  exact h

theorem cfgDone_wf {r : Nat × Dev} (h : r.2.mem.wf = true) : (cfgDone r).Formed := by
  unfold cfgDone
  split
  · exact h
  · exact h

theorem mbxNop_wf {k : Nat} {d : Dev} (h : d.mem.wf = true) : (mbxNop k d).mem.wf = true := by
  unfold mbxNop
  exact serve_wf (fun _ _ h => h) h

theorem identify_wf {k : Nat} {d : Dev} (h : d.mem.wf = true) : (identify k d).mem.wf = true := by
  unfold identify
  dsimp only
  exact serve_wf (fun _ _ h => h) h

theorem chanConfig_wf {k : Nat} {d : Dev} (h : d.mem.wf = true) : (chanConfig k d).mem.wf = true := by
  unfold chanConfig
  dsimp only
  exact serve_wf (fun _ _ h => formed_ite h (formed_ite h (formed_ite h (wf_on h)))) h

theorem setDeadlineCmd_wf {k : Nat} {d : Dev} (h : d.mem.wf = true) : (setDeadlineCmd k d).mem.wf = true := by
  unfold setDeadlineCmd
  dsimp only
  exact serve_wf (fun _ _ h => formed_ite h (wf_on h)) h

theorem deviceReset_wf {k : Nat} {d : Dev} (h : d.mem.wf = true) : (deviceReset k d).mem.wf = true := by
  unfold deviceReset
  dsimp only
  split
  · exact h
  · exact wf_ite (serve_wf (fun _ _ h => formed_ite h h) h) (reset_wf (serve_wf (fun _ _ h => formed_ite h h) h))

theorem fwBegin_wf {k : Nat} {d : Dev} (h : d.mem.wf = true) : (fwBegin k d).mem.wf = true := by
  unfold fwBegin
  dsimp only
  exact serve_wf (fun _ _ h => formed_ite h (formed_ite h (formed_ite h (wf_on h)))) h

theorem fwData_wf {k : Nat} {d : Dev} (h : d.mem.wf = true) : (fwData k d).mem.wf = true := by
  unfold fwData
  dsimp only
  refine serve_wf (fun m d h => ?_) h
  split
  · exact cfgError_wf h
  · exact formed_ite h (formed_ite (cfgError_wf (wf_on h)) (formed_ite (cfgError_wf (wf_on h)) (wf_on h)))

theorem fwEnd_wf {k : Nat} {d : Dev} (h : d.mem.wf = true) : (fwEnd k d).mem.wf = true := by
  unfold fwEnd
  dsimp only
  refine wf_ite (bootEnd_wf (wf_on (serve_wf ?_ h))) (serve_wf ?_ h)
  · intro m d h
    split
    · exact cfgError_wf h
    · exact formed_ite h (formed_ite trivial (formed_ite (wf_on h) (formed_ite (wf_on (wf_on h)) (wf_on (wf_on h)))))
  · intro m d h
    split
    · exact cfgError_wf h
    · exact formed_ite h (formed_ite trivial (formed_ite (wf_on h) (formed_ite (wf_on (wf_on h)) (wf_on (wf_on h)))))

theorem persBegin_wf {k : Nat} {d : Dev} (h : d.mem.wf = true) : (persBegin k d).mem.wf = true := by
  unfold persBegin
  dsimp only
  refine serve_wf (fun m d h => ?_) h
  refine formed_ite h ?_
  split
  · exact cfgDone_wf (wf_snd (wf_mk h))
  · exact formed_ite h (formed_ite (cfgError_wf h) (formed_ite (cfgError_wf h) (wf_on h)))

theorem persData_wf {k : Nat} {d : Dev} (h : d.mem.wf = true) : (persData k d).mem.wf = true := by
  unfold persData
  dsimp only
  refine serve_wf (fun m d h => ?_) h
  split
  · exact formed_ite (cfgError_wf (wf_on h)) (formed_ite (formed_ite h trivial) (formed_ite (cfgError_wf (wf_on h)) (wf_on h)))
  · split
    · exact formed_ite h (cfgDone_wf (loadData_wf h))
    · exact cfgError_wf h

theorem persEnd_wf {k : Nat} {d : Dev} (h : d.mem.wf = true) : (persEnd k d).mem.wf = true := by
  unfold persEnd
  dsimp only
  refine serve_wf (fun m d h => ?_) h
  split
  · exact formed_ite (cfgError_wf (wf_on h)) (formed_ite (wf_on h) trivial)
  · split
    · exact cfgError_wf h
    · exact formed_ite h (formed_ite trivial (formed_ite (cfgError_wf (loadEnd_wf h)) (formed_ite (cfgDone_wf (loadCommit_wf (loadEnd_wf h))) (loadEnd_wf h))))

theorem persCommit_wf {k : Nat} {d : Dev} (h : d.mem.wf = true) : (persCommit k d).mem.wf = true := by
  unfold persCommit
  refine serve_wf (fun m d h => ?_) h
  split
  · exact formed_ite (cfgError_wf h) h
  · exact formed_ite h (cfgDone_wf (loadCommit_wf h))

theorem persAbort_wf {k : Nat} {d : Dev} (h : d.mem.wf = true) : (persAbort k d).mem.wf = true := by
  unfold persAbort
  refine serve_wf (fun m d h => ?_) h
  split
  · refine formed_ite h ?_
    split
    · exact formed_ite (wf_on h) (cfgError_wf h)
    · exact formed_ite h (cfgError_wf h)
  · split
    · exact cfgError_wf h
    · exact formed_ite h (wf_on h)

theorem persStatus_wf {k : Nat} {d : Dev} (h : d.mem.wf = true) : (persStatus k d).mem.wf = true := by
  unfold persStatus
  dsimp only
  refine serve_wf (fun m d h => ?_) h
  split
  · exact h
  · exact formed_ite h (wf_on h)

theorem sysPlan_wf {k : Nat} {d : Dev} (h : d.mem.wf = true) : (sysPlan k d).mem.wf = true := by
  unfold sysPlan
  refine serve_wf (fun m d h => ?_) h
  split
  · exact h
  · exact wf_on h

theorem sysTopology_wf {k : Nat} {d : Dev} (h : d.mem.wf = true) : (sysTopology k d).mem.wf = true := by
  unfold sysTopology
  exact serve_wf (fun _ _ h => h) h

theorem queueWrite_wf {k : Nat} {d : Dev} (h : d.mem.wf = true) : (queueWrite k d).mem.wf = true := by
  unfold queueWrite
  dsimp only
  refine serve_wf (fun m d h => ?_) h
  refine formed_ite h (formed_ite h (formed_ite (wf_on h) (formed_ite h (formed_ite (wf_on h) ?_))))
  split
  · exact wf_on h
  · exact wf_on (pushStream_wf ‹_› (wf_ite (wf_on h) h))

theorem queueRead_wf {k : Nat} {d : Dev} (h : d.mem.wf = true) : (queueRead k d).mem.wf = true := by
  unfold queueRead
  refine serve_wf (fun m d h => formed_ite h (formed_ite h (formed_ite h (formed_ite h ?_)))) h
  split
  · next hc => exact collect_eq_wf hc h
  · next hc => exact collect_eq_wf hc h

theorem queueCtl_wf {k : Nat} {d : Dev} (h : d.mem.wf = true) : (queueCtl k d).mem.wf = true := by
  unfold queueCtl
  dsimp only
  exact serve_wf (fun _ _ h => formed_ite h (formed_ite h (wf_ite h (wf_on h)))) h

theorem queueStatusCmd_wf {k : Nat} {d : Dev} (h : d.mem.wf = true) : (queueStatusCmd k d).mem.wf = true := by
  unfold queueStatusCmd
  dsimp only
  exact serve_wf (fun _ _ h => formed_ite h (formed_ite h h)) h

theorem taskPost_wf {k : Nat} {d : Dev} (h : d.mem.wf = true) : (taskPost k d).mem.wf = true := by
  unfold taskPost
  dsimp only
  exact serve_wf (fun _ _ h => formed_ite h (formed_ite h (wf_on h))) h

theorem taskCancel_wf {k : Nat} {d : Dev} (h : d.mem.wf = true) : (taskCancel k d).mem.wf = true := by
  unfold taskCancel
  dsimp only
  exact serve_wf (fun _ _ h => formed_ite h (formed_ite trivial (formed_ite h (formed_ite (wf_on h) (wf_on h))))) h

theorem eventPending_wf {k : Nat} {d : Dev} (h : d.mem.wf = true) : (eventPending k d).mem.wf = true := by
  unfold eventPending
  dsimp only
  exact serve_wf (fun _ _ h => formed_ite h h) h

theorem eventClear_wf {k : Nat} {d : Dev} (h : d.mem.wf = true) : (eventClear k d).mem.wf = true := by
  unfold eventClear
  dsimp only
  exact serve_wf (fun _ _ h => formed_ite h (wf_mk h)) h

theorem rlogGet_wf {k : Nat} {d : Dev} (h : d.mem.wf = true) : (rlogGet k d).mem.wf = true := by
  unfold rlogGet
  dsimp only
  exact serve_wf (fun _ _ h => formed_ite h (formed_ite h h)) h

theorem rlogPut_wf {k : Nat} {d : Dev} (h : d.mem.wf = true) : (rlogPut k d).mem.wf = true := by
  unfold rlogPut
  dsimp only
  exact serve_wf (fun _ _ h => formed_ite h (formed_ite h (wf_on h))) h

theorem attest_wf {k : Nat} {d : Dev} (h : d.mem.wf = true) : (attest k d).mem.wf = true := by
  unfold attest
  dsimp only
  exact serve_wf (fun _ _ h => formed_ite trivial (formed_ite h (formed_ite h (formed_ite h (wf_on h))))) h

theorem attestRead_wf {k : Nat} {d : Dev} (h : d.mem.wf = true) : (attestRead k d).mem.wf = true := by
  unfold attestRead
  refine serve_wf (fun m d h => ?_) h
  split
  · exact h
  · exact formed_ite h h

theorem recordCmd_wf {op k : Nat} {d : Dev} (h : d.mem.wf = true) : (recordCmd op k d).mem.wf = true := by
  unfold recordCmd
  dsimp only
  refine serve_wf (fun m d h => ?_) h
  refine formed_ite trivial (formed_ite h (formed_ite h (formed_ite h (formed_ite h (formed_ite h (formed_ite trivial ?_))))))
  split <;> exact wf_on h

theorem stepDoneGrove_wf {t g : Nat} {d : Dev} (h : d.mem.wf = true) : (stepDoneGrove t g d).mem.wf = true := by
  unfold stepDoneGrove
  split
  · exact wf_on h
  · exact settleGrove_wf h
  · exact h

theorem stepDone_wf {x : HaltTarget} {d : Dev} (h : d.mem.wf = true) : (stepDone x d).mem.wf = true := by
  cases x with
  | grove t g => exact stepDoneGrove_wf h
  | tile t => exact foldl_wf (fun _ _ h => stepDoneGrove_wf h) h
  | core => exact wf_ite h h

/-- A write of a tile register: of all of them only TMB_CTL reaches memory, whose rows it rearranges. -/
theorem tileRegWrite_wf {m : Master} {t : Nat} {r : Reg} {i : Nat} {v : BitVec 64} {d : Dev} (h : d.mem.wf = true) :
    (tileRegWrite m t r i v d).mem.wf = true := by
  unfold tileRegWrite
  dsimp only
  split
  case h_6 | h_7 => exact wf_ite h (wf_on h)
  case h_9 | h_10 => exact h
  case h_11 | h_12 | h_13 => exact wf_ite (wf_on h) (wf_on h)
  case h_14 => exact wf_ite (wf_mk h) (tmbRemap_wf _ _ _ h)
  case h_17 =>
    split
    · exact wf_on h
    · exact h
  case h_21 => exact wf_ite (wf_on h) h
  all_goals exact wf_on h

theorem rstCtlWrite_wf {v : BitVec 64} {d : Dev} (h : d.mem.wf = true) : (rstCtlWrite v d).mem.wf = true := by
  unfold rstCtlWrite
  extract_lets d1
  have h1 : d1.mem.wf = true := foldl_wf (fun _ _ h => wf_ite (tileResetApply_wf h) h) h
  exact wf_ite (reset_wf h) (wf_ite (wf_on h1) h1)

/-- A write of a hub register: of all of them only RST_CTL reaches memory, through the resets of tiles. -/
theorem hubRegWrite_wf {r : Reg} {i : Nat} {v : BitVec 64} {d : Dev} (h : d.mem.wf = true) : (hubRegWrite r i v d).mem.wf = true := by
  unfold hubRegWrite
  dsimp only
  split
  case h_18 => exact rstCtlWrite_wf h
  case h_28 => exact wf_ite (wf_on h) h
  all_goals exact wf_on h

theorem regWrite_wf {m : Master} {r : Reg} {s : Site} {i : Nat} {v : BitVec 64} {d : Dev} (h : d.mem.wf = true) : (regWrite m r s i v d).mem.wf = true := by
  unfold regWrite
  refine wf_ite h ?_
  split
  · exact tileRegWrite_wf h
  · exact wf_on h
  · exact hubRegWrite_wf h

theorem wordWrite_wf {m : Master} {a : Nat} {wide : Bool} {v : BitVec 64} {d : Dev} (h : d.mem.wf = true) : (wordWrite m a wide v d).mem.wf = true := by
  unfold wordWrite
  dsimp only
  split
  · exact wf_ite (regWrite_wf h) (wf_ite h (regWrite_wf h))
  · split
    · exact wf_ite (wf_on h) h
    · exact h

theorem wordRead_wf {quiet : Bool} {a : Nat} {d : Dev} {x : BitVec 64} {e : Dev} (hs : wordRead quiet a d = some (x, e)) (h : d.mem.wf = true) :
    e.mem.wf = true := by
  unfold wordRead at hs
  split at hs
  · split at hs
    · obtain ⟨_, _, hv⟩ := Option.map_eq_some_iff.1 hs
      cases hv
      exact h
    · exact popNext_wf hs h
  · cases hs
    exact h
  · cases hs
    exact wf_ite h h
  · cases hs
    exact h

end Sys2Proof.Machine
end

section
/-!
SUPPORT. The canonical form of memory (O4), part 6: requests to the address map, and what every command shares.
-/
namespace Sys2Proof.Machine

theorem spadBeat_wf {t g : Nat} {ecc : Ecc} {n : Nat} {p : PortB} {d : Dev} (h : d.mem.wf = true) : (spadBeat t g ecc n p d).2.mem.wf = true := by
  induction n generalizing p d with
  | zero => exact portBTry_wf (tickTile_wf h)
  | succ n ih =>
    unfold spadBeat
    exact wf_ite_snd (ih (wf_ite (portBTry_wf h) (tickTile_wf (portBTry_wf h)))) (portBTry_wf h)

theorem serveBeat_wf {m : Master} {src : Nat} {quiet : Bool} {b : Beat} {ecc : Ecc} {d : Dev} (h : d.mem.wf = true) :
    (serveBeat m src quiet b ecc d).2.mem.wf = true := by
  unfold serveBeat
  extract_lets unmapped dead halves reg
  have hdead (r : AccessOut × Dev) (hr : r.2.mem.wf = true) : (dead r).2.mem.wf = true := wf_ite_snd hr hr
  have hreg (a : Nat) : (reg a).2.mem.wf = true := by
    unfold reg
    split
    · split
      · exact h
      · next hr => exact wordRead_wf hr h
    · exact wordWrite_wf h
    · exact h
  split
  · exact hreg _
  · exact hreg _
  · exact hreg _
  · exact hdead _ (spadBeat_wf (portBRepeats_wf h))
  · exact hdead _ (tmemAccess_wf h)
  · split <;> exact h
  · exact gddrAccess_wf h
  · exact wf_ite_snd h (wf_ite_snd h h)
  · exact h
  · exact h

theorem serveWords_wf {m : Master} {src : Nat} {quiet : Bool} {r : Req} {ecc : Ecc} {k j : Nat} {o : ReqOut} {d : Dev} (h : d.mem.wf = true) :
    (serveWords m src quiet r ecc k j o d).2.mem.wf = true := by
  induction k generalizing j o d with
  | zero => exact h
  | succ k ih =>
    unfold serveWords
    refine wf_ite_snd h (wf_ite_snd ?_ (wf_ite_snd (serveBeat_wf h) (wf_ite_snd (serveBeat_wf h) (ih (serveBeat_wf h)))))
    split
    · exact wf_ite_snd h (ih (wrBlock_wf _ _ _ h))
    · exact h

theorem serveReq_wf {m : Master} {src : Nat} {quiet : Bool} {r : Req} {ecc : Ecc} {d0 : Dev} (h : d0.mem.wf = true) :
    (serveReq m src quiet r ecc d0).2.mem.wf = true := by
  unfold serveReq
  dsimp only
  exact wf_ite_snd (wf_snd (wf_on h)) (wf_ite_snd (wf_snd h) (wf_ite_snd (wf_snd h) (wf_snd (wf_on (wf_on (serveWords_wf (wf_on h)))))))

theorem puhanMem_wf {p : Packet} {ecc : Ecc} {keep d0 : Dev} (hkeep : keep.mem.wf = true) (hd0 : d0.mem.wf = true) :
    (puhanMem p ecc keep d0).mem.wf = true := by
  unfold puhanMem
  extract_lets op r d
  have hd : d.mem.wf = true := hd0
  split
  · exact hd
  · refine wf_ite hd (wf_ite hd (wf_ite hd (wf_ite hd ?_)))
    have hx := fun q : Req => serveReq_wf (m := .link p.vl) (src := p.src) (quiet := false) (r := q) (ecc := ecc) hd
    exact wf_ite hkeep (wf_ite (hx _) (wf_ite (hx _) (hx _)))

theorem seqMrd_wf {t g : Nat} {u : SeqUpset} {d0 : Dev} (h : d0.mem.wf = true) : (seqMrd t g u d0).mem.wf = true := by
  unfold seqMrd
  dsimp only
  split
  · exact seqIssue_wf h
  · refine wf_ite (seqIssue_wf h) ?_
    split
    · exact wf_mk (seqIssue_wf h)
    · exact seqIssue_wf h

theorem mrdComplete_wf {t g tag : Nat} {ecc : Ecc} {d : Dev} (h : d.mem.wf = true) : (mrdComplete t g tag ecc d).mem.wf = true := by
  unfold mrdComplete
  dsimp only
  split
  · exact h
  · refine wf_ite h (wf_ite (wf_on h) ?_)
    split
    · split
      · exact wf_on h
      · exact wf_mk h
      · exact h
    · exact wf_ite h (wf_ite (wf_on (serveReq_wf h)) (wf_on (serveReq_wf h)))

theorem issueMwr_wf {w : Nat × Nat × Nat × Nat × TWord} {d e : Dev} (hs : issueMwr w d = some e) (h : d.mem.wf = true) : e.mem.wf = true := by
  unfold issueMwr at hs
  dsimp only at hs
  split at hs
  · cases hs
    exact h
  · split at hs
    · split at hs
      · cases hs
        exact h
      · cases hs
      · cases hs
        exact h
    · obtain ⟨-, hs⟩ := Option.ite_none_left_eq_some.1 hs
      split at hs <;> cases hs <;> exact serveReq_wf h

theorem drainMwr_wf {l : List (Nat × Nat × Nat × Nat × TWord)} {blocked : List (Nat × Nat)} {d : Dev} (h : d.mem.wf = true) :
    (drainMwr l blocked d).mem.wf = true := by
  induction l generalizing blocked d with
  | nil => exact h
  | cons w l ih =>
    unfold drainMwr
    refine wf_ite (ih h) ?_
    split
    · next hw => exact ih (issueMwr_wf hw h)
    · exact ih h

theorem flushMwr_wf {d : Dev} (h : d.mem.wf = true) : (flushMwr d).mem.wf = true := by
  unfold flushMwr
  exact drainMwr_wf (wf_on h)

theorem commitTask_wf {t g : Nat} {d0 : Dev} (h : d0.mem.wf = true) : (commitTask t g d0).mem.wf = true := by
  unfold commitTask
  dsimp only
  exact wf_on (flushMwr_wf (wf_on (taskCommit_wf h)))

theorem regReadCmd_wf {m : Master} {a : Nat} {wide : Bool} {d : Dev} (h : d.mem.wf = true) : (regReadCmd m a wide d).mem.wf = true := by
  unfold regReadCmd
  dsimp only
  refine wf_ite (wf_on h) ?_
  split
  · split
    · exact wf_on h
    · exact h
    · exact wf_mk h
  · exact wf_ite h (wf_on (serveReq_wf h))

theorem regWriteCmd_wf {m : Master} {a : Nat} {wide : Bool} {v : BitVec 64} {d : Dev} (h : d.mem.wf = true) : (regWriteCmd m a wide v d).mem.wf = true := by
  unfold regWriteCmd
  dsimp only
  refine wf_ite (wf_on h) ?_
  split
  · split
    · exact wf_on h
    · exact h
    · exact wf_mk h
  · exact wf_ite h (wf_ite (wf_on (serveReq_wf h)) (serveReq_wf h))

theorem namedWrite_wf {m : Master} {r : Reg} {s : Site} {i : Nat} {v : BitVec 64} {d0 : Dev} (h : d0.mem.wf = true) :
    (namedWrite m r s i v d0).mem.wf = true := by
  unfold namedWrite
  dsimp only
  refine wf_ite (wf_on h) (wf_ite h (wf_ite (wf_on ?_) (wf_on (regWrite_wf ?_))))
  · split
    · exact wf_on h
    · exact h
  · split
    · exact wf_on h
    · exact h

theorem fieldWrite_wf {m : Master} {r : Reg} {s : Site} {i : Nat} {fs : List (Nat × Nat × Nat)} {d : Dev} (h : d.mem.wf = true) :
    (fieldWrite m r s i fs d).mem.wf = true := by
  unfold fieldWrite
  exact namedWrite_wf h

theorem counterRead_wf {k : Nat} {d : Dev} (h : d.mem.wf = true) : (counterRead k d).mem.wf = true := by
  unfold counterRead
  refine serve_wf (fun m d h => formed_ite h (formed_ite h ?_)) h
  extract_lets x
  have hx : x.2.mem.wf = true := foldl_snd_wf (fun _ _ h => wf_ite_snd h (serveReq_wf h)) h
  exact formed_ite trivial (formed_ite hx hx)

theorem memRead_wf {k : Nat} {d : Dev} (h : d.mem.wf = true) : (memRead k d).mem.wf = true := by
  unfold memRead
  refine serve_wf (fun m d h => ?_) h
  extract_lets a nb n d1 x1 j x
  refine formed_ite h (formed_ite h (formed_ite h ?_))
  split
  · refine formed_ite (wf_ite h h) (formed_ite (wf_ite h h) (formed_ite trivial ?_))
    split
    · exact wf_ite h h
    · exact trivial
    · exact wf_ite h h
  · have hx : x.2.mem.wf = true := foldl_snd_wf (fun _ _ h => wf_ite_snd h (serveReq_wf h)) h
    exact formed_ite trivial (formed_ite hx hx)

theorem hostWrite_wf {k : Nat} {r : Req} {d : Dev} (h : d.mem.wf = true) : (hostWrite k r d).2.mem.wf = true := by
  unfold hostWrite
  split
  · split
    · exact wf_snd h
    · exact wf_snd h
    · exact wf_snd (wf_mk h)
  · exact serveReq_wf h

theorem memWrite_wf {k : Nat} {d : Dev} (h : d.mem.wf = true) : (memWrite k d).mem.wf = true := by
  unfold memWrite
  refine serve_wf (fun m d h => ?_) h
  extract_lets a nb n last ws x
  have hx : x.2.mem.wf = true := foldl_snd_wf (fun _ _ h => wf_ite_snd h (hostWrite_wf h)) h
  exact formed_ite h (formed_ite h (formed_ite trivial (formed_ite hx hx)))

theorem dbgServe_wf {a : DbgAcc} {ecc : Ecc} {d : Dev} {x : Nat × BitVec 64} {e : Dev} (hs : dbgServe a ecc d = some (x, e)) (h : d.mem.wf = true) :
    e.mem.wf = true := by
  unfold dbgServe at hs
  obtain ⟨-, hs⟩ := Option.ite_none_left_eq_some.1 hs
  cases hs
  exact serveReq_wf h

theorem dbgReadNow_wf {ecc : Ecc} {d : Dev} (h : d.mem.wf = true) : (dbgReadNow ecc d).mem.wf = true := by
  unfold dbgReadNow
  split
  · exact h
  · refine wf_ite h ?_
    split
    · split
      · exact wf_on h
      · exact h
      · exact wf_mk h
    · split
      · exact h
      · exact wf_on (dbgServe_wf ‹_› h)

theorem dbgReadComplete_wf {ecc : Ecc} {d : Dev} (h : d.mem.wf = true) : (dbgReadComplete ecc d).mem.wf = true := by
  unfold dbgReadComplete
  split
  · split
    · exact h
    · exact wf_on (dbgServe_wf ‹_› h)
  · exact dbgReadNow_wf h

theorem dbgRead_wf {x : DbgAcc} {fast : Bool} {ecc : Ecc} {d : Dev} (h : d.mem.wf = true) : (dbgRead x fast ecc d).mem.wf = true := by
  unfold dbgRead
  dsimp only
  split
  · exact wf_ite (wf_on h) (wf_on h)
  · exact wf_ite (wf_on h) (wf_ite (wf_on (dbgReadNow_wf (wf_on h))) (wf_on (wf_ite (dbgReadNow_wf (wf_on h)) (wf_on h))))

theorem dbgWriteNow_wf {ecc : Ecc} {d : Dev} (h : d.mem.wf = true) : (dbgWriteNow ecc d).mem.wf = true := by
  unfold dbgWriteNow
  dsimp only
  split
  · exact h
  · split
    · split
      · exact wf_on h
      · exact h
      · exact wf_mk h
    · exact wf_ite h (wf_on (serveReq_wf h))

theorem dbgWrite_wf {a : Nat} {wide dok : Bool} {v : BitVec 64} {ecc : Ecc} {d : Dev} (h : d.mem.wf = true) :
    (dbgWrite a wide dok v ecc d).mem.wf = true := by
  unfold dbgWrite
  exact wf_ite (wf_on h) (wf_ite (wf_on h) (dbgWriteNow_wf (wf_on h)))

theorem dbgFrame_wf {op : Nat} {f : DbgFrame} {ecc : Ecc} {d : Dev} (h : d.mem.wf = true) : (dbgFrame op f ecc d).mem.wf = true := by
  unfold dbgFrame
  dsimp only
  refine wf_ite h (wf_ite h (wf_ite h (wf_ite (wf_ite h h) (wf_ite (wf_ite h (wf_ite h (wf_ite h h))) ?_))))
  exact wf_ite h (wf_ite h (wf_ite (dbgWrite_wf h) (dbgRead_wf h)))

/-- What follows every command keeps the form. -/

theorem finish_wf {a d : Dev} (h : d.mem.wf = true) : (finish a d).mem.wf = true :=
  wf_on (wf_on (wf_on (dbgWriteNow_wf (flushMwr_wf h))))

theorem idleEffect_wf {d : Dev} (h : d.mem.wf = true) : (idleEffect d).mem.wf = true := by
  unfold idleEffect
  dsimp only
  exact wf_on (foldl_wf (fun _ _ h => wf_ite (startPaging_wf (tickTile_wf h)) h) h)

theorem takePkt_wf {ts : List Nat} {p : Packet} {f : Dev → Dev → Dev} {d : Dev}
    (hf : ∀ a b, a.mem.wf = true → b.mem.wf = true → (f a b).mem.wf = true) (h : d.mem.wf = true) : (takePkt ts p f d).mem.wf = true :=
  wf_ite (wf_ite (hf _ _ h h) h) h

theorem qwrCmd_wf {p : Packet} {ue : Bool} {d : Dev} (h : d.mem.wf = true) : (qwrCmd p ue d).mem.wf = true := by
  unfold qwrCmd
  refine takePkt_wf (fun keep d hkeep hd => ?_) h
  split
  · exact wf_on hkeep
  · exact puhanQwr_wf hkeep hd

theorem qrdCmd_wf {p : Packet} {d : Dev} (h : d.mem.wf = true) : (qrdCmd p d).mem.wf = true := by
  unfold qrdCmd
  refine takePkt_wf (fun keep d hkeep hd => ?_) h
  extract_lets r d1 q
  split
  · exact hd
  · split
    · exact hd
    · refine wf_ite hd ?_
      split
      · next hc => exact collect_eq_wf hc hkeep
      · next hc =>
        have he := collect_eq_wf hc hkeep
        exact he

theorem forwardCmd_wf {p : Packet} {d : Dev} (h : d.mem.wf = true) : (forwardCmd p d).mem.wf = true := by
  unfold forwardCmd
  exact wf_ite h (wf_on h)

theorem reservedCmd_wf {p : Packet} {d : Dev} (h : d.mem.wf = true) : (reservedCmd p d).mem.wf = true := by
  unfold reservedCmd
  exact wf_ite h (wf_on h)

theorem srcWrite_wf {m : Master} {e : EvSrc} {v : BitVec 64} {d : Dev} (h : d.mem.wf = true) : (srcWrite m e v d).mem.wf = true := by
  unfold srcWrite
  exact namedWrite_wf h

theorem popCmd_wf {m : Master} {q : Nat} {ue : Bool} {d0 : Dev} (h : d0.mem.wf = true) : (popCmd m q ue d0).mem.wf = true := by
  unfold popCmd
  dsimp only
  exact wf_ite (wf_on h) (wf_ite (wf_on (wf_on h)) (wf_on (popRead_wf (wf_ite (wf_on (wf_on h)) (wf_on h)))))

theorem fiShotCmd_wf {m : Master} {k : LinkRef} {d : Dev} (h : d.mem.wf = true) : (fiShotCmd m k d).mem.wf = true := by
  unfold fiShotCmd
  split <;> exact fieldWrite_wf h

theorem restartCmd_wf {m : Master} {t : Nat} {pass : Bool} {d : Dev} (h : d.mem.wf = true) : (restartCmd m t pass d).mem.wf = true := by
  unfold restartCmd
  dsimp only
  exact wf_ite (fieldWrite_wf h) (wf_on (fieldWrite_wf h))

theorem reservedFrame_wf {op : Nat} {f : DbgFrame} {d : Dev} (h : d.mem.wf = true) : (reservedFrame op f d).mem.wf = true := by
  unfold reservedFrame
  exact wf_ite h (dbgFrame_wf h)

end Sys2Proof.Machine
end

section
/-!
Memory keeps its canonical form (O4): every command runs an effect that keeps it, and so does a tick.
-/
namespace Sys2Proof.Machine

/-- An effect that keeps the form of memory. -/
def KeepsForm (f : Dev → Dev) : Prop := ∀ d, d.mem.wf = true → (f d).mem.wf = true

/-- A command that changes the chip alone. -/
theorem exec_chip {i : Instr} {s : State} {F : Chip → Chip} (h : exec i s = run (fun d => d.on F) s) : ∃ f, exec i s = run f s ∧ KeepsForm f :=
  ⟨_, h, fun _ hd => wf_on hd⟩

/-- Every command runs an effect that keeps the form: the commands whose effect reaches memory are named with its lemma, and every other one changes the
chip alone. -/
theorem exec_keepsForm (i : Instr) (s : State) : ∃ f, exec i s = run f s ∧ KeepsForm f := by
  cases i
  case accAcquisitionEnd => exact ⟨_, rfl, fun _ h => acquisitionEnd_wf h⟩
  case attestRead => exact ⟨_, rfl, fun _ h => attestRead_wf h⟩
  case attest => exact ⟨_, rfl, fun _ h => attest_wf h⟩
  case cellAbs | cellAbsd | cellAccadd | cellAccclr | cellAccld | cellAccrs | cellAdd | cellAnd | cellAndn | cellBrev | cellClz | cellCmpeq
      | cellCmple | cellCmplt | cellFadd | cellGetf | cellLd | cellMac | cellMadd | cellMax | cellMin | cellMov | cellMsu | cellMul | cellMulh
      | cellNeg | cellNop | cellNot | cellOr | cellPopc | cellPutf | cellRol | cellSel | cellShl | cellShr | cellShuf | cellSra | cellSt | cellSub
      | cellSwap | cellXor =>
    exact ⟨_, rfl, fun _ h => cellFire_wf h⟩
  case chanConfig => exact ⟨_, rfl, fun _ h => chanConfig_wf h⟩
  case taskCommit => exact ⟨_, rfl, fun _ h => commitTask_wf h⟩
  case counterRead => exact ⟨_, rfl, fun _ h => counterRead_wf h⟩
  case prd | pwr | rd | rdi | rdq | rdqi | wr | wri =>
    exact ⟨_, rfl, fun _ h => dbgFrame_wf h⟩
  case debugReadComplete => exact ⟨_, rfl, fun _ h => dbgReadComplete_wf h⟩
  case deviceReset => exact ⟨_, rfl, fun _ h => deviceReset_wf h⟩
  case dispatchDecision => exact ⟨_, rfl, fun _ h => dispatch_wf h⟩
  case drainSend => exact ⟨_, rfl, fun _ h => drainSend_wf h⟩
  case eventClear => exact ⟨_, rfl, fun _ h => eventClear_wf h⟩
  case eventPending => exact ⟨_, rfl, fun _ h => eventPending_wf h⟩
  case fiShot => exact ⟨_, rfl, fun _ h => fiShotCmd_wf h⟩
  case accForcedSaveReq | cfgCnpLockWrite | d2dRepairReq | d2dRetrainReq | lnkDownReq | lnkEnable | lnkFailoverReq | lnkRetrainReq | quarantineClear
      | queueClose | queueFlush | queueReopen =>
    exact ⟨_, rfl, fun _ h => fieldWrite_wf h⟩
  case accForcedSave => exact ⟨_, rfl, fun _ h => forcedSave_wf h⟩
  case transitForward => exact ⟨_, rfl, fun _ h => forwardCmd_wf h⟩
  case fwBegin => exact ⟨_, rfl, fun _ h => fwBegin_wf h⟩
  case fwData => exact ⟨_, rfl, fun _ h => fwData_wf h⟩
  case fwEnd => exact ⟨_, rfl, fun _ h => fwEnd_wf h⟩
  case gangReservation => exact ⟨_, rfl, fun _ h => gangReserve_wf h⟩
  case gangStart => exact ⟨_, rfl, fun _ h => gangStart_wf h⟩
  case gd7ScrubBlock => exact ⟨_, rfl, fun _ h => gd7ScrubBlock_wf h⟩
  case gd7TransferDone => exact ⟨_, rfl, fun _ h => gd7TransferDone_wf h⟩
  case icpRead => exact ⟨_, rfl, fun _ h => icpRead_wf h⟩
  case icpReplace => exact ⟨_, rfl, fun _ h => icpReplace_wf h⟩
  case icpRestore => exact ⟨_, rfl, fun _ h => icpRestore_wf h⟩
  case icpSlotchk => exact ⟨_, rfl, fun _ h => icpSlotchk_wf h⟩
  case identify => exact ⟨_, rfl, fun _ h => identify_wf h⟩
  case mbxNop => exact ⟨_, rfl, fun _ h => mbxNop_wf h⟩
  case memRead => exact ⟨_, rfl, fun _ h => memRead_wf h⟩
  case memWrite => exact ⟨_, rfl, fun _ h => memWrite_wf h⟩
  case mrdCompletion => exact ⟨_, rfl, fun _ h => mrdComplete_wf h⟩
  case msgAck | msgAnnounce | msgAssign | msgCommit | msgFwData | msgIdent | msgJoinReq | msgPersData | msgProbe | msgRelay | msgReport | msgRoutes
      | msgScan | msgScanRpt | msgTime =>
    exact ⟨_, rfl, fun _ h => msgCmd_wf h⟩
  case cancelDescriptor | cancelFlow | cancelTemplate | cfgCnpSrcWrite | clkTileWrite | dbgHaltRequest | dbgRelease | dbgStep | gd7TrainStart
      | histogramClear | hubReset | internalReset | pwrWake | queCfgWrite | rstGrove | schPost | schTickWrite | secExtend | seqCellMapWrite
      | spmPwrWrite | sprGmapWrite | sprRowCtlGo | swapAbort | swapDirect | swapShift | tbsAdjWrite | tileReset | tmbPwrWrite | uioOeWrite | uioOutClr
      | uioOutSet | uioOutWrite | uioTrigAtWrite | wdgCtlWrite | wdgDevSvc | wdgFwSvc =>
    exact ⟨_, rfl, fun _ h => namedWrite_wf h⟩
  case pageInComplete => exact ⟨_, rfl, fun _ h => pageInComplete_wf h⟩
  case persAbort => exact ⟨_, rfl, fun _ h => persAbort_wf h⟩
  case persBegin => exact ⟨_, rfl, fun _ h => persBegin_wf h⟩
  case persCommit => exact ⟨_, rfl, fun _ h => persCommit_wf h⟩
  case persData => exact ⟨_, rfl, fun _ h => persData_wf h⟩
  case persEnd => exact ⟨_, rfl, fun _ h => persEnd_wf h⟩
  case persStatus => exact ⟨_, rfl, fun _ h => persStatus_wf h⟩
  case placeholderDelivery => exact ⟨_, rfl, fun _ h => placeholderDelivery_wf h⟩
  case pllRelock => exact ⟨_, rfl, fun _ h => pllRelock_wf h⟩
  case quePopRead => exact ⟨_, rfl, fun _ h => popCmd_wf h⟩
  case por => exact ⟨_, rfl, fun _ _ => por_wf⟩
  case portBAccess => exact ⟨_, rfl, fun _ h => portBAccess_wf h⟩
  case portBRepeat => exact ⟨_, rfl, fun _ h => portBRepeat_wf h⟩
  case memPowerTransitionDone => exact ⟨_, rfl, fun _ h => powerDone_wf h⟩
  case qrFetchArrival => exact ⟨_, rfl, fun _ h => qrFetch_wf h⟩
  case puhanQrd => exact ⟨_, rfl, fun _ h => qrdCmd_wf h⟩
  case queueCtl => exact ⟨_, rfl, fun _ h => queueCtl_wf h⟩
  case queueRead => exact ⟨_, rfl, fun _ h => queueRead_wf h⟩
  case queueSpill => exact ⟨_, rfl, fun _ h => queueSpill_wf h⟩
  case queueStatus => exact ⟨_, rfl, fun _ h => queueStatusCmd_wf h⟩
  case queueWrite => exact ⟨_, rfl, fun _ h => queueWrite_wf h⟩
  case qwWordAccepted => exact ⟨_, rfl, fun _ h => qwAccepted_wf h⟩
  case qwPush => exact ⟨_, rfl, fun _ h => qwPush_wf h⟩
  case puhanQwr => exact ⟨_, rfl, fun _ h => qwrCmd_wf h⟩
  case railFault => exact ⟨_, rfl, fun _ h => railFault_wf h⟩
  case rangerRewrite => exact ⟨_, rfl, fun _ h => rangerRewrite_wf h⟩
  case rangerUnit => exact ⟨_, rfl, fun _ h => rangerUnit_wf h⟩
  case keyProvision | lifecycleSet =>
    exact ⟨_, rfl, fun _ h => recordCmd_wf h⟩
  case queueRefillLand => exact ⟨_, rfl, fun _ h => refillLand_wf h⟩
  case counterRcRead | evtFwqRead =>
    exact ⟨_, rfl, fun _ h => regReadCmd_wf h⟩
  case bankWrite | registerWrite =>
    exact ⟨_, rfl, fun _ h => regWriteCmd_wf h⟩
  case reservedTypePacket => exact ⟨_, rfl, fun _ h => reservedCmd_wf h⟩
  case reservedFrame => exact ⟨_, rfl, fun _ h => reservedFrame_wf h⟩
  case bootDeadline => exact ⟨_, exec_bootDeadline s, fun _ h => reset_wf h⟩
  case wdgDevExpiry => exact ⟨_, exec_wdgDevExpiry s, fun _ h => reset_wf h⟩
  case rangerRestart => exact ⟨_, rfl, fun _ h => restartCmd_wf h⟩
  case rlogGet => exact ⟨_, rfl, fun _ h => rlogGet_wf h⟩
  case rlogPut => exact ⟨_, rfl, fun _ h => rlogPut_wf h⟩
  case romBoot => exact ⟨_, rfl, fun _ h => romBoot_wf h⟩
  case rowSpareCopy => exact ⟨_, rfl, fun _ h => rowCopy_wf h⟩
  case seqAdd | seqAddi | seqAnd | seqAndi | seqBc | seqBnz | seqBr | seqBrk | seqBz | seqCall | seqEnd | seqGetc | seqGeto | seqLoop | seqLoopr
      | seqMwr | seqNop | seqOr | seqOri | seqQbind | seqQeoi | seqQread | seqQreadr | seqQseek | seqQsoi | seqRet | seqSetk | seqShli | seqShri
      | seqSig | seqSld | seqSlt | seqSltu | seqSqo | seqSrai | seqSst | seqStep | seqStepr | seqSub | seqSusp | seqWaitc | seqWaitn | seqXor =>
    exact ⟨_, rfl, fun _ h => seqIssue_wf h⟩
  case seqMrd => exact ⟨_, rfl, fun _ h => seqMrd_wf h⟩
  case setDeadline => exact ⟨_, rfl, fun _ h => setDeadlineCmd_wf h⟩
  case spmScrubRow => exact ⟨_, rfl, fun _ h => spmScrubRow_wf h⟩
  case evtSrcWrite => exact ⟨_, rfl, fun _ h => srcWrite_wf h⟩
  case stepCountDone => exact ⟨_, rfl, fun _ h => stepDone_wf h⟩
  case sysPlan => exact ⟨_, rfl, fun _ h => sysPlan_wf h⟩
  case sysTopology => exact ⟨_, rfl, fun _ h => sysTopology_wf h⟩
  case taskCancel => exact ⟨_, rfl, fun _ h => taskCancel_wf h⟩
  case taskEnd => exact ⟨_, rfl, fun _ h => taskEnd_wf h⟩
  case taskPost => exact ⟨_, rfl, fun _ h => taskPost_wf h⟩
  case tileRelease => exact ⟨_, rfl, fun _ h => tileRelease_wf h⟩
  case tmbAccess => exact ⟨_, rfl, fun _ h => tmbAccess_wf h⟩
  case tmbScrubRow => exact ⟨_, rfl, fun _ h => tmbScrubRow_wf h⟩
  case warmReset => exact ⟨_, rfl, fun _ _ => warm_wf⟩
  case windowRefill => exact ⟨_, rfl, fun _ h => windowRefill_wf h⟩
  case windowSpill => exact ⟨_, rfl, fun _ h => windowSpill_wf h⟩
  case puhanFadd | puhanMrd | puhanMwr | puhanSwap =>
    exact ⟨_, rfl, fun _ h => takePkt_wf (fun _ _ hk hd => puhanMem_wf hk hd) h⟩
  case puhanCpl | puhanMsg | puhanNtc | puhanQcg | puhanQcq =>
    exact ⟨_, rfl, fun _ h => takePkt_wf (fun _ _ _ h => h) h⟩
  all_goals exact exec_chip rfl

/-- Running an effect that keeps the form. -/
theorem run_inv {f : Dev → Dev} {s t : State} (hf : KeepsForm f) (h : s.inv) (hr : run f s = .next t) : t.inv := by
  have hs : (start s.dev).mem.wf = true := wf_on (f := fun c => { c with hits := [] }) h
  have he : (finish s.dev (f (start s.dev))).mem.wf = true := finish_wf (hf _ hs)
  cases hr
  exact he

/-- A step runs one effect that keeps the form. -/
theorem step_runs (s : State) : ∃ f l, step s = run f { s with pending := l } ∧ KeepsForm f := by
  unfold step
  split
  · next hp => exact ⟨idleEffect, [], by rw [← hp]; rfl, fun _ h => idleEffect_wf h⟩
  · next i l _ =>
    obtain ⟨f, hr, hf⟩ := exec_keepsForm i { s with pending := l }
    exact ⟨f, l, hr, hf⟩

/-- Settles O4: the invariant as a step lemma, from the effects of all commands. -/
theorem stepKeepsTheMemoryForm : Obligations.StepKeepsTheMemoryForm := by
  intro s t h hst
  obtain ⟨f, l, hr, hf⟩ := step_runs s
  have hl : ({ s with pending := l } : State).inv := h
  exact run_inv hf hl (hr.symm.trans hst)

end Sys2Proof.Machine
end
